-- ==== Sys2Proof/Word.lean ====
section
/-!
DEFINITION. The word types of the spec: registers and parameter words are 32 bits (R4, R59), memory cells are bytes.
-/
namespace Sys2Proof

/-- A 32-bit word: a register value or a parameter word (R4, R59). -/
abbrev Word := BitVec 32

/-- A byte of memory. -/
abbrev Byte := BitVec 8

end Sys2Proof
end

