-- ==== Sys2Proof/Syntax.lean ====
section
/-!
DEFINITION. The commands of the block: one constructor of `Instr` for each row of spec/opcode_table.json, with what
the outside determines as its operands. Rows 0 to 107 are packet opcodes, 108 to 131 writes and events the host or a
control core makes, 132 to 300 the part's own events.
-/
namespace Sys2Proof

/-- A command packet as the block that performs it sees it (R59): who issued it, on which ring, the fields the reply
echoes, whether a reply was asked for, and the opcode's own parameter words (a wait prefix, R62, taken off). -/
structure Call where
  /-- Issuing function: 0 is F0, 1 to 64 the virtual functions. -/
  fn : Fin 65
  /-- Submission ring (R52). -/
  ring : Fin 4
  /-- Generation the packet carried. -/
  gen : BitVec 8
  /-- Sequence, echoed. -/
  seq : BitVec 16
  /-- Tag, echoed. -/
  tag : Word
  /-- Reply requested (flags bit 0). -/
  reply : Bool
  /-- The opcode's parameter words. -/
  words : List Word
  /-- Asked for by the secure world through its own services, not as a packet; the ring fields then mean nothing. -/
  world : Bool
deriving DecidableEq, Repr

/-- Whom a command acts for: the issuing function, or 127 for the secure world. Assumption log, row 131. -/
def Call.who (c : Call) : Nat := if c.world then 127 else c.fn.val

/-- Parameter word `i`, zero past the end. -/
def Call.w (c : Call) (i : Nat) : Nat := (c.words.getD i 0).toNat

/-- The 64-bit value of words `i` (bits 31:0) and `i + 1` (bits 63:32). -/
def Call.q (c : Call) (i : Nat) : Nat := c.w i + 4294967296 * c.w (i + 1)

/-- A packet as the engine reads it from a ring (R59). -/
structure Packet where
  /-- Bytes 0 to 1. -/
  opcode : BitVec 16
  /-- Byte 2: bit 0 reply, bit 1 wait on fence, bit 2 urgent, bit 3 CRC, bits 7:4 reserved. -/
  flags : BitVec 8
  /-- Byte 3. -/
  gen : BitVec 8
  /-- Bytes 4 to 5. -/
  seq : BitVec 16
  /-- Bytes 6 to 7, in parameter words. -/
  plen : BitVec 16
  /-- Bytes 8 to 11. -/
  tag : Word
  /-- Bytes 12 to 15. -/
  crc : Word
  /-- The parameter words, a wait prefix included. -/
  words : List Word
deriving DecidableEq, Repr



/-- A raise: one of the 512 event sources, or a function's reply event (R556, R558); or an edge of one of the 25 pulse
crossings that marks and events pass (R423, R424). -/
inductive EventRef where
  /-- Event source. -/
  | source (s : Fin 512)
  /-- Reply event. -/
  | reply (fn : Fin 65)
  /-- A sending edge of a crossing, with the pulses it brings. -/
  | pulses (c : Fin 25) (n : Fin 16)
  /-- The receiver of a crossing sees its toggle. -/
  | taken (c : Fin 25)
  /-- The sender of a crossing sees the acknowledge toggle. -/
  | acked (c : Fin 25)
deriving DecidableEq, Repr

/-- A job, by owner and job number (R168). -/
structure JobRef where
  /-- Owner: 0 to 64, 127 firmware. -/
  fn : Fin 128
  /-- Job number. -/
  num : BitVec 16
deriving DecidableEq, Repr

/-- The preemption points of R166, and the workgroups in progress of a compute job (R191). -/
inductive PPoint where
  /-- After a draw, or 1,024 primitives within a draw, in the binning phase. -/
  | binned
  /-- After a tile, in the order of R151, is stored or resolved on a core. -/
  | tile (core : Fin 24) (n : Nat)
  /-- The workgroups in progress have finished; so many have now, in linear order. -/
  | workgroups (done : Nat)
deriving DecidableEq, Repr

/-- What the array knows of a bin pool at a pause (R153). -/
structure BinUse where
  /-- Pages holding primitives. -/
  used : Nat
  /-- Pages free. -/
  free : Nat
  /-- Primitives of the block in progress that were binned before the pause. -/
  prims : Nat
deriving DecidableEq, Repr

/-- An ECC error of a render core (R199). -/
inductive CoreErr where
  /-- One bit, corrected. -/
  | corrected
  /-- Uncorrectable, in the texture L1. -/
  | l1
  /-- Uncorrectable, anywhere else. -/
  | state
deriving DecidableEq, Repr

/-- What link ECC finds on an access (R387). -/
inductive Ecc where
  /-- No error. -/
  | clean
  /-- An error it corrects. -/
  | corrected
  /-- An error it cannot correct. -/
  | uncorrectable
deriving DecidableEq, Repr

/-- One 64-byte access of a memory request. -/
structure Access where
  /-- The row was not open: the access activates it (R384). -/
  act : Bool
  /-- Link ECC. -/
  ecc : Ecc
deriving DecidableEq, Repr

/-- A request of the fabric (R15, R573). -/
structure MemReq where
  /-- Requester code (R573). -/
  req : BitVec 8
  /-- Function: 0 to 64, 127 for firmware. -/
  fn : Fin 128
  /-- Generation. -/
  gen : BitVec 8
  /-- World: true is secure. -/
  world : Bool
  /-- Traffic class, 0 to 4. -/
  tc : Fin 5
  /-- Handle address. -/
  addr : BitVec 64
  /-- Access length in bytes. -/
  len : Nat
  /-- The bytes of a write; none for a read. -/
  data : Option (List Byte)
  /-- A read of the texture unit: a sampled image or a uniform buffer (R188). -/
  sampled : Bool
  /-- What each 64-byte access of the request meets, in order of address; an access not listed opens no row and meets no
  error. -/
  access : List Access
deriving DecidableEq, Repr

/-- Where a register write goes. -/
inductive Space where
  /-- BAR0 of the issuing function. -/
  | bar0
  /-- BAR2 of F0: MSI-X table and pending bits. -/
  | bar2
  /-- MSI-X message control of the function's configuration space: bit 15 enable, bit 14 function mask. -/
  | msixControl
deriving DecidableEq, Repr

/-- A register write (R570). -/
structure RegWrite where
  /-- From a control core (true) or over PCI Express. -/
  core : Bool
  /-- Issued by the secure world, which a control core alone reaches. -/
  world : Bool
  /-- Function, for a write over PCI Express. -/
  fn : Fin 65
  /-- Space. -/
  space : Space
  /-- Offset in the window. -/
  addr : BitVec 25
  /-- Access size in bytes. -/
  size : Fin 65
  /-- Value written. -/
  value : Word
deriving DecidableEq, Repr

/-- A register read (R4, R431). -/
structure RegRead where
  /-- From a control core (true) or over PCI Express. -/
  core : Bool
  /-- Issued by the secure world, which a control core alone reaches. -/
  world : Bool
  /-- Function, for a read over PCI Express. -/
  fn : Fin 65
  /-- Space. -/
  space : Space
  /-- Offset in the window. -/
  addr : BitVec 25
  /-- Access size in bytes. -/
  size : Fin 65
deriving DecidableEq, Repr

/-- What a short-state gap of a haptic channel shows (R278, R281, R282). -/
structure Gap where
  /-- Frequency of the back-EMF crossing, 0.1 Hz; none where the gap shows no crossing. -/
  freq : Option (BitVec 13)
  /-- Back-EMF amplitude, ADC codes. -/
  emf : BitVec 12
  /-- Drive amplitude before the gap. -/
  drive : BitVec 12
deriving DecidableEq, Repr

/-- What a calibration of a haptic channel measures (R280). -/
structure RingDown where
  /-- Largest drive current, ADC codes. -/
  peak : BitVec 12
  /-- Zero crossings in the window. -/
  crossings : Nat
  /-- Their mean frequency, 0.1 Hz. -/
  freq : Nat
  /-- First ring-down peak scaled to AMP_MAX, ADC codes. -/
  ref : BitVec 12
deriving DecidableEq, Repr

/-- The arms that reach the head domain after the sample of a commit line (R243). -/
structure LateArms where
  /-- HDn_ARM is still in the crossing. -/
  normal : Bool
  /-- HDn_SARM is still in the crossing. -/
  secure : Bool
  /-- Changes whose arm is still in the crossing, by change number. -/
  changes : List Word
deriving DecidableEq, Repr

/-- A gain ramp of the audio engine (R299). -/
inductive RampRef where
  /-- The gain of an endpoint's stream. -/
  | stream (ep : Fin 64)
  /-- An edge of a domain's graph, by FROM and TO. -/
  | edge (dom : Fin 3) (src dst : BitVec 16)
  /-- The outputs of a domain, ramping to mute for STOP_AUDIO, Hold or Park. -/
  | outputs (dom : Fin 3)
deriving DecidableEq, Repr

/-- The header of a flit received with a good CRC (R322). -/
structure FlitHdr where
  /-- Stream ID. -/
  stream : Fin 64
  /-- SEQ. -/
  seq : Fin 1024
  /-- ACK. -/
  ack : Fin 1024
  /-- ACK_V. -/
  ackV : Bool
deriving DecidableEq, Repr

/-- A grant of a CREDIT flit (R324). -/
structure Grant where
  /-- Stream, or message class on Bowline. -/
  stream : Fin 64
  /-- Units added. -/
  units : BitVec 16
deriving DecidableEq, Repr

/-- A TRAIN flit's payload (R324). -/
structure Train where
  /-- Phase 1. -/
  phase : Bool
  /-- Lanes offered. -/
  lanes : BitVec 8
  /-- RESUME. -/
  resume : Bool
  /-- Next SEQ its sender expects. -/
  expected : Fin 1024
  /-- Next SEQ its sender will transmit. -/
  next : Fin 1024
deriving DecidableEq, Repr

/-- Why a flit is not accepted (R323, R326). -/
inductive BadFlit where
  /-- Its CRC is wrong. -/
  | crc
  /-- A sequenced flit with this SEQ, not the one expected. -/
  | order (seq : Fin 1024)
  /-- A reserved type. -/
  | reserved
deriving DecidableEq, Repr

/-- What a Bowline message is received with: the SEQ of the last flit accepted with it, the ACK its flits carry, and its ID
(R347, R349). -/
structure MsgHdr where
  /-- SEQ of its last flit. -/
  last : Fin 1024
  /-- ACK. -/
  ack : Fin 1024
  /-- ACK_V. -/
  ackV : Bool
  /-- ID. -/
  id : Word
deriving DecidableEq, Repr

/-- A time on a chip's counter, as messages carry it. -/
structure Stamp where
  /-- Seconds. -/
  sec : Word
  /-- Ticks. -/
  tick : Word
deriving DecidableEq, Repr

/-- The body of HELLO (R350). -/
structure Hello where
  /-- Chip serial. -/
  serial : BitVec 64
  /-- TWIN_ID: 0 A, 1 B. -/
  twinId : BitVec 8
  /-- INTEG. -/
  integ : BitVec 8
  /-- ACCESS. -/
  access : BitVec 8
  /-- Stepping. -/
  stepping : BitVec 8
  /-- Firmware version. -/
  version : Word
  /-- Twin configuration hash, 32 bytes. -/
  hash : List Byte
  /-- BL_CFG. -/
  cfg : Word
deriving DecidableEq, Repr

/-- A pipeline an offloaded job needs: the issuer's number and its cache key (R350). -/
structure OffPipe where
  /-- Pipeline number. -/
  num : BitVec 16
  /-- Cache key, 32 bytes. -/
  key : List Byte
deriving DecidableEq, Repr

/-- The body of OFFLOAD_JOB (R350). -/
structure OffJob where
  /-- Job reference. -/
  ref : Word
  /-- Compute job. -/
  compute : Bool
  /-- ID of the last MIRROR_WRITE the job depends on. -/
  last : Word
  /-- Job descriptor. -/
  desc : List Byte
  /-- Pipelines. -/
  pipes : List OffPipe
deriving DecidableEq, Repr

/-- The end of memory training, or of a restore (R390, R391). -/
structure Training where
  /-- The last phase that each channel passed, 5 for one that finished: channel 0 first. -/
  phases : List (Fin 6)
  /-- Size found, MiB per channel. -/
  mib : BitVec 13
  /-- Two ranks on each channel. -/
  ranks2 : Bool
  /-- Time taken, ms. -/
  ms : Word
deriving DecidableEq, Repr

/-- A PHY PLL (R420). -/
inductive Pll where
  /-- Memory PLL of a controller. -/
  | mem (n : Fin 8)
  /-- PCI Express. -/
  | pcie
  /-- Display link of a port. -/
  | dx (n : Fin 10)
  /-- Skein port. -/
  | sk (n : Fin 2)
  /-- Bowline. -/
  | bl
deriving DecidableEq, Repr

/-- Readings of TS0 to TS7, signed, 0.1 degrees (R524). -/
structure Temps where
  /-- TS0. -/
  t0 : BitVec 16
  /-- TS1. -/
  t1 : BitVec 16
  /-- TS2. -/
  t2 : BitVec 16
  /-- TS3. -/
  t3 : BitVec 16
  /-- TS4. -/
  t4 : BitVec 16
  /-- TS5. -/
  t5 : BitVec 16
  /-- TS6. -/
  t6 : BitVec 16
  /-- TS7. -/
  t7 : BitVec 16
deriving DecidableEq, Repr

/-- What a wake meets beside its source: the sensors as read at the wake, and the memory channels whose restore fails and
that training from phase 1 does not bring back (R391, R524). -/
structure Wake where
  /-- Sensors. -/
  temps : Temps
  /-- Channels that fail, one bit each. -/
  failed : BitVec 16
deriving DecidableEq, Repr

/-- What the release of a Power-on, Cold or Warm reach meets (R491 to R494). -/
structure Release where
  /-- BOOT_SRC pins. -/
  bootSrc : Fin 8
  /-- CLK_MODE pins. -/
  clkMode : Fin 4
  /-- TWIN_ID pin. -/
  twinId : Bool
  /-- KENNEL_PORT pin. -/
  kennelPort : Bool
  /-- Both reads of the trim area fail their check. -/
  trimBad : Bool
  /-- Both reads of the option area fail their check. -/
  optBad : Bool
  /-- The main PLL locks within 200 us. -/
  lock : Bool
deriving DecidableEq, Repr

/-- A block or subsystem under a heel request (R503). -/
structure HeelRef where
  /-- Subsystem, else block. -/
  sub : Bool
  /-- Kind of block (R450), or the subsystem. -/
  kind : Fin 16
  /-- Instance. -/
  inst : Fin 32
deriving DecidableEq, Repr

/-- A JTAG TAP operation (R540). -/
inductive TapOp where
  /-- JTAG_TRST_N or the TAP reset state. -/
  | reset
  /-- BYPASS. -/
  | bypass
  /-- IDCODE. -/
  | idcode
  /-- SAMPLE/PRELOAD, with the bits shifted into the boundary register. -/
  | sample (preload : List Byte)
  /-- EXTEST, with the bits shifted into the boundary register. -/
  | extest (drive : List Byte)
  /-- A debug access: any other instruction. -/
  | debug (code : Word)
deriving DecidableEq, Repr


/-- What a TDM port receives in one frame of its bus (R305). -/
structure TdmIn where
  /-- Port. -/
  port : Fin 8
  /-- Frame sync is present. -/
  sync : Bool
  /-- A follower's FIFO slips: some true, it ran empty and the last frame is taken again; some false, it ran over and a
  frame before this one is dropped. -/
  slip : Option Bool
  /-- The samples of the slots, as wide as the port's slots, slot 0 first. -/
  slots : List Word
deriving DecidableEq, Repr

/-- An error of a head's pixel path, which a check value is there to find (R251, R401): a byte of the values sent, by its
place in what the value covers, and the bits of it that arrived wrong. -/
structure PathErr where
  /-- Place. -/
  place : Nat
  /-- Bits. -/
  flips : Byte
deriving DecidableEq, Repr

/-- Where the line buffer of a head ran empty (R247). -/
structure LinePixel where
  /-- Head. -/
  head : Fin 16
  /-- Line. -/
  line : Fin 4320
  /-- First pixel that did not come. -/
  pixel : Fin 7680
deriving DecidableEq, Repr

/-- A tick of an audio domain's sample clock, with what its TDM ports took in (R290, R306). -/
structure DomTick where
  /-- Domain A, B or C. -/
  dom : Fin 3
  /-- Frames of the domain's TDM ports. -/
  tdm : List TdmIn
deriving DecidableEq, Repr

/-- The commands of the block, one constructor for each row of spec/opcode_table.json. -/
inductive Instr where
  /-- NOP (R571): Command with no effect that returns OK. -/
  | nop (c : Call)
  /-- VERSION_QUERY (R571): Returns the running firmware version, the stepping and the active slot. -/
  | versionQuery (c : Call)
  /-- BARRIER (R76): Completes once every earlier packet of its ring has completed, and holds later packets of the ring until then. -/
  | barrier (c : Call)
  /-- FENCE_ALLOC (R572): Takes the lowest-numbered free fence, owned by the issuer with value 0. -/
  | fenceAlloc (c : Call)
  /-- FENCE_FREE (R571): Makes an owned fence orphaned at once. -/
  | fenceFree (c : Call)
  /-- FENCE_SIGNAL (R571): Sets an owned fence to a value not below its current one, or counts a backward signal. -/
  | fenceSignal (c : Call)
  /-- FENCE_SHARE (R571): Grants another function the right to wait on an owned fence. -/
  | fenceShare (c : Call)
  /-- CLAIM_ROLE (R471): Phase 0 returns a challenge; phase 1 checks the HMAC response and opens an Installer or Maker session. -/
  | claimRole (c : Call)
  /-- RELEASE_ROLE (R477): Closes the session, saving the commissioned configuration to flash when SAVE is set. -/
  | releaseRole (c : Call)
  /-- FN_ENABLE (R108): Moves an Idle virtual function to Enabled, and fetching begins. -/
  | fnEnable (c : Call)
  /-- FN_DISABLE (R91): Increments the generation, cancels queued packets with CANCELLED replies, clears ring EN and starts withdrawal. -/
  | fnDisable (c : Call)
  /-- SHARE_SET (R105): Binds a share change to an epoch number; the change applies at that boundary. -/
  | shareSet (c : Call)
  /-- SHARE_QUERY (R108): Returns the current and pending share items of a function. -/
  | shareQuery (c : Call)
  /-- FN_QUERY (R108): Returns a function's state, generation, packet count and drain count. -/
  | fnQuery (c : Call)
  /-- DEFAULT_SHARE_SET (R108): Sets the default share loaded into functions that become present. -/
  | defaultShareSet (c : Call)
  /-- HOLD_TIME_SET (R94): Sets the withdrawn-layer hold time used from the next withdrawal. -/
  | holdTimeSet (c : Call)
  /-- ALLOC (R137): Creates a handle in the lowest free placement-map entry, under the quota and entry limits. -/
  | alloc (c : Call)
  /-- FREE (R137): Releases an own handle once no dispatched work names it. -/
  | freeHandle (c : Call)
  /-- HANDLE_QUERY (R137): Returns a handle's class, size, pin count and hint. -/
  | handleQuery (c : Call)
  /-- PLACE_HINT (R119): Records an access hint that may start a balancing migration. -/
  | placeHint (c : Call)
  /-- PLACE_PIN (R137): Increments a handle's pin count and aborts any balancing migration of it. -/
  | placePin (c : Call)
  /-- PLACE_UNPIN (R137): Decrements a handle's pin count. -/
  | placeUnpin (c : Call)
  /-- COPY_HANDLE (R137): Copies bytes between own handles in TC4; the copy is deferred while the chip is in Hold. -/
  | copyHandle (c : Call)
  /-- MEM_SIZE_SET (R120): Declares the fitted memory size per channel, applied from the next power-on or Cold reach start. -/
  | memSizeSet (c : Call)
  /-- SHADER_LOAD (R176): Validates a SPIR-V module against the subset and stores it in firmware memory. -/
  | shaderLoad (c : Call)
  /-- PIPELINE_CREATE (R178): Forms the cache key and uses cached code or compiles the pipeline. -/
  | pipelineCreate (c : Call)
  /-- PIPELINE_DESTROY (R200): Destroys a pipeline or module once no accepted job names it. -/
  | pipelineDestroy (c : Call)
  /-- RENDER_SUBMIT (R143): Checks a render job descriptor and accepts the job as Queued. -/
  | renderSubmit (c : Call)
  /-- COMPUTE_SUBMIT (R190): Checks a compute job descriptor and accepts the job. -/
  | computeSubmit (c : Call)
  /-- RENDER_BARRIER (R165): Orders later raster or compute work on the ring after earlier work of the named kinds. -/
  | renderBarrier (c : Call)
  /-- BIN_GROW (R159): Adds bin pages to a job's pool, or asks for a spill with 0 pages. -/
  | binGrow (c : Call)
  /-- SHADER_CACHE_FLUSH (R179): Drops every shader cache entry that no live pipeline uses. -/
  | shaderCacheFlush (c : Call)
  /-- LAYER_SET (R230): Admits and queues a layer's source, format and geometry change. -/
  | layerSet (c : Call)
  /-- LAYER_REMOVE (R231): Queues removal of an owned layer. -/
  | layerRemove (c : Call)
  /-- FLIP (R216): Queues a plane-0 address change, optionally gated on a fence. -/
  | flip (c : Call)
  /-- FLIP_GROUP (R217): Queues 2 to 8 flips that apply together or not at all. -/
  | flipGroup (c : Call)
  /-- FLIP_QUERY (R231): Returns a unit's queued changes, tag and commit sequence. -/
  | flipQuery (c : Call)
  /-- TONE_MAP_SET (R214): Queues a head's tone mapping, or applies it at once on a head that is not running. -/
  | toneMapSet (c : Call)
  /-- BACKGROUND_SET (R214): Queues a head's background colour, or applies it at once on a head that is not running. -/
  | backgroundSet (c : Call)
  /-- LAYER_ASSIGN (R231): Gives a layer unit of a running head to a function. -/
  | layerAssign (c : Call)
  /-- STOP_HEAD (R45): Stops a head at the end of its frame and returns its layer units to the pool. -/
  | stopHead (c : Call)
  /-- START_HEAD (R47): Checks timing, the unit pool and the pixel and fetch sums, then starts the head with a black frame. -/
  | startHead (c : Call)
  /-- STOP_PORT (R45): Stops an output port and takes its link down. -/
  | stopPort (c : Call)
  /-- START_PORT (R254): Checks the head mapping and link payload, then starts the port. -/
  | startPort (c : Call)
  /-- HEAD_QUERY (R258): Returns head state, frame counts, front porch, rate and port. -/
  | headQuery (c : Call)
  /-- PORT_QUERY (R258): Returns port state, mapping and payloads. -/
  | portQuery (c : Call)
  /-- VRR_PORCH_SET (R246): Writes the next front porch and raises the head's arm, after any pending arm. -/
  | vrrPorchSet (c : Call)
  /-- SELF_REFRESH_SET (R249): Enters or leaves panel self-refresh on a head. -/
  | selfRefreshSet (c : Call)
  /-- STOP_TOUCH (R45): Stops a touch port at the end of the report being read and cancels its contacts. -/
  | stopTouch (c : Call)
  /-- START_TOUCH (R263): Checks the template and bus settings, assigns the I3C address and starts the port. -/
  | startTouch (c : Call)
  /-- HIT_REGION_WRITE (R270): Queues the function's hit-region records as a composer change, or writes them at once. -/
  | hitRegionWrite (c : Call)
  /-- HIT_REGION_CLEAR (R270): Queues removal of the function's hit regions, or removes them at once. -/
  | hitRegionClear (c : Call)
  /-- HAPTIC_PLAY (R283): Triggers a haptic effect, starting or latching it according to the channel state. -/
  | hapticPlay (c : Call)
  /-- HAPTIC_WAVE_LOAD (R286): Loads a stored waveform and its descriptor. -/
  | hapticWaveLoad (c : Call)
  /-- HAPTIC_CALIBRATE (R280): Runs resonance calibration on the named channels when each is next Idle or in Fault. -/
  | hapticCalibrate (c : Call)
  /-- HAPTIC_LIMIT_SET (R286): Sets drive limits, band and type, applied to each channel when it is next Idle. -/
  | hapticLimitSet (c : Call)
  /-- STOP_AUDIO (R45): Stops an audio domain at a block boundary after its outputs ramp to mute. -/
  | stopAudio (c : Call)
  /-- START_AUDIO (R313): Checks a domain's configuration and graph, then starts it. -/
  | startAudio (c : Call)
  /-- AUDIO_GRAPH_LOAD (R296): Compiles a domain graph, loading it on a stopped domain or starting a route change on a running one. -/
  | audioGraphLoad (c : Call)
  /-- AUDIO_GAIN_SET (R299): Starts a gain ramp on an endpoint or an edge. -/
  | audioGainSet (c : Call)
  /-- AUDIO_STREAM_OPEN (R313): Opens a guest audio stream on an endpoint, ramping in from mute. -/
  | audioStreamOpen (c : Call)
  /-- AUDIO_STREAM_CLOSE (R313): Ramps a stream to mute and closes it at the end of the ramp. -/
  | audioStreamClose (c : Call)
  /-- TONE_PLAY (R309): Starts, latches or stops a tone pattern. -/
  | tonePlay (c : Call)
  /-- BEEP_PLAY (R310): Starts a beep sequence, ending any current burst at its next zero crossing. -/
  | beepPlay (c : Call)
  /-- STOP_SKEIN (R339): Sends ERR CLOSE and stops the port at its safe point or after 1 ms. -/
  | stopSkein (c : Call)
  /-- START_SKEIN (R343): Checks the lane setup and buffer units, then starts the port training. -/
  | startSkein (c : Call)
  /-- SKEIN_STREAM_BIND (R333): Binds a stream on a stopped port to a function and its buffer. -/
  | skeinStreamBind (c : Call)
  /-- SKEIN_STREAM_UNBIND (R343): Unbinds a stream on a stopped port. -/
  | skeinStreamUnbind (c : Call)
  /-- SKEIN_QUERY (R343): Returns port and stream state. -/
  | skeinQuery (c : Call)
  /-- ATTACH (R353): Starts a twin attach. -/
  | attach (c : Call)
  /-- DETACH (R367): Sends DETACH_REQ and completes when the twin also detaches, or cancels an attach. -/
  | detach (c : Call)
  /-- TWIN_QUERY (R373): Returns the pairing state registers. -/
  | twinQuery (c : Call)
  /-- CV_BIND (R411): Binds the lowest free check-value unit to a tap point. -/
  | cvBind (c : Call)
  /-- CV_READ (R407): Returns a unit's running or latest final value. -/
  | cvRead (c : Call)
  /-- CV_WRITE (R407): Replaces the running value of a READ-mode unit. -/
  | cvWrite (c : Call)
  /-- CV_RELEASE (R411): Releases a check-value unit. -/
  | cvRelease (c : Call)
  /-- TIME_QUERY (R442): Returns TB_SEC, TB_TICK, TB_STAT and the trim. -/
  | timeQuery (c : Call)
  /-- PPS_MODE_SET (R434): Sets the PPS_IN mode, clearing f, the streak and any armed value. -/
  | ppsModeSet (c : Call)
  /-- TIME_SET (R437): Steps the counter at once, or arms a second value for the next PPS edge. -/
  | timeSet (c : Call)
  /-- POWER_MODE_SET (R35): Requests Run, Dim, Hold or Park, subject to the mode and thermal rules. -/
  | powerModeSet (c : Call)
  /-- MODE_QUERY (R527): Returns GL_MODE and GL_DEG_CAUSE. -/
  | modeQuery (c : Call)
  /-- DEGRADED_CLEAR (R40): Leaves Degraded unless a standing cause remains. -/
  | degradedClear (c : Call)
  /-- GATE_BLOCK (R520): Gates a render group, port or Skein domain. -/
  | gateBlock (c : Call)
  /-- UNGATE_BLOCK (R520): Ungates a domain, unless the 125 degree rule holds it. -/
  | ungateBlock (c : Call)
  /-- THERMAL_QUERY (R527): Returns Tj and every sensor reading. -/
  | thermalQuery (c : Call)
  /-- PARK_FACE_SET (R523): Checks and holds, or removes, the Park clock face record. -/
  | parkFaceSet (c : Call)
  /-- RESET_BLOCK (R503): Raises a heel request and then resets one block, with optional HOLD or RELEASE. -/
  | resetBlock (c : Call)
  /-- RESET_SUBSYSTEM (R503): Raises heel requests and then resets one subsystem. -/
  | resetSubsystem (c : Call)
  /-- RESET_WARM (R486): Replies OK and takes a Warm reach reset 1 ms later. -/
  | resetWarm (c : Call)
  /-- RESET_COLD (R486): Replies OK and takes a Cold reach reset 1 ms later. -/
  | resetCold (c : Call)
  /-- KENNEL_ENTER (R40): Writes the Kennel request and takes a Cold reach reset. -/
  | kennelEnter (c : Call)
  /-- FW_SLOT_WRITE (R508): Erases the inactive slot and writes a signed image, header last. -/
  | fwSlotWrite (c : Call)
  /-- FW_SLOT_COMMIT (R508): Verifies the inactive slot and rewrites the slot selector. -/
  | fwSlotCommit (c : Call)
  /-- FW_QUERY (R512): Returns slot state and versions. -/
  | fwQuery (c : Call)
  /-- RECOVERY_LOAD (R502): In Kennel, loads, swaps or clears recovery firmware and clears the Kennel request and fail count. -/
  | recoveryLoad (c : Call) (image : List Byte)
  /-- SECURE_RELEASE (R452): Asks the secure world to stop using a block. -/
  | secureRelease (c : Call)
  /-- PROT_LAYER_LOAD (R455): Verifies a signed content record and queues the protected layer and its check windows. -/
  | protLayerLoad (c : Call)
  /-- JOURNAL_QUERY (R483): Returns the journal pointers and buffer state. -/
  | journalQuery (c : Call)
  /-- JOURNAL_EXPORT (R483): Flushes the buffer and exports journal records into a handle, optionally verifying them. -/
  | journalExport (c : Call)
  /-- SECURE_RESTART (R462): Declares the secure world down and completes when it comes up again. -/
  | secureRestart (c : Call)
  /-- STALE_LIMIT_SET (R459): Sets the stale limit, stale action and stale colour. -/
  | staleLimitSet (c : Call)
  /-- INSTALLER_KEY_SET (R470): Unwraps and commits, or revokes, the Installer key. -/
  | installerKeySet (c : Call)
  /-- PROT_KEY_SET (R456): Commits a protected-content signing key set atomically. -/
  | protKeySet (c : Call)
  /-- FUSE_PROGRAM (R512): Programs a fuse field and reads it back. -/
  | fuseProgram (c : Call)
  /-- FW_KEY_HASH_SET (R512): Programs a firmware key-hash slot, revoking lower slots. -/
  | fwKeyHashSet (c : Call)
  /-- ROLE_KEY_SET (R470): Unwraps and commits a new Maker key. -/
  | roleKeySet (c : Call)
  /-- TWIN_HASH_SET (R483): Commits the twin configuration hash used from the next attach. -/
  | twinHashSet (c : Call)
  /-- SAFETY_LIMIT_SET (R483): Sets which heads may lose their protected layer. -/
  | safetyLimitSet (c : Call)
  /-- GATE (R444): Core instruction that checks the entry table and enters the secure world. -/
  | gate (core : Fin 4) (index marker : Word) (ret : BitVec 64)
  /-- GATE_RET (R445): Clears the registers and returns from the secure world to the saved address. -/
  | gateRet (core : Fin 4)
  /-- DB_RING (R57): Doorbell write that moves a submission ring's producer pointer, or is refused. -/
  | dbRing (fn : Fin 65) (k : Fin 4) (value : Word)
  /-- DB_REPLY (R57): Doorbell write that moves the reply ring's consumer pointer, or is refused. -/
  | dbReply (fn : Fin 65) (value : Word)
  /-- RING_ENABLE (R54): Setting RINGk_CTL.EN checks SIZE_LOG2 and resets the pointers. -/
  | ringEnable (fn : Fin 65) (k : Fin 5) (size : Fin 32) (wbEn : Bool)
  /-- RING_DISABLE (R54): Clearing RINGk_CTL.EN stops fetching and abandons unfetched packets. -/
  | ringDisable (fn : Fin 65) (k : Fin 5)
  /-- HD_ARM (R243): Write of HDn_ARM that raises the normal arm for the next commit line. -/
  | hdArm (head : Fin 16)
  /-- HD_SARM (R242): Secure arm write that applies the check-window shadows at a commit. -/
  | hdSarm (head : Fin 16)
  /-- NWDOG_KICK (R486): Write of RB_NWDOG.KICK that restarts the normal-world watchdog period. -/
  | nwdogKick
  /-- SW_WDOG_KICK (R457): Write of SW_WDOG.KICK that restarts the secure watchdog period. -/
  | swWdogKick
  /-- HP_TRIG_GO (R283): Write of HPn_TRIG.GO that triggers an effect as F0. -/
  | hpTrigGo (ch : Fin 16) (value : Word)
  /-- BQ_COMMIT_GO (R301): Write of AU_BQ_COMMIT.GO that applies the shadow biquad sets at each domain's next block boundary. -/
  | bqCommitGo (value : Word)
  /-- LOAD_GO (R509): Write of RB_LOAD_LEN.GO that starts the host image load. -/
  | loadGo (value : Word) (image : List Byte)
  /-- ENTRY_LOCK_SET (R447): Write of SW_CTL.ENTRY_LOCK that locks the secure entry table. -/
  | entryLockSet
  /-- TB_TICK_READ (R431): Read of TB_TICK that latches TB_SEC into TB_SEC_LAT. -/
  | tbTickRead (r : RegRead := ⟨false, false, 0, .bar0, 0x240000, 4⟩)
  /-- EV_PEND_CLEAR (R559): W1C write of EV_PENDk that clears pending bits unless a raise falls in the same cycle. -/
  | evPendClear (k : Fin 16) (value same : Word) (world : Bool)
  /-- EV_CTL_ENABLE (R569): Setting EV_CTL.EN lets vectors with a count fire and pins drive. -/
  | evCtlEnable
  /-- TDM_CFG_WRITE (R306): Write of AU_TDMn_CFG or AU_BRk_CFG, applied only when the old and new domains are both stopped. -/
  | tdmCfgWrite (bridge : Bool) (n : Fin 16) (value : Word)
  /-- REGISTER_WRITE (R570): Field-by-field register write under the access codes, setting PEND_RESTART or RJ_LOCK_VIOL for refused fields. -/
  | registerWrite (w : RegWrite)
  /-- VF_ENABLE_SET (R85): The host sets VF Enable and virtual functions become Idle with the default share. -/
  | vfEnableSet (numVFs : Fin 65)
  /-- VF_ENABLE_CLEAR (R85): The host clears VF Enable and every virtual function is removed. -/
  | vfEnableClear
  /-- FLR_VF (R91): Function level reset of a VF: the generation increments, work is cancelled without replies and the rings reset. -/
  | flrVf (vf : Fin 64)
  /-- FLR_F0 (R99): Function level reset of F0: withdraws F0, removes every VF and closes any session. -/
  | flrF0
  /-- MSIX_UNMASK (R565): Unmasking a vector sends the message held in the PBA. -/
  | msixUnmask (fn : Fin 65) (vec : Option (Fin 128))
  /-- PACKET_FETCH (R72): The engine fetches a packet chosen by precedence and runs the ordered checks before dispatch. -/
  | packetFetch (p : Packet)
  /-- FENCE_WAIT_TIMEOUT (R62): CE_FENCE_TMO expires on a wait prefix and the packet ends with TIMEOUT. -/
  | fenceWaitTimeout (fn : Fin 65) (k : Fin 4)
  /-- EXEC_TIMEOUT (R78): CE_EXEC_TMO expires on a dispatched packet, which completes with TIMEOUT. -/
  | execTimeout (fn : Fin 65) (k : Fin 4)
  /-- COMMAND_COMPLETE (R75): A block reports a dispatched command's outcome and its reply is written or held. -/
  | commandComplete (fn : Fin 65) (k : Fin 4)
  /-- DRAIN_END (R97): The last old-generation work retires; withdrawn handles are freed. -/
  | drainEnd (fn : Fin 65)
  /-- DRAIN_SLOW_TIMEOUT (R98): A drain outlasts FN_DRAIN_SLOW_MS. -/
  | drainSlowTimeout (fn : Fin 65)
  /-- HOLD_EXPIRY (R94): The withdrawn-layer hold time passes and the layers are marked for removal at the next commit line. -/
  | holdExpiry (fn : Fin 65)
  /-- EPOCH_BOUNDARY (R105): TB_TICK passes a multiple of 1,228,800: pending shares apply, counts halve and balancing and forward decisions are made. -/
  | epochBoundary
  /-- MEMORY_REQUEST (R113): A fabric memory request passes the map walker checks and is scheduled on a channel. -/
  | memoryRequest (r : MemReq)
  /-- MIGRATION_COPY_DONE (R123): The copy engine finishes a migration copy and the entry becomes Armed. -/
  | migrationCopyDone (entry : Fin 8192)
  /-- MIGRATION_SETTLE (R123): The last request against the source completes, and the entry becomes Settled with the source released. -/
  | migrationSettle (entry : Fin 8192)
  /-- COMMIT_LINE (R215): Arm sample at a head's commit line applies shadows and ready composer changes, and defers the rest. -/
  | commitLine (head : Fin 16) (late : LateArms)
  /-- FLIP_TIMEOUT (R218): A flip fails to apply for CP_FLIP_TMO commit lines and is dropped. -/
  | flipTimeout (head : Fin 16)
  /-- LINE_CONFIRM (R225): A line is confirmed 32 lines before scan and goes out as a forward, direct or held line. -/
  | lineConfirm (head : Fin 16) (line : Fin 4320) (inTime : Bool)
  /-- HEAD_LINE0 (R241): Line 0 of a frame: the frame count advances and Starting becomes Running after the black frame. -/
  | headLine0 (head : Fin 16)
  /-- HEAD_SAFE_POINT (R45): The head reaches the end of line VTOTAL-1 and stops or suspends. -/
  | headSafePoint (head : Fin 16)
  /-- LINE_UNDERRUN (R247): The line buffer runs empty in an active line and the background is sent for the rest of it. -/
  | lineUnderrun (p : LinePixel)
  /-- CHECK_WINDOW_END (R252): End of a check window's last line: the CRC is stored and compared, and FAULT may be set. -/
  | checkWindowEnd (head : Fin 16) (k : Fin 4) (errs : List PathErr)
  /-- HPD_CHANGE (R256): Hot-plug level changes on a DP or eDP port and the link trains. -/
  | hpdChange (port : Fin 10) (level : Bool)
  /-- LINK_TRAIN_DONE (R256): A display link comes up or fails training. -/
  | linkTrainDone (port : Fin 10) (trained : Bool) (lanes : Fin 8) (rate : Fin 16) (sinkSr : Bool)
  /-- LINK_RETRY_TIMER (R256): The 1 s retry interval passes while hot-plug is high and the link is down. -/
  | linkRetryTimer (port : Fin 10)
  /-- LINK_LOSS (R256): A running display link drops; timing continues and output resumes at line 0 after link up. -/
  | linkLoss (port : Fin 10)
  /-- DISPATCH_POINT (R131): The Herder assigns free cores to ready jobs by service-to-weight order. -/
  | dispatchPoint (offload : Option JobRef)
  /-- PREEMPTION_POINT (R166): A job member reaches a preemption point and yields its cores as requested. -/
  | preemptionPoint (job : JobRef) (p : PPoint)
  /-- PREEMPT_TIMEOUT (R167): A member misses its preemption point within GX_PREEMPT_TMO and the job is Aborted. -/
  | preemptTimeout (job : JobRef)
  /-- BIN_POOL_FULL (R153): The next primitive will not fit in the bin pool and the job enters BinWait. -/
  | binPoolFull (job : JobRef) (use : BinUse)
  /-- BIN_GROW_TIMEOUT (R155): No pages arrive within GX_BIN_TMO and the job enters Spill. -/
  | binGrowTimeout (job : JobRef)
  /-- SPILL_DONE (R156): Every non-empty tile is stored, the pages return to the pool and binning resumes. -/
  | spillDone (job : JobRef)
  /-- RENDER_JOB_COMPLETE (R198): A render job reaches Done and its fence is written once its writes are visible. -/
  | renderJobComplete (fn : Fin 128) (num : BitVec 16)
  /-- COMPUTE_JOB_COMPLETE (R191): Every workgroup of a compute job has finished and the fence is written. -/
  | computeJobComplete (job : JobRef)
  /-- GX_ECC_UNCORRECTABLE (R199): An uncorrectable ECC error in a core resets the core and aborts its job. -/
  | gxEccUncorrectable (core : Fin 24) (e : CoreErr)
  /-- TOUCH_TRIGGER (R262): The interrupt or poll trigger starts a touch report read. -/
  | touchTrigger (port : Fin 16)
  /-- END_OF_REPORT (R262): Last bit of a touch report: stamp, parse, transform, hit test and deliver. -/
  | endOfReport (port : Fin 16) (data : List Byte)
  /-- TOUCH_READ_FAIL (R266): NAK or lost arbitration ends a read attempt; the port retries or loses the report. -/
  | touchReadFail (port : Fin 16)
  /-- TOUCH_RETRY_TIMER (R266): 100 us pass in Retrying and the read is retried. -/
  | touchRetryTimer (port : Fin 16)
  /-- CLOCK_STRETCH_TIMEOUT (R266): The target stretches the clock beyond 10 ms and the attempt fails. -/
  | clockStretchTimeout (port : Fin 16)
  /-- ATTACK_END (R278): A haptic effect's attack ends and sustain begins. -/
  | attackEnd (ch : Fin 16)
  /-- SUSTAIN_END (R278): The last sample or DUR_MAX ends sustain and brake begins. -/
  | sustainEnd (ch : Fin 16)
  /-- BRAKE_END (R278): The brake ends and the channel goes Idle or starts the latched effect. -/
  | brakeEnd (ch : Fin 16)
  /-- BEMF_GAP (R281): A short-state gap measures back-EMF for tracking, brake ending or stall detection. -/
  | bemfGap (ch : Fin 16) (gap : Gap)
  /-- OPEN_LOAD_WINDOW_END (R282): The first 2 ms of drive end and an open load is detected or cleared. -/
  | openLoadWindowEnd (ch : Fin 16) (peak : BitVec 12)
  /-- CALIBRATION_DONE (R280): A channel's calibration ends, storing f0 or entering Fault. -/
  | calibrationDone (ch : Fin 16) (ring : RingDown)
  /-- AUDIO_TICK (R290): A domain's sample clock ticks and its program runs once. -/
  | audioTick (t : DomTick)
  /-- AUDIO_BLOCK_BOUNDARY (R304): Every 16 ticks, endpoints move blocks and pending swaps and coefficient changes apply. -/
  | audioBlockBoundary (dom : Fin 3)
  /-- GAIN_RAMP_END (R299): A gain ramp reaches its target; a closing stream closes. -/
  | gainRampEnd (ramp : RampRef)
  /-- ROUTE_RAMP_END (R297): The ramps of a route change end and the change completes. -/
  | routeRampEnd (dom : Fin 3)
  /-- AUDIO_CLOCK_LOST (R292): No frame sync within 4 periods halts domain C. -/
  | audioClockLost
  /-- AUDIO_CLOCK_REGAINED (R292): 16 good frame syncs resume domain C at a block boundary. -/
  | audioClockRegained
  /-- BRIDGE_LOCK (R307): A bridge to or from domain C locks its ratio and ramps in. -/
  | bridgeLock (bridge : Fin 16)
  /-- TONE_PHASE_END (R308): A tone generator's attack, hold, release or silence ends. -/
  | tonePhaseEnd (gen : Fin 16)
  /-- BEEP_BURST_END (R310): A beep burst ends at a zero crossing and the gap or next burst follows. -/
  | beepBurstEnd (gen : Fin 8)
  /-- SKEIN_DATA (R335): A DATA flit is accepted and its bytes written to the stream target. -/
  | skeinData (port : Fin 2) (h : FlitHdr) (data : List Byte)
  /-- SKEIN_CREDIT (R331): A CREDIT flit adds egress credit for streams. -/
  | skeinCredit (port : Fin 2) (h : FlitHdr) (grants : List Grant)
  /-- SKEIN_MARK_START (R335): MARK START opens an ingress frame in the next slot, or holds or drops it when the ring is full. -/
  | skeinMarkStart (port : Fin 2) (h : FlitHdr) (tag : Word)
  /-- SKEIN_MARK_END (R335): MARK END completes the frame record, advances WR and signals the fence. -/
  | skeinMarkEnd (port : Fin 2) (h : FlitHdr) (length : Word)
  /-- SKEIN_TRAIN (R329): A TRAIN flit advances training phases and brings the link Up, reset or resumed. -/
  | skeinTrain (port : Fin 2) (h : FlitHdr) (t : Train)
  /-- SKEIN_NAK (R327): An ERR NAK starts a replay or a retrain. -/
  | skeinNak (port : Fin 2) (h : FlitHdr) (seq : Fin 1024)
  /-- SKEIN_CLOSE (R339): ERR CLOSE received: no more DATA or MARK is sent and the stop safe point may be reached. -/
  | skeinClose (port : Fin 2) (h : FlitHdr)
  /-- SKEIN_IDLE (R325): An IDLE flit's ACK frees acknowledged flits from the replay buffer. -/
  | skeinIdle (port : Fin 2) (h : FlitHdr)
  /-- SKEIN_BAD_FLIT (R326): A bad-CRC or out-of-order flit is discarded and a NAK sent. -/
  | skeinBadFlit (port : Fin 2) (bad : BadFlit)
  /-- SKEIN_REPLAY_TIMEOUT (R327): The oldest unacknowledged flit waits REPLAY_TMO and is replayed. -/
  | skeinReplayTimeout (port : Fin 2)
  /-- SKEIN_BLOCK_LOCK_LOSS (R327): A lane loses block lock and the port enters Retrain. -/
  | skeinBlockLockLoss (port : Fin 2) (lane : Fin 8)
  /-- SKEIN_LINK_TIMEOUT (R328): LINK_TMO expires in Train or Retrain and the link goes Down. -/
  | skeinLinkTimeout (port : Fin 2)
  /-- SKEIN_DOWN_RETRY (R328): 10 ms in Down with RUN 1 starts training again. -/
  | skeinDownRetry (port : Fin 2)
  /-- SKEIN_STOP_TIMEOUT (R339): 1 ms passes in Stopping and the link goes down forced. -/
  | skeinStopTimeout (port : Fin 2)
  /-- SKEIN_EGRESS_FRAME (R336): The port sends a ready egress slot as MARK START, DATA and MARK END. -/
  | skeinEgressFrame (port : Fin 2) (stream : Fin 64)
  /-- LEASH (R351): A LEASH message is received and the leash age resets. -/
  | leash (h : MsgHdr) (count : Word) (mode : BitVec 24) (at_ : Stamp) (state : BitVec 8)
  /-- LEASH_SEND (R351): Every 250 us pair B sends a LEASH. -/
  | leashSend
  /-- LEASH_MISSED (R351): A 250 us period passes with no LEASH and MISSED increments. -/
  | leashMissed
  /-- TWIN_LOST (R351): 750 us without a LEASH: supervision ends and the pairing mode changes. -/
  | twinLost
  /-- HUNG_TWIN (R352): 100 ms of link Up without LEASH after loss; COLD_REQ is sent once. -/
  | hungTwin
  /-- COLD_REQ (R352): Received cold request, answered with a Cold reach reset when COLD_ACCEPT is set. -/
  | coldReq (h : MsgHdr)
  /-- HELLO (R353): Identity message; starts supervision and the compatibility checks. -/
  | hello (h : MsgHdr) (m : Hello)
  /-- ELECT (R353): Election result from the Lead, confirmed by the Follow. -/
  | electMsg (h : MsgHdr) (lead : BitVec 8) (sync : Bool)
  /-- HELLO_TIMEOUT (R353): No HELLO within 10 ms of link up fails the attach. -/
  | helloTimeout
  /-- ATTACH_TIMEOUT (R353): Mirror sync or the whole attach misses its 2 s bound and fails. -/
  | attachTimeout
  /-- MIRROR_OPEN (R357): Opens a mirror copy of an allocation. -/
  | mirrorOpen (h : MsgHdr) (idx : Fin 8192) (tag : BitVec 16) (cls : BitVec 8) (size : Word)
  /-- MIRROR_WRITE (R357): Applies mirrored bytes to a copy. -/
  | mirrorWrite (h : MsgHdr) (idx : Fin 8192) (tag : BitVec 16) (offset : BitVec 64) (data : List Byte)
  /-- MIRROR_CLOSE (R357): Closes a mirror copy. -/
  | mirrorClose (h : MsgHdr) (idx : Fin 8192) (tag : BitVec 16)
  /-- MIRROR_STATE (R357): Carries a critical head's background, tone map, protected inputs or geometry. -/
  | mirrorState (h : MsgHdr) (head : Fin 16) (item : BitVec 8) (num : Word) (data : List Byte)
  /-- SYNC_DONE (R353): Ends a chip's mirror sync; with both received, PAIR is set at the next LEASH. -/
  | syncDone (h : MsgHdr) (last : Word)
  /-- SIG_TILES (R359): Carries tile signatures of a PFN for comparison. -/
  | sigTiles (h : MsgHdr) (head : Fin 16) (first : BitVec 16) (pfn : Word) (sigs : List Word)
  /-- SIG_END (R359): Ends a PFN's signature set; tiles are compared and disagreements decided. -/
  | sigEnd (h : MsgHdr) (head : Fin 16) (tiles : BitVec 16) (pfn : Word) (failed : Bool) (sig : Word)
  /-- SIG_LATE (R359): A twin signature set misses its 2-frame bound and is not compared. -/
  | sigLate (head : Fin 16) (pfn : Word)
  /-- OFFLOAD_PIPE (R369): Ships a portable pipeline to the twin. -/
  | offloadPipe (h : MsgHdr) (key : List Byte) (total offset : Word) (data : List Byte)
  /-- OFFLOAD_JOB (R369): Asks the twin to run a portable job, answered by OFFLOAD_REPLY. -/
  | offloadJob (h : MsgHdr) (job : OffJob)
  /-- OFFLOAD_REPLY (R369): Twin's acceptance or refusal of an offload job. -/
  | offloadReply (h : MsgHdr) (ref : Word) (result : BitVec 8)
  /-- OFFLOAD_RESULT (R370): A block of job output held in staging. -/
  | offloadResult (h : MsgHdr) (ref : Word) (idx : Fin 8192) (tag : BitVec 16) (offset : BitVec 64) (data : List Byte)
  /-- OFFLOAD_DONE (R370): Twin finished a job; staged results are written and the fence signalled. -/
  | offloadDone (h : MsgHdr) (ref : Word) (aborted : Bool) (spills : BitVec 8) (us results : Word)
  /-- OFFLOAD_CANCEL (R370): Cancels a job run for the twin. -/
  | offloadCancel (h : MsgHdr) (ref : Word)
  /-- TIME_PROBE (R439): A time probe received and answered with TIME_ECHO. -/
  | timeProbe (h : MsgHdr) (t1 : Stamp)
  /-- TIME_PROBE_SEND (R351): The periodic timer sends a TIME_PROBE. -/
  | timeProbeSend
  /-- TIME_ECHO (R439): Echo completes an exchange; theta is computed and the Follow steps or slews. -/
  | timeEcho (h : MsgHdr) (t1 t2 t3 : Stamp)
  /-- DETACH_REQ (R367): Twin asks for an orderly detach. -/
  | detachReq (h : MsgHdr)
  /-- DETACH_ACK (R367): Twin confirms detach; both chips become Solo at their next LEASH. -/
  | detachAck (h : MsgHdr)
  /-- LEAVE (R362): Twin leaves the pair after failing its proof tile. -/
  | leaveMsg (h : MsgHdr) (reason : BitVec 8)
  /-- MODE (R350): Twin reports its GL_MODE, updating BL_TWIN_MODE. -/
  | modeMsg (h : MsgHdr) (mode : BitVec 24)
  /-- POWER_PROPOSE (R368): Lead proposes Hold or Park and the Follow answers. -/
  | powerPropose (h : MsgHdr) (mode : BitVec 8)
  /-- POWER_REPLY (R368): Follow accepts or rejects the proposal. -/
  | powerReply (h : MsgHdr) (accept : Bool)
  /-- POWER_REPLY_TIMEOUT (R368): No reply within 10 ms counts as a reject. -/
  | powerReplyTimeout
  /-- POWER_CANCEL (R368): Cancels an agreed power entry and both chips return. -/
  | powerCancel (h : MsgHdr)
  /-- BOOT_REQ (R509): A booting twin asks for the image; a confirmed chip answers with BOOT_DATA. -/
  | bootReq (h : MsgHdr)
  /-- BOOT_DATA (R509): Carries part of the twin's active image to a booting chip. -/
  | bootData (h : MsgHdr) (offset : Word) (data : List Byte)
  /-- BOWLINE_BAD_FLIT (R348): A bad-CRC or out-of-order Bowline flit is discarded and a NAK sent. -/
  | bowlineBadFlit (bad : BadFlit)
  /-- BOWLINE_NAK (R348): A Bowline NAK starts a replay or a retrain. -/
  | bowlineNak (h : FlitHdr) (seq : Fin 1024)
  /-- BOWLINE_TRAIN (R348): A Bowline TRAIN flit advances training towards Up. -/
  | bowlineTrain (h : FlitHdr) (t : Train)
  /-- BOWLINE_CREDIT (R349): A Bowline CREDIT flit adds credit for a message class. -/
  | bowlineCredit (h : FlitHdr) (grants : List Grant)
  /-- BOWLINE_REPLAY_TIMEOUT (R348): The fixed 2 us replay timeout expires and flits are replayed. -/
  | bowlineReplayTimeout
  /-- BOWLINE_LINK_TIMEOUT (R348): 100 ms of training without Up takes the link Down. -/
  | bowlineLinkTimeout
  /-- BOWLINE_RETRY (R348): 10 ms retry of a Down link while TWIN_EN is 1. -/
  | bowlineRetry
  /-- TWIN_B_HOLD_TIMER (R363): Chip B sets HOLD 3 s after start-confirm with no twin seen. -/
  | twinBHoldTimer
  /-- REFRESH_DUE (R382): An all-bank refresh falls due; it is issued, postponed or forced. -/
  | refreshDue (chan : Fin 16) (tc0 hot : Bool) (spare : Fin 9)
  /-- DIST_WINDOW_END (R384): The 32 ms activation window ends, counts reset and throttles are released. -/
  | distWindowEnd
  /-- DRIFT_CHECK (R392): Every 8 ms drift is measured and corrected, or the channel becomes Disturbed. -/
  | driftCheck (beyond : BitVec 16)
  /-- RETRAIN_DONE (R392): A retrain attempt ends, returning the channel to service or retiring it. -/
  | retrainDone (chan : Fin 16) (ok : Bool)
  /-- TRAINING_DONE (R390): Memory training completes with channels in service or retired. -/
  | trainingDone (t : Training)
  /-- PHY_PLL_LOSS (R420): A PHY PLL loses lock and its link or channels are held or taken down. -/
  | phyPllLoss (pll : Pll)
  /-- PHY_PLL_RELOCK (R420): A PHY PLL regains lock. -/
  | phyPllRelock (pll : Pll)
  /-- MEM_PLL_RELOCK_TIMEOUT (R420): A memory PLL fails to relock within 1 ms and both channels retire. -/
  | memPllRelockTimeout (mc : Fin 8)
  /-- CV_DATA_UNIT_END (R400): A data unit ends at a tap and the final value is formed, stored and written. -/
  | cvDataUnitEnd (unit : Fin 24) (errs : List PathErr)
  /-- REFCLK_LOSS (R415): No REFCLK edge for 2 us holds the part in Cold reach reset. -/
  | refclkLoss
  /-- REFCLK_RESTORE (R415): REFCLK has run 100 us and the part is released. -/
  | refclkRestore
  /-- MAIN_PLL_LOSS (R419): The main PLL loses lock and a Cold reach reset follows. -/
  | mainPllLoss
  /-- PPS_IN_EDGE (R433): An active PPS_IN edge is accepted or rejected as a glitch, then captured, snapped or slewed by mode. -/
  | ppsInEdge (rising : Bool)
  /-- PPS_TIMEOUT (R435): No edge within 1.5 s clears PPS_OK. -/
  | ppsTimeout
  /-- TRIM_ADJUST (R430): A trim adjustment adds or omits one tick. -/
  | trimAdjust
  /-- SECURE_WDOG_EXPIRY (R457): The 50 ms secure watchdog expires and the secure world is declared down. -/
  | secureWdogExpiry
  /-- SECURE_HALT (R457): The secure world halts on an unhandled exception and is declared down. -/
  | secureHalt
  /-- SECURE_UP (R462): The restarted secure world comes up. -/
  | secureUp
  /-- SECURE_RESTART_TIMEOUT (R462): A restart not up within 1 s is declared down again. -/
  | secureRestartTimeout
  /-- SESSION_IDLE_TIMEOUT (R473): No privileged act for RJ_IDLE.MIN minutes closes the session. -/
  | sessionIdleTimeout
  /-- LOCKOUT_END (R472): The 60 s claim lockout ends. -/
  | lockoutEnd
  /-- JOURNAL_FLUSH (R480): Buffered records get CHAIN and MAC and are appended to flash. -/
  | journalFlush
  /-- POWER_ON (R518): All rail monitors good for 2 ms releases the Power-on source. -/
  | powerOn
  /-- RAIL_LOW (R518): A rail below threshold for 1 us asserts the Power-on source. -/
  | railLow
  /-- RESET_N_PULSE (R486): RESET_N low for 39 always-on cycles takes a Cold reach reset. -/
  | resetNPulse
  /-- WARM_N_PULSE (R486): WARM_N low for 39 always-on cycles takes a Warm reach reset. -/
  | warmNPulse
  /-- THERMAL_TRIP (R525): A sensor at 130 degrees for 10 us holds a Cold reach reset. -/
  | thermalTrip
  /-- THERMAL_TRIP_RELEASE (R525): Every sensor below 120 degrees for 100 ms releases the trip. -/
  | thermalTripRelease
  /-- NWDOG_EXPIRY (R486): The normal-world watchdog expires and a Warm reach reset follows. -/
  | nwdogExpiry
  /-- LOCKSTEP_MISMATCH (R13): A control pair's cores disagree; the pair halts and a Warm reach reset follows. -/
  | lockstepMismatch (pairB : Bool)
  /-- RESET_RELEASE (R494): A Power-on, Cold or Warm reach releases and the start sequence runs. -/
  | resetRelease (r : Release)
  /-- START_TIMEOUT (R498): 10 s without start-confirm fails the start. -/
  | startTimeout
  /-- START_CONFIRM (R497): All start conditions hold and CONFIRMED is set. -/
  | startConfirm (image : Word)
  /-- HEEL_ANSWER (R503): A block reaches its answer point and its reset asserts. -/
  | heelAnswer (h : HeelRef)
  /-- HEEL_TIMEOUT (R503): RB_HEEL_TMO expires and the reset is forced. -/
  | heelTimeout (h : HeelRef)
  /-- BLOCK_RESET_RELEASE (R503): A Block or Subsystem reset releases after 1 us and the reply is written. -/
  | blockResetRelease (h : HeelRef)
  /-- THERMAL_SAMPLE (R524): Sensor read every 100 us acts on Tj thresholds. -/
  | thermalSample (t : Temps)
  /-- THERM_RELEASE (R524): Tj below 105 degrees for 1 s clears THERM_DIM. -/
  | thermRelease
  /-- WAKE_GPIO (R521): An enabled wake GPIO low for 10 us ends Hold or Park. -/
  | wakeGpio (pin : Fin 48) (w : Wake)
  /-- WAKE_ALARM (R521): TB_SEC reaching GL_WAKE_AT ends Hold or Park. -/
  | wakeAlarm (w : Wake)
  /-- WAKE_PCIE (R521): The PCI Express link leaving L1 ends Hold. -/
  | wakePcie (w : Wake)
  /-- WAKE_TOUCH (R521): A touch interrupt ends Hold. -/
  | wakeTouch (port : Fin 16) (w : Wake)
  /-- TWIN_WAKE_PULSE_END (R37): The 100 us twin-wake low pulse ends and the output returns high. -/
  | twinWakePulseEnd
  /-- PARK_FACE_UPDATE (R522): At each minute boundary the PARK domain redraws and sends the clock digits. -/
  | parkFaceUpdate
  /-- PARK_ENTRY_STEP (R21): A Park entry step or block suspension completes and the next begins. -/
  | parkEntryStep
  /-- EVENT_RAISE (R559): A block raises an event source; its pending bit and vector count update. -/
  | eventRaise (r : EventRef)
  /-- COALESCE_TIMEOUT (R563): A vector's TIME passes since its first raise and it fires. -/
  | coalesceTimeout (fn : Fin 65) (vec : Fin 128)
  /-- UART_FRAME (R510): A maintenance UART frame (command packet, image data or NAK) is received whole and acted on. -/
  | uartFrame (frame : List Byte)
  /-- STATUS_IMAGE_REDRAW (R501): Each second in Kennel the boot ROM redraws the status image. -/
  | statusImageRedraw
  /-- AUTO_ATTACH_TIMER (R354): 1 s after an attach fails because the twin was lost, AUTO starts a new attach. -/
  | autoAttachTimer
  /-- BEEP_GAP_END (R310): The GAP x 10 ms silence between beep bursts ends and the next burst starts at phase zero. -/
  | beepGapEnd (gen : Fin 8)
  /-- DRIVE_HALF_CYCLE (R283): At the next drive half-cycle after a trigger, the running haptic effect enters Brake. -/
  | driveHalfCycle (ch : Fin 16)
  /-- PWM_PERIOD_START (R283): At the next PWM period start, a triggered effect on an Idle channel begins its attack drive. -/
  | pwmPeriodStart (ch : Fin 16)
  /-- SKEIN_BLOCK_LOCK (R329): A Skein lane gains block lock on 64 consecutive valid sync headers and deskew on the markers follows. -/
  | skeinBlockLock (port : Fin 2) (lane : Fin 8)
  /-- BOWLINE_BLOCK_LOCK (R348): A Bowline lane gains block lock; with all 8 lanes locked, training can proceed. -/
  | bowlineBlockLock (lane : Fin 8)
  /-- BOWLINE_BLOCK_LOCK_LOSS (R348): A Bowline lane loses block lock and the link enters Retrain. -/
  | bowlineBlockLockLoss (lane : Fin 8)
  /-- BOWLINE_IDLE (R348): A Bowline IDLE flit is received and its ACK frees acknowledged flits from the replay buffer. -/
  | bowlineIdle (h : FlitHdr)
  /-- TAP_INSTRUCTION (R540): A JTAG TAP reset or instruction such as EXTEST takes effect, and the pins follow the boundary register. -/
  | tapInstruction (t : TapOp)
deriving DecidableEq, Repr

end Sys2Proof
end

