-- ==== Sys2Proof/Decode.lean ====
section
/-!
DEFINITION. Reading a command from a word. No row of spec/opcode_table.json gives its command any bits, so no word spells
a command.
-/
namespace Sys2Proof

/-- The command that a word of `nbits` bits spells by the table: none. Assumption log, row 1. -/
def decodeTableWord (_nbits _w : Nat) : Option Instr := none

end Sys2Proof
end

