-- ==== Sys2Proof/Machine/Bits.lean ====
section
/-!
DEFINITION. Bit fields, signed readings, rounding and saturation: the small arithmetic the meanings share.
-/
namespace Sys2Proof.Machine

/-- Bits `lo + n - 1` to `lo` of `w`. -/
def bits (w lo n : Nat) : Nat := (w / 2 ^ lo) % 2 ^ n

/-- Bit `i` of `w`. -/
def bitAt (w i : Nat) : Bool := bits w i 1 = 1

/-- `w` with bit `i` set to `b`. -/
def putBit (w i : Nat) (b : Bool) : Nat :=
  if bitAt w i then (if b then w else w - 2 ^ i) else (if b then w + 2 ^ i else w)

/-- 1 for true. -/
def b2n (b : Bool) : Nat := if b then 1 else 0

/-- The two's complement reading of an `n`-bit value. -/
def toS (n v : Nat) : Int :=
  if v % 2 ^ n < 2 ^ (n - 1) then (v % 2 ^ n : Nat) else ((v % 2 ^ n : Nat) : Int) - (2 ^ n : Nat)

/-- The `n`-bit two's complement word of an integer. -/
def ofS (n : Nat) (i : Int) : Nat := (i % (2 ^ n : Nat)).toNat

/-- `i` limited to `lo` to `hi`. -/
def clampI (i lo hi : Int) : Int := if i < lo then lo else if hi < i then hi else i

/-- `v` limited to `lo` to `hi`: a value outside is taken as the nearer limit. -/
def clampN (v lo hi : Nat) : Nat := if v < lo then lo else if hi < v then hi else v

/-- The quotient rounded up. -/
def ceilDiv (a b : Nat) : Nat := (a + b - 1) / b

/-- Low 32 bits. -/
def lo32 (v : Nat) : Nat := v % 2 ^ 32

/-- Bits 63:32. -/
def hi32 (v : Nat) : Nat := (v / 2 ^ 32) % 2 ^ 32

/-- The list with the element at `i` changed by `f`. -/
def updAt {α : Type} (l : List α) (i : Nat) (f : α → α) : List α :=
  match l, i with
  | [], _ => []
  | a :: r, 0 => f a :: r
  | a :: r, i + 1 => a :: updAt r i f

/-- The first element that meets `p`, changed by `f`. -/
def updFirst {α : Type} (l : List α) (p : α → Bool) (f : α → α) : List α :=
  match l with
  | [] => []
  | a :: r => if p a then f a :: r else a :: updFirst r p f

/-- The list without its first element that meets `p`. -/
def dropFirst {α : Type} (l : List α) (p : α → Bool) : List α :=
  match l with
  | [] => []
  | a :: r => if p a then r else a :: dropFirst r p

/-- Every element that meets `p`, changed by `f`. -/
def updAll {α : Type} (l : List α) (p : α → Bool) (f : α → α) : List α :=
  l.map fun a => if p a then f a else a

/-- The lowest number below `n` from `start` on that meets `p`. -/
def firstBelow (p : Nat → Bool) (start fuel : Nat) : Option Nat :=
  match fuel with
  | 0 => none
  | k + 1 => if p start then some start else firstBelow p (start + 1) k

/-- The bytes of a 32-bit word, least significant first (R3). -/
def wordBytes (w : Nat) : List Nat := [w % 256, w / 256 % 256, w / 65536 % 256, w / 16777216 % 256]

/-- A value from its bytes, least significant first (R3). -/
def leNat (bs : List Nat) : Nat := bs.foldr (fun b a => b + 256 * a) 0

/-- The 32-bit words of a byte list, the last one filled with zero bytes. -/
def bytesWords (bs : List Nat) : List Nat :=
  (List.range (ceilDiv bs.length 4)).map fun i => leNat ((bs.drop (4 * i)).take 4)

/-- The traffic class of a requester code (R16, R573); none for a code that is reserved and never appears. Codes the
table of R16 does not name take the class of what they serve. Assumption log, row 126. -/
def requesterClass (code : Nat) : Option Nat :=
  if code < 0x18 then some 3
  else if code < 0x1C then some 0
  else if code < 0x20 then none
  else if code < 0x30 then some 0
  else if code < 0x33 then some 1
  else if code = 0x33 then none
  else if code < 0x4C then some 1
  else if code < 0x50 then none
  else if code < 0x53 then some 2
  else if [0x58, 0x5C, 0x60, 0x61].contains code then some 4
  else if code < 0x80 then none
  else if code < 0xC1 then some 4
  else none

/-- The low bytes of a value, least significant first. -/
def leBytes (n v : Nat) : List Nat := (List.range n).map fun i => v / 256 ^ i % 256

end Sys2Proof.Machine
end

