-- ==== Sys2Proof/Machine/Crc.lean ====
section
/-!
DEFINITION. The cyclic redundancy checks of R399: the running value of a unit, byte by byte, and the final value.
-/
namespace Sys2Proof.Machine

/-- One of the four polynomial codes (R399). `revPoly` is the polynomial with its bits reversed, used by a reflected
code, whose register is held reflected (R400). -/
structure Poly where
  /-- Width w. -/
  width : Nat
  /-- Polynomial. -/
  poly : Nat
  /-- Polynomial, bits reversed. -/
  revPoly : Nat
  /-- Init. -/
  init : Nat
  /-- Reflected in and out. -/
  reflected : Bool
  /-- Final XOR. -/
  xorOut : Nat
deriving DecidableEq, Repr

/-- The polynomial of a code (R399). -/
def polyOf (code : Nat) : Poly :=
  match code with
  | 0 => ⟨32, 0x1EDC6F41, 0x82F63B78, 0xFFFFFFFF, true, 0xFFFFFFFF⟩
  | 1 => ⟨32, 0x04C11DB7, 0xEDB88320, 0xFFFFFFFF, true, 0xFFFFFFFF⟩
  | 2 => ⟨16, 0x1021, 0x8408, 0xFFFF, false, 0⟩
  | _ => ⟨8, 0x1D, 0xB8, 0xFF, false, 0xFF⟩

/-- One bit of a reflected code. -/
def crcBitR (p : Poly) (r : Nat) : Nat :=
  if r % 2 = 1 then (r / 2).xor p.revPoly else r / 2

/-- One bit of a code that is not reflected. -/
def crcBitN (p : Poly) (r : Nat) : Nat :=
  if r / 2 ^ (p.width - 1) % 2 = 1 then (2 * r % 2 ^ p.width).xor p.poly else 2 * r % 2 ^ p.width

/-- `n` bits. -/
def crcBits (p : Poly) (n r : Nat) : Nat :=
  match n with
  | 0 => r
  | k + 1 => crcBits p k (if p.reflected then crcBitR p r else crcBitN p r)

/-- The running value after one more byte (R400). -/
def crcByte (p : Poly) (r b : Nat) : Nat :=
  if p.reflected then crcBits p 8 (r.xor (b % 256))
  else crcBits p 8 (r.xor (b % 256 * 2 ^ (p.width - 8)))

/-- The running value after the bytes `bs`, from `r` (R400). -/
def crcRun (p : Poly) (r : Nat) (bs : List Nat) : Nat := bs.foldl (crcByte p) r

/-- The final value: the running value XOR Final XOR (R400). -/
def crcFinal (p : Poly) (r : Nat) : Nat := r.xor p.xorOut

/-- The check of a byte string by one code. -/
def crcOf (code : Nat) (bs : List Nat) : Nat := crcFinal (polyOf code) (crcRun (polyOf code) (polyOf code).init bs)

end Sys2Proof.Machine
end

