-- ==== Sys2Proof/Config.lean ====
section
/-!
DEFINITION. What the spec leaves open and each part or run fixes: free values. Each is a constant with no body, so
nothing proved can rest on its value.
-/
namespace Sys2Proof

/-- What the vertex stage answers for a vertex: its homogeneous position, x / w and y / w in target pixels and z / w in
depth, and its other outputs. Integers in one common scale hold any such position exactly. -/
structure Vertex where
  /-- x. -/
  x : Int
  /-- y. -/
  y : Int
  /-- z. -/
  z : Int
  /-- w. -/
  w : Int
  /-- The other outputs. -/
  out : List Nat
deriving DecidableEq, Repr, Inhabited

/-- What a fragment shader invocation answers. -/
structure Shaded where
  /-- Colour outputs by target. -/
  colour : List Nat
  /-- It discarded or demoted itself. -/
  gone : Bool
  /-- Sample mask written, one bit each. -/
  mask : Nat
  /-- FragDepth, as the depth format stores it. -/
  depth : Nat
deriving DecidableEq, Repr, Inhabited

end Sys2Proof

namespace Sys2Proof.Config

/-- A fresh free value: the `n`th value the machine takes where the spec states none (assumption log, row 2).
Assumption log, row 2. -/
opaque freeValue : Nat → BitVec 64

/-- A byte of memory whose content a rule calls undefined since the stamp given: a wake from Park loses it (R130).
Assumption log, rows 2, 82. -/
opaque freeByte : Nat → Nat → Byte

/-- Byte `i` of what host memory returns to the read of a host load that a register write starts; the first argument
is the stamp of the load (R509). Assumption log, rows 2, 119. -/
opaque hostByte : Nat → Nat → Byte

/-- The chip's serial number, fused at manufacture (R353, R471). Assumption log, row 2. -/
opaque serial : Nat

/-- The chip's delivery key, in its shipping record (R470): a big-endian 256-bit value. Assumption log, row 2. -/
opaque deliveryKey : Nat

/-- The release key hash in the boot ROM (R507): a big-endian 256-bit value. Assumption log, row 2. -/
opaque releaseHash : Nat

/-! Shader results and the arithmetic that Vulkan 1.3 defines and the spec does not repeat (R150, R163). The first argument
is the memory that the shader sees, as the list of its cells. Assumption log, row 130. -/

/-- The vertex stage: memory, cache key of the pipeline, resource table, draw record, instance and vertex index.
Assumption log, row 130. -/
opaque vertexStage : List (Nat × Byte) → Nat → Nat → List Nat → Nat → Int → Vertex

/-- The fragment stage: memory, cache key, resource table, draw record, vertices of the primitive, pixel and sample.
Assumption log, row 130. -/
opaque fragmentStage : List (Nat × Byte) → Nat → Nat → List Nat → List Vertex → Nat × Nat × Nat → Shaded

/-- A sample on the very edge of a triangle is covered: vertices, pixel and sample. Assumption log, row 130. -/
opaque onEdge : List Vertex → Nat → Nat → Nat → Bool

/-- A sample lies in the footprint of a line or point: vertices, topology, pixel and sample. Assumption log, row 130.
-/
opaque footprint : List Vertex → Nat → Nat → Nat → Nat → Bool

/-- Depth of a primitive at a sample, as a depth format stores it: format, vertices, pixel and sample. Assumption log,
row 130. -/
opaque depthAt : Nat → List Vertex → Nat → Nat → Nat → Nat

/-- A colour output as a target stores it: format, the target's part of the pipeline record, the output, and what the
sample held (0 where nothing of it is read). Assumption log, row 130. -/
opaque colourWrite : Nat → List Nat → Nat → Nat → Nat

/-- DEPTH_CLEAR, an FP32 word, as a depth format stores it. Assumption log, row 130. -/
opaque depthClear : Nat → Nat → Nat

/-! The arithmetic of the pixel pipeline that the spec names and does not state (R210 to R213). Assumption log, row 138. -/

/-- A value as FP16 holds it. Assumption log, row 138. -/
opaque half : Rat → Rat

/-- The value of an FP16 word that is an infinity or no number. Assumption log, row 138. -/
opaque notFinite : Nat → Rat

/-- A coefficient of the scaler: taps of the filter, phase, tap. Assumption log, row 138. -/
opaque filterTap : Nat → Nat → Nat → Rat

/-- An input transfer decoded, other than linear: code, value. Assumption log, row 138. -/
opaque transferDecode : Nat → Rat → Rat

/-- The PQ encoding of a value, 0 to 1, 1.0 being 100 cd/m². Assumption log, row 138. -/
opaque pqEncode : Rat → Rat

/-- A value under an output transfer, as a 10-bit code. Assumption log, row 138. -/
opaque transferCode : Nat → Rat → Nat

/-- A sample that a DONT_CARE code leaves undefined: stamp and place. Assumption log, row 130. -/
opaque dontCare : Nat → Nat → Nat

/-! The arithmetic of the audio engine that the spec names and does not state (R290, R307 to R311). Assumption log, row 65. -/

/-- A value as FP32 holds it. Assumption log, row 65. -/
opaque single : Rat → Rat

/-- The FP32 sum of some terms, in the engine's own order. Assumption log, row 65. -/
opaque sum32 : List Rat → Rat

/-- A sample as an integer of a width, before it saturates. Assumption log, row 65. -/
opaque sampleCode : Nat → Rat → Int

/-- A sample as an FP32 word. Assumption log, row 65. -/
opaque sampleWord : Rat → Nat

/-- Amplitude of a gain in 0.01 dB, other than 0 dB and mute. Assumption log, row 65. -/
opaque decibel : Int → Rat

/-- Shape, frequencies over the sample rate, ticks since phase zero: the sum of the partials, 1 at its peak.
Assumption log, row 65. -/
opaque partials : Nat → List Rat → Nat → Rat

/-- Coefficient of a high-pass stage: order, corner in Hz, sample rate, then b0, b1, b2, a1, a2 by number. Assumption
log, row 65. -/
opaque highPass : Nat → Nat → Nat → Nat → Rat

/-- Output of a bridge's converter: rates of both ends, receiving ticks since the last input, inputs newest first.
Assumption log, row 65. -/
opaque convert : Nat → Nat → Nat → List Rat → Rat

end Sys2Proof.Config
end

