-- ==== Sys2Proof/Machine/Field.lean ====
section
/-!
DEFINITION. What a row of a register table says of one field: where it lies, how wide it is, who may change it
and what a reset gives it (R4 to R9).
-/
namespace Sys2Proof.Machine

/-- The access codes of R8. The qualifiers RWL and SEC are marks beside the code (R9). -/
inductive Acc where
  /-- RO: writes are ignored. -/
  | ro
  /-- RW. -/
  | rw
  /-- W1C: writing 1 clears the bit. -/
  | w1c
  /-- W1S: writing 1 sets the bit. -/
  | w1s
  /-- WO: reads return zero. -/
  | wo
  /-- RWH: writable only while the owning stop unit is stopped. -/
  | rwh
deriving DecidableEq, Repr

/-- One field of a register table, over all its instances. -/
structure Fld where
  /-- The field's own number. -/
  id : Nat
  /-- Base of the register page. -/
  base : Nat
  /-- Stride between page instances. -/
  stride : Nat
  /-- Page instances. -/
  count : Nat
  /-- Offset of the register in its page. -/
  off : Nat
  /-- Stride of a nested instance inside the page. -/
  istride : Nat
  /-- Nested instances a page. -/
  icount : Nat
  /-- Lowest bit of the field. -/
  lsb : Nat
  /-- Bit stride where a register repeats a field. -/
  lstride : Nat
  /-- Width in bits. -/
  width : Nat
  /-- Access code. -/
  acc : Acc
  /-- RWL: writable until the commission lock is set. -/
  rwl : Bool
  /-- SEC: the secure world's alone. -/
  sec : Bool
  /-- Reset values, one for all instances or one an instance. -/
  resets : List Nat
deriving DecidableEq, Repr

end Sys2Proof.Machine
end

