-- ==== Sys2Proof/Machine/FieldsA.lean ====
section
/-!
DEFINITION. The register fields of the spec's register tables, one definition a field, in the order of the
spec's files. Each gives: its number, page base, page stride and instances, register offset, inner stride and
inner instances, lowest bit, bit stride of repeated fields, width, access code, RWL mark, SEC mark, and its
reset value (a list where the tables give one value an instance).
-/
namespace Sys2Proof.Machine

/-- GL_MODE.PAIR (R27): 0b00 Solo, 0b01 Lead, 0b10 Follow; 0b11 not used -/
def GL_MODE_PAIR : Fld := .mk 0 0x0 0x0 1 0x40 0x0 1 0 0 2 .ro false false [0]
/-- GL_MODE.POWER (R27): 0b00 Run, 0b01 Dim, 0b10 Hold, 0b11 Park -/
def GL_MODE_POWER : Fld := .mk 1 0x0 0x0 1 0x40 0x0 1 2 0 2 .ro false false [0]
/-- GL_MODE.ACCESS (R27): 0b00 Operate, 0b01 Commission, 0b10 Service; 0b11 not used -/
def GL_MODE_ACCESS : Fld := .mk 2 0x0 0x0 1 0x40 0x0 1 4 0 2 .ro false false [0]
/-- GL_MODE.INTEG (R27): 0b00 Whole, 0b01 Degraded, 0b10 Kennel; 0b11 not used -/
def GL_MODE_INTEG : Fld := .mk 3 0x0 0x0 1 0x40 0x0 1 6 0 2 .ro false false [0]
/-- GL_MODE.BUSY (R27): one bit per axis (8 pairing, 9 power, 10 access, 11 integrity); 1 while a transition on that axis is under way -/
def GL_MODE_BUSY : Fld := .mk 4 0x0 0x0 1 0x40 0x0 1 8 0 4 .ro false false [0]
/-- GL_MODE.TWIN_SERVICE (R27): 1 while the attached twin reports Service -/
def GL_MODE_TWIN_SERVICE : Fld := .mk 5 0x0 0x0 1 0x40 0x0 1 12 0 1 .ro false false [0]
/-- GL_MODE.TWIN_KENNEL (R27): 1 while the attached twin reports Kennel -/
def GL_MODE_TWIN_KENNEL : Fld := .mk 6 0x0 0x0 1 0x40 0x0 1 13 0 1 .ro false false [0]
/-- GL_MODE.THERM_DIM (R27): 1 while the thermal hold is set. It is set when the junction reaches 115 °C in Run, Dim or Hold, or at a wake from Park, and cleared as R524 lays down -/
def GL_MODE_THERM_DIM : Fld := .mk 7 0x0 0x0 1 0x40 0x0 1 14 0 1 .ro false false [0]
/-- GL_MODE.SEQ (R27): incremented, modulo 256, when any transition completes -/
def GL_MODE_SEQ : Fld := .mk 8 0x0 0x0 1 0x40 0x0 1 16 0 8 .ro false false [0]
/-- GL_DEG_CAUSE.SIG_DISAGREE (R28): tile signatures of the two chips disagreed in the same tile for 2 consecutive frames -/
def GL_DEG_CAUSE_SIG_DISAGREE : Fld := .mk 9 0x0 0x0 1 0x44 0x0 1 0 0 1 .ro false false [0]
/-- GL_DEG_CAUSE.TRIM_DEFAULT (R28): safe default trims are in use after a second trim checksum failure -/
def GL_DEG_CAUSE_TRIM_DEFAULT : Fld := .mk 10 0x0 0x0 1 0x44 0x0 1 1 0 1 .ro false false [0]
/-- GL_DEG_CAUSE.CHAN_RETIRED (R28): a memory channel has been taken out of service, as *Memory Controller* lays down -/
def GL_DEG_CAUSE_CHAN_RETIRED : Fld := .mk 11 0x0 0x0 1 0x44 0x0 1 2 0 1 .ro false false [0]
/-- GL_DEG_CAUSE.LOCKSTEP (R28): a lockstep mismatch (R13) has occurred since the last Cold reach reset -/
def GL_DEG_CAUSE_LOCKSTEP : Fld := .mk 12 0x0 0x0 1 0x44 0x0 1 3 0 1 .ro false false [0]
/-- GL_DEG_CAUSE.PROOF_FAIL (R28): this chip failed its own proof tile -/
def GL_DEG_CAUSE_PROOF_FAIL : Fld := .mk 13 0x0 0x0 1 0x44 0x0 1 4 0 1 .ro false false [0]
/-- GL_PEND0.HEAD (R29): bit n mirrors HDn_STAT.PEND_RESTART -/
def GL_PEND0_HEAD : Fld := .mk 14 0x0 0x0 1 0x48 0x0 1 0 0 16 .ro false false [0]
/-- GL_PEND0.PORT (R29): bit 16 + n mirrors DXn_STAT.PEND_RESTART -/
def GL_PEND0_PORT : Fld := .mk 15 0x0 0x0 1 0x48 0x0 1 16 0 10 .ro false false [0]
/-- GL_PEND0.AUDIO (R29): domains A, B and C, in that order, from bit 26 -/
def GL_PEND0_AUDIO : Fld := .mk 16 0x0 0x0 1 0x48 0x0 1 26 0 3 .ro false false [0]
/-- GL_PEND0.SKEIN (R29): SK0 and SK1 -/
def GL_PEND0_SKEIN : Fld := .mk 17 0x0 0x0 1 0x48 0x0 1 29 0 2 .ro false false [0]
/-- GL_PEND1.TOUCH (R29): bit n mirrors TPn_STAT.PEND_RESTART -/
def GL_PEND1_TOUCH : Fld := .mk 18 0x0 0x0 1 0x4c 0x0 1 0 0 16 .ro false false [0]
/-- RINGk_BASE_LO.ADDR (R53): ring base address, bits 31:12; writes are ignored while EN is 1 -/
def RINGk_BASE_LO_ADDR : Fld := .mk 19 0x10000 0x0 65 0x0 0x40 5 12 0 20 .rw false false [0]
/-- RINGk_BASE_HI.ADDR (R53): ring base address, bits 63:32; writes are ignored while EN is 1 -/
def RINGk_BASE_HI_ADDR : Fld := .mk 20 0x10000 0x0 65 0x4 0x40 5 0 0 32 .rw false false [0]
/-- RINGk_CTL.SIZE_LOG2 (R53): ring size as a power of two; writes are ignored while EN is 1 -/
def RINGk_CTL_SIZE_LOG2 : Fld := .mk 21 0x10000 0x0 65 0x8 0x40 5 0 0 5 .rw false false [4]
/-- RINGk_CTL.EN (R53): ring enabled -/
def RINGk_CTL_EN : Fld := .mk 22 0x10000 0x0 65 0x8 0x40 5 8 0 1 .rw false false [0]
/-- RINGk_CTL.WB_EN (R53): pointer write-back enabled -/
def RINGk_CTL_WB_EN : Fld := .mk 23 0x10000 0x0 65 0x8 0x40 5 9 0 1 .rw false false [0]
/-- RINGk_HEAD.PTR (R53): consumer pointer: the engines on rings 0 to 3, the last DB_REPLY value on ring 4 -/
def RINGk_HEAD_PTR : Fld := .mk 24 0x10000 0x0 65 0xc 0x40 5 0 0 17 .ro false false [0]
/-- RINGk_TAIL.PTR (R53): producer pointer: the last accepted doorbell on rings 0 to 3, the engines on ring 4 -/
def RINGk_TAIL_PTR : Fld := .mk 25 0x10000 0x0 65 0x10 0x40 5 0 0 17 .ro false false [0]
/-- RINGk_STAT.BAD_DB (R53): a doorbell value was refused -/
def RINGk_STAT_BAD_DB : Fld := .mk 26 0x10000 0x0 65 0x14 0x40 5 0 0 1 .w1c false false [0]
/-- RINGk_STAT.MALFORMED (R53): the ring was flushed after a malformed packet -/
def RINGk_STAT_MALFORMED : Fld := .mk 27 0x10000 0x0 65 0x14 0x40 5 1 0 1 .w1c false false [0]
/-- RINGk_STAT.PARTIAL (R53): the engine holds a packet whose slots are not all exposed -/
def RINGk_STAT_PARTIAL : Fld := .mk 28 0x10000 0x0 65 0x14 0x40 5 2 0 1 .ro false false [0]
/-- RINGk_STAT.FENCE_WAIT (R53): the ring is stalled on a wait-on-fence packet -/
def RINGk_STAT_FENCE_WAIT : Fld := .mk 29 0x10000 0x0 65 0x14 0x40 5 3 0 1 .ro false false [0]
/-- RINGk_STAT.FULL (R53): ring 4 only: fewer than 8 slots are free -/
def RINGk_STAT_FULL : Fld := .mk 30 0x10000 0x0 65 0x14 0x40 5 4 0 1 .ro false false [0]
/-- RINGk_STAT.NOTICE_LOST (R53): ring 4 only: at least one notice, or one CANCELLED reply of R91, was dropped -/
def RINGk_STAT_NOTICE_LOST : Fld := .mk 31 0x10000 0x0 65 0x14 0x40 5 5 0 1 .w1c false false [0]
/-- RINGk_STAT.CFG_ERR (R53): EN was set with SIZE_LOG2 out of range -/
def RINGk_STAT_CFG_ERR : Fld := .mk 32 0x10000 0x0 65 0x14 0x40 5 6 0 1 .w1c false false [0]
/-- RINGk_STAT.NOTICES_LOST (R53): ring 4 only: dropped notices and dropped CANCELLED replies (R91), saturating at 0xFFFF; cleared when NOTICE_LOST is cleared -/
def RINGk_STAT_NOTICES_LOST : Fld := .mk 33 0x10000 0x0 65 0x14 0x40 5 16 0 16 .ro false false [0]
/-- RINGk_WB_LO.ADDR (R53): write-back address, bits 31:3 -/
def RINGk_WB_LO_ADDR : Fld := .mk 34 0x10000 0x0 65 0x18 0x40 5 3 0 29 .rw false false [0]
/-- RINGk_WB_HI.ADDR (R53): write-back address, bits 63:32 -/
def RINGk_WB_HI_ADDR : Fld := .mk 35 0x10000 0x0 65 0x1c 0x40 5 0 0 32 .rw false false [0]
/-- DB_RINGk.PTR (R55): new producer pointer of submission ring k -/
def DB_RINGk_PTR : Fld := .mk 36 0x11000 0x0 65 0x0 0x4 4 0 0 17 .wo false false [0]
/-- DB_REPLY.PTR (R55): new consumer pointer of the reply ring -/
def DB_REPLY_PTR : Fld := .mk 37 0x11000 0x0 65 0x10 0x0 1 0 0 17 .wo false false [0]
/-- CE_FENCE_TMO.MS (R78): wait-prefix timeout in milliseconds, 1 to 65,535; 0 is taken as 1 -/
def CE_FENCE_TMO_MS : Fld := .mk 38 0x12000 0x0 1 0x0 0x0 1 0 0 16 .rw false false [1000]
/-- CE_EXEC_TMO.MS (R78): execution timeout in milliseconds, 1 to 65,535; 0 is taken as 1 -/
def CE_EXEC_TMO_MS : Fld := .mk 39 0x12000 0x0 1 0x4 0x0 1 0 0 16 .rw false false [2000]
/-- CE_MAL_CNT.COUNT (R78): malformed-packet flushes on all functions; saturates -/
def CE_MAL_CNT_COUNT : Fld := .mk 40 0x12000 0x0 1 0x8 0x0 1 0 0 32 .ro false false [0]
/-- CE_TMO_CNT.COUNT (R78): TIMEOUT completions on all functions; saturates -/
def CE_TMO_CNT_COUNT : Fld := .mk 41 0x12000 0x0 1 0xc 0x0 1 0 0 32 .ro false false [0]
/-- FNf_STAT.STATE (R102): 0b00 Absent, 0b01 Idle, 0b10 Enabled; F0 reads 0b10 -/
def FNf_STAT_STATE : Fld := .mk 42 0x20000 0x100 65 0x0 0x0 1 0 0 2 .ro false false [2, 0, 0, 0, 0, 0, 0, 0, 0, 0, 0, 0, 0, 0, 0, 0, 0, 0, 0, 0, 0, 0, 0, 0, 0, 0, 0, 0, 0, 0, 0, 0, 0, 0, 0, 0, 0, 0, 0, 0, 0, 0, 0, 0, 0, 0, 0, 0, 0, 0, 0, 0, 0, 0, 0, 0, 0, 0, 0, 0, 0, 0, 0, 0, 0]
/-- FNf_STAT.DRAINING (R102): a drain is under way -/
def FNf_STAT_DRAINING : Fld := .mk 43 0x20000 0x100 65 0x0 0x0 1 2 0 1 .ro false false [0]
/-- FNf_STAT.SHARE_PEND (R102): a share change waits for its epoch -/
def FNf_STAT_SHARE_PEND : Fld := .mk 44 0x20000 0x100 65 0x0 0x0 1 3 0 1 .ro false false [0]
/-- FNf_STAT.HOLDING (R102): at least one layer is held -/
def FNf_STAT_HOLDING : Fld := .mk 45 0x20000 0x100 65 0x0 0x0 1 4 0 1 .ro false false [0]
/-- FNf_GEN.GEN (R102): generation number -/
def FNf_GEN_GEN : Fld := .mk 46 0x20000 0x100 65 0x4 0x0 1 0 0 8 .ro false false [0]
/-- FNf_SHARE_EPOCH.EPOCH (R102): FN_EPOCH_NUM at which the current share took effect -/
def FNf_SHARE_EPOCH_EPOCH : Fld := .mk 47 0x20000 0x100 65 0x8 0x0 1 0 0 32 .ro false false [0]
/-- FNf_WEIGHT.WEIGHT (R102): render weight -/
def FNf_WEIGHT_WEIGHT : Fld := .mk 48 0x20000 0x100 65 0xc 0x0 1 0 0 8 .ro false false [0]
/-- FNf_QDEPTH.DEPTH (R102): queue depth -/
def FNf_QDEPTH_DEPTH : Fld := .mk 49 0x20000 0x100 65 0x10 0x0 1 0 0 13 .ro false false [0]
/-- FNf_QUSE.USE (R102): packets counted against the depth (R71) -/
def FNf_QUSE_USE : Fld := .mk 50 0x20000 0x100 65 0x14 0x0 1 0 0 13 .ro false false [0]
/-- FNf_MEM_QUOTA.MIB (R102): memory quota, MiB -/
def FNf_MEM_QUOTA_MIB : Fld := .mk 51 0x20000 0x100 65 0x18 0x0 1 0 0 17 .ro false false [0]
/-- FNf_MEM_USE.MIB (R102): memory in use, MiB, rounded up -/
def FNf_MEM_USE_MIB : Fld := .mk 52 0x20000 0x100 65 0x1c 0x0 1 0 0 17 .ro false false [0]
/-- FNf_FETCH_QUOTA.MBPS (R102): display fetch quota, MB/s -/
def FNf_FETCH_QUOTA_MBPS : Fld := .mk 53 0x20000 0x100 65 0x20 0x0 1 0 0 17 .ro false false [0]
/-- FNf_FETCH_USE.MBPS (R102): display fetch measured over the last epoch, MB/s -/
def FNf_FETCH_USE_MBPS : Fld := .mk 54 0x20000 0x100 65 0x24 0x0 1 0 0 17 .ro false false [0]
/-- FNf_SKEIN_QUOTA.MBPS (R102): Skein bandwidth, MB/s -/
def FNf_SKEIN_QUOTA_MBPS : Fld := .mk 55 0x20000 0x100 65 0x28 0x0 1 0 0 16 .ro false false [0]
/-- FNf_AUDIO.QUOTA (R102): audio stream count -/
def FNf_AUDIO_QUOTA : Fld := .mk 56 0x20000 0x100 65 0x2c 0x0 1 0 0 7 .ro false false [0]
/-- FNf_AUDIO.USE (R102): streams open -/
def FNf_AUDIO_USE : Fld := .mk 57 0x20000 0x100 65 0x2c 0x0 1 8 0 7 .ro false false [0]
/-- FNf_QUOTA_REF.COUNT (R102): QUOTA refusals; saturates -/
def FNf_QUOTA_REF_COUNT : Fld := .mk 58 0x20000 0x100 65 0x30 0x0 1 0 0 32 .ro false false [0]
/-- FNf_CANCEL_CNT.COUNT (R102): packets and flips cancelled by withdrawals; saturates -/
def FNf_CANCEL_CNT_COUNT : Fld := .mk 59 0x20000 0x100 65 0x34 0x0 1 0 0 32 .ro false false [0]
/-- FNf_DISCARD_CNT.COUNT (R102): old-generation completions discarded; saturates -/
def FNf_DISCARD_CNT_COUNT : Fld := .mk 60 0x20000 0x100 65 0x38 0x0 1 0 0 32 .ro false false [0]
/-- FNf_WDRAW_CNT.FLR (R102): FLRs; saturates -/
def FNf_WDRAW_CNT_FLR : Fld := .mk 61 0x20000 0x100 65 0x3c 0x0 1 0 0 16 .ro false false [0]
/-- FNf_WDRAW_CNT.DISABLE (R102): FN_DISABLE increments; saturates -/
def FNf_WDRAW_CNT_DISABLE : Fld := .mk 62 0x20000 0x100 65 0x3c 0x0 1 16 0 16 .ro false false [0]
/-- FNf_SKEIN_USE.MBPS (R102): Skein traffic over the last epoch, MB/s -/
def FNf_SKEIN_USE_MBPS : Fld := .mk 63 0x20000 0x100 65 0x40 0x0 1 0 0 16 .ro false false [0]
/-- FN_HOLD_MS.MS (R103): hold time in ms, set by HOLD_TIME_SET -/
def FN_HOLD_MS_MS : Fld := .mk 64 0x24000 0x0 1 0x100 0x0 1 0 0 10 .ro false false [100]
/-- FN_EPOCH_NUM.EPOCH (R103): epochs since the last Cold reach reset; wraps -/
def FN_EPOCH_NUM_EPOCH : Fld := .mk 65 0x24000 0x0 1 0x104 0x0 1 0 0 32 .ro false false [0]
/-- FN_DRAIN_SLOW_MS.MS (R103): drain time before FN_DRAIN_SLOW, 1 to 65,535; 0 is taken as 1 -/
def FN_DRAIN_SLOW_MS_MS : Fld := .mk 66 0x24000 0x0 1 0x108 0x0 1 0 0 16 .rw false false [500]
/-- HB_CTL.BAL_EN (R138): balancing migrations allowed -/
def HB_CTL_BAL_EN : Fld := .mk 67 0x40000 0x0 1 0x0 0x0 1 0 0 1 .rw false false [1]
/-- HB_CTL.OFFLOAD_EN (R138): offload to the twin allowed -/
def HB_CTL_OFFLOAD_EN : Fld := .mk 68 0x40000 0x0 1 0x0 0x0 1 1 0 1 .rw false false [1]
/-- HB_CTL.BAL_THR (R138): balancing threshold in percent, 5 to 100; other values taken as the nearer limit -/
def HB_CTL_BAL_THR : Fld := .mk 69 0x40000 0x0 1 0x0 0x0 1 8 0 8 .rw false false [20]
/-- HB_STAT.MAP_USED (R138): entries with VALID set -/
def HB_STAT_MAP_USED : Fld := .mk 70 0x40000 0x0 1 0x4 0x0 1 0 0 14 .ro false false [0]
/-- HB_STAT.MIG (R138): a balancing migration is under way -/
def HB_STAT_MIG : Fld := .mk 71 0x40000 0x0 1 0x4 0x0 1 14 0 1 .ro false false [0]
/-- HB_STAT.EVAC (R138): an evacuation is under way -/
def HB_STAT_EVAC : Fld := .mk 72 0x40000 0x0 1 0x4 0x0 1 15 0 1 .ro false false [0]
/-- HB_STAT.GATHER (R138): gathering is under way -/
def HB_STAT_GATHER : Fld := .mk 73 0x40000 0x0 1 0x4 0x0 1 16 0 1 .ro false false [0]
/-- HB_STAT.PAUSED (R138): migrations paused by Hold or Park -/
def HB_STAT_PAUSED : Fld := .mk 74 0x40000 0x0 1 0x4 0x0 1 17 0 1 .ro false false [0]
/-- HB_MIG_RATE.MBPS (R138): copy rate in MB/s, 100 to 4,000; other values taken as the nearer limit -/
def HB_MIG_RATE_MBPS : Fld := .mk 75 0x40000 0x0 1 0x8 0x0 1 0 0 12 .rw false false [2000]
/-- HB_RTCACHE.MIB (R138): real-time cache partition (R20), 2 to 8 MiB; other values taken as the nearer limit -/
def HB_RTCACHE_MIB : Fld := .mk 76 0x40000 0x0 1 0xc 0x0 1 0 0 4 .rw false false [6]
/-- HB_RETAIN.CHAN (R138): channels holding the retained region, from the next power-on or Cold reach start -/
def HB_RETAIN_CHAN : Fld := .mk 77 0x40000 0x0 1 0x10 0x0 1 0 0 16 .rw true false [3]
/-- HB_RETAIN.SEG (R138): segments per channel, minus 1 -/
def HB_RETAIN_SEG : Fld := .mk 78 0x40000 0x0 1 0x10 0x0 1 16 0 3 .rw true false [0]
/-- HB_RETAIN_ACT.LAYOUT (R138): the layout of HB_RETAIN in force -/
def HB_RETAIN_ACT_LAYOUT : Fld := .mk 79 0x40000 0x0 1 0x14 0x0 1 0 0 19 .ro false false [3]
/-- HB_FWD_DENY.HEAD (R138): bit n forbids forward composition on HDn -/
def HB_FWD_DENY_HEAD : Fld := .mk 80 0x40000 0x0 1 0x18 0x0 1 0 0 16 .rw false false [0]
/-- HB_FWD_STAT.HEAD (R138): bit n: forward composition allowed on HDn -/
def HB_FWD_STAT_HEAD : Fld := .mk 81 0x40000 0x0 1 0x1c 0x0 1 0 0 16 .ro false false [0]
/-- HB_CHAN_STAT.CH (R138): 2 bits per channel c at bits 2c+1:2c, as MCn_CHk_STAT.STATE (R388): 0b00 in service, 0b01 disturbed, 0b10 retraining, 0b11 retired; an evacuation under way show -/
def HB_CHAN_STAT_CH : Fld := .mk 82 0x40000 0x0 1 0x20 0x0 1 0 0 32 .ro false false [0]
/-- HB_MEM_CFG.MIB (R138): MiB per channel in use -/
def HB_MEM_CFG_MIB : Fld := .mk 83 0x40000 0x0 1 0x24 0x0 1 0 0 13 .ro false false [0]
/-- HB_MEM_CFG.MISMATCH (R138): trained size below the commissioned size (R120) -/
def HB_MEM_CFG_MISMATCH : Fld := .mk 84 0x40000 0x0 1 0x24 0x0 1 13 0 1 .ro false false [0]
/-- HB_FREE_MIB.MIB (R138): memory free for allocation, outside the retained region -/
def HB_FREE_MIB_MIB : Fld := .mk 85 0x40000 0x0 1 0x28 0x0 1 0 0 17 .ro false false [0]
/-- HB_PARKED_MIB.MIB (R138): PARKED allocations in use, MiB, up to 65,536 -/
def HB_PARKED_MIB_MIB : Fld := .mk 86 0x40000 0x0 1 0x2c 0x0 1 0 0 17 .ro false false [0]
/-- HB_FAULT_CNT.COUNT (R138): translation faults; saturates -/
def HB_FAULT_CNT_COUNT : Fld := .mk 87 0x40000 0x0 1 0x30 0x0 1 0 0 32 .ro false false [0]
/-- HB_FAULT_INFO.REQ (R138): requester of the latest fault -/
def HB_FAULT_INFO_REQ : Fld := .mk 88 0x40000 0x0 1 0x34 0x0 1 0 0 8 .ro false false [0]
/-- HB_FAULT_INFO.FUNC (R138): its function -/
def HB_FAULT_INFO_FUNC : Fld := .mk 89 0x40000 0x0 1 0x34 0x0 1 8 0 7 .ro false false [0]
/-- HB_FAULT_INFO.WORLD (R138): its world -/
def HB_FAULT_INFO_WORLD : Fld := .mk 90 0x40000 0x0 1 0x34 0x0 1 15 0 1 .ro false false [0]
/-- HB_FAULT_INFO.REASON (R138): reason code (R113) -/
def HB_FAULT_INFO_REASON : Fld := .mk 91 0x40000 0x0 1 0x34 0x0 1 16 0 3 .ro false false [0]
/-- HB_FAULT_INFO.WRITE (R138): 1 for a write -/
def HB_FAULT_INFO_WRITE : Fld := .mk 92 0x40000 0x0 1 0x34 0x0 1 19 0 1 .ro false false [0]
/-- HB_FAULT_ADDR_LO.ADDR (R138): faulting address, bits 31:0 -/
def HB_FAULT_ADDR_LO_ADDR : Fld := .mk 93 0x40000 0x0 1 0x38 0x0 1 0 0 32 .ro false false [0]
/-- HB_FAULT_ADDR_HI.ADDR (R138): faulting address, bits 63:32 -/
def HB_FAULT_ADDR_HI_ADDR : Fld := .mk 94 0x40000 0x0 1 0x3c 0x0 1 0 0 32 .ro false false [0]
/-- HB_STALE_CNT.COUNT (R138): stale-generation requests discarded; saturates -/
def HB_STALE_CNT_COUNT : Fld := .mk 95 0x40000 0x0 1 0x40 0x0 1 0 0 32 .ro false false [0]
/-- HB_MIG_CNT.COUNT (R138): migrations completed; saturates -/
def HB_MIG_CNT_COUNT : Fld := .mk 96 0x40000 0x0 1 0x44 0x0 1 0 0 32 .ro false false [0]
/-- HB_MIG_ABORT_CNT.COUNT (R138): migrations aborted; saturates -/
def HB_MIG_ABORT_CNT_COUNT : Fld := .mk 97 0x40000 0x0 1 0x48 0x0 1 0 0 32 .ro false false [0]
/-- GX_BIN_TMO.T10US (R170): bin-grow timeout in units of 10 µs, 1 to 5,000; 0 is taken as 1 -/
def GX_BIN_TMO_T10US : Fld := .mk 98 0x80000 0x0 1 0x40 0x0 1 0 0 13 .rw false false [200]
/-- GX_PREEMPT_TMO.US (R170): preemption timeout in µs, 100 to 65,535; smaller values are taken as 100 -/
def GX_PREEMPT_TMO_US : Fld := .mk 99 0x80000 0x0 1 0x44 0x0 1 0 0 16 .rw false false [4000]
/-- GX_JOBS.ACTIVE (R170): render jobs accepted and not finished -/
def GX_JOBS_ACTIVE : Fld := .mk 100 0x80000 0x0 1 0x48 0x0 1 0 0 11 .ro false false [0]
/-- GX_JOBS.BINWAIT (R170): jobs in BinWait -/
def GX_JOBS_BINWAIT : Fld := .mk 101 0x80000 0x0 1 0x48 0x0 1 16 0 11 .ro false false [0]
/-- GX_SPILL_CNT.COUNT (R170): spill renders; saturates -/
def GX_SPILL_CNT_COUNT : Fld := .mk 102 0x80000 0x0 1 0x4c 0x0 1 0 0 32 .ro false false [0]
/-- GX_GROW_REQ_CNT.COUNT (R170): BIN_GROW_REQ notices; saturates -/
def GX_GROW_REQ_CNT_COUNT : Fld := .mk 103 0x80000 0x0 1 0x50 0x0 1 0 0 32 .ro false false [0]
/-- GX_GROW_LATE_CNT.COUNT (R170): late BIN_GROW; saturates -/
def GX_GROW_LATE_CNT_COUNT : Fld := .mk 104 0x80000 0x0 1 0x54 0x0 1 0 0 32 .ro false false [0]
/-- GX_PREEMPT_CNT.COUNT (R170): preemptions taken; saturates -/
def GX_PREEMPT_CNT_COUNT : Fld := .mk 105 0x80000 0x0 1 0x58 0x0 1 0 0 32 .ro false false [0]
/-- GX_ABANDON_CNT.ABANDONED (R170): jobs Abandoned; saturates -/
def GX_ABANDON_CNT_ABANDONED : Fld := .mk 106 0x80000 0x0 1 0x5c 0x0 1 0 0 16 .ro false false [0]
/-- GX_ABANDON_CNT.ABORTED (R170): jobs Aborted; saturates -/
def GX_ABANDON_CNT_ABORTED : Fld := .mk 107 0x80000 0x0 1 0x5c 0x0 1 16 0 16 .ro false false [0]
/-- GXn_STAT.STATE (R171): 0 idle; 1 binning; 2 tiling; 3 spill; 4 compute; 5 gated; 6 in reset; others reserved -/
def GXn_STAT_STATE : Fld := .mk 108 0x88000 0x1000 24 0x0 0x0 1 0 0 4 .ro false false [0]
/-- GXn_STAT.FUNC (R171): function of the job held; 127 for firmware -/
def GXn_STAT_FUNC : Fld := .mk 109 0x88000 0x1000 24 0x0 0x0 1 8 0 7 .ro false false [0]
/-- GXn_STAT.WORLD (R171): world of the job held -/
def GXn_STAT_WORLD : Fld := .mk 110 0x88000 0x1000 24 0x0 0x0 1 15 0 1 .ro false false [0]
/-- GXn_PASS.JOB (R171): job number held -/
def GXn_PASS_JOB : Fld := .mk 111 0x88000 0x1000 24 0x4 0x0 1 0 0 16 .ro false false [0]
/-- GXn_PASS.MEMBER (R171): member index run by this core (R160) -/
def GXn_PASS_MEMBER : Fld := .mk 112 0x88000 0x1000 24 0x4 0x0 1 16 0 5 .ro false false [0]
/-- GXn_PASS.MEMBERS (R171): k − 1 -/
def GXn_PASS_MEMBERS : Fld := .mk 113 0x88000 0x1000 24 0x4 0x0 1 21 0 5 .ro false false [0]
/-- GXn_TILES.LEFT (R171): tiles of the current member not yet resolved in this phase -/
def GXn_TILES_LEFT : Fld := .mk 114 0x88000 0x1000 24 0x8 0x0 1 0 0 16 .ro false false [0]
/-- GX_CTL.ELIDE_EN (R202): tile write elision allowed -/
def GX_CTL_ELIDE_EN : Fld := .mk 115 0x80000 0x0 1 0x0 0x0 1 0 0 1 .rw false false [1]
/-- GX_CTL.PREFETCH_EN (R202): texture prefetch allowed -/
def GX_CTL_PREFETCH_EN : Fld := .mk 116 0x80000 0x0 1 0x0 0x0 1 1 0 1 .rw false false [1]
/-- GX_CTL.FILL_EN (R202): compute fill on raster cores allowed -/
def GX_CTL_FILL_EN : Fld := .mk 117 0x80000 0x0 1 0x0 0x0 1 2 0 1 .rw false false [1]
/-- GX_SHC_SIZE.MIB (R202): shader cache size, 16 to 1,024 MiB, from the next power-on or Cold reach start; other values taken as the nearer limit -/
def GX_SHC_SIZE_MIB : Fld := .mk 118 0x80000 0x0 1 0x4 0x0 1 0 0 11 .rw true false [64]
/-- GX_SHC_USED.MIB (R202): cache in use, MiB -/
def GX_SHC_USED_MIB : Fld := .mk 119 0x80000 0x0 1 0x8 0x0 1 0 0 11 .ro false false [0]
/-- GX_SHC_HIT.COUNT (R202): cache hits; saturates -/
def GX_SHC_HIT_COUNT : Fld := .mk 120 0x80000 0x0 1 0xc 0x0 1 0 0 32 .ro false false [0]
/-- GX_SHC_MISS.COUNT (R202): compilations; saturates -/
def GX_SHC_MISS_COUNT : Fld := .mk 121 0x80000 0x0 1 0x10 0x0 1 0 0 32 .ro false false [0]
/-- GX_SHC_EVICT.COUNT (R202): entries evicted; saturates -/
def GX_SHC_EVICT_COUNT : Fld := .mk 122 0x80000 0x0 1 0x14 0x0 1 0 0 32 .ro false false [0]
/-- GX_CJOBS.ACTIVE (R202): compute jobs accepted and not finished -/
def GX_CJOBS_ACTIVE : Fld := .mk 123 0x80000 0x0 1 0x18 0x0 1 0 0 11 .ro false false [0]
/-- GX_PIPES.LIVE (R202): live pipelines on the chip -/
def GX_PIPES_LIVE : Fld := .mk 124 0x80000 0x0 1 0x1c 0x0 1 0 0 15 .ro false false [0]
/-- GX_FENCE_BACK_CNT.COUNT (R202): signals below the current value; saturates -/
def GX_FENCE_BACK_CNT_COUNT : Fld := .mk 125 0x80000 0x0 1 0x20 0x0 1 0 0 32 .ro false false [0]
/-- GX_COMPILER.VERSION (R202): compiler version in the cache key -/
def GX_COMPILER_VERSION : Fld := .mk 126 0x80000 0x0 1 0x24 0x0 1 0 0 32 .ro false false [0]
/-- GX_ELIDE_CNT.COUNT (R202): tile writes elided on all cores; wraps -/
def GX_ELIDE_CNT_COUNT : Fld := .mk 127 0x80000 0x0 1 0x80 0x0 1 0 0 32 .ro false false [0]
/-- GX_SIGRESET_CNT.COUNT (R202): signature headers rewritten; saturates -/
def GX_SIGRESET_CNT_COUNT : Fld := .mk 128 0x80000 0x0 1 0x84 0x0 1 0 0 32 .ro false false [0]
/-- GXn_BUSY.CYCLES (R203): CLK_GX cycles in which any quadrant issued -/
def GXn_BUSY_CYCLES : Fld := .mk 129 0x88000 0x1000 24 0x10 0x0 1 0 0 32 .ro false false [0]
/-- GXn_TEXELS.COUNT (R203): bilinear texels sampled -/
def GXn_TEXELS_COUNT : Fld := .mk 130 0x88000 0x1000 24 0x14 0x0 1 0 0 32 .ro false false [0]
/-- GXn_L1_HIT.COUNT (R203): texture L1 hits -/
def GXn_L1_HIT_COUNT : Fld := .mk 131 0x88000 0x1000 24 0x18 0x0 1 0 0 32 .ro false false [0]
/-- GXn_L1_MISS.COUNT (R203): texture L1 misses -/
def GXn_L1_MISS_COUNT : Fld := .mk 132 0x88000 0x1000 24 0x1c 0x0 1 0 0 32 .ro false false [0]
/-- GXn_PF_ISSUED.COUNT (R203): prefetch lines issued -/
def GXn_PF_ISSUED_COUNT : Fld := .mk 133 0x88000 0x1000 24 0x20 0x0 1 0 0 32 .ro false false [0]
/-- GXn_PF_USED.COUNT (R203): prefetched lines later read -/
def GXn_PF_USED_COUNT : Fld := .mk 134 0x88000 0x1000 24 0x24 0x0 1 0 0 32 .ro false false [0]
/-- GXn_RESOLVED.COUNT (R203): tiles resolved -/
def GXn_RESOLVED_COUNT : Fld := .mk 135 0x88000 0x1000 24 0x28 0x0 1 0 0 32 .ro false false [0]
/-- GXn_ELIDED.COUNT (R203): colour tile writes elided -/
def GXn_ELIDED_COUNT : Fld := .mk 136 0x88000 0x1000 24 0x2c 0x0 1 0 0 32 .ro false false [0]
/-- GXn_CWAVES.COUNT (R203): compute waves issued, fill included -/
def GXn_CWAVES_COUNT : Fld := .mk 137 0x88000 0x1000 24 0x30 0x0 1 0 0 32 .ro false false [0]
/-- GXn_ECC.CORR (R203): corrected errors; saturates -/
def GXn_ECC_CORR : Fld := .mk 138 0x88000 0x1000 24 0x34 0x0 1 0 0 16 .ro false false [0]
/-- GXn_ECC.UNCORR (R203): an uncorrectable error has occurred -/
def GXn_ECC_UNCORR : Fld := .mk 139 0x88000 0x1000 24 0x34 0x0 1 16 0 1 .w1c false false [0]

/-- Part 0 of this file's fields, in order of number. -/
def fieldsA0 : List Fld :=
  [GL_MODE_PAIR, GL_MODE_POWER, GL_MODE_ACCESS, GL_MODE_INTEG, GL_MODE_BUSY,
   GL_MODE_TWIN_SERVICE, GL_MODE_TWIN_KENNEL, GL_MODE_THERM_DIM, GL_MODE_SEQ, GL_DEG_CAUSE_SIG_DISAGREE,
   GL_DEG_CAUSE_TRIM_DEFAULT, GL_DEG_CAUSE_CHAN_RETIRED, GL_DEG_CAUSE_LOCKSTEP, GL_DEG_CAUSE_PROOF_FAIL, GL_PEND0_HEAD,
   GL_PEND0_PORT, GL_PEND0_AUDIO, GL_PEND0_SKEIN, GL_PEND1_TOUCH, RINGk_BASE_LO_ADDR,
   RINGk_BASE_HI_ADDR, RINGk_CTL_SIZE_LOG2, RINGk_CTL_EN, RINGk_CTL_WB_EN, RINGk_HEAD_PTR,
   RINGk_TAIL_PTR, RINGk_STAT_BAD_DB, RINGk_STAT_MALFORMED, RINGk_STAT_PARTIAL, RINGk_STAT_FENCE_WAIT,
   RINGk_STAT_FULL, RINGk_STAT_NOTICE_LOST, RINGk_STAT_CFG_ERR, RINGk_STAT_NOTICES_LOST, RINGk_WB_LO_ADDR,
   RINGk_WB_HI_ADDR, DB_RINGk_PTR, DB_REPLY_PTR, CE_FENCE_TMO_MS, CE_EXEC_TMO_MS]

/-- Part 1 of this file's fields, in order of number. -/
def fieldsA1 : List Fld :=
  [CE_MAL_CNT_COUNT, CE_TMO_CNT_COUNT, FNf_STAT_STATE, FNf_STAT_DRAINING, FNf_STAT_SHARE_PEND,
   FNf_STAT_HOLDING, FNf_GEN_GEN, FNf_SHARE_EPOCH_EPOCH, FNf_WEIGHT_WEIGHT, FNf_QDEPTH_DEPTH,
   FNf_QUSE_USE, FNf_MEM_QUOTA_MIB, FNf_MEM_USE_MIB, FNf_FETCH_QUOTA_MBPS, FNf_FETCH_USE_MBPS,
   FNf_SKEIN_QUOTA_MBPS, FNf_AUDIO_QUOTA, FNf_AUDIO_USE, FNf_QUOTA_REF_COUNT, FNf_CANCEL_CNT_COUNT,
   FNf_DISCARD_CNT_COUNT, FNf_WDRAW_CNT_FLR, FNf_WDRAW_CNT_DISABLE, FNf_SKEIN_USE_MBPS, FN_HOLD_MS_MS,
   FN_EPOCH_NUM_EPOCH, FN_DRAIN_SLOW_MS_MS, HB_CTL_BAL_EN, HB_CTL_OFFLOAD_EN, HB_CTL_BAL_THR,
   HB_STAT_MAP_USED, HB_STAT_MIG, HB_STAT_EVAC, HB_STAT_GATHER, HB_STAT_PAUSED,
   HB_MIG_RATE_MBPS, HB_RTCACHE_MIB, HB_RETAIN_CHAN, HB_RETAIN_SEG, HB_RETAIN_ACT_LAYOUT]

/-- Part 2 of this file's fields, in order of number. -/
def fieldsA2 : List Fld :=
  [HB_FWD_DENY_HEAD, HB_FWD_STAT_HEAD, HB_CHAN_STAT_CH, HB_MEM_CFG_MIB, HB_MEM_CFG_MISMATCH,
   HB_FREE_MIB_MIB, HB_PARKED_MIB_MIB, HB_FAULT_CNT_COUNT, HB_FAULT_INFO_REQ, HB_FAULT_INFO_FUNC,
   HB_FAULT_INFO_WORLD, HB_FAULT_INFO_REASON, HB_FAULT_INFO_WRITE, HB_FAULT_ADDR_LO_ADDR, HB_FAULT_ADDR_HI_ADDR,
   HB_STALE_CNT_COUNT, HB_MIG_CNT_COUNT, HB_MIG_ABORT_CNT_COUNT, GX_BIN_TMO_T10US, GX_PREEMPT_TMO_US,
   GX_JOBS_ACTIVE, GX_JOBS_BINWAIT, GX_SPILL_CNT_COUNT, GX_GROW_REQ_CNT_COUNT, GX_GROW_LATE_CNT_COUNT,
   GX_PREEMPT_CNT_COUNT, GX_ABANDON_CNT_ABANDONED, GX_ABANDON_CNT_ABORTED, GXn_STAT_STATE, GXn_STAT_FUNC,
   GXn_STAT_WORLD, GXn_PASS_JOB, GXn_PASS_MEMBER, GXn_PASS_MEMBERS, GXn_TILES_LEFT,
   GX_CTL_ELIDE_EN, GX_CTL_PREFETCH_EN, GX_CTL_FILL_EN, GX_SHC_SIZE_MIB, GX_SHC_USED_MIB]

/-- Part 3 of this file's fields, in order of number. -/
def fieldsA3 : List Fld :=
  [GX_SHC_HIT_COUNT, GX_SHC_MISS_COUNT, GX_SHC_EVICT_COUNT, GX_CJOBS_ACTIVE, GX_PIPES_LIVE,
   GX_FENCE_BACK_CNT_COUNT, GX_COMPILER_VERSION, GX_ELIDE_CNT_COUNT, GX_SIGRESET_CNT_COUNT, GXn_BUSY_CYCLES,
   GXn_TEXELS_COUNT, GXn_L1_HIT_COUNT, GXn_L1_MISS_COUNT, GXn_PF_ISSUED_COUNT, GXn_PF_USED_COUNT,
   GXn_RESOLVED_COUNT, GXn_ELIDED_COUNT, GXn_CWAVES_COUNT, GXn_ECC_CORR, GXn_ECC_UNCORR]

/-- All fields of this file. -/
def fieldsA : List Fld :=
  fieldsA0 ++ fieldsA1 ++ fieldsA2 ++ fieldsA3

end Sys2Proof.Machine
end

