-- ==== Sys2Proof/Machine/FieldsB.lean ====
section
/-!
DEFINITION. The register fields of the spec's register tables, one definition a field, in the order of the
spec's files. Each gives: its number, page base, page stride and instances, register offset, inner stride and
inner instances, lowest bit, bit stride of repeated fields, width, access code, RWL mark, SEC mark, and its
reset value (a list where the tables give one value an instance).
-/
namespace Sys2Proof.Machine

/-- CP_CTL.FWD_EN (R233): forward composition allowed on any head; 0 acts as every bit of HB_FWD_DENY set -/
def CP_CTL_FWD_EN : Fld := .mk 140 0x100000 0x0 1 0x0 0x0 1 0 0 1 .rw false false [1]
/-- CP_FLIP_TMO.FRAMES (R233): flip timeout in commit lines, 1 to 31; 0 is taken as 1 -/
def CP_FLIP_TMO_FRAMES : Fld := .mk 141 0x100000 0x0 1 0x4 0x0 1 0 0 5 .rw false false [8]
/-- CP_POOL.FREE (R233): layer units free -/
def CP_POOL_FREE : Fld := .mk 142 0x100000 0x0 1 0x8 0x0 1 0 0 7 .ro false false [96]
/-- CP_CHANGE.NUM (R233): last change number issued; at a wrap every slot is emptied -/
def CP_CHANGE_NUM : Fld := .mk 143 0x100000 0x0 1 0xc 0x0 1 0 0 32 .ro false false [0]
/-- CP_BUDGET_SUM.MBPS (R233): sum of fetch budgets of running heads, MB/s -/
def CP_BUDGET_SUM_MBPS : Fld := .mk 144 0x100000 0x0 1 0x10 0x0 1 0 0 17 .ro false false [0]
/-- CP_HEADn_CFG.UNITS (R234): layer units, 2 to 8; START_HEAD refuses others with BAD_PARAM -/
def CP_HEADn_CFG_UNITS : Fld := .mk 145 0x101000 0x100 16 0x0 0x0 1 0 0 4 .rwh true false [2]
/-- CP_HEADn_CFG.PROT (R234): highest slot is the protected layer -/
def CP_HEADn_CFG_PROT : Fld := .mk 146 0x101000 0x100 16 0x0 0x0 1 4 0 1 .rwh true false [0]
/-- CP_HEADn_CFG.FETCH_DEPTH (R234): quarter layers, 4 to 32 (R229) -/
def CP_HEADn_CFG_FETCH_DEPTH : Fld := .mk 147 0x101000 0x100 16 0x0 0x0 1 8 0 6 .rwh true false [10]
/-- CP_HEADn_STAT.STORE (R234): line store made -/
def CP_HEADn_STAT_STORE : Fld := .mk 148 0x101000 0x100 16 0x4 0x0 1 0 0 1 .ro false false [0]
/-- CP_HEADn_STAT.FWD (R234): forward composition in force -/
def CP_HEADn_STAT_FWD : Fld := .mk 149 0x101000 0x100 16 0x4 0x0 1 1 0 1 .ro false false [0]
/-- CP_HEADn_TONE.OUT_TF (R234): output transfer in force -/
def CP_HEADn_TONE_OUT_TF : Fld := .mk 150 0x101000 0x100 16 0x8 0x0 1 0 0 2 .ro false false [0]
/-- CP_HEADn_TONE.CURVE_EN (R234): curve in force -/
def CP_HEADn_TONE_CURVE_EN : Fld := .mk 151 0x101000 0x100 16 0x8 0x0 1 2 0 1 .ro false false [0]
/-- CP_HEADn_TONE.MATRIX_EN (R234): matrix in force -/
def CP_HEADn_TONE_MATRIX_EN : Fld := .mk 152 0x101000 0x100 16 0x8 0x0 1 3 0 1 .ro false false [0]
/-- CP_HEADn_BG_LO.RG (R234): background R in bits 15:0, G in bits 31:16 -/
def CP_HEADn_BG_LO_RG : Fld := .mk 153 0x101000 0x100 16 0xc 0x0 1 0 0 32 .ro false false [0]
/-- CP_HEADn_BG_HI.B (R234): background B -/
def CP_HEADn_BG_HI_B : Fld := .mk 154 0x101000 0x100 16 0x10 0x0 1 0 0 16 .ro false false [0]
/-- CP_HEADn_PROT_XY0.XY (R234): protected rectangle X0 in bits 15:0, Y0 in bits 31:16 -/
def CP_HEADn_PROT_XY0_XY : Fld := .mk 155 0x101000 0x100 16 0x14 0x0 1 0 0 32 .ro false true [0]
/-- CP_HEADn_PROT_XY1.XY (R234): X1 and Y1, exclusive; equal to XY0 when empty -/
def CP_HEADn_PROT_XY1_XY : Fld := .mk 156 0x101000 0x100 16 0x18 0x0 1 0 0 32 .ro false true [0]
/-- CP_HEADn_BUDGET.MBPS (R234): fetch budget, MB/s -/
def CP_HEADn_BUDGET_MBPS : Fld := .mk 157 0x101000 0x100 16 0x1c 0x0 1 0 0 17 .ro false false [0]
/-- CP_HEADn_FETCH.MBPS (R234): sum of admitted layer fetch, MB/s -/
def CP_HEADn_FETCH_MBPS : Fld := .mk 158 0x101000 0x100 16 0x20 0x0 1 0 0 17 .ro false false [0]
/-- CP_HEADn_FWD_LINES.COUNT (R234): forward lines; wraps -/
def CP_HEADn_FWD_LINES_COUNT : Fld := .mk 159 0x101000 0x100 16 0x40 0x0 1 0 0 32 .ro false false [0]
/-- CP_HEADn_DIRECT_LINES.COUNT (R234): direct lines; wraps -/
def CP_HEADn_DIRECT_LINES_COUNT : Fld := .mk 160 0x101000 0x100 16 0x44 0x0 1 0 0 32 .ro false false [0]
/-- CP_HEADn_HELD_LINES.COUNT (R234): held lines; saturates -/
def CP_HEADn_HELD_LINES_COUNT : Fld := .mk 161 0x101000 0x100 16 0x48 0x0 1 0 0 32 .ro false false [0]
/-- CP_HEADn_SPEC_DONE.COUNT (R234): lines composed forward; wraps -/
def CP_HEADn_SPEC_DONE_COUNT : Fld := .mk 162 0x101000 0x100 16 0x4c 0x0 1 0 0 32 .ro false false [0]
/-- CP_HEADn_SPEC_MISS.COUNT (R234): forward lines overwritten or emptied before use; wraps -/
def CP_HEADn_SPEC_MISS_COUNT : Fld := .mk 163 0x101000 0x100 16 0x50 0x0 1 0 0 32 .ro false false [0]
/-- CP_HEADn_DEFER.COUNT (R234): flips deferred; saturates -/
def CP_HEADn_DEFER_COUNT : Fld := .mk 164 0x101000 0x100 16 0x54 0x0 1 0 0 32 .ro false false [0]
/-- CP_HEADn_DROP.COUNT (R234): flips dropped; saturates -/
def CP_HEADn_DROP_COUNT : Fld := .mk 165 0x101000 0x100 16 0x58 0x0 1 0 0 32 .ro false false [0]
/-- CP_Ln_OWNER.HEAD (R235): head holding the unit -/
def CP_Ln_OWNER_HEAD : Fld := .mk 166 0x110000 0x100 96 0x0 0x0 1 0 0 4 .ro false false [0]
/-- CP_Ln_OWNER.SLOT (R235): slot within the head -/
def CP_Ln_OWNER_SLOT : Fld := .mk 167 0x110000 0x100 96 0x0 0x0 1 4 0 3 .ro false false [0]
/-- CP_Ln_OWNER.BOUND (R235): unit taken by a running head -/
def CP_Ln_OWNER_BOUND : Fld := .mk 168 0x110000 0x100 96 0x0 0x0 1 7 0 1 .ro false false [0]
/-- CP_Ln_OWNER.FUNC (R235): owning function; 127 while a held layer is fetched as firmware (R114) -/
def CP_Ln_OWNER_FUNC : Fld := .mk 169 0x110000 0x100 96 0x0 0x0 1 8 0 7 .ro false false [0]
/-- CP_Ln_OWNER.WORLD (R235): 1 for the protected slot -/
def CP_Ln_OWNER_WORLD : Fld := .mk 170 0x110000 0x100 96 0x0 0x0 1 15 0 1 .ro false false [0]
/-- CP_Ln_OWNER.ASSIGNED (R235): assigned by LAYER_ASSIGN -/
def CP_Ln_OWNER_ASSIGNED : Fld := .mk 171 0x110000 0x100 96 0x0 0x0 1 16 0 1 .ro false false [0]
/-- CP_Ln_STAT.SET (R235): a layer is set -/
def CP_Ln_STAT_SET : Fld := .mk 172 0x110000 0x100 96 0x4 0x0 1 0 0 1 .ro false false [0]
/-- CP_Ln_STAT.HELD (R235): the layer is held (R94) -/
def CP_Ln_STAT_HELD : Fld := .mk 173 0x110000 0x100 96 0x4 0x0 1 1 0 1 .ro false false [0]
/-- CP_Ln_STAT.CLIPPED (R235): clipped by the protected rectangle -/
def CP_Ln_STAT_CLIPPED : Fld := .mk 174 0x110000 0x100 96 0x4 0x0 1 2 0 1 .ro false false [0]
/-- CP_Ln_STAT.QUEUED (R235): changes queued, 0 to 4 -/
def CP_Ln_STAT_QUEUED : Fld := .mk 175 0x110000 0x100 96 0x4 0x0 1 3 0 3 .ro false false [0]
/-- CP_Ln_TAG.NUM (R235): change number in force -/
def CP_Ln_TAG_NUM : Fld := .mk 176 0x110000 0x100 96 0x8 0x0 1 0 0 32 .ro false false [0]
/-- CP_Ln_FETCH.MBPS (R235): admitted fetch rate, MB/s -/
def CP_Ln_FETCH_MBPS : Fld := .mk 177 0x110000 0x100 96 0xc 0x0 1 0 0 17 .ro false false [0]
/-- HDn_CTL.PPC (R240): pixels per enable: 0b00 one, 0b01 two, 0b10 four -/
def HDn_CTL_PPC : Fld := .mk 178 0x140000 0x1000 16 0x0 0x0 1 0 0 2 .rwh true false [0]
/-- HDn_CTL.BPC (R240): bits per channel at the port: 0b00 6, 0b01 8, 0b10 10 -/
def HDn_CTL_BPC : Fld := .mk 179 0x140000 0x1000 16 0x0 0x0 1 2 0 2 .rwh true false [1]
/-- HDn_CTL.HSYNC_POL (R240): 1: horizontal sync active high -/
def HDn_CTL_HSYNC_POL : Fld := .mk 180 0x140000 0x1000 16 0x0 0x0 1 4 0 1 .rwh true false [0]
/-- HDn_CTL.VSYNC_POL (R240): 1: vertical sync active high -/
def HDn_CTL_VSYNC_POL : Fld := .mk 181 0x140000 0x1000 16 0x0 0x0 1 5 0 1 .rwh true false [0]
/-- HDn_STAT.RUN (R240): head running (R44) -/
def HDn_STAT_RUN : Fld := .mk 182 0x140000 0x1000 16 0x4 0x0 1 0 0 1 .ro false false [0]
/-- HDn_STAT.PEND_RESTART (R240): an RWH write was ignored while running -/
def HDn_STAT_PEND_RESTART : Fld := .mk 183 0x140000 0x1000 16 0x4 0x0 1 1 0 1 .w1c false false [0]
/-- HDn_STAT.STATE (R240): head state (R241) -/
def HDn_STAT_STATE : Fld := .mk 184 0x140000 0x1000 16 0x4 0x0 1 2 0 3 .ro false false [0]
/-- HDn_STAT.SR (R240): 0b00 live, 0b01 entering, 0b10 in self-refresh, 0b11 leaving -/
def HDn_STAT_SR : Fld := .mk 185 0x140000 0x1000 16 0x4 0x0 1 5 0 2 .ro false false [0]
/-- HDn_PIXINC.INC (R240): accumulator increment (R238) -/
def HDn_PIXINC_INC : Fld := .mk 186 0x140000 0x1000 16 0x8 0x0 1 0 0 32 .rwh true false [0]
/-- HDn_HTIME0.HACTIVE (R240): active pixels per line -/
def HDn_HTIME0_HACTIVE : Fld := .mk 187 0x140000 0x1000 16 0xc 0x0 1 0 0 16 .rwh true false [0]
/-- HDn_HTIME0.HTOTAL (R240): pixels per line -/
def HDn_HTIME0_HTOTAL : Fld := .mk 188 0x140000 0x1000 16 0xc 0x0 1 16 0 16 .rwh true false [0]
/-- HDn_HTIME1.HFP (R240): horizontal front porch -/
def HDn_HTIME1_HFP : Fld := .mk 189 0x140000 0x1000 16 0x10 0x0 1 0 0 16 .rwh true false [0]
/-- HDn_HTIME1.HSW (R240): horizontal sync width -/
def HDn_HTIME1_HSW : Fld := .mk 190 0x140000 0x1000 16 0x10 0x0 1 16 0 16 .rwh true false [0]
/-- HDn_VTIME0.VACTIVE (R240): active lines -/
def HDn_VTIME0_VACTIVE : Fld := .mk 191 0x140000 0x1000 16 0x14 0x0 1 0 0 16 .rwh true false [0]
/-- HDn_VTIME0.VSW (R240): vertical sync lines -/
def HDn_VTIME0_VSW : Fld := .mk 192 0x140000 0x1000 16 0x14 0x0 1 16 0 16 .rwh true false [0]
/-- HDn_VTIME1.VBP (R240): vertical back porch -/
def HDn_VTIME1_VBP : Fld := .mk 193 0x140000 0x1000 16 0x18 0x0 1 0 0 16 .rwh true false [0]
/-- HDn_VRR.VFP_MIN (R240): lowest front porch -/
def HDn_VRR_VFP_MIN : Fld := .mk 194 0x140000 0x1000 16 0x1c 0x0 1 0 0 16 .rwh true false [1]
/-- HDn_VRR.VFP_MAX (R240): highest front porch; equal to VFP_MIN for a fixed rate -/
def HDn_VRR_VFP_MAX : Fld := .mk 195 0x140000 0x1000 16 0x1c 0x0 1 16 0 16 .rwh true false [1]
/-- HDn_COMMIT.LINE (R240): commit line; 0xFFFF selects VACTIVE -/
def HDn_COMMIT_LINE : Fld := .mk 196 0x140000 0x1000 16 0x20 0x0 1 0 0 16 .rwh true false [65535]
/-- HDn_VFP.NEXT (R240): shadow front porch -/
def HDn_VFP_NEXT : Fld := .mk 197 0x140000 0x1000 16 0x40 0x0 1 0 0 16 .rw false false [1]
/-- HDn_VFP.ACT (R240): front porch in force -/
def HDn_VFP_ACT : Fld := .mk 198 0x140000 0x1000 16 0x40 0x0 1 16 0 16 .ro false false [0]
/-- HDn_OUT.DITHER (R240): shadow: 0b00 round, 0b01 spatial, 0b10 spatio-temporal -/
def HDn_OUT_DITHER : Fld := .mk 199 0x140000 0x1000 16 0x44 0x0 1 0 0 2 .rw false false [0]
/-- HDn_OUT.BLANK (R240): shadow: 1 sends black in every active pixel -/
def HDn_OUT_BLANK : Fld := .mk 200 0x140000 0x1000 16 0x44 0x0 1 2 0 1 .rw false false [0]
/-- HDn_ARM.ARM (R240): normal arm; reads 1 until a commit takes it -/
def HDn_ARM_ARM : Fld := .mk 201 0x140000 0x1000 16 0x48 0x0 1 0 0 1 .w1s false false [0]
/-- HDn_COMMIT_SEQ.SEQ (R240): commits taken since START_HEAD; wraps -/
def HDn_COMMIT_SEQ_SEQ : Fld := .mk 202 0x140000 0x1000 16 0x4c 0x0 1 0 0 32 .ro false false [0]
/-- HDn_COMMIT_FRAME.FRAME (R240): first frame the latest commit applies to -/
def HDn_COMMIT_FRAME_FRAME : Fld := .mk 203 0x140000 0x1000 16 0x50 0x0 1 0 0 32 .ro false false [0]
/-- HDn_FRAME.FRAME (R240): frame count since START_HEAD, incremented at line 0; wraps -/
def HDn_FRAME_FRAME : Fld := .mk 204 0x140000 0x1000 16 0x54 0x0 1 0 0 32 .ro false false [0]
/-- HDn_SCANPOS.LINE (R240): current line -/
def HDn_SCANPOS_LINE : Fld := .mk 205 0x140000 0x1000 16 0x58 0x0 1 0 0 16 .ro false false [0]
/-- HDn_SCANPOS.PIXEL (R240): current pixel -/
def HDn_SCANPOS_PIXEL : Fld := .mk 206 0x140000 0x1000 16 0x58 0x0 1 16 0 16 .ro false false [0]
/-- HDn_UNDERRUN.COUNT (R240): lines cut short by an empty line buffer; saturates -/
def HDn_UNDERRUN_COUNT : Fld := .mk 207 0x140000 0x1000 16 0x5c 0x0 1 0 0 32 .ro false false [0]
/-- HDn_DSC.EN (R240): DSC on -/
def HDn_DSC_EN : Fld := .mk 208 0x140000 0x1000 16 0x60 0x0 1 0 0 1 .rwh true false [0]
/-- HDn_DSC.ENC (R240): encoder used, or the first of a pair -/
def HDn_DSC_ENC : Fld := .mk 209 0x140000 0x1000 16 0x60 0x0 1 1 0 3 .rwh true false [0]
/-- HDn_DSC.PAIR (R240): encoders ENC and ENC + 1 used together -/
def HDn_DSC_PAIR : Fld := .mk 210 0x140000 0x1000 16 0x60 0x0 1 4 0 1 .rwh true false [0]
/-- HDn_DSC.SLICES (R240): slices per line, as log2, 0 to 3 -/
def HDn_DSC_SLICES : Fld := .mk 211 0x140000 0x1000 16 0x60 0x0 1 5 0 3 .rwh true false [0]
/-- HDn_DSC.BPP (R240): compressed bits per pixel in sixteenths, 128 to 384 -/
def HDn_DSC_BPP : Fld := .mk 212 0x140000 0x1000 16 0x60 0x0 1 8 0 10 .rwh true false [0]
/-- HDn_DSC.SLICE_H (R240): slice height in lines, 8 to 1,023 -/
def HDn_DSC_SLICE_H : Fld := .mk 213 0x140000 0x1000 16 0x60 0x0 1 18 0 10 .rwh true false [0]
/-- HDn_CHKk_XY0.XY (R240): shadow: window k, X0 in bits 15:0, Y0 in bits 31:16 -/
def HDn_CHKk_XY0_XY : Fld := .mk 214 0x140000 0x1000 16 0x100 0x10 4 0 0 32 .rw false true [0]
/-- HDn_CHKk_XY1.XY (R240): shadow: X1 and Y1, exclusive -/
def HDn_CHKk_XY1_XY : Fld := .mk 215 0x140000 0x1000 16 0x104 0x10 4 0 0 32 .rw false true [0]
/-- HDn_CHKk_EXP.EXP (R240): shadow: expected value -/
def HDn_CHKk_EXP_EXP : Fld := .mk 216 0x140000 0x1000 16 0x108 0x10 4 0 0 32 .rw false true [0]
/-- HDn_CHKk_VAL.VAL (R240): value of the last complete frame -/
def HDn_CHKk_VAL_VAL : Fld := .mk 217 0x140000 0x1000 16 0x10c 0x10 4 0 0 32 .ro false true [0]
/-- HDn_CHKCTL.EN (R240): shadow: bit k computes window k -/
def HDn_CHKCTL_EN : Fld := .mk 218 0x140000 0x1000 16 0x140 0x0 1 0 0 4 .rw false true [0]
/-- HDn_CHKCTL.CMP (R240): shadow: bit 4 + k compares window k -/
def HDn_CHKCTL_CMP : Fld := .mk 219 0x140000 0x1000 16 0x140 0x0 1 4 0 4 .rw false true [0]
/-- HDn_CHKCTL.LIMIT (R240): consecutive mismatching frames that raise FAULT, 1 to 15; 0 is taken as 1 -/
def HDn_CHKCTL_LIMIT : Fld := .mk 220 0x140000 0x1000 16 0x140 0x0 1 8 0 4 .rw false true [2]
/-- HDn_CHKSTAT.MISM (R240): bit k: window k mismatched in some frame -/
def HDn_CHKSTAT_MISM : Fld := .mk 221 0x140000 0x1000 16 0x144 0x0 1 0 0 4 .w1c false true [0]
/-- HDn_CHKSTAT.STREAK (R240): highest current run of mismatching frames over the windows -/
def HDn_CHKSTAT_STREAK : Fld := .mk 222 0x140000 0x1000 16 0x144 0x0 1 8 0 8 .ro false true [0]
/-- HDn_CHKSTAT.FAULT (R240): this head holds SAFE_FAULT_N asserted -/
def HDn_CHKSTAT_FAULT : Fld := .mk 223 0x140000 0x1000 16 0x144 0x0 1 16 0 1 .w1c false true [0]
/-- HDn_SARM.ARM (R240): secure arm; reads 1 until a commit takes it -/
def HDn_SARM_ARM : Fld := .mk 224 0x140000 0x1000 16 0x148 0x0 1 0 0 1 .w1s false true [0]
/-- DXn_CTL.TYPE (R257): 0b000 DP; 0b001 eDP; 0b010 DSI D-PHY; 0b011 DSI C-PHY; 0b100 LVDS; a type the port lacks is refused -/
def DXn_CTL_TYPE : Fld := .mk 225 0x180000 0x1000 10 0x0 0x0 1 0 0 3 .rwh true false [0, 0, 0, 0, 2, 2, 2, 2, 4, 4]
/-- DXn_CTL.LANES (R257): lanes, trios, or 1 single and 2 dual LVDS link -/
def DXn_CTL_LANES : Fld := .mk 226 0x180000 0x1000 10 0x0 0x0 1 4 0 3 .rwh true false [4]
/-- DXn_CTL.RATE (R257): DP and eDP highest rate: 0 RBR, 1 HBR, 2 HBR2, 3 HBR3, 4 UHBR10, 5 UHBR13.5, 6 2.16, 7 2.43, 8 3.24, 9 4.32 Gb/s -/
def DXn_CTL_RATE : Fld := .mk 227 0x180000 0x1000 10 0x0 0x0 1 8 0 4 .rwh true false [3]
/-- DXn_CTL.MST (R257): DP multi-stream -/
def DXn_CTL_MST : Fld := .mk 228 0x180000 0x1000 10 0x0 0x0 1 12 0 1 .rwh true false [0]
/-- DXn_CTL.SSC (R257): spread-spectrum clocking on DP and eDP -/
def DXn_CTL_SSC : Fld := .mk 229 0x180000 0x1000 10 0x0 0x0 1 13 0 1 .rwh true false [0]
/-- DXn_CTL.CMD (R257): DSI command mode -/
def DXn_CTL_CMD : Fld := .mk 230 0x180000 0x1000 10 0x0 0x0 1 14 0 1 .rwh true false [0]
/-- DXn_CTL.MAPPING (R257): LVDS: 0 VESA, 1 JEIDA -/
def DXn_CTL_MAPPING : Fld := .mk 231 0x180000 0x1000 10 0x0 0x0 1 15 0 1 .rwh true false [0]
/-- DXn_STAT.RUN (R257): port running -/
def DXn_STAT_RUN : Fld := .mk 232 0x180000 0x1000 10 0x4 0x0 1 0 0 1 .ro false false [0]
/-- DXn_STAT.PEND_RESTART (R257): an RWH write was ignored while running -/
def DXn_STAT_PEND_RESTART : Fld := .mk 233 0x180000 0x1000 10 0x4 0x0 1 1 0 1 .w1c false false [0]
/-- DXn_STAT.LINK_UP (R257): link trained or started -/
def DXn_STAT_LINK_UP : Fld := .mk 234 0x180000 0x1000 10 0x4 0x0 1 2 0 1 .ro false false [0]
/-- DXn_STAT.HPD (R257): hot-plug level, DP and eDP -/
def DXn_STAT_HPD : Fld := .mk 235 0x180000 0x1000 10 0x4 0x0 1 3 0 1 .ro false false [0]
/-- DXn_STAT.TRAIN_FAIL (R257): training fell short of the need -/
def DXn_STAT_TRAIN_FAIL : Fld := .mk 236 0x180000 0x1000 10 0x4 0x0 1 4 0 1 .w1c false false [0]
/-- DXn_STAT.LANES_ACT (R257): lanes or trios in use -/
def DXn_STAT_LANES_ACT : Fld := .mk 237 0x180000 0x1000 10 0x4 0x0 1 5 0 3 .ro false false [0]
/-- DXn_STAT.RATE_ACT (R257): rate code in use -/
def DXn_STAT_RATE_ACT : Fld := .mk 238 0x180000 0x1000 10 0x4 0x0 1 8 0 4 .ro false false [0]
/-- DXn_MAP.HEADs (R257): head of stream s, s = 0 to 3 -/
def DXn_MAP_HEAD : Fld := .mk 239 0x180000 0x1000 10 0x8 0x0 4 0 8 4 .rwh true false [0]
/-- DXn_MAP.VALIDs (R257): stream s mapped -/
def DXn_MAP_VALID : Fld := .mk 240 0x180000 0x1000 10 0x8 0x0 4 7 8 1 .rwh true false [0]
/-- DXn_DSIRATE.RATE (R257): DSI lane rate in Mb/s, or trio rate in Msym/s -/
def DXn_DSIRATE_RATE : Fld := .mk 241 0x180000 0x1000 10 0xc 0x0 1 0 0 13 .rwh true false [1000]
/-- DXn_LINKERR.COUNT (R257): link losses and failed trainings; saturates -/
def DXn_LINKERR_COUNT : Fld := .mk 242 0x180000 0x1000 10 0x10 0x0 1 0 0 32 .ro false false [0]
/-- TPn_CFG.BUS (R267): 0b00 I2C, 0b01 I3C, 0b10 SPI; 0b11 refused by START_TOUCH -/
def TPn_CFG_BUS : Fld := .mk 243 0x1a1000 0x100 16 0x0 0x0 1 0 0 2 .rwh true false [0]
/-- TPn_CFG.ADDR (R267): 7-bit target address, I2C and I3C static address -/
def TPn_CFG_ADDR : Fld := .mk 244 0x1a1000 0x100 16 0x0 0x0 1 2 0 7 .rwh true false [0]
/-- TPn_CFG.HEAD (R267): bound head -/
def TPn_CFG_HEAD : Fld := .mk 245 0x1a1000 0x100 16 0x0 0x0 1 9 0 4 .rwh true false [0]
/-- TPn_CFG.INT_MODE (R267): as R262; 0b11 refused -/
def TPn_CFG_INT_MODE : Fld := .mk 246 0x1a1000 0x100 16 0x0 0x0 1 13 0 2 .rwh true false [0]
/-- TPn_CFG.POLL (R267): poll period in units of 100 µs, 1 to 255 -/
def TPn_CFG_POLL : Fld := .mk 247 0x1a1000 0x100 16 0x0 0x0 1 16 0 8 .rwh true false [10]
/-- TPn_CFG.CS_GPIO (R267): SPI chip-select GPIO, 0 to 47 -/
def TPn_CFG_CS_GPIO : Fld := .mk 248 0x1a1000 0x100 16 0x0 0x0 1 24 0 6 .rwh true false [0]
/-- TPn_STAT.RUN (R267): port running (R44) -/
def TPn_STAT_RUN : Fld := .mk 249 0x1a1000 0x100 16 0x4 0x0 1 0 0 1 .ro false false [0]
/-- TPn_STAT.PEND_RESTART (R267): an RWH write was ignored while running -/
def TPn_STAT_PEND_RESTART : Fld := .mk 250 0x1a1000 0x100 16 0x4 0x0 1 1 0 1 .w1c false false [0]
/-- TPn_STAT.STATE (R267): as R266 -/
def TPn_STAT_STATE : Fld := .mk 251 0x1a1000 0x100 16 0x4 0x0 1 2 0 3 .ro false false [0]
/-- TPn_STAT.CONTACTS (R267): contacts tracked -/
def TPn_STAT_CONTACTS : Fld := .mk 252 0x1a1000 0x100 16 0x4 0x0 1 5 0 4 .ro false false [0]
/-- TPn_BUS.SPEED (R267): I2C: 0 100 kHz, 1 400 kHz, 2 1,000 kHz; SPI: clock in MHz, 1 to 25; ignored for I3C -/
def TPn_BUS_SPEED : Fld := .mk 253 0x1a1000 0x100 16 0x8 0x0 1 0 0 8 .rwh true false [1]
/-- TPn_BUS.SPI_MODE (R267): CPOL in bit 9, CPHA in bit 8 -/
def TPn_BUS_SPI_MODE : Fld := .mk 254 0x1a1000 0x100 16 0x8 0x0 1 8 0 2 .rwh true false [0]
/-- TPn_DEF.FUNC (R267): function that receives contacts hitting no region; 127 drops them -/
def TPn_DEF_FUNC : Fld := .mk 255 0x1a1000 0x100 16 0xc 0x0 1 0 0 7 .rw false false [127]
/-- TPn_TPL0.REG (R267): register address written before the read -/
def TPn_TPL0_REG : Fld := .mk 256 0x1a1000 0x100 16 0x20 0x0 1 0 0 16 .rwh true false [0]
/-- TPn_TPL0.REG_LEN (R267): 0, 1 or 2 address bytes; a 2-byte address is sent high byte first -/
def TPn_TPL0_REG_LEN : Fld := .mk 257 0x1a1000 0x100 16 0x20 0x0 1 16 0 2 .rwh true false [0]
/-- TPn_TPL0.BE (R267): multi-byte fields are big-endian -/
def TPn_TPL0_BE : Fld := .mk 258 0x1a1000 0x100 16 0x20 0x0 1 18 0 1 .rwh true false [0]
/-- TPn_TPL1.READ_LEN (R267): bytes read, minus 1 -/
def TPn_TPL1_READ_LEN : Fld := .mk 259 0x1a1000 0x100 16 0x24 0x0 1 0 0 8 .rwh true false [0]
/-- TPn_TPL1.CNT (R267): count field descriptor (R263) -/
def TPn_TPL1_CNT : Fld := .mk 260 0x1a1000 0x100 16 0x24 0x0 1 16 0 16 .rwh true false [65535]
/-- TPn_TPL2.REC_OFF (R267): offset of record 0 -/
def TPn_TPL2_REC_OFF : Fld := .mk 261 0x1a1000 0x100 16 0x28 0x0 1 0 0 8 .rwh true false [0]
/-- TPn_TPL2.REC_STRIDE (R267): bytes per record -/
def TPn_TPL2_REC_STRIDE : Fld := .mk 262 0x1a1000 0x100 16 0x28 0x0 1 8 0 8 .rwh true false [0]
/-- TPn_TPL2.MAX_REC (R267): records, 1 to 10 -/
def TPn_TPL2_MAX_REC : Fld := .mk 263 0x1a1000 0x100 16 0x28 0x0 1 16 0 4 .rwh true false [1]
/-- TPn_TPL3.ID (R267): contact ID field -/
def TPn_TPL3_ID : Fld := .mk 264 0x1a1000 0x100 16 0x2c 0x0 1 0 0 16 .rwh true false [65535]
/-- TPn_TPL3.TOUCH (R267): contact present field -/
def TPn_TPL3_TOUCH : Fld := .mk 265 0x1a1000 0x100 16 0x2c 0x0 1 16 0 16 .rwh true false [65535]
/-- TPn_TPL4.X (R267): raw X field -/
def TPn_TPL4_X : Fld := .mk 266 0x1a1000 0x100 16 0x30 0x0 1 0 0 16 .rwh true false [0]
/-- TPn_TPL4.Y (R267): raw Y field -/
def TPn_TPL4_Y : Fld := .mk 267 0x1a1000 0x100 16 0x30 0x0 1 16 0 16 .rwh true false [0]
/-- TPn_TPL5.P (R267): pressure field -/
def TPn_TPL5_P : Fld := .mk 268 0x1a1000 0x100 16 0x34 0x0 1 0 0 16 .rwh true false [65535]
/-- TPn_TPL6.ACK_REG (R267): acknowledge register -/
def TPn_TPL6_ACK_REG : Fld := .mk 269 0x1a1000 0x100 16 0x38 0x0 1 0 0 16 .rwh true false [0]
/-- TPn_TPL6.ACK_VAL (R267): acknowledge value -/
def TPn_TPL6_ACK_VAL : Fld := .mk 270 0x1a1000 0x100 16 0x38 0x0 1 16 0 8 .rwh true false [0]
/-- TPn_TPL6.ACK_EN (R267): acknowledge write after each read -/
def TPn_TPL6_ACK_EN : Fld := .mk 271 0x1a1000 0x100 16 0x38 0x0 1 24 0 1 .rwh true false [0]
/-- TPn_XFk.COEF (R267): transform coefficient, signed Q16.16 -/
def TPn_XFk_COEF : Fld := .mk 272 0x1a1000 0x100 16 0x40 0x4 9 0 0 32 .rwh true false [65536, 0, 0, 0, 65536, 0, 0, 0, 65536]
/-- TPn_REPORTS.COUNT (R267): reports read; wraps -/
def TPn_REPORTS_COUNT : Fld := .mk 273 0x1a1000 0x100 16 0x70 0x0 1 0 0 32 .ro false false [0]
/-- TPn_ERR.BUS (R267): failed read attempts; saturates -/
def TPn_ERR_BUS : Fld := .mk 274 0x1a1000 0x100 16 0x74 0x0 1 0 0 16 .ro false false [0]
/-- TPn_ERR.PARSE (R267): parse errors; saturates -/
def TPn_ERR_PARSE : Fld := .mk 275 0x1a1000 0x100 16 0x74 0x0 1 16 0 16 .ro false false [0]
/-- TPn_DROP.COUNT (R267): contacts dropped: off glass, no owner, head not running, no tracking entry; saturates -/
def TPn_DROP_COUNT : Fld := .mk 276 0x1a1000 0x100 16 0x78 0x0 1 0 0 32 .ro false false [0]
/-- TH_CTL.HRT_BANK (R275): half of the hit-region table shown in the window (R268) -/
def TH_CTL_HRT_BANK : Fld := .mk 277 0x1a0000 0x0 1 0x0 0x0 1 0 0 1 .rw false false [0]
/-- TH_HRT_USED.USED (R275): VALID entries -/
def TH_HRT_USED_USED : Fld := .mk 278 0x1a0000 0x0 1 0x4 0x0 1 0 0 13 .ro false false [0]
/-- TH_HRT_USED.SEC (R275): VALID secure entries -/
def TH_HRT_USED_SEC : Fld := .mk 279 0x1a0000 0x0 1 0x4 0x0 1 16 0 9 .ro false false [0]
/-- TH_SEC_CNT.COUNT (R275): contacts delivered to the secure world; wraps -/
def TH_SEC_CNT_COUNT : Fld := .mk 280 0x1a0000 0x0 1 0x8 0x0 1 0 0 32 .ro false false [0]
/-- TH_LAT_MAX.T100NS (R275): longest end-of-report to notice delay, in units of 0.1 µs, since the last Cold reach reset -/
def TH_LAT_MAX_T100NS : Fld := .mk 281 0x1a0000 0x0 1 0xc 0x0 1 0 0 16 .ro false false [0]
/-- HP_WAVEw.OFFSET (R277): first sample in the store -/
def HP_WAVEw_OFFSET : Fld := .mk 282 0x1b1000 0x10 256 0x0 0x0 1 0 0 17 .ro false false [0]
/-- HP_WAVEw.LEN (R277): samples, 1 to 131,072 -/
def HP_WAVEw_LEN : Fld := .mk 283 0x1b1000 0x10 256 0x4 0x0 1 0 0 18 .ro false false [0]
/-- HP_WAVEw.MODE (R277): 0b00 not loaded; 0b01 RESONANT: unsigned envelope at 1 kHz, driven at the tracked resonance; 0b10 SAMPLED: signed drive samples; 0b11 reserved -/
def HP_WAVEw_MODE : Fld := .mk 284 0x1b1000 0x10 256 0x8 0x0 1 0 0 2 .ro false false [0]
/-- HP_WAVEw.RATE (R277): SAMPLED only: 0 4 kHz, 1 8 kHz, 2 16 kHz -/
def HP_WAVEw_RATE : Fld := .mk 285 0x1b1000 0x10 256 0x8 0x0 1 2 0 3 .ro false false [0]
/-- HP_WAVEw.ATTACK (R277): RESONANT: attack cycles, 0 to 15; SAMPLED: attack in ms -/
def HP_WAVEw_ATTACK : Fld := .mk 286 0x1b1000 0x10 256 0x8 0x0 1 8 0 4 .ro false false [0]
/-- HP_WAVEw.BRAKE (R277): RESONANT: brake cycles, at most; SAMPLED: short-state brake in ms, 0 to 8 -/
def HP_WAVEw_BRAKE : Fld := .mk 287 0x1b1000 0x10 256 0x8 0x0 1 12 0 4 .ro false false [0]
/-- HPn_CFG.TYPE (R285): 0 LRA, 1 VCA -/
def HPn_CFG_TYPE : Fld := .mk 288 0x1b2000 0x100 16 0x0 0x0 1 0 0 1 .ro false false [0]
/-- HPn_CFG.CAL_AUTO (R285): calibrate at start (R280) -/
def HPn_CFG_CAL_AUTO : Fld := .mk 289 0x1b2000 0x100 16 0x0 0x0 1 1 0 1 .ro false false [1]
/-- HPn_CFG.PWM_KHZ (R285): carrier in kHz, 24 to 96 -/
def HPn_CFG_PWM_KHZ : Fld := .mk 290 0x1b2000 0x100 16 0x0 0x0 1 8 0 7 .ro false false [48]
/-- HPn_LIMIT.AMP_MAX (R285): sustain amplitude limit -/
def HPn_LIMIT_AMP_MAX : Fld := .mk 291 0x1b2000 0x100 16 0x4 0x0 1 0 0 12 .ro false false [2048]
/-- HPn_LIMIT.ATT_GAIN (R285): attack overdrive, (8 + ATT_GAIN) / 8 -/
def HPn_LIMIT_ATT_GAIN : Fld := .mk 292 0x1b2000 0x100 16 0x4 0x0 1 12 0 4 .ro false false [4]
/-- HPn_LIMIT.DUR_MAX (R285): longest effect, units of 10 ms -/
def HPn_LIMIT_DUR_MAX : Fld := .mk 293 0x1b2000 0x100 16 0x4 0x0 1 16 0 8 .ro false false [50]
/-- HPn_LIMIT.OPEN_THR (R285): open-load threshold, units of 4 ADC codes -/
def HPn_LIMIT_OPEN_THR : Fld := .mk 294 0x1b2000 0x100 16 0x4 0x0 1 24 0 8 .ro false false [16]
/-- HPn_FBAND.FMIN (R285): lowest resonance, Hz -/
def HPn_FBAND_FMIN : Fld := .mk 295 0x1b2000 0x100 16 0x8 0x0 1 0 0 9 .ro false false [60]
/-- HPn_FBAND.FMAX (R285): highest resonance, Hz -/
def HPn_FBAND_FMAX : Fld := .mk 296 0x1b2000 0x100 16 0x8 0x0 1 16 0 9 .ro false false [400]
/-- HPn_OWNER.FUNC (R285): owning function, 0 to 64 -/
def HPn_OWNER_FUNC : Fld := .mk 297 0x1b2000 0x100 16 0xc 0x0 1 0 0 7 .rw false false [0]
/-- HPn_STAT.PHASE (R285): as R279 -/
def HPn_STAT_PHASE : Fld := .mk 298 0x1b2000 0x100 16 0x10 0x0 1 0 0 3 .ro false false [0]
/-- HPn_STAT.LATCHED (R285): a trigger is latched -/
def HPn_STAT_LATCHED : Fld := .mk 299 0x1b2000 0x100 16 0x10 0x0 1 3 0 1 .ro false false [0]
/-- HPn_STAT.LATCH_SEC (R285): the latched trigger is the secure worlds -/
def HPn_STAT_LATCH_SEC : Fld := .mk 300 0x1b2000 0x100 16 0x10 0x0 1 4 0 1 .ro false false [0]
/-- HPn_STAT.TRACK (R285): fall-back tracking in use -/
def HPn_STAT_TRACK : Fld := .mk 301 0x1b2000 0x100 16 0x10 0x0 1 5 0 1 .ro false false [0]
/-- HPn_STAT.F0_VALID (R285): calibrated f0 held -/
def HPn_STAT_F0_VALID : Fld := .mk 302 0x1b2000 0x100 16 0x10 0x0 1 6 0 1 .ro false false [0]
/-- HPn_STAT.DRIFT (R285): drift beyond 5 % seen -/
def HPn_STAT_DRIFT : Fld := .mk 303 0x1b2000 0x100 16 0x10 0x0 1 7 0 1 .w1c false false [0]
/-- HPn_STAT.MISSING (R285): open load; cleared by a successful calibration -/
def HPn_STAT_MISSING : Fld := .mk 304 0x1b2000 0x100 16 0x10 0x0 1 8 0 1 .ro false false [0]
/-- HPn_STAT.STALLED (R285): a stall has occurred -/
def HPn_STAT_STALLED : Fld := .mk 305 0x1b2000 0x100 16 0x10 0x0 1 9 0 1 .w1c false false [0]
/-- HPn_F0.F0 (R285): resonance in units of 0.1 Hz -/
def HPn_F0_F0 : Fld := .mk 306 0x1b2000 0x100 16 0x14 0x0 1 0 0 13 .ro false false [0]
/-- HPn_F0.BEMF_REF (R285): expected back-EMF current at AMP_MAX, ADC codes -/
def HPn_F0_BEMF_REF : Fld := .mk 307 0x1b2000 0x100 16 0x14 0x0 1 16 0 12 .ro false false [0]
/-- HPn_TRIG.WAVE (R285): waveform -/
def HPn_TRIG_WAVE : Fld := .mk 308 0x1b2000 0x100 16 0x18 0x0 1 0 0 8 .wo false false [0]
/-- HPn_TRIG.SCALE (R285): amplitude scale, 255 is 1.0 -/
def HPn_TRIG_SCALE : Fld := .mk 309 0x1b2000 0x100 16 0x18 0x0 1 8 0 8 .wo false false [0]
/-- HPn_TRIG.GO (R285): 1 triggers the effect as F0 -/
def HPn_TRIG_GO : Fld := .mk 310 0x1b2000 0x100 16 0x18 0x0 1 16 0 1 .wo false false [0]
/-- HPn_OVERRUN.COUNT (R285): triggers replaced or discarded; saturates -/
def HPn_OVERRUN_COUNT : Fld := .mk 311 0x1b2000 0x100 16 0x1c 0x0 1 0 0 32 .ro false false [0]
/-- HPn_EFFECTS.COUNT (R285): effects started; wraps -/
def HPn_EFFECTS_COUNT : Fld := .mk 312 0x1b2000 0x100 16 0x20 0x0 1 0 0 32 .ro false false [0]
/-- HPn_FAULT_CNT.MISSING (R285): open loads; saturates -/
def HPn_FAULT_CNT_MISSING : Fld := .mk 313 0x1b2000 0x100 16 0x24 0x0 1 0 0 16 .ro false false [0]
/-- HPn_FAULT_CNT.STALLED (R285): stalls; saturates -/
def HPn_FAULT_CNT_STALLED : Fld := .mk 314 0x1b2000 0x100 16 0x24 0x0 1 16 0 16 .ro false false [0]
/-- HPn_CAL.RESULT (R285): last calibration: 0 none, 1 success, 2 open load, 3 no resonance -/
def HPn_CAL_RESULT : Fld := .mk 315 0x1b2000 0x100 16 0x28 0x0 1 0 0 2 .ro false false [0]
/-- HP_STORE.KIB (R285): free store in KiB -/
def HP_STORE_KIB : Fld := .mk 316 0x1b0000 0x0 1 0x0 0x0 1 0 0 9 .ro false false [256]
/-- AU_STORE.FREE (R316): program slots free -/
def AU_STORE_FREE : Fld := .mk 317 0x1c0000 0x0 1 0x0 0x0 1 0 0 13 .ro false false [6144]
/-- AU_BQ_COMMIT.GO (R316): applies written biquad sets (R301); reads 1 until applied in every running domain that uses them -/
def AU_BQ_COMMIT_GO : Fld := .mk 318 0x1c0000 0x0 1 0x4 0x0 1 0 0 1 .w1s false false [0]
/-- AU_DOMx_CTL.SRC (R317): domain C: 0 FOLLOW, 1 STREAM; ignored on A and B -/
def AU_DOMx_CTL_SRC : Fld := .mk 319 0x1c1000 0x100 3 0x0 0x0 1 0 0 1 .rwh true false [1]
/-- AU_DOMx_CTL.SRC_PORT (R317): follower port for FOLLOW -/
def AU_DOMx_CTL_SRC_PORT : Fld := .mk 320 0x1c1000 0x100 3 0x0 0x0 1 1 0 3 .rwh true false [0]
/-- AU_DOMx_CTL.SRC_EP (R317): endpoint for STREAM -/
def AU_DOMx_CTL_SRC_EP : Fld := .mk 321 0x1c1000 0x100 3 0x0 0x0 1 4 0 6 .rwh true false [0]
/-- AU_DOMx_CTL.RAMP_MS (R317): ramp time, 5 to 100 ms; other values taken as the nearer limit -/
def AU_DOMx_CTL_RAMP_MS : Fld := .mk 322 0x1c1000 0x100 3 0x0 0x0 1 16 0 7 .rw false false [5]
/-- AU_DOMx_STAT.RUN (R317): domain running (R44) -/
def AU_DOMx_STAT_RUN : Fld := .mk 323 0x1c1000 0x100 3 0x4 0x0 1 0 0 1 .ro false false [0]
/-- AU_DOMx_STAT.PEND_RESTART (R317): an RWH write was ignored while running -/
def AU_DOMx_STAT_PEND_RESTART : Fld := .mk 324 0x1c1000 0x100 3 0x4 0x0 1 1 0 1 .w1c false false [0]
/-- AU_DOMx_STAT.CLK_OK (R317): sample clock present -/
def AU_DOMx_STAT_CLK_OK : Fld := .mk 325 0x1c1000 0x100 3 0x4 0x0 1 2 0 1 .ro false false [0]
/-- AU_DOMx_STAT.ROUTE_PEND (R317): a route change is under way -/
def AU_DOMx_STAT_ROUTE_PEND : Fld := .mk 326 0x1c1000 0x100 3 0x4 0x0 1 3 0 1 .ro false false [0]
/-- AU_DOMx_STAT.GRAPH (R317): a graph is loaded -/
def AU_DOMx_STAT_GRAPH : Fld := .mk 327 0x1c1000 0x100 3 0x4 0x0 1 4 0 1 .ro false false [0]
/-- AU_DOMx_RATE.HZ (R317): nominal rate in Hz; C accepts 8,000 to 48,000 -/
def AU_DOMx_RATE_HZ : Fld := .mk 328 0x1c1000 0x100 3 0x8 0x0 1 0 0 16 .rwh true false [48000, 16000, 44100]
/-- AU_DOMx_TRIM.PPM10 (R317): C: signed trim in force, units of 0.1 ppm -/
def AU_DOMx_TRIM_PPM10 : Fld := .mk 329 0x1c1000 0x100 3 0xc 0x0 1 0 0 16 .ro false false [0]
/-- AU_DOMx_PROG.SLOTS (R317): slots of the program in force -/
def AU_DOMx_PROG_SLOTS : Fld := .mk 330 0x1c1000 0x100 3 0x10 0x0 1 0 0 13 .ro false false [0]
/-- AU_DOMx_BLOCKS.COUNT (R317): blocks since START_AUDIO; wraps -/
def AU_DOMx_BLOCKS_COUNT : Fld := .mk 331 0x1c1000 0x100 3 0x14 0x0 1 0 0 32 .ro false false [0]
/-- AU_DOMx_CLKLOSS.COUNT (R317): clock losses; saturates -/
def AU_DOMx_CLKLOSS_COUNT : Fld := .mk 332 0x1c1000 0x100 3 0x18 0x0 1 0 0 16 .ro false false [0]
/-- AU_TDMn_CFG.DOM (R318): domain 0 to 2; 0b11 unassigned -/
def AU_TDMn_CFG_DOM : Fld := .mk 333 0x1c2000 0x40 8 0x0 0x0 1 0 0 2 .rwh true false [3]
/-- AU_TDMn_CFG.LEADER (R318): port drives BCLK and FS -/
def AU_TDMn_CFG_LEADER : Fld := .mk 334 0x1c2000 0x40 8 0x0 0x0 1 2 0 1 .rwh true false [0]
/-- AU_TDMn_CFG.SLOTS (R318): 2, 4, 8 or 16 slots -/
def AU_TDMn_CFG_SLOTS : Fld := .mk 335 0x1c2000 0x40 8 0x0 0x0 1 3 0 2 .rwh true false [3]
/-- AU_TDMn_CFG.WIDTH (R318): 0b00 16, 0b01 24, 0b10 32 bits; 0b11 refused -/
def AU_TDMn_CFG_WIDTH : Fld := .mk 336 0x1c2000 0x40 8 0x0 0x0 1 5 0 2 .rwh true false [2]
/-- AU_TDMn_CFG.FMT (R318): 0 I2S, 1 DSP -/
def AU_TDMn_CFG_FMT : Fld := .mk 337 0x1c2000 0x40 8 0x0 0x0 1 7 0 1 .rwh true false [0]
/-- AU_TDMn_CFG.BCLK_POL (R318): 1: data launched on the rising edge -/
def AU_TDMn_CFG_BCLK_POL : Fld := .mk 338 0x1c2000 0x40 8 0x0 0x0 1 8 0 1 .rwh true false [0]
/-- AU_TDMn_CFG.FS_POL (R318): 1: frame sync active high -/
def AU_TDMn_CFG_FS_POL : Fld := .mk 339 0x1c2000 0x40 8 0x0 0x0 1 9 0 1 .rwh true false [0]
/-- AU_TDMn_STAT.FS_SEEN (R318): follower: frame sync present -/
def AU_TDMn_STAT_FS_SEEN : Fld := .mk 340 0x1c2000 0x40 8 0x4 0x0 1 0 0 1 .ro false false [0]
/-- AU_TDMn_SLIP.COUNT (R318): slips; saturates -/
def AU_TDMn_SLIP_COUNT : Fld := .mk 341 0x1c2000 0x40 8 0x8 0x0 1 0 0 32 .ro false false [0]
/-- AU_BRk_CFG.FROM (R318): sending domain; 0b11 unused -/
def AU_BRk_CFG_FROM : Fld := .mk 342 0x1c3000 0x20 16 0x0 0x0 1 0 0 2 .rwh true false [3]
/-- AU_BRk_CFG.TO (R318): receiving domain -/
def AU_BRk_CFG_TO : Fld := .mk 343 0x1c3000 0x20 16 0x0 0x0 1 2 0 2 .rwh true false [3]
/-- AU_BRk_CFG.CH (R318): channels − 1 -/
def AU_BRk_CFG_CH : Fld := .mk 344 0x1c3000 0x20 16 0x0 0x0 1 4 0 3 .rwh true false [0]
/-- AU_BRk_STAT.LOCK (R318): ratio locked -/
def AU_BRk_STAT_LOCK : Fld := .mk 345 0x1c3000 0x20 16 0x4 0x0 1 0 0 1 .ro false false [0]
/-- AU_BRk_STAT.FADED (R318): output faded -/
def AU_BRk_STAT_FADED : Fld := .mk 346 0x1c3000 0x20 16 0x4 0x0 1 1 0 1 .ro false false [0]
/-- AU_BRk_XRUN.COUNT (R318): fades; saturates -/
def AU_BRk_XRUN_COUNT : Fld := .mk 347 0x1c3000 0x20 16 0x8 0x0 1 0 0 32 .ro false false [0]
/-- AU_EPe_OWNER.FUNC (R318): owning function, 0 to 64 -/
def AU_EPe_OWNER_FUNC : Fld := .mk 348 0x1c4000 0x20 64 0x0 0x0 1 0 0 7 .rw false false [0]
/-- AU_EPe_STAT.OPEN (R318): stream open -/
def AU_EPe_STAT_OPEN : Fld := .mk 349 0x1c4000 0x20 64 0x4 0x0 1 0 0 1 .ro false false [0]
/-- AU_EPe_STAT.DIR (R318): 0 playback, 1 capture -/
def AU_EPe_STAT_DIR : Fld := .mk 350 0x1c4000 0x20 64 0x4 0x0 1 1 0 1 .ro false false [0]
/-- AU_EPe_STAT.SKEIN (R318): bound to a Skein stream -/
def AU_EPe_STAT_SKEIN : Fld := .mk 351 0x1c4000 0x20 64 0x4 0x0 1 2 0 1 .ro false false [0]
/-- AU_EPe_STAT.CH (R318): channels − 1 -/
def AU_EPe_STAT_CH : Fld := .mk 352 0x1c4000 0x20 64 0x4 0x0 1 3 0 3 .ro false false [0]
/-- AU_EPe_STAT.FMT (R318): format -/
def AU_EPe_STAT_FMT : Fld := .mk 353 0x1c4000 0x20 64 0x4 0x0 1 6 0 2 .ro false false [0]
/-- AU_EPe_STAT.CLOSING (R318): ramping to close -/
def AU_EPe_STAT_CLOSING : Fld := .mk 354 0x1c4000 0x20 64 0x4 0x0 1 8 0 1 .ro false false [0]
/-- AU_EPe_STAT.FILL (R318): blocks buffered -/
def AU_EPe_STAT_FILL : Fld := .mk 355 0x1c4000 0x20 64 0x4 0x0 1 16 0 16 .ro false false [0]
/-- AU_EPe_GAIN.GAIN (R318): endpoint gain target -/
def AU_EPe_GAIN_GAIN : Fld := .mk 356 0x1c4000 0x20 64 0x8 0x0 1 0 0 16 .ro false false [0]
/-- AU_EPe_XRUN.COUNT (R318): underruns or overruns; saturates -/
def AU_EPe_XRUN_COUNT : Fld := .mk 357 0x1c4000 0x20 64 0xc 0x0 1 0 0 32 .ro false false [0]
/-- AU_TONEg_OWNER.FUNC (R319): owning function -/
def AU_TONEg_OWNER_FUNC : Fld := .mk 358 0x1c5000 0x10 16 0x0 0x0 1 0 0 7 .rw false false [0]
/-- AU_TONEg_STAT.PHASE (R319): 0 idle, 1 attack, 2 hold, 3 release, 4 silence -/
def AU_TONEg_STAT_PHASE : Fld := .mk 359 0x1c5000 0x10 16 0x4 0x0 1 0 0 3 .ro false false [0]
/-- AU_TONEg_STAT.LATCHED (R319): a pattern is latched -/
def AU_TONEg_STAT_LATCHED : Fld := .mk 360 0x1c5000 0x10 16 0x4 0x0 1 3 0 1 .ro false false [0]
/-- AU_TONEg_OVERRUN.COUNT (R319): latched patterns replaced; saturates -/
def AU_TONEg_OVERRUN_COUNT : Fld := .mk 361 0x1c5000 0x10 16 0x8 0x0 1 0 0 32 .ro false false [0]
/-- AU_BEEPb_OWNER.FUNC (R319): owning function -/
def AU_BEEPb_OWNER_FUNC : Fld := .mk 362 0x1c5100 0x10 8 0x0 0x0 1 0 0 7 .rw false false [0]
/-- AU_BEEPb_LEVEL.LEVEL (R319): burst level, signed, 0.01 dB; reset −15.00 dB -/
def AU_BEEPb_LEVEL_LEVEL : Fld := .mk 363 0x1c5100 0x10 8 0x4 0x0 1 0 0 16 .rw true false [64036]
/-- AU_BEEPb_STAT.ACTIVE (R319): a sequence is sounding -/
def AU_BEEPb_STAT_ACTIVE : Fld := .mk 364 0x1c5100 0x10 8 0x8 0x0 1 0 0 1 .ro false false [0]
/-- AU_HPFf_CFG.CORNER (R319): wind-stage corner, 20 to 500 Hz; other values taken as the nearer limit -/
def AU_HPFf_CFG_CORNER : Fld := .mk 365 0x1c5200 0x10 16 0x0 0x0 1 0 0 9 .rw false false [80]
/-- AU_HPFf_CFG.WIND_EN (R319): wind stage in use -/
def AU_HPFf_CFG_WIND_EN : Fld := .mk 366 0x1c5200 0x10 16 0x0 0x0 1 9 0 1 .rw false false [1]
/-- AU_HPFf_STAT.ACT (R319): corner in force during a glide -/
def AU_HPFf_STAT_ACT : Fld := .mk 367 0x1c5200 0x10 16 0x4 0x0 1 0 0 9 .ro false false [80]
/-- AU_BQs.COEF (R319): shadow coefficient, signed Q3.28 (R301) -/
def AU_BQs_COEF : Fld := .mk 368 0x1c6000 0x20 256 0x0 0x4 5 0 0 32 .rw false false [268435456, 0, 0, 0, 0]

/-- Part 0 of this file's fields, in order of number. -/
def fieldsB0 : List Fld :=
  [CP_CTL_FWD_EN, CP_FLIP_TMO_FRAMES, CP_POOL_FREE, CP_CHANGE_NUM, CP_BUDGET_SUM_MBPS,
   CP_HEADn_CFG_UNITS, CP_HEADn_CFG_PROT, CP_HEADn_CFG_FETCH_DEPTH, CP_HEADn_STAT_STORE, CP_HEADn_STAT_FWD,
   CP_HEADn_TONE_OUT_TF, CP_HEADn_TONE_CURVE_EN, CP_HEADn_TONE_MATRIX_EN, CP_HEADn_BG_LO_RG, CP_HEADn_BG_HI_B,
   CP_HEADn_PROT_XY0_XY, CP_HEADn_PROT_XY1_XY, CP_HEADn_BUDGET_MBPS, CP_HEADn_FETCH_MBPS, CP_HEADn_FWD_LINES_COUNT,
   CP_HEADn_DIRECT_LINES_COUNT, CP_HEADn_HELD_LINES_COUNT, CP_HEADn_SPEC_DONE_COUNT, CP_HEADn_SPEC_MISS_COUNT, CP_HEADn_DEFER_COUNT,
   CP_HEADn_DROP_COUNT, CP_Ln_OWNER_HEAD, CP_Ln_OWNER_SLOT, CP_Ln_OWNER_BOUND, CP_Ln_OWNER_FUNC,
   CP_Ln_OWNER_WORLD, CP_Ln_OWNER_ASSIGNED, CP_Ln_STAT_SET, CP_Ln_STAT_HELD, CP_Ln_STAT_CLIPPED,
   CP_Ln_STAT_QUEUED, CP_Ln_TAG_NUM, CP_Ln_FETCH_MBPS, HDn_CTL_PPC, HDn_CTL_BPC]

/-- Part 1 of this file's fields, in order of number. -/
def fieldsB1 : List Fld :=
  [HDn_CTL_HSYNC_POL, HDn_CTL_VSYNC_POL, HDn_STAT_RUN, HDn_STAT_PEND_RESTART, HDn_STAT_STATE,
   HDn_STAT_SR, HDn_PIXINC_INC, HDn_HTIME0_HACTIVE, HDn_HTIME0_HTOTAL, HDn_HTIME1_HFP,
   HDn_HTIME1_HSW, HDn_VTIME0_VACTIVE, HDn_VTIME0_VSW, HDn_VTIME1_VBP, HDn_VRR_VFP_MIN,
   HDn_VRR_VFP_MAX, HDn_COMMIT_LINE, HDn_VFP_NEXT, HDn_VFP_ACT, HDn_OUT_DITHER,
   HDn_OUT_BLANK, HDn_ARM_ARM, HDn_COMMIT_SEQ_SEQ, HDn_COMMIT_FRAME_FRAME, HDn_FRAME_FRAME,
   HDn_SCANPOS_LINE, HDn_SCANPOS_PIXEL, HDn_UNDERRUN_COUNT, HDn_DSC_EN, HDn_DSC_ENC,
   HDn_DSC_PAIR, HDn_DSC_SLICES, HDn_DSC_BPP, HDn_DSC_SLICE_H, HDn_CHKk_XY0_XY,
   HDn_CHKk_XY1_XY, HDn_CHKk_EXP_EXP, HDn_CHKk_VAL_VAL, HDn_CHKCTL_EN, HDn_CHKCTL_CMP]

/-- Part 2 of this file's fields, in order of number. -/
def fieldsB2 : List Fld :=
  [HDn_CHKCTL_LIMIT, HDn_CHKSTAT_MISM, HDn_CHKSTAT_STREAK, HDn_CHKSTAT_FAULT, HDn_SARM_ARM,
   DXn_CTL_TYPE, DXn_CTL_LANES, DXn_CTL_RATE, DXn_CTL_MST, DXn_CTL_SSC,
   DXn_CTL_CMD, DXn_CTL_MAPPING, DXn_STAT_RUN, DXn_STAT_PEND_RESTART, DXn_STAT_LINK_UP,
   DXn_STAT_HPD, DXn_STAT_TRAIN_FAIL, DXn_STAT_LANES_ACT, DXn_STAT_RATE_ACT, DXn_MAP_HEAD,
   DXn_MAP_VALID, DXn_DSIRATE_RATE, DXn_LINKERR_COUNT, TPn_CFG_BUS, TPn_CFG_ADDR,
   TPn_CFG_HEAD, TPn_CFG_INT_MODE, TPn_CFG_POLL, TPn_CFG_CS_GPIO, TPn_STAT_RUN,
   TPn_STAT_PEND_RESTART, TPn_STAT_STATE, TPn_STAT_CONTACTS, TPn_BUS_SPEED, TPn_BUS_SPI_MODE,
   TPn_DEF_FUNC, TPn_TPL0_REG, TPn_TPL0_REG_LEN, TPn_TPL0_BE, TPn_TPL1_READ_LEN]

/-- Part 3 of this file's fields, in order of number. -/
def fieldsB3 : List Fld :=
  [TPn_TPL1_CNT, TPn_TPL2_REC_OFF, TPn_TPL2_REC_STRIDE, TPn_TPL2_MAX_REC, TPn_TPL3_ID,
   TPn_TPL3_TOUCH, TPn_TPL4_X, TPn_TPL4_Y, TPn_TPL5_P, TPn_TPL6_ACK_REG,
   TPn_TPL6_ACK_VAL, TPn_TPL6_ACK_EN, TPn_XFk_COEF, TPn_REPORTS_COUNT, TPn_ERR_BUS,
   TPn_ERR_PARSE, TPn_DROP_COUNT, TH_CTL_HRT_BANK, TH_HRT_USED_USED, TH_HRT_USED_SEC,
   TH_SEC_CNT_COUNT, TH_LAT_MAX_T100NS, HP_WAVEw_OFFSET, HP_WAVEw_LEN, HP_WAVEw_MODE,
   HP_WAVEw_RATE, HP_WAVEw_ATTACK, HP_WAVEw_BRAKE, HPn_CFG_TYPE, HPn_CFG_CAL_AUTO,
   HPn_CFG_PWM_KHZ, HPn_LIMIT_AMP_MAX, HPn_LIMIT_ATT_GAIN, HPn_LIMIT_DUR_MAX, HPn_LIMIT_OPEN_THR,
   HPn_FBAND_FMIN, HPn_FBAND_FMAX, HPn_OWNER_FUNC, HPn_STAT_PHASE, HPn_STAT_LATCHED]

/-- Part 4 of this file's fields, in order of number. -/
def fieldsB4 : List Fld :=
  [HPn_STAT_LATCH_SEC, HPn_STAT_TRACK, HPn_STAT_F0_VALID, HPn_STAT_DRIFT, HPn_STAT_MISSING,
   HPn_STAT_STALLED, HPn_F0_F0, HPn_F0_BEMF_REF, HPn_TRIG_WAVE, HPn_TRIG_SCALE,
   HPn_TRIG_GO, HPn_OVERRUN_COUNT, HPn_EFFECTS_COUNT, HPn_FAULT_CNT_MISSING, HPn_FAULT_CNT_STALLED,
   HPn_CAL_RESULT, HP_STORE_KIB, AU_STORE_FREE, AU_BQ_COMMIT_GO, AU_DOMx_CTL_SRC,
   AU_DOMx_CTL_SRC_PORT, AU_DOMx_CTL_SRC_EP, AU_DOMx_CTL_RAMP_MS, AU_DOMx_STAT_RUN, AU_DOMx_STAT_PEND_RESTART,
   AU_DOMx_STAT_CLK_OK, AU_DOMx_STAT_ROUTE_PEND, AU_DOMx_STAT_GRAPH, AU_DOMx_RATE_HZ, AU_DOMx_TRIM_PPM10,
   AU_DOMx_PROG_SLOTS, AU_DOMx_BLOCKS_COUNT, AU_DOMx_CLKLOSS_COUNT, AU_TDMn_CFG_DOM, AU_TDMn_CFG_LEADER,
   AU_TDMn_CFG_SLOTS, AU_TDMn_CFG_WIDTH, AU_TDMn_CFG_FMT, AU_TDMn_CFG_BCLK_POL, AU_TDMn_CFG_FS_POL]

/-- Part 5 of this file's fields, in order of number. -/
def fieldsB5 : List Fld :=
  [AU_TDMn_STAT_FS_SEEN, AU_TDMn_SLIP_COUNT, AU_BRk_CFG_FROM, AU_BRk_CFG_TO, AU_BRk_CFG_CH,
   AU_BRk_STAT_LOCK, AU_BRk_STAT_FADED, AU_BRk_XRUN_COUNT, AU_EPe_OWNER_FUNC, AU_EPe_STAT_OPEN,
   AU_EPe_STAT_DIR, AU_EPe_STAT_SKEIN, AU_EPe_STAT_CH, AU_EPe_STAT_FMT, AU_EPe_STAT_CLOSING,
   AU_EPe_STAT_FILL, AU_EPe_GAIN_GAIN, AU_EPe_XRUN_COUNT, AU_TONEg_OWNER_FUNC, AU_TONEg_STAT_PHASE,
   AU_TONEg_STAT_LATCHED, AU_TONEg_OVERRUN_COUNT, AU_BEEPb_OWNER_FUNC, AU_BEEPb_LEVEL_LEVEL, AU_BEEPb_STAT_ACTIVE,
   AU_HPFf_CFG_CORNER, AU_HPFf_CFG_WIND_EN, AU_HPFf_STAT_ACT, AU_BQs_COEF]

/-- All fields of this file. -/
def fieldsB : List Fld :=
  fieldsB0 ++ fieldsB1 ++ fieldsB2 ++ fieldsB3 ++ fieldsB4 ++ fieldsB5

end Sys2Proof.Machine
end

