-- ==== Sys2Proof/Machine/FieldsC.lean ====
section
/-!
DEFINITION. The register fields of the spec's register tables, one definition a field, in the order of the
spec's files. Each gives: its number, page base, page stride and instances, register offset, inner stride and
inner instances, lowest bit, bit stride of repeated fields, width, access code, RWL mark, SEC mark, and its
reset value (a list where the tables give one value an instance).
-/
namespace Sys2Proof.Machine

/-- SKn_CTL.LANES (R341): 0 lanes 0 to 3; 1 eight lanes -/
def SKn_CTL_LANES : Fld := .mk 369 0x200000 0x1000 2 0x0 0x0 1 0 0 1 .rwh false false [1]
/-- SKn_CTL.LANE_REV (R341): lane order reversed on both directions -/
def SKn_CTL_LANE_REV : Fld := .mk 370 0x200000 0x1000 2 0x0 0x0 1 1 0 1 .rwh false false [0]
/-- SKn_CTL.REPLAY_TMO (R341): replay timeout in units of 100 ns, 5 to 255; smaller values taken as 5 -/
def SKn_CTL_REPLAY_TMO : Fld := .mk 371 0x200000 0x1000 2 0x0 0x0 1 8 0 8 .rw false false [20]
/-- SKn_CTL.LINK_TMO (R341): training timeout in units of 10 ms, 1 to 255; 0 taken as 1 -/
def SKn_CTL_LINK_TMO : Fld := .mk 372 0x200000 0x1000 2 0x0 0x0 1 16 0 8 .rw false false [10]
/-- SKn_STAT.RUN (R341): port running (R44) -/
def SKn_STAT_RUN : Fld := .mk 373 0x200000 0x1000 2 0x4 0x0 1 0 0 1 .ro false false [0]
/-- SKn_STAT.PEND_RESTART (R341): an RWH write was ignored while running -/
def SKn_STAT_PEND_RESTART : Fld := .mk 374 0x200000 0x1000 2 0x4 0x0 1 1 0 1 .w1c false false [0]
/-- SKn_STAT.LINK (R341): link state (R328) -/
def SKn_STAT_LINK : Fld := .mk 375 0x200000 0x1000 2 0x4 0x0 1 2 0 3 .ro false false [0]
/-- SKn_STAT.LANES_ACT (R341): lanes in use: 0, 4 or 8 -/
def SKn_STAT_LANES_ACT : Fld := .mk 376 0x200000 0x1000 2 0x4 0x0 1 5 0 4 .ro false false [0]
/-- SKn_STAT.MISMATCH (R341): the far end offered another lane count -/
def SKn_STAT_MISMATCH : Fld := .mk 377 0x200000 0x1000 2 0x4 0x0 1 9 0 1 .w1c false false [0]
/-- SKn_POL.RX_INV (R341): bit i inverts receive lane i -/
def SKn_POL_RX_INV : Fld := .mk 378 0x200000 0x1000 2 0x8 0x0 1 0 0 8 .rwh false false [0]
/-- SKn_POL.TX_INV (R341): bit 8 + i inverts transmit lane i -/
def SKn_POL_TX_INV : Fld := .mk 379 0x200000 0x1000 2 0x8 0x0 1 8 0 8 .rwh false false [0]
/-- SKn_RXBUF.UNITS (R341): sum of CREDIT_MAX over ingress bindings, at most 2,048 -/
def SKn_RXBUF_UNITS : Fld := .mk 380 0x200000 0x1000 2 0xc 0x0 1 0 0 12 .ro false false [0]
/-- SKn_CRC_ERR.COUNT (R341): flits with a bad CRC; saturates -/
def SKn_CRC_ERR_COUNT : Fld := .mk 381 0x200000 0x1000 2 0x10 0x0 1 0 0 32 .ro false false [0]
/-- SKn_REPLAY.REPLAYS (R341): replays; saturates -/
def SKn_REPLAY_REPLAYS : Fld := .mk 382 0x200000 0x1000 2 0x14 0x0 1 0 0 16 .ro false false [0]
/-- SKn_REPLAY.RETRAINS (R341): entries into Retrain; saturates -/
def SKn_REPLAY_RETRAINS : Fld := .mk 383 0x200000 0x1000 2 0x14 0x0 1 16 0 16 .ro false false [0]
/-- SKn_VIOL.COUNT (R341): flits discarded under R323 and R331; saturates -/
def SKn_VIOL_COUNT : Fld := .mk 384 0x200000 0x1000 2 0x18 0x0 1 0 0 32 .ro false false [0]
/-- SKn_STs_CFG.KIND (R342): kind (R333) -/
def SKn_STs_CFG_KIND : Fld := .mk 385 0x200000 0x1000 2 0x800 0x20 64 0 0 3 .ro false false [0]
/-- SKn_STs_CFG.DROP (R342): drop frames when the ring is full -/
def SKn_STs_CFG_DROP : Fld := .mk 386 0x200000 0x1000 2 0x800 0x20 64 3 0 1 .rwh false false [0]
/-- SKn_STs_CFG.FENCE_EN (R342): fence signalled per frame (R338) -/
def SKn_STs_CFG_FENCE_EN : Fld := .mk 387 0x200000 0x1000 2 0x800 0x20 64 4 0 1 .ro false false [0]
/-- SKn_STs_CFG.CREDIT_MAX (R342): ingress credit in units, 1 to 2,048 -/
def SKn_STs_CFG_CREDIT_MAX : Fld := .mk 388 0x200000 0x1000 2 0x800 0x20 64 16 0 12 .rwh false false [16]
/-- SKn_STs_BIND.FUNC (R342): bound function -/
def SKn_STs_BIND_FUNC : Fld := .mk 389 0x200000 0x1000 2 0x804 0x20 64 0 0 7 .ro false false [0]
/-- SKn_STs_BIND.ENDPOINT (R342): audio endpoint, kinds 2 and 4 -/
def SKn_STs_BIND_ENDPOINT : Fld := .mk 390 0x200000 0x1000 2 0x804 0x20 64 8 0 6 .ro false false [0]
/-- SKn_STs_BIND.GEN (R342): the functions generation at binding -/
def SKn_STs_BIND_GEN : Fld := .mk 391 0x200000 0x1000 2 0x804 0x20 64 16 0 8 .ro false false [0]
/-- SKn_STs_BIND.ORPHAN (R342): the bound generation has been withdrawn -/
def SKn_STs_BIND_ORPHAN : Fld := .mk 392 0x200000 0x1000 2 0x804 0x20 64 24 0 1 .ro false false [0]
/-- SKn_STs_HANDLE_LO.HANDLE (R342): bound handle, bits 31:0 -/
def SKn_STs_HANDLE_LO_HANDLE : Fld := .mk 393 0x200000 0x1000 2 0x808 0x20 64 0 0 32 .ro false false [0]
/-- SKn_STs_HANDLE_HI.HANDLE (R342): bound handle, bits 63:32 -/
def SKn_STs_HANDLE_HI_HANDLE : Fld := .mk 394 0x200000 0x1000 2 0x80c 0x20 64 0 0 32 .ro false false [0]
/-- SKn_STs_RING.NSLOT (R342): slots minus 1 -/
def SKn_STs_RING_NSLOT : Fld := .mk 395 0x200000 0x1000 2 0x810 0x20 64 0 0 6 .ro false false [0]
/-- SKn_STs_RING.SLOT (R342): slot size in 4 KiB units, 1 to 16,383 -/
def SKn_STs_RING_SLOT : Fld := .mk 396 0x200000 0x1000 2 0x810 0x20 64 6 0 14 .ro false false [0]
/-- SKn_STs_RING.FENCE (R342): fence object -/
def SKn_STs_RING_FENCE : Fld := .mk 397 0x200000 0x1000 2 0x810 0x20 64 20 0 12 .ro false false [0]
/-- SKn_STs_CREDIT.UNITS (R342): ingress: units granted and unused; egress: units held -/
def SKn_STs_CREDIT_UNITS : Fld := .mk 398 0x200000 0x1000 2 0x814 0x20 64 0 0 16 .ro false false [0]
/-- SKn_STs_FRAMES.COUNT (R342): frames completed or sent; wraps -/
def SKn_STs_FRAMES_COUNT : Fld := .mk 399 0x200000 0x1000 2 0x818 0x20 64 0 0 32 .ro false false [0]
/-- SKn_STs_DROP.DROP (R342): frames and stray DATA flits dropped; saturates -/
def SKn_STs_DROP_DROP : Fld := .mk 400 0x200000 0x1000 2 0x81c 0x20 64 0 0 16 .ro false false [0]
/-- SKn_STs_DROP.TRUNC (R342): frames truncated; saturates -/
def SKn_STs_DROP_TRUNC : Fld := .mk 401 0x200000 0x1000 2 0x81c 0x20 64 16 0 16 .ro false false [0]
/-- BL_CFG.TWIN_EN (R372): pairing enabled -/
def BL_CFG_TWIN_EN : Fld := .mk 402 0x210000 0x0 1 0x0 0x0 1 0 0 1 .rw true false [0]
/-- BL_CFG.AUTO (R372): attach at start-confirm -/
def BL_CFG_AUTO : Fld := .mk 403 0x210000 0x0 1 0x0 0x0 1 1 0 1 .rw true false [1]
/-- BL_CFG.COLD_ACCEPT (R372): honour COLD_REQ (R352) -/
def BL_CFG_COLD_ACCEPT : Fld := .mk 404 0x210000 0x0 1 0x0 0x0 1 2 0 1 .rw true false [0]
/-- BL_CFG.OFFLOAD_IN (R372): run offload jobs for the twin -/
def BL_CFG_OFFLOAD_IN : Fld := .mk 405 0x210000 0x0 1 0x0 0x0 1 3 0 1 .rw false false [1]
/-- BL_CFG.CRIT (R372): bit n: HDn is critical -/
def BL_CFG_CRIT : Fld := .mk 406 0x210000 0x0 1 0x0 0x0 1 16 0 16 .rw true false [0]
/-- BL_POL.RX_INV (R372): bit i inverts receive lane i -/
def BL_POL_RX_INV : Fld := .mk 407 0x210000 0x0 1 0x4 0x0 1 0 0 8 .rw true false [0]
/-- BL_POL.TX_INV (R372): bit 8 + i inverts transmit lane i -/
def BL_POL_TX_INV : Fld := .mk 408 0x210000 0x0 1 0x4 0x0 1 8 0 8 .rw true false [0]
/-- BL_MIRROR_RATE.MBPS (R372): mirror rate, 100 to 8,000 MB/s; other values taken as the nearer limit -/
def BL_MIRROR_RATE_MBPS : Fld := .mk 409 0x210000 0x0 1 0x8 0x0 1 0 0 13 .rw true false [4000]
/-- BL_STAGE.MIB (R372): staging, 16 to 1,024 MiB, from the next power-on or Cold reach start -/
def BL_STAGE_MIB : Fld := .mk 410 0x210000 0x0 1 0xc 0x0 1 0 0 11 .rw true false [64]
/-- BL_GROUPk.HEADS (R372): critical heads in group k -/
def BL_GROUPk_HEADS : Fld := .mk 411 0x210000 0x0 1 0x10 0x4 4 0 0 16 .rw true false [0]
/-- BL_GROUPk.DUAL (R372): 0 relay, 1 dual-input panel -/
def BL_GROUPk_DUAL : Fld := .mk 412 0x210000 0x0 1 0x10 0x4 4 16 0 1 .rw true false [0]
/-- BL_GROUPk.RELAY_MS (R372): relay settle time, 1 to 15 ms; 0 taken as 1 -/
def BL_GROUPk_RELAY_MS : Fld := .mk 413 0x210000 0x0 1 0x10 0x4 4 20 0 4 .rw true false [5]
/-- BL_STAT.LINK (R372): link state (R348) -/
def BL_STAT_LINK : Fld := .mk 414 0x210000 0x0 1 0x20 0x0 1 0 0 3 .ro false false [0]
/-- BL_STAT.ATTACH (R372): 0 none; 1 to 5 the phase of R353; 6 paired -/
def BL_STAT_ATTACH : Fld := .mk 415 0x210000 0x0 1 0x20 0x0 1 3 0 4 .ro false false [0]
/-- BL_STAT.HOLD (R372): bit 7 + k: group k held -/
def BL_STAT_HOLD : Fld := .mk 416 0x210000 0x0 1 0x20 0x0 1 7 0 4 .ro false false [0]
/-- BL_STAT.SHADOW_RDY (R372): hot shadow ready (R358) -/
def BL_STAT_SHADOW_RDY : Fld := .mk 417 0x210000 0x0 1 0x20 0x0 1 11 0 1 .ro false false [0]
/-- BL_STAT.TWIN_SEEN (R372): TRAIN flits received since the last power-on or Cold reach start -/
def BL_STAT_TWIN_SEEN : Fld := .mk 418 0x210000 0x0 1 0x20 0x0 1 12 0 1 .ro false false [0]
/-- BL_ATTACH_RES.CODE (R372): 0 none; 1 complete; 2 to 11 as R353 and R354 -/
def BL_ATTACH_RES_CODE : Fld := .mk 419 0x210000 0x0 1 0x24 0x0 1 0 0 4 .ro false false [0]
/-- BL_LEASH.AGE (R372): µs since the last LEASH received; saturates -/
def BL_LEASH_AGE : Fld := .mk 420 0x210000 0x0 1 0x28 0x0 1 0 0 16 .ro false false [65535]
/-- BL_LEASH.MISSED (R372): periods missed -/
def BL_LEASH_MISSED : Fld := .mk 421 0x210000 0x0 1 0x28 0x0 1 16 0 2 .ro false false [0]
/-- BL_LEASH_RX.COUNT (R372): COUNT of the last LEASH received -/
def BL_LEASH_RX_COUNT : Fld := .mk 422 0x210000 0x0 1 0x2c 0x0 1 0 0 32 .ro false false [0]
/-- BL_TWIN_MODE.MODE (R372): the twins GL_MODE bits 23:0, as last reported -/
def BL_TWIN_MODE_MODE : Fld := .mk 423 0x210000 0x0 1 0x30 0x0 1 0 0 24 .ro false false [0]
/-- BL_MIRROR_OUT.MIB (R372): MIRROR allocations of this chip -/
def BL_MIRROR_OUT_MIB : Fld := .mk 424 0x210000 0x0 1 0x34 0x0 1 0 0 17 .ro false false [0]
/-- BL_MIRROR_IN.MIB (R372): copies held for the twin -/
def BL_MIRROR_IN_MIB : Fld := .mk 425 0x210000 0x0 1 0x38 0x0 1 0 0 17 .ro false false [0]
/-- BL_TIME_OFS.TICKS (R372): signed offset from the Lead at the last echo -/
def BL_TIME_OFS_TICKS : Fld := .mk 426 0x210000 0x0 1 0x3c 0x0 1 0 0 16 .ro false false [0]
/-- BL_CRC_ERR.COUNT (R372): flits with a bad CRC; saturates -/
def BL_CRC_ERR_COUNT : Fld := .mk 427 0x210000 0x0 1 0x40 0x0 1 0 0 32 .ro false false [0]
/-- BL_REPLAY.REPLAYS (R372): replays; saturates -/
def BL_REPLAY_REPLAYS : Fld := .mk 428 0x210000 0x0 1 0x44 0x0 1 0 0 16 .ro false false [0]
/-- BL_REPLAY.RETRAINS (R372): entries into Retrain; saturates -/
def BL_REPLAY_RETRAINS : Fld := .mk 429 0x210000 0x0 1 0x44 0x0 1 16 0 16 .ro false false [0]
/-- BL_SIG_MISM.COUNT (R372): mismatching tiles; saturates -/
def BL_SIG_MISM_COUNT : Fld := .mk 430 0x210000 0x0 1 0x48 0x0 1 0 0 32 .ro false false [0]
/-- BL_SIG_LATE.COUNT (R372): late signature sets; saturates -/
def BL_SIG_LATE_COUNT : Fld := .mk 431 0x210000 0x0 1 0x4c 0x0 1 0 0 32 .ro false false [0]
/-- BL_PROOF_FAIL.COUNT (R372): failed proof tiles; saturates -/
def BL_PROOF_FAIL_COUNT : Fld := .mk 432 0x210000 0x0 1 0x50 0x0 1 0 0 32 .ro false false [0]
/-- BL_OFFLOAD.SENT (R372): jobs run on the twin; saturates -/
def BL_OFFLOAD_SENT : Fld := .mk 433 0x210000 0x0 1 0x54 0x0 1 0 0 16 .ro false false [0]
/-- BL_OFFLOAD.TAKEN (R372): jobs run for the twin; saturates -/
def BL_OFFLOAD_TAKEN : Fld := .mk 434 0x210000 0x0 1 0x54 0x0 1 16 0 16 .ro false false [0]
/-- BL_OFFLOAD_REF.COUNT (R372): offloads refused or returned; saturates -/
def BL_OFFLOAD_REF_COUNT : Fld := .mk 435 0x210000 0x0 1 0x58 0x0 1 0 0 32 .ro false false [0]
/-- BL_DETACH.ORDERLY (R372): orderly detaches; saturates -/
def BL_DETACH_ORDERLY : Fld := .mk 436 0x210000 0x0 1 0x5c 0x0 1 0 0 16 .ro false false [0]
/-- BL_DETACH.LOST (R372): twins lost; saturates -/
def BL_DETACH_LOST : Fld := .mk 437 0x210000 0x0 1 0x5c 0x0 1 16 0 16 .ro false false [0]
/-- BL_VIOL.COUNT (R372): flits and messages discarded under R347, R349 and R350; saturates -/
def BL_VIOL_COUNT : Fld := .mk 438 0x210000 0x0 1 0x60 0x0 1 0 0 32 .ro false false [0]
/-- BL_PROOF_EXP.EXP (R372): expected proof-tile signature -/
def BL_PROOF_EXP_EXP : Fld := .mk 439 0x210000 0x0 1 0x64 0x0 1 0 0 32 .ro false true [0]
/-- MC_DIST_THR.THR (R396): activations per row per 32 ms window before neighbour refresh, 256 to 32,768; other values taken as the nearer limit -/
def MC_DIST_THR_THR : Fld := .mk 440 0x228000 0x0 1 0x0 0x0 1 0 0 16 .rw true false [2048]
/-- MC_DIST_THR.BLAST (R396): also refresh rows two away -/
def MC_DIST_THR_BLAST : Fld := .mk 441 0x228000 0x0 1 0x0 0x0 1 16 0 1 .rw true false [0]
/-- MC_THROTTLE.BASE_NS (R396): first throttle wait, 50 to 3,200 ns -/
def MC_THROTTLE_BASE_NS : Fld := .mk 442 0x228000 0x0 1 0x4 0x0 1 0 0 12 .rw true false [200]
/-- MC_THROTTLE.MAX_NS (R396): longest throttle wait, BASE_NS to 3,200 ns -/
def MC_THROTTLE_MAX_NS : Fld := .mk 443 0x228000 0x0 1 0x4 0x0 1 16 0 12 .rw true false [3200]
/-- MC_ERR_CFG.CORR_THR (R396): corrected errors per 32 ms window that make a channel Disturbed; 0 taken as 1 -/
def MC_ERR_CFG_CORR_THR : Fld := .mk 444 0x228000 0x0 1 0x8 0x0 1 0 0 8 .rw true false [16]
/-- MC_ERR_CFG.RETIRE_THR (R396): uncorrectable errors that retire a channel, 1 to 15; 0 taken as 1 -/
def MC_ERR_CFG_RETIRE_THR : Fld := .mk 445 0x228000 0x0 1 0x8 0x0 1 8 0 4 .rw true false [4]
/-- MC_TRAIN.COLD_MS (R396): duration of the last full training, ms; saturates -/
def MC_TRAIN_COLD_MS : Fld := .mk 446 0x228000 0x0 1 0xc 0x0 1 0 0 8 .ro false false [0]
/-- MC_TRAIN.WARM_MS (R396): duration of the last restore, ms; saturates -/
def MC_TRAIN_WARM_MS : Fld := .mk 447 0x228000 0x0 1 0xc 0x0 1 8 0 8 .ro false false [0]
/-- MC_STAT.INSVC (R396): bit c: channel c in service -/
def MC_STAT_INSVC : Fld := .mk 448 0x228000 0x0 1 0x10 0x0 1 0 0 16 .ro false false [0]
/-- MCn_REFCFG.HOT_A (R397): channel a needs the doubled refresh rate -/
def MCn_REFCFG_HOT_A : Fld := .mk 449 0x220000 0x1000 8 0x0 0x0 1 0 0 1 .ro false false [0]
/-- MCn_REFCFG.HOT_B (R397): channel b needs the doubled refresh rate -/
def MCn_REFCFG_HOT_B : Fld := .mk 450 0x220000 0x1000 8 0x0 0x0 1 1 0 1 .ro false false [0]
/-- MCn_REFCFG.PULLIN_EN (R397): refresh ahead while idle (R382) -/
def MCn_REFCFG_PULLIN_EN : Fld := .mk 451 0x220000 0x1000 8 0x0 0x0 1 8 0 1 .rw false false [1]
/-- MCn_CHk_STAT.STATE (R397): 0b00 in service, 0b01 disturbed, 0b10 retraining, 0b11 retired -/
def MCn_CHk_STAT_STATE : Fld := .mk 452 0x220000 0x1000 8 0x100 0x80 2 0 0 2 .ro false false [0]
/-- MCn_CHk_STAT.SR (R397): in self-refresh -/
def MCn_CHk_STAT_SR : Fld := .mk 453 0x220000 0x1000 8 0x100 0x80 2 2 0 1 .ro false false [0]
/-- MCn_CHk_STAT.DEBT (R397): refresh debt, 0 to 8 -/
def MCn_CHk_STAT_DEBT : Fld := .mk 454 0x220000 0x1000 8 0x100 0x80 2 4 0 4 .ro false false [0]
/-- MCn_CHk_STAT.PASR_MASK (R397): bit s: segment s masked -/
def MCn_CHk_STAT_PASR_MASK : Fld := .mk 455 0x220000 0x1000 8 0x100 0x80 2 8 0 8 .ro false false [0]
/-- MCn_CHk_STAT.RETIRE_CAUSE (R397): 0 none; 1 training at start; 2 retrain failed; 3 error limit -/
def MCn_CHk_STAT_RETIRE_CAUSE : Fld := .mk 456 0x220000 0x1000 8 0x100 0x80 2 16 0 2 .ro false false [0]
/-- MCn_CHk_SIZE.MIB (R397): trained size, MiB -/
def MCn_CHk_SIZE_MIB : Fld := .mk 457 0x220000 0x1000 8 0x104 0x80 2 0 0 13 .ro false false [0]
/-- MCn_CHk_ECC.CORR (R397): corrected errors; saturates -/
def MCn_CHk_ECC_CORR : Fld := .mk 458 0x220000 0x1000 8 0x108 0x80 2 0 0 16 .ro false false [0]
/-- MCn_CHk_ECC.UNCORR (R397): uncorrectable errors; saturates -/
def MCn_CHk_ECC_UNCORR : Fld := .mk 459 0x220000 0x1000 8 0x108 0x80 2 16 0 8 .ro false false [0]
/-- MCn_CHk_ERRADDR.ADDR (R397): local address bits 37:6 of the last uncorrectable error -/
def MCn_CHk_ERRADDR_ADDR : Fld := .mk 460 0x220000 0x1000 8 0x10c 0x80 2 0 0 32 .ro false false [0]
/-- MCn_CHk_FORCED.COUNT (R397): forced refreshes; saturates -/
def MCn_CHk_FORCED_COUNT : Fld := .mk 461 0x220000 0x1000 8 0x110 0x80 2 0 0 32 .ro false false [0]
/-- MCn_CHk_NREF.COUNT (R397): disturbance crossings; saturates -/
def MCn_CHk_NREF_COUNT : Fld := .mk 462 0x220000 0x1000 8 0x114 0x80 2 0 0 32 .ro false false [0]
/-- MCn_CHk_THR_CNT.COUNT (R397): throttles made; saturates -/
def MCn_CHk_THR_CNT_COUNT : Fld := .mk 463 0x220000 0x1000 8 0x118 0x80 2 0 0 32 .ro false false [0]
/-- MCn_CHk_DIST.ROW (R397): row of the last crossing -/
def MCn_CHk_DIST_ROW : Fld := .mk 464 0x220000 0x1000 8 0x11c 0x80 2 0 0 17 .ro false false [0]
/-- MCn_CHk_DIST.BGRP (R397): its bank group -/
def MCn_CHk_DIST_BGRP : Fld := .mk 465 0x220000 0x1000 8 0x11c 0x80 2 17 0 2 .ro false false [0]
/-- MCn_CHk_DIST.BANK (R397): its bank -/
def MCn_CHk_DIST_BANK : Fld := .mk 466 0x220000 0x1000 8 0x11c 0x80 2 19 0 2 .ro false false [0]
/-- MCn_CHk_DIST.RANK (R397): its rank -/
def MCn_CHk_DIST_RANK : Fld := .mk 467 0x220000 0x1000 8 0x11c 0x80 2 21 0 1 .ro false false [0]
/-- MCn_CHk_DISTREQ.REQ (R397): requester with the most activations at the last crossing -/
def MCn_CHk_DISTREQ_REQ : Fld := .mk 468 0x220000 0x1000 8 0x120 0x80 2 0 0 8 .ro false false [0]
/-- MCn_CHk_DISTREQ.FUNC (R397): its function -/
def MCn_CHk_DISTREQ_FUNC : Fld := .mk 469 0x220000 0x1000 8 0x120 0x80 2 8 0 7 .ro false false [0]
/-- MCn_CHk_DISTREQ.THROTTLED (R397): 1 throttled; 0 exempt under TC0 -/
def MCn_CHk_DISTREQ_THROTTLED : Fld := .mk 470 0x220000 0x1000 8 0x120 0x80 2 15 0 1 .ro false false [0]
/-- MCn_CHk_RETRAIN.COUNT (R397): retrain attempts; saturates -/
def MCn_CHk_RETRAIN_COUNT : Fld := .mk 471 0x220000 0x1000 8 0x124 0x80 2 0 0 16 .ro false false [0]
/-- CVn_CFG.TAP (R410): tap point -/
def CVn_CFG_TAP : Fld := .mk 472 0x230000 0x100 24 0x0 0x0 1 0 0 6 .ro false false [0]
/-- CVn_CFG.POLY (R410): polynomial code (R399) -/
def CVn_CFG_POLY : Fld := .mk 473 0x230000 0x100 24 0x0 0x0 1 6 0 2 .ro false false [0]
/-- CVn_CFG.MODE (R410): 0 READ; 1 APPEND; 2 CHECK -/
def CVn_CFG_MODE : Fld := .mk 474 0x230000 0x100 24 0x0 0x0 1 8 0 2 .ro false false [0]
/-- CVn_CFG.CHAIN (R410): running value carried across data units -/
def CVn_CFG_CHAIN : Fld := .mk 475 0x230000 0x100 24 0x0 0x0 1 10 0 1 .ro false false [0]
/-- CVn_CFG.NOTICE (R410): CV_RESULT sent -/
def CVn_CFG_NOTICE : Fld := .mk 476 0x230000 0x100 24 0x0 0x0 1 11 0 1 .ro false false [0]
/-- CVn_CFG.BOUND (R410): unit bound -/
def CVn_CFG_BOUND : Fld := .mk 477 0x230000 0x100 24 0x0 0x0 1 12 0 1 .ro false false [0]
/-- CVn_CFG.FUNC (R410): owning function; 127 for firmware -/
def CVn_CFG_FUNC : Fld := .mk 478 0x230000 0x100 24 0x0 0x0 1 16 0 7 .ro false false [0]
/-- CVn_CFG.WORLD (R410): 1 for a secure-world unit -/
def CVn_CFG_WORLD : Fld := .mk 479 0x230000 0x100 24 0x0 0x0 1 23 0 1 .ro false false [0]
/-- CVn_SEL.STREAM (R410): stream of a stream tap -/
def CVn_SEL_STREAM : Fld := .mk 480 0x230000 0x100 24 0x4 0x0 1 0 0 6 .ro false false [0]
/-- CVn_SEL.COPYFN (R410): function of a copy tap -/
def CVn_SEL_COPYFN : Fld := .mk 481 0x230000 0x100 24 0x4 0x0 1 8 0 7 .ro false false [0]
/-- CVn_SEL.K (R410): result ring size as log2; 0 for none -/
def CVn_SEL_K : Fld := .mk 482 0x230000 0x100 24 0x4 0x0 1 16 0 4 .ro false false [0]
/-- CVn_WIN0.XY (R410): head taps: X0 in bits 15:0, Y0 in bits 31:16 -/
def CVn_WIN0_XY : Fld := .mk 483 0x230000 0x100 24 0x8 0x0 1 0 0 32 .ro false false [0]
/-- CVn_WIN1.XY (R410): X1 and Y1, exclusive -/
def CVn_WIN1_XY : Fld := .mk 484 0x230000 0x100 24 0xc 0x0 1 0 0 32 .ro false false [0]
/-- CVn_RUN.VALUE (R410): running value -/
def CVn_RUN_VALUE : Fld := .mk 485 0x230000 0x100 24 0x10 0x0 1 0 0 32 .ro false false [0]
/-- CVn_FINAL.VALUE (R410): latest final value -/
def CVn_FINAL_VALUE : Fld := .mk 486 0x230000 0x100 24 0x14 0x0 1 0 0 32 .ro false false [0]
/-- CVn_COUNT.COUNT (R410): final values formed; wraps -/
def CVn_COUNT_COUNT : Fld := .mk 487 0x230000 0x100 24 0x18 0x0 1 0 0 32 .ro false false [0]
/-- CVn_FAIL.COUNT (R410): CHECK failures; saturates -/
def CVn_FAIL_COUNT : Fld := .mk 488 0x230000 0x100 24 0x1c 0x0 1 0 0 32 .ro false false [0]
/-- CVn_RES_LO.HANDLE (R410): result handle, bits 31:0 -/
def CVn_RES_LO_HANDLE : Fld := .mk 489 0x230000 0x100 24 0x20 0x0 1 0 0 32 .ro false false [0]
/-- CVn_RES_HI.HANDLE (R410): result handle, bits 63:32 -/
def CVn_RES_HI_HANDLE : Fld := .mk 490 0x230000 0x100 24 0x24 0x0 1 0 0 32 .ro false false [0]
/-- CK_STAT.MODE (R427): CLK_MODE as sampled (R413) -/
def CK_STAT_MODE : Fld := .mk 491 0x250000 0x0 1 0x0 0x0 1 0 0 2 .ro false false [0]
/-- CK_STAT.PLL_LOCK (R427): main PLL locked -/
def CK_STAT_PLL_LOCK : Fld := .mk 492 0x250000 0x0 1 0x0 0x0 1 2 0 1 .ro false false [0]
/-- CK_STAT.AON_DBL (R427): always-on clock doubled from REFCLK -/
def CK_STAT_AON_DBL : Fld := .mk 493 0x250000 0x0 1 0x0 0x0 1 3 0 1 .ro false false [0]
/-- CK_PHY_LOCK.MEM (R427): bit n: memory PHY PLL of MCn locked -/
def CK_PHY_LOCK_MEM : Fld := .mk 494 0x250000 0x0 1 0x4 0x0 1 0 0 8 .ro false false [0]
/-- CK_PHY_LOCK.PCIE (R427): PCI Express PLL locked -/
def CK_PHY_LOCK_PCIE : Fld := .mk 495 0x250000 0x0 1 0x4 0x0 1 8 0 1 .ro false false [0]
/-- CK_PHY_LOCK.DX (R427): bit 9 + n: DXn PLL locked -/
def CK_PHY_LOCK_DX : Fld := .mk 496 0x250000 0x0 1 0x4 0x0 1 9 0 10 .ro false false [0]
/-- CK_PHY_LOCK.SK (R427): SK0 and SK1 PLLs locked -/
def CK_PHY_LOCK_SK : Fld := .mk 497 0x250000 0x0 1 0x4 0x0 1 19 0 2 .ro false false [0]
/-- CK_PHY_LOCK.BL (R427): Bowline PLL locked -/
def CK_PHY_LOCK_BL : Fld := .mk 498 0x250000 0x0 1 0x4 0x0 1 21 0 1 .ro false false [0]
/-- CK_LOST.FLAGS (R427): LOST flags (R424) -/
def CK_LOST_FLAGS : Fld := .mk 499 0x250000 0x0 1 0x8 0x0 1 0 0 32 .w1c false false [0]
/-- CK_LOST_CNT.COUNT (R427): LOST settings; saturates -/
def CK_LOST_CNT_COUNT : Fld := .mk 500 0x250000 0x0 1 0xc 0x0 1 0 0 32 .ro false false [0]
/-- CK_REF_LOSS.COUNT (R427): REFCLK losses (R415); saturates -/
def CK_REF_LOSS_COUNT : Fld := .mk 501 0x250000 0x0 1 0x10 0x0 1 0 0 16 .ro false false [0]
/-- CK_PLL_LOSS.MAIN (R427): main PLL losses (R419); saturates -/
def CK_PLL_LOSS_MAIN : Fld := .mk 502 0x250000 0x0 1 0x14 0x0 1 0 0 16 .ro false false [0]
/-- CK_PLL_LOSS.PHY (R427): PHY PLL losses; saturates -/
def CK_PLL_LOSS_PHY : Fld := .mk 503 0x250000 0x0 1 0x14 0x0 1 16 0 16 .ro false false [0]
/-- TB_TICK.TICK (R441): live ticks; a read latches TB_SEC_LAT -/
def TB_TICK_TICK : Fld := .mk 504 0x240000 0x0 1 0x0 0x0 1 0 0 31 .ro false false [0]
/-- TB_SEC_LAT.SEC (R441): seconds latched with the last TB_TICK read -/
def TB_SEC_LAT_SEC : Fld := .mk 505 0x240000 0x0 1 0x4 0x0 1 0 0 32 .ro false false [0]
/-- TB_SEC.SEC (R441): live seconds -/
def TB_SEC_SEC : Fld := .mk 506 0x240000 0x0 1 0x8 0x0 1 0 0 32 .ro false false [0]
/-- TB_STAT.VALID (R441): tied to an outside time (R432) -/
def TB_STAT_VALID : Fld := .mk 507 0x240000 0x0 1 0xc 0x0 1 0 0 1 .ro false false [0]
/-- TB_STAT.PPS_OK (R441): PPS edges arriving -/
def TB_STAT_PPS_OK : Fld := .mk 508 0x240000 0x0 1 0xc 0x0 1 1 0 1 .ro false false [0]
/-- TB_STAT.ALIGNED (R441): R435, or twin alignment on a Follow -/
def TB_STAT_ALIGNED : Fld := .mk 509 0x240000 0x0 1 0xc 0x0 1 2 0 1 .ro false false [0]
/-- TB_STAT.REF_LOST (R441): a REFCLK loss stopped the counter -/
def TB_STAT_REF_LOST : Fld := .mk 510 0x240000 0x0 1 0xc 0x0 1 3 0 1 .w1c false false [0]
/-- TB_STAT.STEPPED (R441): a step has occurred -/
def TB_STAT_STEPPED : Fld := .mk 511 0x240000 0x0 1 0xc 0x0 1 4 0 1 .w1c false false [0]
/-- TB_STAT.SOURCE (R441): 1 PPS_IN, while the chip is not Follow, the mode is Snap or Slew and PPS_OK is 1; 2 twin, while the chip is Follow under supervision; 0 free-running at all othe -/
def TB_STAT_SOURCE : Fld := .mk 512 0x240000 0x0 1 0xc 0x0 1 5 0 2 .ro false false [0]
/-- TB_STAT.ARMED (R441): a TIME_SET waits for an edge -/
def TB_STAT_ARMED : Fld := .mk 513 0x240000 0x0 1 0xc 0x0 1 7 0 1 .ro false false [0]
/-- TB_PPS_CFG.MODE (R441): set by PPS_MODE_SET -/
def TB_PPS_CFG_MODE : Fld := .mk 514 0x240000 0x0 1 0x10 0x0 1 0 0 2 .ro false false [0]
/-- TB_PPS_CFG.EDGE (R441): 1: falling edge active -/
def TB_PPS_CFG_EDGE : Fld := .mk 515 0x240000 0x0 1 0x10 0x0 1 2 0 1 .rw true false [0]
/-- TB_PPS_SEC.SEC (R441): seconds of the last accepted edge -/
def TB_PPS_SEC_SEC : Fld := .mk 516 0x240000 0x0 1 0x14 0x0 1 0 0 32 .ro false false [0]
/-- TB_PPS_TICK.TICK (R441): ticks of the last accepted edge, corrected -/
def TB_PPS_TICK_TICK : Fld := .mk 517 0x240000 0x0 1 0x18 0x0 1 0 0 31 .ro false false [0]
/-- TB_PPS_ERR.E (R441): signed error e -/
def TB_PPS_ERR_E : Fld := .mk 518 0x240000 0x0 1 0x1c 0x0 1 0 0 32 .ro false false [0]
/-- TB_TRIM.TPS (R441): signed trim in force, ticks per second -/
def TB_TRIM_TPS : Fld := .mk 519 0x240000 0x0 1 0x20 0x0 1 0 0 32 .ro false false [0]
/-- TB_PPS_CNT.COUNT (R441): accepted edges; wraps -/
def TB_PPS_CNT_COUNT : Fld := .mk 520 0x240000 0x0 1 0x24 0x0 1 0 0 32 .ro false false [0]
/-- TB_PPS_GLITCH.COUNT (R441): glitches; saturates -/
def TB_PPS_GLITCH_COUNT : Fld := .mk 521 0x240000 0x0 1 0x28 0x0 1 0 0 32 .ro false false [0]
/-- GL_SEC.UP (R466): secure world up -/
def GL_SEC_UP : Fld := .mk 522 0x0 0x0 1 0x50 0x0 1 0 0 1 .ro false false [0]
/-- GL_SEC.RESTARTING (R466): restart under way -/
def GL_SEC_RESTARTING : Fld := .mk 523 0x0 0x0 1 0x50 0x0 1 1 0 1 .ro false false [0]
/-- GL_SEC.HALTED (R466): no further restart (R462) -/
def GL_SEC_HALTED : Fld := .mk 524 0x0 0x0 1 0x50 0x0 1 2 0 1 .ro false false [0]
/-- GL_SEC.ROM_STAGE (R466): Kennel secure stage (R464) -/
def GL_SEC_ROM_STAGE : Fld := .mk 525 0x0 0x0 1 0x50 0x0 1 3 0 1 .ro false false [0]
/-- GL_SEC.DOWNS (R466): declarations since the last reset of Warm reach or wider; saturates -/
def GL_SEC_DOWNS : Fld := .mk 526 0x0 0x0 1 0x50 0x0 1 4 0 4 .ro false false [0]
/-- GL_SEC.STALE (R466): bit 16 + n: HDns protected layer stale -/
def GL_SEC_STALE : Fld := .mk 527 0x0 0x0 1 0x50 0x0 1 16 0 16 .ro false false [0]
/-- GL_SAFE.PIN (R466): SAFE_FAULT_N asserted -/
def GL_SAFE_PIN : Fld := .mk 528 0x0 0x0 1 0x54 0x0 1 0 0 1 .ro false false [1]
/-- GL_SAFE.CHECK (R466): a heads FAULT is set -/
def GL_SAFE_CHECK : Fld := .mk 529 0x0 0x0 1 0x54 0x0 1 1 0 1 .ro false false [0]
/-- GL_SAFE.STALE (R466): a protected layer is stale -/
def GL_SAFE_STALE : Fld := .mk 530 0x0 0x0 1 0x54 0x0 1 2 0 1 .ro false false [0]
/-- GL_SAFE.START (R466): secure world not up since the last reset of Warm reach or wider -/
def GL_SAFE_START : Fld := .mk 531 0x0 0x0 1 0x54 0x0 1 3 0 1 .ro false false [1]
/-- GL_SAFE.FORCED (R466): FORCE_FAULT set -/
def GL_SAFE_FORCED : Fld := .mk 532 0x0 0x0 1 0x54 0x0 1 4 0 1 .ro false false [0]
/-- SW_CTL.ENTRY_LOCK (R467): entry table locked (R447) -/
def SW_CTL_ENTRY_LOCK : Fld := .mk 533 0x270000 0x0 1 0x0 0x0 1 0 0 1 .w1s false true [0]
/-- SW_CTL.FORCE_FAULT (R467): assert SAFE_FAULT_N -/
def SW_CTL_FORCE_FAULT : Fld := .mk 534 0x270000 0x0 1 0x0 0x0 1 1 0 1 .rw false true [0]
/-- SW_WDOG.KICK (R467): restarts the 50 ms period -/
def SW_WDOG_KICK : Fld := .mk 535 0x270000 0x0 1 0x4 0x0 1 0 0 1 .w1s false true [0]
/-- SW_WDOG.REMAIN (R467): ms left in the period -/
def SW_WDOG_REMAIN : Fld := .mk 536 0x270000 0x0 1 0x4 0x0 1 16 0 16 .ro false true [50]
/-- SW_GATE_FAULT.COUNT (R467): GATE faults; saturates -/
def SW_GATE_FAULT_COUNT : Fld := .mk 537 0x270000 0x0 1 0x8 0x0 1 0 0 32 .ro false true [0]
/-- SW_VIOL.COUNT (R467): refused normal-world accesses; saturates -/
def SW_VIOL_COUNT : Fld := .mk 538 0x270000 0x0 1 0xc 0x0 1 0 0 32 .ro false true [0]
/-- SW_VIOL_INFO.KIND (R467): 0 register page, 1 GPIO, 2 DMA channel -/
def SW_VIOL_INFO_KIND : Fld := .mk 539 0x270000 0x0 1 0x10 0x0 1 0 0 2 .ro false true [0]
/-- SW_VIOL_INFO.INDEX (R467): page number, pin or channel -/
def SW_VIOL_INFO_INDEX : Fld := .mk 540 0x270000 0x0 1 0x10 0x0 1 2 0 13 .ro false true [0]
/-- SW_VIOL_INFO.FUNC (R467): function of the access; 127 for firmware -/
def SW_VIOL_INFO_FUNC : Fld := .mk 541 0x270000 0x0 1 0x10 0x0 1 15 0 7 .ro false true [0]
/-- SW_GPIOW0.PINS (R467): bit p: GPIOp is world 1 -/
def SW_GPIOW0_PINS : Fld := .mk 542 0x270000 0x0 1 0x20 0x0 1 0 0 32 .rw false true [0]
/-- SW_GPIOW1.PINS (R467): bit p: GPIO32 + p is world 1 -/
def SW_GPIOW1_PINS : Fld := .mk 543 0x270000 0x0 1 0x24 0x0 1 0 0 16 .rw false true [0]
/-- SW_DMAW0.CH (R467): channels 0 to 31 -/
def SW_DMAW0_CH : Fld := .mk 544 0x270000 0x0 1 0x28 0x0 1 0 0 32 .rw false true [0]
/-- SW_DMAW1.CH (R467): channels 32 to 63 -/
def SW_DMAW1_CH : Fld := .mk 545 0x270000 0x0 1 0x2c 0x0 1 0 0 32 .rw false true [0]
/-- SW_EVWk.SRC (R467): event sources 32k to 32k + 31 -/
def SW_EVWk_SRC : Fld := .mk 546 0x270000 0x0 1 0x40 0x4 16 0 0 32 .rw false true [0]
/-- SW_STALE.LIMIT_MS (R467): stale limit in force -/
def SW_STALE_LIMIT_MS : Fld := .mk 547 0x270000 0x0 1 0x80 0x0 1 0 0 10 .ro false true [100]
/-- SW_STALE.ACTION (R467): stale action -/
def SW_STALE_ACTION : Fld := .mk 548 0x270000 0x0 1 0x80 0x0 1 10 0 2 .ro false true [1]
/-- SW_STALE_RG.RG (R467): stale colour R in bits 15:0, G in bits 31:16 -/
def SW_STALE_RG_RG : Fld := .mk 549 0x270000 0x0 1 0x84 0x0 1 0 0 32 .ro false true [15360]
/-- SW_STALE_B.B (R467): stale colour B -/
def SW_STALE_B_B : Fld := .mk 550 0x270000 0x0 1 0x88 0x0 1 0 0 16 .ro false true [0]
/-- SW_ENTRYe_LO.VALID (R467): entry e valid; writes ignored while ENTRY_LOCK is 1 -/
def SW_ENTRYe_LO_VALID : Fld := .mk 551 0x270000 0x0 1 0x100 0x8 32 0 0 1 .rw false true [0]
/-- SW_ENTRYe_LO.ADDR (R467): entry address, bits 31:2 -/
def SW_ENTRYe_LO_ADDR : Fld := .mk 552 0x270000 0x0 1 0x100 0x8 32 2 0 30 .rw false true [0]
/-- SW_ENTRYe_HI.ADDR (R467): entry address, bits 63:32 -/
def SW_ENTRYe_HI_ADDR : Fld := .mk 553 0x270000 0x0 1 0x104 0x8 32 0 0 32 .rw false true [0]
/-- SW_PSEQn.SEQ (R467): last accepted SEQ for HDn -/
def SW_PSEQn_SEQ : Fld := .mk 554 0x270000 0x0 1 0x200 0x4 16 0 0 32 .ro false true [0]
/-- RJ_SESSION.ROLE (R484): 0 none, 1 Installer, 2 Maker -/
def RJ_SESSION_ROLE : Fld := .mk 555 0x280000 0x0 1 0x0 0x0 1 0 0 2 .ro false false [0]
/-- RJ_SESSION.LOCK (R484): commission lock set -/
def RJ_SESSION_LOCK : Fld := .mk 556 0x280000 0x0 1 0x0 0x0 1 2 0 1 .ro false false [1]
/-- RJ_SESSION.LOCKOUT (R484): claims refused (R472) -/
def RJ_SESSION_LOCKOUT : Fld := .mk 557 0x280000 0x0 1 0x0 0x0 1 3 0 1 .ro false false [0]
/-- RJ_SESSION.IDLE_LEFT (R484): minutes left before the idle close -/
def RJ_SESSION_IDLE_LEFT : Fld := .mk 558 0x280000 0x0 1 0x0 0x0 1 8 0 8 .ro false false [0]
/-- RJ_IDLE.MIN (R484): idle close in minutes, 1 to 255; 0 taken as 1 -/
def RJ_IDLE_MIN : Fld := .mk 559 0x280000 0x0 1 0x4 0x0 1 0 0 8 .rw true false [15]
/-- RJ_CLAIM_FAIL.COUNT (R484): failed responses; saturates -/
def RJ_CLAIM_FAIL_COUNT : Fld := .mk 560 0x280000 0x0 1 0x8 0x0 1 0 0 16 .ro false false [0]
/-- RJ_LOCK_VIOL.COUNT (R484): writes refused by the lock; saturates -/
def RJ_LOCK_VIOL_COUNT : Fld := .mk 561 0x280000 0x0 1 0xc 0x0 1 0 0 32 .ro false false [0]
/-- RJ_JNEXT.SEQ (R484): SEQ of the next record -/
def RJ_JNEXT_SEQ : Fld := .mk 562 0x280000 0x0 1 0x10 0x0 1 0 0 32 .ro false false [0]
/-- RJ_JOLDEST.SEQ (R484): oldest SEQ held in flash -/
def RJ_JOLDEST_SEQ : Fld := .mk 563 0x280000 0x0 1 0x14 0x0 1 0 0 32 .ro false false [0]
/-- RJ_JBUF.BUFFERED (R484): records awaiting flush -/
def RJ_JBUF_BUFFERED : Fld := .mk 564 0x280000 0x0 1 0x18 0x0 1 0 0 7 .ro false false [0]
/-- RJ_JBUF.LOST (R484): records not stored since power-on; saturates -/
def RJ_JBUF_LOST : Fld := .mk 565 0x280000 0x0 1 0x18 0x0 1 16 0 16 .ro false false [0]
/-- RJ_JWRAP.COUNT (R484): passes of slot 0 -/
def RJ_JWRAP_COUNT : Fld := .mk 566 0x280000 0x0 1 0x1c 0x0 1 0 0 32 .ro false false [0]
/-- RJ_CFG.SLOT (R484): commissioned configuration copy in use -/
def RJ_CFG_SLOT : Fld := .mk 567 0x280000 0x0 1 0x20 0x0 1 0 0 1 .ro false false [0]
/-- RJ_CFG.VALID (R484): a configuration has been saved -/
def RJ_CFG_VALID : Fld := .mk 568 0x280000 0x0 1 0x20 0x0 1 1 0 1 .ro false false [0]
/-- RJ_CFG.SAVES (R484): saves over the chips life; saturates -/
def RJ_CFG_SAVES : Fld := .mk 569 0x280000 0x0 1 0x20 0x0 1 16 0 16 .ro false false [0]
/-- RB_CAUSE.SRC (R513): bit per source (R486) -/
def RB_CAUSE_SRC : Fld := .mk 570 0x260000 0x0 1 0x0 0x0 1 0 0 18 .w1c false false [1]
/-- RB_LAST.SRC (R513): RB_CAUSE bit of the source that began the current start -/
def RB_LAST_SRC : Fld := .mk 571 0x260000 0x0 1 0x4 0x0 1 0 0 4 .ro false false [0]
/-- RB_STAT.CONFIRMED (R513): start-confirm reached -/
def RB_STAT_CONFIRMED : Fld := .mk 572 0x260000 0x0 1 0x8 0x0 1 0 0 1 .ro false false [0]
/-- RB_STAT.KENNEL (R513): in Kennel -/
def RB_STAT_KENNEL : Fld := .mk 573 0x260000 0x0 1 0x8 0x0 1 1 0 1 .ro false false [0]
/-- RB_STAT.KREQ (R513): Kennel request set -/
def RB_STAT_KREQ : Fld := .mk 574 0x260000 0x0 1 0x8 0x0 1 2 0 1 .ro false false [0]
/-- RB_STAT.FAILS (R513): failed-start counter -/
def RB_STAT_FAILS : Fld := .mk 575 0x260000 0x0 1 0x8 0x0 1 3 0 2 .ro false false [0]
/-- RB_STAT.TRIM_DEF (R513): safe default trims in use -/
def RB_STAT_TRIM_DEF : Fld := .mk 576 0x260000 0x0 1 0x8 0x0 1 5 0 1 .ro false false [0]
/-- RB_STAT.OPT_FAULT (R513): option area unreadable -/
def RB_STAT_OPT_FAULT : Fld := .mk 577 0x260000 0x0 1 0x8 0x0 1 6 0 1 .ro false false [0]
/-- RB_STAT.WARM (R513): current start began at a Warm reach -/
def RB_STAT_WARM : Fld := .mk 578 0x260000 0x0 1 0x8 0x0 1 7 0 1 .ro false false [0]
/-- RB_STAT.PHASE (R513): step of R494 reached -/
def RB_STAT_PHASE : Fld := .mk 579 0x260000 0x0 1 0x8 0x0 1 8 0 4 .ro false false [0]
/-- RB_STRAP.BOOT_SRC (R513): as sampled -/
def RB_STRAP_BOOT_SRC : Fld := .mk 580 0x260000 0x0 1 0xc 0x0 1 0 0 3 .ro false false [0]
/-- RB_STRAP.CLK_MODE (R513): as sampled -/
def RB_STRAP_CLK_MODE : Fld := .mk 581 0x260000 0x0 1 0xc 0x0 1 3 0 2 .ro false false [0]
/-- RB_STRAP.TWIN_ID (R513): 0 A, 1 B -/
def RB_STRAP_TWIN_ID : Fld := .mk 582 0x260000 0x0 1 0xc 0x0 1 5 0 1 .ro false false [0]
/-- RB_STRAP.KENNEL_PORT (R513): 0 DX0, 1 DX4 -/
def RB_STRAP_KENNEL_PORT : Fld := .mk 583 0x260000 0x0 1 0xc 0x0 1 6 0 1 .ro false false [0]
/-- RB_HEEL_TMO.US (R513): heel timeout, 10 to 10,000 µs; other values taken as the nearer limit -/
def RB_HEEL_TMO_US : Fld := .mk 584 0x260000 0x0 1 0x10 0x0 1 0 0 16 .rw false false [100]
/-- RB_FORCED.COUNT (R513): forced resets; saturates -/
def RB_FORCED_COUNT : Fld := .mk 585 0x260000 0x0 1 0x14 0x0 1 0 0 32 .ro false false [0]
/-- RB_NWDOG.MS (R513): normal-world watchdog period, 100 to 5,000 ms -/
def RB_NWDOG_MS : Fld := .mk 586 0x260000 0x0 1 0x18 0x0 1 0 0 13 .rw true false [500]
/-- RB_NWDOG.KICK (R513): restarts the period -/
def RB_NWDOG_KICK : Fld := .mk 587 0x260000 0x0 1 0x18 0x0 1 16 0 1 .w1s false false [0]
/-- RB_START_MS.IMAGE (R513): ms from release to the splash image -/
def RB_START_MS_IMAGE : Fld := .mk 588 0x260000 0x0 1 0x1c 0x0 1 0 0 16 .ro false false [0]
/-- RB_START_MS.CONFIRM (R513): ms from release to start-confirm -/
def RB_START_MS_CONFIRM : Fld := .mk 589 0x260000 0x0 1 0x1c 0x0 1 16 0 16 .ro false false [0]
/-- RB_FW.ACTIVE (R513): 0 slot A, 1 slot B -/
def RB_FW_ACTIVE : Fld := .mk 590 0x260000 0x0 1 0x20 0x0 1 0 0 1 .ro false false [0]
/-- RB_FW.VALID (R513): bit 1 slot A valid, bit 2 slot B valid -/
def RB_FW_VALID : Fld := .mk 591 0x260000 0x0 1 0x20 0x0 1 1 0 2 .ro false false [0]
/-- RB_FW.BUSY (R513): a firmware operation runs -/
def RB_FW_BUSY : Fld := .mk 592 0x260000 0x0 1 0x20 0x0 1 3 0 1 .ro false false [0]
/-- RB_FW.KEY (R513): key-hash slot in force; 0b111 the ROM release key -/
def RB_FW_KEY : Fld := .mk 593 0x260000 0x0 1 0x20 0x0 1 4 0 3 .ro false false [7]
/-- RB_FW.FLOOR (R513): rollback floor -/
def RB_FW_FLOOR : Fld := .mk 594 0x260000 0x0 1 0x20 0x0 1 8 0 6 .ro false false [0]
/-- RB_LOAD_LO.ADDR (R513): host image address, bits 31:0 -/
def RB_LOAD_LO_ADDR : Fld := .mk 595 0x260000 0x0 1 0x24 0x0 1 0 0 32 .rw false false [0]
/-- RB_LOAD_HI.ADDR (R513): bits 63:32 -/
def RB_LOAD_HI_ADDR : Fld := .mk 596 0x260000 0x0 1 0x28 0x0 1 0 0 32 .rw false false [0]
/-- RB_LOAD_LEN.BYTES (R513): image length -/
def RB_LOAD_LEN_BYTES : Fld := .mk 597 0x260000 0x0 1 0x2c 0x0 1 0 0 26 .rw false false [0]
/-- RB_LOAD_LEN.GO (R513): starts the host load (R509) -/
def RB_LOAD_LEN_GO : Fld := .mk 598 0x260000 0x0 1 0x2c 0x0 1 31 0 1 .w1s false false [0]
/-- RB_HELD.SUBSYS (R513): bit per subsystem held by HOLD -/
def RB_HELD_SUBSYS : Fld := .mk 599 0x260000 0x0 1 0x30 0x0 1 0 0 7 .ro false false [0]
/-- RB_HELD.BLOCKS (R513): blocks held by HOLD -/
def RB_HELD_BLOCKS : Fld := .mk 600 0x260000 0x0 1 0x30 0x0 1 8 0 8 .ro false false [0]
/-- GL_THERM.TJ (R526): Tj, signed, units of 0.1 °C -/
def GL_THERM_TJ : Fld := .mk 601 0x0 0x0 1 0x60 0x0 1 0 0 16 .ro false false [0]
/-- GL_THERM.HOT (R526): sensor giving Tj -/
def GL_THERM_HOT : Fld := .mk 602 0x0 0x0 1 0x60 0x0 1 16 0 3 .ro false false [0]
/-- GL_THERM_CFG.WARN (R526): warning threshold, 60 to 114 °C; other values taken as the nearer limit -/
def GL_THERM_CFG_WARN : Fld := .mk 603 0x0 0x0 1 0x64 0x0 1 0 0 8 .rw true false [105]
/-- GL_WAKE_EN0.GPIO (R526): bit p: GPIOp is a wake input -/
def GL_WAKE_EN0_GPIO : Fld := .mk 604 0x0 0x0 1 0x68 0x0 1 0 0 32 .rw false false [0]
/-- GL_WAKE_EN1.GPIO (R526): bit p: GPIO32 + p is a wake input -/
def GL_WAKE_EN1_GPIO : Fld := .mk 605 0x0 0x0 1 0x6c 0x0 1 0 0 16 .rw false false [0]
/-- GL_WAKE_EN1.ALARM (R526): time alarm enabled -/
def GL_WAKE_EN1_ALARM : Fld := .mk 606 0x0 0x0 1 0x6c 0x0 1 16 0 1 .rw false false [0]
/-- GL_WAKE_EN1.PCIE (R526): L1 exit wakes from Hold -/
def GL_WAKE_EN1_PCIE : Fld := .mk 607 0x0 0x0 1 0x6c 0x0 1 17 0 1 .rw false false [1]
/-- GL_WAKE_EN1.TOUCH (R526): touch interrupt wakes from Hold -/
def GL_WAKE_EN1_TOUCH : Fld := .mk 608 0x0 0x0 1 0x6c 0x0 1 18 0 1 .rw false false [0]
/-- GL_WAKE_EN1.TWIN_OUT (R526): GPIO driven as the twin-wake output (R37), 0 to 47 -/
def GL_WAKE_EN1_TWIN_OUT : Fld := .mk 609 0x0 0x0 1 0x6c 0x0 1 19 0 6 .rw true false [0]
/-- GL_WAKE_EN1.TWIN_OUT_EN (R526): the twin-wake output is in use -/
def GL_WAKE_EN1_TWIN_OUT_EN : Fld := .mk 610 0x0 0x0 1 0x6c 0x0 1 25 0 1 .rw true false [0]
/-- GL_WAKE_SRC.GPIO (R526): GPIO of the last wake -/
def GL_WAKE_SRC_GPIO : Fld := .mk 611 0x0 0x0 1 0x70 0x0 1 0 0 6 .ro false false [0]
/-- GL_WAKE_SRC.KIND (R526): 0 GPIO, 1 alarm, 2 PCI Express, 3 touch -/
def GL_WAKE_SRC_KIND : Fld := .mk 612 0x0 0x0 1 0x70 0x0 1 8 0 2 .ro false false [0]
/-- GL_WAKE_AT.SEC (R526): alarm second, compared with TB_SEC -/
def GL_WAKE_AT_SEC : Fld := .mk 613 0x0 0x0 1 0x74 0x0 1 0 0 32 .rw false false [0]
/-- GL_GATE.DOM (R526): bit per domain code (R520): gated by GATE_BLOCK -/
def GL_GATE_DOM : Fld := .mk 614 0x0 0x0 1 0x78 0x0 1 0 0 18 .ro false false [0]
/-- GL_GATE.THERM (R526): bit 18 + k: render group GXGk gated by the 125 °C rule (R524) -/
def GL_GATE_THERM : Fld := .mk 615 0x0 0x0 1 0x78 0x0 1 18 0 6 .ro false false [0]
/-- GL_PARK_FACE.OFS (R526): signed local offset, minutes -/
def GL_PARK_FACE_OFS : Fld := .mk 616 0x0 0x0 1 0x7c 0x0 1 0 0 16 .rw true false [0]
/-- GL_PARK_FACE.H24 (R526): 24-hour face -/
def GL_PARK_FACE_H24 : Fld := .mk 617 0x0 0x0 1 0x7c 0x0 1 16 0 1 .rw true false [1]
/-- GL_ID.PART (R555): part number -/
def GL_ID_PART : Fld := .mk 618 0x0 0x0 1 0x0 0x0 1 0 0 16 .ro false false [25622]
/-- GL_ID.STEP (R555): stepping; 0x2 is B1, equal to the JTAG IDCODE version (R540) -/
def GL_ID_STEP : Fld := .mk 619 0x0 0x0 1 0x0 0x0 1 16 0 4 .ro false false [2]
/-- GL_ID.TWIN_B (R555): TWIN_ID as sampled -/
def GL_ID_TWIN_B : Fld := .mk 620 0x0 0x0 1 0x0 0x0 1 20 0 1 .ro false false [0]
/-- GL_FWVER.VERSION (R555): VERSION of the image running (R507); zero in Kennel before a recovery load -/
def GL_FWVER_VERSION : Fld := .mk 621 0x0 0x0 1 0x4 0x0 1 0 0 32 .ro false false [0]
/-- GL_SCRATCH0.DATA (R555): kept through every reach short of power-on -/
def GL_SCRATCH0_DATA : Fld := .mk 622 0x0 0x0 1 0x8 0x0 1 0 0 32 .rw false false [0]
/-- GL_SCRATCH1.DATA (R555): as GL_SCRATCH0 -/
def GL_SCRATCH1_DATA : Fld := .mk 623 0x0 0x0 1 0xc 0x0 1 0 0 32 .rw false false [0]
/-- GL_ACCERR.COUNT (R555): accesses refused under R550; saturates -/
def GL_ACCERR_COUNT : Fld := .mk 624 0x0 0x0 1 0x10 0x0 1 0 0 16 .ro false false [0]
/-- GL_ACCERR.SEEN (R555): a refusal since the last clear -/
def GL_ACCERR_SEEN : Fld := .mk 625 0x0 0x0 1 0x10 0x0 1 16 0 1 .w1c false false [0]
/-- GL_ACCERR_ADDR.ADDR (R555): window offset of the latest refusal -/
def GL_ACCERR_ADDR_ADDR : Fld := .mk 626 0x0 0x0 1 0x14 0x0 1 0 0 25 .ro false false [0]
/-- GL_ACCERR_ADDR.WRITE (R555): 1 for a write -/
def GL_ACCERR_ADDR_WRITE : Fld := .mk 627 0x0 0x0 1 0x14 0x0 1 25 0 1 .ro false false [0]
/-- GL_ACCERR_ADDR.CAUSE (R555): 0 size or alignment (R4); 1 domain gated or outside Kennels working set -/
def GL_ACCERR_ADDR_CAUSE : Fld := .mk 628 0x0 0x0 1 0x14 0x0 1 26 0 1 .ro false false [0]
/-- GL_ACCERR_ADDR.CORE (R555): 0 from PCI Express; 1 from a control core -/
def GL_ACCERR_ADDR_CORE : Fld := .mk 629 0x0 0x0 1 0x14 0x0 1 27 0 1 .ro false false [0]
/-- EV_CTL.EN (R569): delivery enabled. While 0, no MSI-X message is sent and every INT_N pin is released (R566). Raises still set pending bits, and every raise routed to a vector, a -/
def EV_CTL_EN : Fld := .mk 630 0x290000 0x0 1 0x0 0x0 1 0 0 1 .rw false false [0]
/-- EV_DROP.COUNT (R569): fires without a message (R565); saturates -/
def EV_DROP_COUNT : Fld := .mk 631 0x290000 0x0 1 0x4 0x0 1 0 0 32 .ro false false [0]
/-- EV_PINp.EN (R569): INT_N[p] enabled -/
def EV_PINp_EN : Fld := .mk 632 0x290000 0x0 1 0x10 0x4 4 0 0 1 .rw false false [0]
/-- EV_PINp.LEVEL (R569): 1 while INT_N[p] is driven low -/
def EV_PINp_LEVEL : Fld := .mk 633 0x290000 0x0 1 0x10 0x4 4 1 0 1 .ro false false [0]
/-- EV_PENDk.SRC (R569): bit i: source 32k + i pending -/
def EV_PENDk_SRC : Fld := .mk 634 0x290000 0x0 1 0x100 0x4 16 0 0 32 .w1c false false [0]
/-- EV_ROUTEs.FUNC (R569): function 0 to 64; other values are taken as 0 -/
def EV_ROUTEs_FUNC : Fld := .mk 635 0x290000 0x0 1 0x1000 0x4 512 0 0 7 .rw false false [0]
/-- EV_ROUTEs.VEC (R569): vector; for a VF, bits 14:11 are taken as zero -/
def EV_ROUTEs_VEC : Fld := .mk 636 0x290000 0x0 1 0x1000 0x4 512 8 0 7 .rw false false [0]
/-- EV_ROUTEs.MSIX_EN (R569): deliver to the vector -/
def EV_ROUTEs_MSIX_EN : Fld := .mk 637 0x290000 0x0 1 0x1000 0x4 512 15 0 1 .rw false false [0]
/-- EV_ROUTEs.PINS (R569): bit p: drive INT_N[p] -/
def EV_ROUTEs_PINS : Fld := .mk 638 0x290000 0x0 1 0x1000 0x4 512 16 0 4 .rw false false [0]
/-- EV_VECv_COAL.COUNT (R569): F0 vector v; 0 is taken as 1 -/
def EV_VECv_COAL_COUNT : Fld := .mk 639 0x290000 0x0 1 0x2000 0x4 128 0 0 8 .rw false false [1]
/-- EV_VECv_COAL.TIME (R569): µs -/
def EV_VECv_COAL_TIME : Fld := .mk 640 0x290000 0x0 1 0x2000 0x4 128 8 0 10 .rw false false [0]
/-- EV_FNf.REPLY_VEC (R569): reply vector; for a VF, 0 to 7 -/
def EV_FNf_REPLY_VEC : Fld := .mk 641 0x290000 0x0 1 0x2400 0x4 65 0 0 7 .rw false false [0]
/-- EV_FNf.COUNT (R569): VF vectors; ignored for F0; 0 is taken as 1 -/
def EV_FNf_COUNT : Fld := .mk 642 0x290000 0x0 1 0x2400 0x4 65 8 0 8 .rw false false [1]
/-- EV_FNf.TIME (R569): VF vectors, µs; ignored for F0 -/
def EV_FNf_TIME : Fld := .mk 643 0x290000 0x0 1 0x2400 0x4 65 16 0 10 .rw false false [0]

/-- Part 0 of this file's fields, in order of number. -/
def fieldsC0 : List Fld :=
  [SKn_CTL_LANES, SKn_CTL_LANE_REV, SKn_CTL_REPLAY_TMO, SKn_CTL_LINK_TMO, SKn_STAT_RUN,
   SKn_STAT_PEND_RESTART, SKn_STAT_LINK, SKn_STAT_LANES_ACT, SKn_STAT_MISMATCH, SKn_POL_RX_INV,
   SKn_POL_TX_INV, SKn_RXBUF_UNITS, SKn_CRC_ERR_COUNT, SKn_REPLAY_REPLAYS, SKn_REPLAY_RETRAINS,
   SKn_VIOL_COUNT, SKn_STs_CFG_KIND, SKn_STs_CFG_DROP, SKn_STs_CFG_FENCE_EN, SKn_STs_CFG_CREDIT_MAX,
   SKn_STs_BIND_FUNC, SKn_STs_BIND_ENDPOINT, SKn_STs_BIND_GEN, SKn_STs_BIND_ORPHAN, SKn_STs_HANDLE_LO_HANDLE,
   SKn_STs_HANDLE_HI_HANDLE, SKn_STs_RING_NSLOT, SKn_STs_RING_SLOT, SKn_STs_RING_FENCE, SKn_STs_CREDIT_UNITS,
   SKn_STs_FRAMES_COUNT, SKn_STs_DROP_DROP, SKn_STs_DROP_TRUNC, BL_CFG_TWIN_EN, BL_CFG_AUTO,
   BL_CFG_COLD_ACCEPT, BL_CFG_OFFLOAD_IN, BL_CFG_CRIT, BL_POL_RX_INV, BL_POL_TX_INV]

/-- Part 1 of this file's fields, in order of number. -/
def fieldsC1 : List Fld :=
  [BL_MIRROR_RATE_MBPS, BL_STAGE_MIB, BL_GROUPk_HEADS, BL_GROUPk_DUAL, BL_GROUPk_RELAY_MS,
   BL_STAT_LINK, BL_STAT_ATTACH, BL_STAT_HOLD, BL_STAT_SHADOW_RDY, BL_STAT_TWIN_SEEN,
   BL_ATTACH_RES_CODE, BL_LEASH_AGE, BL_LEASH_MISSED, BL_LEASH_RX_COUNT, BL_TWIN_MODE_MODE,
   BL_MIRROR_OUT_MIB, BL_MIRROR_IN_MIB, BL_TIME_OFS_TICKS, BL_CRC_ERR_COUNT, BL_REPLAY_REPLAYS,
   BL_REPLAY_RETRAINS, BL_SIG_MISM_COUNT, BL_SIG_LATE_COUNT, BL_PROOF_FAIL_COUNT, BL_OFFLOAD_SENT,
   BL_OFFLOAD_TAKEN, BL_OFFLOAD_REF_COUNT, BL_DETACH_ORDERLY, BL_DETACH_LOST, BL_VIOL_COUNT,
   BL_PROOF_EXP_EXP, MC_DIST_THR_THR, MC_DIST_THR_BLAST, MC_THROTTLE_BASE_NS, MC_THROTTLE_MAX_NS,
   MC_ERR_CFG_CORR_THR, MC_ERR_CFG_RETIRE_THR, MC_TRAIN_COLD_MS, MC_TRAIN_WARM_MS, MC_STAT_INSVC]

/-- Part 2 of this file's fields, in order of number. -/
def fieldsC2 : List Fld :=
  [MCn_REFCFG_HOT_A, MCn_REFCFG_HOT_B, MCn_REFCFG_PULLIN_EN, MCn_CHk_STAT_STATE, MCn_CHk_STAT_SR,
   MCn_CHk_STAT_DEBT, MCn_CHk_STAT_PASR_MASK, MCn_CHk_STAT_RETIRE_CAUSE, MCn_CHk_SIZE_MIB, MCn_CHk_ECC_CORR,
   MCn_CHk_ECC_UNCORR, MCn_CHk_ERRADDR_ADDR, MCn_CHk_FORCED_COUNT, MCn_CHk_NREF_COUNT, MCn_CHk_THR_CNT_COUNT,
   MCn_CHk_DIST_ROW, MCn_CHk_DIST_BGRP, MCn_CHk_DIST_BANK, MCn_CHk_DIST_RANK, MCn_CHk_DISTREQ_REQ,
   MCn_CHk_DISTREQ_FUNC, MCn_CHk_DISTREQ_THROTTLED, MCn_CHk_RETRAIN_COUNT, CVn_CFG_TAP, CVn_CFG_POLY,
   CVn_CFG_MODE, CVn_CFG_CHAIN, CVn_CFG_NOTICE, CVn_CFG_BOUND, CVn_CFG_FUNC,
   CVn_CFG_WORLD, CVn_SEL_STREAM, CVn_SEL_COPYFN, CVn_SEL_K, CVn_WIN0_XY,
   CVn_WIN1_XY, CVn_RUN_VALUE, CVn_FINAL_VALUE, CVn_COUNT_COUNT, CVn_FAIL_COUNT]

/-- Part 3 of this file's fields, in order of number. -/
def fieldsC3 : List Fld :=
  [CVn_RES_LO_HANDLE, CVn_RES_HI_HANDLE, CK_STAT_MODE, CK_STAT_PLL_LOCK, CK_STAT_AON_DBL,
   CK_PHY_LOCK_MEM, CK_PHY_LOCK_PCIE, CK_PHY_LOCK_DX, CK_PHY_LOCK_SK, CK_PHY_LOCK_BL,
   CK_LOST_FLAGS, CK_LOST_CNT_COUNT, CK_REF_LOSS_COUNT, CK_PLL_LOSS_MAIN, CK_PLL_LOSS_PHY,
   TB_TICK_TICK, TB_SEC_LAT_SEC, TB_SEC_SEC, TB_STAT_VALID, TB_STAT_PPS_OK,
   TB_STAT_ALIGNED, TB_STAT_REF_LOST, TB_STAT_STEPPED, TB_STAT_SOURCE, TB_STAT_ARMED,
   TB_PPS_CFG_MODE, TB_PPS_CFG_EDGE, TB_PPS_SEC_SEC, TB_PPS_TICK_TICK, TB_PPS_ERR_E,
   TB_TRIM_TPS, TB_PPS_CNT_COUNT, TB_PPS_GLITCH_COUNT, GL_SEC_UP, GL_SEC_RESTARTING,
   GL_SEC_HALTED, GL_SEC_ROM_STAGE, GL_SEC_DOWNS, GL_SEC_STALE, GL_SAFE_PIN]

/-- Part 4 of this file's fields, in order of number. -/
def fieldsC4 : List Fld :=
  [GL_SAFE_CHECK, GL_SAFE_STALE, GL_SAFE_START, GL_SAFE_FORCED, SW_CTL_ENTRY_LOCK,
   SW_CTL_FORCE_FAULT, SW_WDOG_KICK, SW_WDOG_REMAIN, SW_GATE_FAULT_COUNT, SW_VIOL_COUNT,
   SW_VIOL_INFO_KIND, SW_VIOL_INFO_INDEX, SW_VIOL_INFO_FUNC, SW_GPIOW0_PINS, SW_GPIOW1_PINS,
   SW_DMAW0_CH, SW_DMAW1_CH, SW_EVWk_SRC, SW_STALE_LIMIT_MS, SW_STALE_ACTION,
   SW_STALE_RG_RG, SW_STALE_B_B, SW_ENTRYe_LO_VALID, SW_ENTRYe_LO_ADDR, SW_ENTRYe_HI_ADDR,
   SW_PSEQn_SEQ, RJ_SESSION_ROLE, RJ_SESSION_LOCK, RJ_SESSION_LOCKOUT, RJ_SESSION_IDLE_LEFT,
   RJ_IDLE_MIN, RJ_CLAIM_FAIL_COUNT, RJ_LOCK_VIOL_COUNT, RJ_JNEXT_SEQ, RJ_JOLDEST_SEQ,
   RJ_JBUF_BUFFERED, RJ_JBUF_LOST, RJ_JWRAP_COUNT, RJ_CFG_SLOT, RJ_CFG_VALID]

/-- Part 5 of this file's fields, in order of number. -/
def fieldsC5 : List Fld :=
  [RJ_CFG_SAVES, RB_CAUSE_SRC, RB_LAST_SRC, RB_STAT_CONFIRMED, RB_STAT_KENNEL,
   RB_STAT_KREQ, RB_STAT_FAILS, RB_STAT_TRIM_DEF, RB_STAT_OPT_FAULT, RB_STAT_WARM,
   RB_STAT_PHASE, RB_STRAP_BOOT_SRC, RB_STRAP_CLK_MODE, RB_STRAP_TWIN_ID, RB_STRAP_KENNEL_PORT,
   RB_HEEL_TMO_US, RB_FORCED_COUNT, RB_NWDOG_MS, RB_NWDOG_KICK, RB_START_MS_IMAGE,
   RB_START_MS_CONFIRM, RB_FW_ACTIVE, RB_FW_VALID, RB_FW_BUSY, RB_FW_KEY,
   RB_FW_FLOOR, RB_LOAD_LO_ADDR, RB_LOAD_HI_ADDR, RB_LOAD_LEN_BYTES, RB_LOAD_LEN_GO,
   RB_HELD_SUBSYS, RB_HELD_BLOCKS, GL_THERM_TJ, GL_THERM_HOT, GL_THERM_CFG_WARN,
   GL_WAKE_EN0_GPIO, GL_WAKE_EN1_GPIO, GL_WAKE_EN1_ALARM, GL_WAKE_EN1_PCIE, GL_WAKE_EN1_TOUCH]

/-- Part 6 of this file's fields, in order of number. -/
def fieldsC6 : List Fld :=
  [GL_WAKE_EN1_TWIN_OUT, GL_WAKE_EN1_TWIN_OUT_EN, GL_WAKE_SRC_GPIO, GL_WAKE_SRC_KIND, GL_WAKE_AT_SEC,
   GL_GATE_DOM, GL_GATE_THERM, GL_PARK_FACE_OFS, GL_PARK_FACE_H24, GL_ID_PART,
   GL_ID_STEP, GL_ID_TWIN_B, GL_FWVER_VERSION, GL_SCRATCH0_DATA, GL_SCRATCH1_DATA,
   GL_ACCERR_COUNT, GL_ACCERR_SEEN, GL_ACCERR_ADDR_ADDR, GL_ACCERR_ADDR_WRITE, GL_ACCERR_ADDR_CAUSE,
   GL_ACCERR_ADDR_CORE, EV_CTL_EN, EV_DROP_COUNT, EV_PINp_EN, EV_PINp_LEVEL,
   EV_PENDk_SRC, EV_ROUTEs_FUNC, EV_ROUTEs_VEC, EV_ROUTEs_MSIX_EN, EV_ROUTEs_PINS,
   EV_VECv_COAL_COUNT, EV_VECv_COAL_TIME, EV_FNf_REPLY_VEC, EV_FNf_COUNT, EV_FNf_TIME]

/-- All fields of this file. -/
def fieldsC : List Fld :=
  fieldsC0 ++ fieldsC1 ++ fieldsC2 ++ fieldsC3 ++ fieldsC4 ++ fieldsC5 ++ fieldsC6

end Sys2Proof.Machine
end

