-- ==== Sys2Proof/Machine/Opcodes.lean ====
section
/-!
DEFINITION. The opcode table of R81: code, who may issue it, the role it needs, the parameter lengths its chapter
gives, and whether it is a query for R42.
-/
namespace Sys2Proof.Machine

/-- One row of the opcode table. -/
structure Op where
  /-- Opcode (R81): class in bits 15:12. -/
  code : Nat
  /-- F0 only. -/
  f0 : Bool
  /-- Role needed: 0 Operator, 1 Installer, 2 Maker. -/
  role : Nat
  /-- Fewest parameter words. -/
  minW : Nat
  /-- Most parameter words. -/
  maxW : Nat
  /-- Step of the lengths between them. -/
  stepW : Nat
  /-- A query for R42. -/
  query : Bool
deriving DecidableEq, Repr

/-- Opcode class. -/
def Op.cls (o : Op) : Nat := o.code / 4096

/-- NOP (R81). -/
def opNop : Op := ⟨0x0000, false, 0, 0, 0, 1, false⟩
/-- VERSION_QUERY (R81). -/
def opVersionQuery : Op := ⟨0x0001, false, 0, 0, 0, 1, true⟩
/-- BARRIER (R81). -/
def opBarrier : Op := ⟨0x0002, false, 0, 0, 0, 1, false⟩
/-- FENCE_ALLOC (R81). -/
def opFenceAlloc : Op := ⟨0x0003, false, 0, 0, 0, 1, false⟩
/-- FENCE_FREE (R81). -/
def opFenceFree : Op := ⟨0x0004, false, 0, 1, 1, 1, false⟩
/-- FENCE_SIGNAL (R81). -/
def opFenceSignal : Op := ⟨0x0005, false, 0, 3, 3, 1, false⟩
/-- FENCE_SHARE (R81). -/
def opFenceShare : Op := ⟨0x0006, false, 0, 2, 2, 1, false⟩
/-- CLAIM_ROLE (R81). -/
def opClaimRole : Op := ⟨0x0008, true, 0, 1, 9, 8, false⟩
/-- RELEASE_ROLE (R81). -/
def opReleaseRole : Op := ⟨0x0009, true, 0, 1, 1, 1, false⟩
/-- FN_ENABLE (R81). -/
def opFnEnable : Op := ⟨0x1000, true, 0, 1, 1, 1, false⟩
/-- FN_DISABLE (R81). -/
def opFnDisable : Op := ⟨0x1001, true, 0, 1, 1, 1, false⟩
/-- SHARE_SET (R81). -/
def opShareSet : Op := ⟨0x1002, true, 0, 8, 8, 1, false⟩
/-- SHARE_QUERY (R81). -/
def opShareQuery : Op := ⟨0x1003, true, 0, 1, 1, 1, true⟩
/-- FN_QUERY (R81). -/
def opFnQuery : Op := ⟨0x1004, true, 0, 1, 1, 1, true⟩
/-- DEFAULT_SHARE_SET (R81). -/
def opDefaultShareSet : Op := ⟨0x1005, true, 1, 6, 6, 1, false⟩
/-- HOLD_TIME_SET (R81). -/
def opHoldTimeSet : Op := ⟨0x1006, true, 1, 1, 1, 1, false⟩
/-- ALLOC (R81). -/
def opAlloc : Op := ⟨0x2000, false, 0, 4, 4, 1, false⟩
/-- FREE (R81). -/
def opFreeHandle : Op := ⟨0x2001, false, 0, 2, 2, 1, false⟩
/-- HANDLE_QUERY (R81). -/
def opHandleQuery : Op := ⟨0x2002, false, 0, 2, 2, 1, true⟩
/-- PLACE_HINT (R81). -/
def opPlaceHint : Op := ⟨0x2003, false, 0, 3, 3, 1, false⟩
/-- PLACE_PIN (R81). -/
def opPlacePin : Op := ⟨0x2004, false, 0, 2, 2, 1, false⟩
/-- PLACE_UNPIN (R81). -/
def opPlaceUnpin : Op := ⟨0x2005, false, 0, 2, 2, 1, false⟩
/-- COPY_HANDLE (R81). -/
def opCopyHandle : Op := ⟨0x2006, false, 0, 6, 6, 1, false⟩
/-- MEM_SIZE_SET (R81). -/
def opMemSizeSet : Op := ⟨0x2007, true, 1, 1, 1, 1, false⟩
/-- SHADER_LOAD (R81). -/
def opShaderLoad : Op := ⟨0x3000, false, 0, 3, 3, 1, false⟩
/-- PIPELINE_CREATE (R81). -/
def opPipelineCreate : Op := ⟨0x3001, false, 0, 2, 2, 1, false⟩
/-- PIPELINE_DESTROY (R81). -/
def opPipelineDestroy : Op := ⟨0x3002, false, 0, 1, 1, 1, false⟩
/-- RENDER_SUBMIT (R81). -/
def opRenderSubmit : Op := ⟨0x3003, false, 0, 2, 2, 1, false⟩
/-- COMPUTE_SUBMIT (R81). -/
def opComputeSubmit : Op := ⟨0x3004, false, 0, 2, 2, 1, false⟩
/-- RENDER_BARRIER (R81). -/
def opRenderBarrier : Op := ⟨0x3005, false, 0, 1, 1, 1, false⟩
/-- BIN_GROW (R81). -/
def opBinGrow : Op := ⟨0x3006, false, 0, 4, 4, 1, false⟩
/-- SHADER_CACHE_FLUSH (R81). -/
def opShaderCacheFlush : Op := ⟨0x3007, true, 0, 0, 0, 1, false⟩
/-- LAYER_SET (R81). -/
def opLayerSet : Op := ⟨0x4000, false, 0, 12, 12, 1, false⟩
/-- LAYER_REMOVE (R81). -/
def opLayerRemove : Op := ⟨0x4001, false, 0, 1, 1, 1, false⟩
/-- FLIP (R81). -/
def opFlip : Op := ⟨0x4002, false, 0, 6, 6, 1, false⟩
/-- FLIP_GROUP (R81). -/
def opFlipGroup : Op := ⟨0x4003, false, 0, 13, 49, 6, false⟩
/-- FLIP_QUERY (R81). -/
def opFlipQuery : Op := ⟨0x4004, false, 0, 1, 1, 1, true⟩
/-- TONE_MAP_SET (R81). -/
def opToneMapSet : Op := ⟨0x4005, true, 0, 13, 13, 1, false⟩
/-- BACKGROUND_SET (R81). -/
def opBackgroundSet : Op := ⟨0x4006, true, 0, 3, 3, 1, false⟩
/-- LAYER_ASSIGN (R81). -/
def opLayerAssign : Op := ⟨0x4007, true, 0, 2, 2, 1, false⟩
/-- STOP_HEAD (R81). -/
def opStopHead : Op := ⟨0x5000, true, 0, 1, 1, 1, false⟩
/-- START_HEAD (R81). -/
def opStartHead : Op := ⟨0x5001, true, 0, 1, 1, 1, false⟩
/-- STOP_PORT (R81). -/
def opStopPort : Op := ⟨0x5002, true, 0, 1, 1, 1, false⟩
/-- START_PORT (R81). -/
def opStartPort : Op := ⟨0x5003, true, 0, 1, 1, 1, false⟩
/-- HEAD_QUERY (R81). -/
def opHeadQuery : Op := ⟨0x5004, false, 0, 1, 1, 1, true⟩
/-- PORT_QUERY (R81). -/
def opPortQuery : Op := ⟨0x5005, false, 0, 1, 1, 1, true⟩
/-- VRR_PORCH_SET (R81). -/
def opVrrPorchSet : Op := ⟨0x5006, true, 0, 2, 2, 1, false⟩
/-- SELF_REFRESH_SET (R81). -/
def opSelfRefreshSet : Op := ⟨0x5007, true, 0, 2, 2, 1, false⟩
/-- STOP_TOUCH (R81). -/
def opStopTouch : Op := ⟨0x6000, true, 0, 1, 1, 1, false⟩
/-- START_TOUCH (R81). -/
def opStartTouch : Op := ⟨0x6001, true, 0, 1, 1, 1, false⟩
/-- HIT_REGION_WRITE (R81). -/
def opHitRegionWrite : Op := ⟨0x6002, false, 0, 5, 1021, 4, false⟩
/-- HIT_REGION_CLEAR (R81). -/
def opHitRegionClear : Op := ⟨0x6003, false, 0, 2, 2, 1, false⟩
/-- HAPTIC_PLAY (R81). -/
def opHapticPlay : Op := ⟨0x6004, false, 0, 2, 2, 1, false⟩
/-- HAPTIC_WAVE_LOAD (R81). -/
def opHapticWaveLoad : Op := ⟨0x6005, true, 0, 4, 4, 1, false⟩
/-- HAPTIC_CALIBRATE (R81). -/
def opHapticCalibrate : Op := ⟨0x6006, true, 0, 1, 1, 1, false⟩
/-- HAPTIC_LIMIT_SET (R81). -/
def opHapticLimitSet : Op := ⟨0x6007, true, 1, 4, 4, 1, false⟩
/-- STOP_AUDIO (R81). -/
def opStopAudio : Op := ⟨0x7000, true, 0, 1, 1, 1, false⟩
/-- START_AUDIO (R81). -/
def opStartAudio : Op := ⟨0x7001, true, 0, 1, 1, 1, false⟩
/-- AUDIO_GRAPH_LOAD (R81). -/
def opAudioGraphLoad : Op := ⟨0x7002, true, 1, 4, 4, 1, false⟩
/-- AUDIO_GAIN_SET (R81). -/
def opAudioGainSet : Op := ⟨0x7003, false, 0, 3, 3, 1, false⟩
/-- AUDIO_STREAM_OPEN (R81). -/
def opAudioStreamOpen : Op := ⟨0x7004, false, 0, 5, 5, 1, false⟩
/-- AUDIO_STREAM_CLOSE (R81). -/
def opAudioStreamClose : Op := ⟨0x7005, false, 0, 1, 1, 1, false⟩
/-- TONE_PLAY (R81). -/
def opTonePlay : Op := ⟨0x7006, false, 0, 6, 6, 1, false⟩
/-- BEEP_PLAY (R81). -/
def opBeepPlay : Op := ⟨0x7007, false, 0, 3, 3, 1, false⟩
/-- STOP_SKEIN (R81). -/
def opStopSkein : Op := ⟨0x8000, true, 0, 1, 1, 1, false⟩
/-- START_SKEIN (R81). -/
def opStartSkein : Op := ⟨0x8001, true, 0, 1, 1, 1, false⟩
/-- SKEIN_STREAM_BIND (R81). -/
def opSkeinStreamBind : Op := ⟨0x8002, true, 0, 6, 6, 1, false⟩
/-- SKEIN_STREAM_UNBIND (R81). -/
def opSkeinStreamUnbind : Op := ⟨0x8003, true, 0, 1, 1, 1, false⟩
/-- SKEIN_QUERY (R81). -/
def opSkeinQuery : Op := ⟨0x8004, false, 0, 1, 1, 1, true⟩
/-- ATTACH (R81). -/
def opAttach : Op := ⟨0x9000, true, 0, 0, 0, 1, false⟩
/-- DETACH (R81). -/
def opDetach : Op := ⟨0x9001, true, 0, 0, 0, 1, false⟩
/-- TWIN_QUERY (R81). -/
def opTwinQuery : Op := ⟨0x9002, false, 0, 0, 0, 1, true⟩
/-- CV_BIND (R81). -/
def opCvBind : Op := ⟨0xA000, false, 0, 8, 8, 1, false⟩
/-- CV_READ (R81). -/
def opCvRead : Op := ⟨0xA001, false, 0, 1, 1, 1, false⟩
/-- CV_WRITE (R81). -/
def opCvWrite : Op := ⟨0xA002, false, 0, 2, 2, 1, false⟩
/-- CV_RELEASE (R81). -/
def opCvRelease : Op := ⟨0xA003, false, 0, 1, 1, 1, false⟩
/-- TIME_QUERY (R81). -/
def opTimeQuery : Op := ⟨0xB000, false, 0, 0, 0, 1, true⟩
/-- PPS_MODE_SET (R81). -/
def opPpsModeSet : Op := ⟨0xB001, true, 0, 1, 1, 1, false⟩
/-- TIME_SET (R81). -/
def opTimeSet : Op := ⟨0xB002, true, 0, 3, 3, 1, false⟩
/-- POWER_MODE_SET (R81). -/
def opPowerModeSet : Op := ⟨0xC000, true, 0, 1, 1, 1, false⟩
/-- MODE_QUERY (R81). -/
def opModeQuery : Op := ⟨0xC001, false, 0, 0, 0, 1, true⟩
/-- DEGRADED_CLEAR (R81). -/
def opDegradedClear : Op := ⟨0xC002, true, 2, 0, 0, 1, false⟩
/-- GATE_BLOCK (R81). -/
def opGateBlock : Op := ⟨0xC003, true, 0, 1, 1, 1, false⟩
/-- UNGATE_BLOCK (R81). -/
def opUngateBlock : Op := ⟨0xC004, true, 0, 1, 1, 1, false⟩
/-- THERMAL_QUERY (R81). -/
def opThermalQuery : Op := ⟨0xC005, false, 0, 0, 0, 1, true⟩
/-- PARK_FACE_SET (R81). -/
def opParkFaceSet : Op := ⟨0xC006, true, 1, 3, 3, 1, false⟩
/-- RESET_BLOCK (R81). -/
def opResetBlock : Op := ⟨0xD000, true, 0, 1, 1, 1, false⟩
/-- RESET_SUBSYSTEM (R81). -/
def opResetSubsystem : Op := ⟨0xD001, true, 0, 1, 1, 1, false⟩
/-- RESET_WARM (R81). -/
def opResetWarm : Op := ⟨0xD002, true, 0, 0, 0, 1, false⟩
/-- RESET_COLD (R81). -/
def opResetCold : Op := ⟨0xD003, true, 0, 0, 0, 1, false⟩
/-- KENNEL_ENTER (R81). -/
def opKennelEnter : Op := ⟨0xD004, true, 2, 0, 0, 1, false⟩
/-- FW_SLOT_WRITE (R81). -/
def opFwSlotWrite : Op := ⟨0xD005, true, 0, 3, 3, 1, false⟩
/-- FW_SLOT_COMMIT (R81). -/
def opFwSlotCommit : Op := ⟨0xD006, true, 0, 0, 0, 1, false⟩
/-- FW_QUERY (R81). -/
def opFwQuery : Op := ⟨0xD007, true, 0, 0, 0, 1, true⟩
/-- RECOVERY_LOAD (R81). -/
def opRecoveryLoad : Op := ⟨0xD008, true, 0, 4, 4, 1, false⟩
/-- SECURE_RELEASE (R81). -/
def opSecureRelease : Op := ⟨0xE000, true, 0, 1, 1, 1, false⟩
/-- PROT_LAYER_LOAD (R81). -/
def opProtLayerLoad : Op := ⟨0xE001, true, 0, 4, 4, 1, false⟩
/-- JOURNAL_QUERY (R81). -/
def opJournalQuery : Op := ⟨0xE002, true, 0, 0, 0, 1, true⟩
/-- JOURNAL_EXPORT (R81). -/
def opJournalExport : Op := ⟨0xE003, true, 0, 5, 5, 1, false⟩
/-- SECURE_RESTART (R81). -/
def opSecureRestart : Op := ⟨0xE004, true, 2, 0, 0, 1, false⟩
/-- STALE_LIMIT_SET (R81). -/
def opStaleLimitSet : Op := ⟨0xE005, true, 2, 4, 4, 1, false⟩
/-- INSTALLER_KEY_SET (R81). -/
def opInstallerKeySet : Op := ⟨0xE006, true, 2, 11, 11, 1, false⟩
/-- PROT_KEY_SET (R81). -/
def opProtKeySet : Op := ⟨0xE007, true, 2, 17, 17, 1, false⟩
/-- FUSE_PROGRAM (R81). -/
def opFuseProgram : Op := ⟨0xF000, true, 2, 2, 2, 1, false⟩
/-- FW_KEY_HASH_SET (R81). -/
def opFwKeyHashSet : Op := ⟨0xF001, true, 2, 9, 9, 1, false⟩
/-- ROLE_KEY_SET (R81). -/
def opRoleKeySet : Op := ⟨0xF002, true, 2, 10, 10, 1, false⟩
/-- TWIN_HASH_SET (R81). -/
def opTwinHashSet : Op := ⟨0xF003, true, 2, 8, 8, 1, false⟩
/-- SAFETY_LIMIT_SET (R81). -/
def opSafetyLimitSet : Op := ⟨0xF004, true, 2, 1, 1, 1, false⟩

/-- Every opcode. -/
def opTable : List Op :=
  [opNop, opVersionQuery, opBarrier, opFenceAlloc, opFenceFree, opFenceSignal] ++
  [opFenceShare, opClaimRole, opReleaseRole, opFnEnable, opFnDisable, opShareSet] ++
  [opShareQuery, opFnQuery, opDefaultShareSet, opHoldTimeSet, opAlloc, opFreeHandle] ++
  [opHandleQuery, opPlaceHint, opPlacePin, opPlaceUnpin, opCopyHandle, opMemSizeSet] ++
  [opShaderLoad, opPipelineCreate, opPipelineDestroy, opRenderSubmit, opComputeSubmit, opRenderBarrier] ++
  [opBinGrow, opShaderCacheFlush, opLayerSet, opLayerRemove, opFlip, opFlipGroup] ++
  [opFlipQuery, opToneMapSet, opBackgroundSet, opLayerAssign, opStopHead, opStartHead] ++
  [opStopPort, opStartPort, opHeadQuery, opPortQuery, opVrrPorchSet, opSelfRefreshSet] ++
  [opStopTouch, opStartTouch, opHitRegionWrite, opHitRegionClear, opHapticPlay, opHapticWaveLoad] ++
  [opHapticCalibrate, opHapticLimitSet, opStopAudio, opStartAudio, opAudioGraphLoad, opAudioGainSet] ++
  [opAudioStreamOpen, opAudioStreamClose, opTonePlay, opBeepPlay, opStopSkein, opStartSkein] ++
  [opSkeinStreamBind, opSkeinStreamUnbind, opSkeinQuery, opAttach, opDetach, opTwinQuery] ++
  [opCvBind, opCvRead, opCvWrite, opCvRelease, opTimeQuery, opPpsModeSet] ++
  [opTimeSet, opPowerModeSet, opModeQuery, opDegradedClear, opGateBlock, opUngateBlock] ++
  [opThermalQuery, opParkFaceSet, opResetBlock, opResetSubsystem, opResetWarm, opResetCold] ++
  [opKennelEnter, opFwSlotWrite, opFwSlotCommit, opFwQuery, opRecoveryLoad, opSecureRelease] ++
  [opProtLayerLoad, opJournalQuery, opJournalExport, opSecureRestart, opStaleLimitSet, opInstallerKeySet] ++
  [opProtKeySet, opFuseProgram, opFwKeyHashSet, opRoleKeySet, opTwinHashSet, opSafetyLimitSet]

/-- The row of a code. -/
def opOf (code : Nat) : Option Op := opTable.find? fun o => o.code = code

end Sys2Proof.Machine
end

