-- ==== Sys2Proof/Machine/Sparse.lean ====
section
/-!
DEFINITION. Sparse tables: a list of (key, value) pairs, keys rising, no entry equal to what an unlisted key reads
as. The register file and the memory are held in this form.
-/
namespace Sys2Proof.Machine

/-- The value at key `k`, `d` where the table lists none. Assumption log, row 3. -/
def sparseGet {α : Type} (l : List (Nat × α)) (k : Nat) (d : α) : α :=
  match l with
  | [] => d
  | e :: r => if e.1 = k then e.2 else sparseGet r k d

/-- The table with `v` at key `k`; the entry goes away where `v` is what an unlisted key reads as. -/
def sparseSet {α : Type} [DecidableEq α] (l : List (Nat × α)) (k : Nat) (v d : α) : List (Nat × α) :=
  l.filter (fun e => e.1 < k) ++ (if v = d then [] else [(k, v)]) ++ l.filter (fun e => k < e.1)

/-- Keys strictly rising. -/
def sparseSorted {α : Type} (l : List (Nat × α)) : Bool :=
  match l with
  | [] => true
  | e :: r => r.all (fun e' => e.1 < e'.1) && sparseSorted r

end Sys2Proof.Machine
end

