-- ==== Sys2Proof/Machine/Chip.lean ====
section
/-!
DEFINITION. The state of each block beside its registers: queues, engines, timers, tables. The fields of the register
tables are in `Chip.regs`; what a rule gives a block that no register holds is in that block's structure here.
-/
namespace Sys2Proof.Machine

/-! ### Command engine (03_command_packets.md) -/

/-- How far a fetched packet has come (R70 to R76). -/
inductive PktStage where
  /-- Fetched, held by its wait prefix or by a BARRIER (R62, R76). -/
  | waiting
  /-- Passed to the block that performs it. -/
  | dispatched
  /-- Dispatched under a generation that has since been withdrawn: its completion is discarded (R88, R92). -/
  | abandoned
  /-- The block has an outcome; COMMAND_COMPLETE has not reported it yet. -/
  | outcome (status : Nat) (words : List Nat)
  /-- Completed; its reply, if any, is not written yet (R68, R76). -/
  | completed (status : Nat) (words : List Nat)
deriving DecidableEq, Repr

/-- A packet the engine holds, from fetch until it retires. -/
structure Pkt where
  /-- Opcode (R81). -/
  opcode : Nat
  /-- Header fields and parameters. -/
  call : Call
  /-- Wait prefix: fence and value (R62). -/
  wait : Option (Nat × Nat)
  /-- Stage. -/
  stage : PktStage
deriving DecidableEq, Repr

/-- A fence object that is owned or orphaned; a fence with no record is free with value 0 (R572). -/
structure Fence where
  /-- Fence number, 0 to 4,095. -/
  id : Nat
  /-- Owner. -/
  owner : Nat
  /-- Orphaned. -/
  orphan : Bool
  /-- Orphaned by a withdrawal whose drain has not ended (R97, R572). -/
  drain : Bool
  /-- 64-bit value. -/
  value : Nat
  /-- Functions that hold a grant (R572). -/
  grants : List Nat
deriving DecidableEq, Repr

/-- The command engine's own state. -/
structure Ce where
  /-- Packets held, oldest fetched first. -/
  pkts : List Pkt := []
  /-- Last function served at each precedence level (R69). -/
  rr : List Nat := [64, 64, 64, 64]
  /-- Fetches from a function since its setup ring (key 2 f) or background ring (key 2 f + 1) was served while ready (R69). -/
  starve : List (Nat × Nat) := []
  /-- Slots the packet at a ring's head needs, while PARTIAL is 1 (R60); key is 5 f + k. -/
  need : List (Nat × Nat) := []
  /-- Notice count of each function, modulo 65,536 (R67). -/
  nseq : List (Nat × Nat) := []
  /-- Fences that are not free. -/
  fences : List Fence := []
deriving DecidableEq, Repr

/-! ### Functions and shares (04_functions_and_shares.md) -/

/-- The six items of a share, in the order of R104. -/
structure Share where
  /-- Render weight. -/
  weight : Nat
  /-- Display fetch quota, MB/s. -/
  fetch : Nat
  /-- Memory quota, MiB. -/
  mem : Nat
  /-- Skein bandwidth, MB/s. -/
  skein : Nat
  /-- Audio stream count. -/
  audio : Nat
  /-- Queue depth, packets. -/
  depth : Nat
deriving DecidableEq, Repr

/-- A share change bound to an epoch number (R105). -/
structure PendShare where
  /-- Function. -/
  fn : Nat
  /-- The value FN_EPOCH_NUM takes at the boundary that applies it. -/
  epoch : Nat
  /-- Item mask, bit i for item i. -/
  mask : Nat
  /-- Item values. -/
  items : Share
deriving DecidableEq, Repr

/-- A drain under way (R97). -/
structure Drain where
  /-- Function withdrawn. -/
  fn : Nat
  /-- Increments the one notice covers. -/
  incs : Nat
  /-- Packets cancelled. -/
  cancelled : Nat
  /-- Completions discarded. -/
  discarded : Nat
  /-- FN_DRAIN_SLOW has been sent. -/
  slow : Bool
deriving DecidableEq, Repr

/-- The host interface's own state. -/
structure Fns where
  /-- Default share (R104, DEFAULT_SHARE_SET). -/
  dflt : Share := ⟨16, 8000, 512, 0, 4, 256⟩
  /-- Share changes waiting for their epoch, in order of acceptance. -/
  pend : List PendShare := []
  /-- Drains under way. -/
  drains : List Drain := []
  /-- PCI Express link in L1 (R82, R565). -/
  l1 : Bool := false
deriving DecidableEq, Repr

/-! ### Event controller (24_events.md) -/

/-- A raise on its way to the event controller: one of the 512 sources, or a function's reply event (R558). -/
inductive Raise where
  /-- Event source. -/
  | source (s : Nat)
  /-- Reply event of a function. -/
  | reply (fn : Nat)
deriving DecidableEq, Repr

/-- Raises counted toward a vector that has not fired (R563). -/
structure VecCount where
  /-- Function. -/
  fn : Nat
  /-- Vector. -/
  vec : Nat
  /-- Raises since the last message. -/
  count : Nat
  /-- TIME has passed since the first of them. -/
  timeUp : Bool
deriving DecidableEq, Repr

/-- The event controller's own state, with the PCI Express MSI-X state of each function (R565). -/
structure Ev where
  /-- Raises that have left their block and not reached the controller, oldest first. -/
  raised : List Raise := []
  /-- Vector counts above zero. -/
  counts : List VecCount := []
  /-- Pending-bit array: function and vector (R565). -/
  pba : List (Nat × Nat) := []
  /-- MSI-X table words, key (function × 128 + vector) × 4 + word; an unlisted vector control word reads 1, masked. -/
  table : List (Nat × Nat) := []
  /-- Functions with MSI-X enabled. -/
  enabled : List Nat := []
  /-- Functions with the function mask set. -/
  fmask : List Nat := []
  /-- Route, coalescing and pin settings saved for Park, as register keys and values (R567). -/
  saved : List (Nat × Nat) := []
deriving DecidableEq, Repr

/-! ### Clock crossings (16_clocks_crossings.md) -/

/-- A pulse crossing (R423). -/
structure Cross where
  /-- The sender's accumulator, 0 to 7. -/
  acc : Nat := 0
  /-- The sender's toggle. -/
  toggle : Bool := false
  /-- Count presented. -/
  count : Nat := 0
  /-- The sender waits for the acknowledge. -/
  busy : Bool := false
  /-- The receiver's acknowledge toggle. -/
  ack : Bool := false
  /-- The transfer the receiver sees next is stale: its sender was reset (R425, R426). -/
  stale : Bool := false
  /-- Pulses delivered to the receiver. -/
  taken : Nat := 0
deriving DecidableEq, Repr

/-! ### Time base (17_time_base.md) -/

/-- The time base's own state. -/
structure Tb where
  /-- Frequency term f of R434, in eighths of a tick per second. -/
  f : Int := 0
  /-- Seconds armed by TIME_SET (R437). -/
  armed : Option Nat := none
  /-- Consecutive accepted edges with an error of at most 2 ticks (R435). -/
  streak : Nat := 0
  /-- Time of the last accepted edge on `up`; none after PPS_MODE_SET (R433). -/
  lastEdge : Option Nat := none
  /-- When the phase correction in force ends, on `up` (R434). -/
  slewEnd : Option Nat := none
  /-- The phase error found in Park (R435). -/
  parkErr : Option Int := none
  /-- NOTICE of PPS_MODE_SET (R442). -/
  notice : Bool := false
  /-- Adjustments of the trim in force that have fallen (R430). -/
  adj : Nat := 0
  /-- The counter is stopped by a REFCLK loss (R429). -/
  stopped : Bool := false
  /-- Ticks that have passed, steps and trim aside: what periods and intervals are measured on. -/
  up : Nat := 0
deriving DecidableEq, Repr

/-! ### Herder (05_herder_placement.md) -/

/-- An entry of the placement map (R112), with what the Herder records beside it. -/
structure MapEntry where
  /-- Entry number, 0 to 8,191. -/
  idx : Nat
  /-- In use. -/
  valid : Bool
  /-- 1 is the secure world. -/
  world : Bool
  /-- Address order: 0 ORDER_A to 3 ORDER_D. -/
  order : Nat
  /-- Allocation class (R116). -/
  cls : Nat
  /-- Owning function, 127 for firmware. -/
  func : Nat
  /-- Migration state: 0 Settled, 1 Copying, 2 Armed, 3 Draining (R122). -/
  mig : Nat
  /-- Why it migrates: 0 balancing, 1 evacuation, 2 gathering (R121). -/
  kind : Nat
  /-- Mirrored to the twin. -/
  mirror : Bool
  /-- Withdrawn (R114). -/
  wdrawn : Bool
  /-- Current tag (R110). -/
  tag : Nat
  /-- Pin count. -/
  pin : Nat
  /-- Hinted pattern. -/
  pattern : Nat
  /-- Hinted latency-sensitive. -/
  latency : Bool
  /-- Channels used, one bit each. -/
  chanset : Nat
  /-- Bank group, ORDER_D only. -/
  bgrp : Nat
  /-- Function charged. -/
  charge : Nat
  /-- Base, 64 KiB units. -/
  pbase : Nat
  /-- Size, 64 KiB units. -/
  size : Nat
  /-- Target channels. -/
  tchanset : Nat
  /-- Target order. -/
  torder : Nat
  /-- Target bank group. -/
  tbgrp : Nat
  /-- Target base. -/
  tpbase : Nat
  /-- Access weight, halved at every epoch boundary. -/
  act : Nat
  /-- Completed migrations; saturates. -/
  migs : Nat
  /-- A layer held by a withdrawal shows it (R114). -/
  held : Bool
  /-- The content is undefined since this stamp: a wake from Park (R130); 0 for content never lost. -/
  lost : Nat
  /-- FREE waits for work that names it. -/
  freeing : Bool
deriving DecidableEq, Repr

/-- A COPY_HANDLE put off by Hold (R137). -/
structure HeldCopy where
  /-- Issuing function. -/
  fn : Nat
  /-- Ring. -/
  ring : Nat
  /-- Source address. -/
  src : Nat
  /-- Destination address. -/
  dst : Nat
  /-- Length in bytes. -/
  len : Nat
deriving DecidableEq, Repr

/-- The Herder's own state. -/
structure Hb where
  /-- Entries that have been allocated since the reset, in order of number. -/
  map : List MapEntry := []
  /-- Copies put off by Hold, oldest first. -/
  copies : List HeldCopy := []
  /-- FREE commands that wait for work naming their entry (R137). -/
  frees : List (Nat × Call) := []
  /-- Bytes moved on each channel in the running epoch (R121): key 2 c for TC0, 2 c + 1 for TC3. -/
  load : List (Nat × Nat) := []
  /-- The real-time partition of the system cache in force, MiB (R20). -/
  rtcache : Nat := 6
  /-- Firmware allocations as they stood when a reset cleared the map, each where it is rebuilt: at the target of a
  migration whose last phase was Draining, else at the source (R127). -/
  rebuild : List MapEntry := []
  /-- Service of each function in core-ticks, halved at every epoch boundary (R131). -/
  service : List (Nat × Nat) := []
  /-- Memory size per channel that MEM_SIZE_SET recorded in the configuration, MiB. -/
  memSize : Nat := 0
  /-- Gathering is under way (R128). -/
  gathering : Bool := false
  /-- Forward decisions waiting for their head's commit line (R136): bit n. -/
  fwdNext : Nat := 0
  /-- Display fetch bytes and Skein bytes of each function in the running epoch, keys 2 f and 2 f + 1 (R102). -/
  use : List (Nat × Nat) := []
deriving DecidableEq, Repr

/-! ### Render array (06_render_binning.md, 07_render_cores.md) -/

/-- States of a render or compute job (R147, R191). Running is compute's. -/
inductive JobSt where
  /-- Waits for its fence or for earlier work. -/
  | queued
  /-- May be dispatched. -/
  | ready
  /-- Binning phase. -/
  | binning
  /-- Waits for bin pages. -/
  | binWait
  /-- Spill render. -/
  | spill
  /-- Tile phase. -/
  | tiling
  /-- Compute job with cores. -/
  | running
deriving DecidableEq, Repr

/-- A colour target of a job (R141), with its signature settings (R183). -/
structure Target where
  /-- Colour record 0 to 3. -/
  slot : Nat
  /-- Target address. -/
  addr : Nat
  /-- Format code. -/
  format : Nat
  /-- Layout code. -/
  layout : Nat
  /-- OPS: load in bits 1:0, store in bits 3:2. -/
  ops : Nat
  /-- Signatures on. -/
  sigOn : Bool
  /-- Signature table treated as invalid. -/
  sigReset : Bool
  /-- Signature table address. -/
  sigTable : Nat
  /-- PITCH. -/
  pitch : Nat
deriving DecidableEq, Repr

/-- A primitive in the tiles' lists (R150, R152). -/
structure Prim where
  /-- Draw record. -/
  draw : Nat
  /-- Pipeline of the draw. -/
  pipe : Nat
  /-- Topology of the draw. -/
  topo : Nat
  /-- Draw record as it was read. -/
  rcd : List Nat
  /-- Its vertices, as the vertex stage gave them. -/
  src : List Vertex
  /-- The part of it that clipping leaves. -/
  poly : List Vertex
  /-- Front-facing. -/
  front : Bool
  /-- Pixels it may touch: left, top, right and bottom, exclusive of the last two. -/
  clip : Int × Int × Int × Int
deriving DecidableEq, Repr

/-- A render or compute job accepted and not finished. -/
structure Job where
  /-- Compute job. -/
  compute : Bool
  /-- Owner, 127 for firmware. -/
  fn : Nat
  /-- Generation it was accepted under. -/
  gen : Nat
  /-- Secure world. -/
  world : Bool
  /-- Job number, per function. -/
  num : Nat
  /-- Ring it was submitted on. -/
  ring : Nat
  /-- State. -/
  st : JobSt
  /-- Phase it resumes in from Ready. -/
  phase : JobSt
  /-- PORTABLE. -/
  portable : Bool
  /-- DONE_NOTICE. -/
  doneNotice : Bool
  /-- Wait fence and value. -/
  wait : Option (Nat × Nat)
  /-- Signal fence and value. -/
  signal : Option (Nat × Nat)
  /-- Render area: x0, y0, width, height. -/
  area : Nat × Nat × Nat × Nat
  /-- Colour targets, unused ones left out. -/
  targets : List Target
  /-- Depth-stencil target, 0 for none. -/
  ds : Nat
  /-- Draw list address. -/
  draws : Nat
  /-- Draw count. -/
  drawCount : Nat
  /-- Pipelines named by its draw records, in their order, or its compute pipeline. -/
  pipes : List Nat
  /-- Resource table address. -/
  res : Nat
  /-- Bin pool: allocation handles and their pages, first given first. -/
  pool : List (Nat × Nat)
  /-- Spills so far. -/
  spills : Nat
  /-- A translation fault was seen. -/
  faulted : Bool
  /-- Ran on the twin. -/
  onTwin : Bool
  /-- Members k, fixed at the first dispatch; 0 before it (R160). -/
  members : Nat
  /-- Cores held. -/
  cores : List Nat
  /-- When the cores were granted, on the counter. -/
  since : Nat
  /-- Core-ticks used. -/
  used : Nat
  /-- Earlier jobs of the function that must complete first (R145, R165): job numbers. -/
  deps : List Nat
  /-- Preemption has been requested (R167). -/
  preempt : Bool
  /-- BIN_GROW_REQ is open and its timer runs. -/
  timer : Bool
  /-- Its owner was withdrawn: it is abandoned at its next preemption point. -/
  old : Bool
  /-- Workgroups of a compute job. -/
  groups : Nat
  /-- Workgroup size, from LocalSize (R190). -/
  lsize : Nat
  /-- Workgroups finished, in linear order (R191). -/
  finished : Nat
  /-- Where binning stands: draw record, and primitive of the draw over all its instances (R150). -/
  pos : Nat × Nat
  /-- Primitives binned since the pool was last empty. -/
  binned : Nat
  /-- What the tiles' lists hold, in the order of R150: the list of a tile is what touches it (R151). -/
  prims : List Prim
  /-- Tiles stored or resolved in the phase. -/
  done : List Nat
  /-- Tiles stored by an earlier spill of the job (R156). -/
  visited : List Nat
  /-- Colour tile writes elided: target and tile (R196). -/
  elided : List (Nat × Nat)
  /-- Map entries that its draw records, resource table and push data name (R137). -/
  handles : List Nat
  /-- The spill it is to enter at its next dispatch has not begun (R148). -/
  spillDue : Bool
  /-- SAMPLES. -/
  samples : Nat
  /-- Its descriptor, as accepted. -/
  desc : List Nat
  /-- A compute job that has run in fill cycles (R192). -/
  filled : Bool
  /-- A render of a critical head's protected layer: the head, and its PFN (R357). -/
  pfn : Option (Nat × Nat) := none
deriving DecidableEq, Repr

/-- RENDER_BARRIER in force on a ring (R165). -/
structure RBarrier where
  /-- Function. -/
  fn : Nat
  /-- Ring. -/
  ring : Nat
  /-- Raster after. -/
  rasterAfter : Bool
  /-- Compute after. -/
  computeAfter : Bool
  /-- Work of a before-kind submitted earlier, not completed. -/
  before : List Nat
deriving DecidableEq, Repr

/-- A shader module stored for a function (R176). -/
structure Module where
  /-- Function. -/
  fn : Nat
  /-- Module number. -/
  num : Nat
  /-- Its words. -/
  words : List Nat
deriving DecidableEq, Repr

/-- A pipeline (R182). -/
structure Pipeline where
  /-- Function. -/
  fn : Nat
  /-- Pipeline number. -/
  num : Nat
  /-- Compute pipeline. -/
  compute : Bool
  /-- Cache key (R178). -/
  key : Nat
  /-- Secure world's entry. -/
  world : Bool
  /-- Module numbers used, 0xFFFF for none. -/
  mods : Nat × Nat
  /-- Samples. -/
  samples : Nat
  /-- Format codes of the four targets. -/
  formats : List Nat
  /-- SET_BASE of the four descriptor sets. -/
  setBase : List Nat
  /-- The pipeline state record. -/
  record : List Nat
  /-- What its fragment shader does: bit 0 discard or demote, bit 1 SampleMask, bit 2 FragDepth, bit 3 storage write or
  atomic, bit 4 runs for every sample (R161). -/
  frag : Nat
  /-- PIPELINE_DESTROY waits for work that names it. -/
  dying : Bool
deriving DecidableEq, Repr

/-- An entry of the shader cache, most recently used last (R178, R179). -/
structure CacheEntry where
  /-- Key. -/
  key : Nat
  /-- Secure world's. -/
  world : Bool
  /-- Size of the code, bytes. -/
  size : Nat
deriving DecidableEq, Repr

/-- A line of a render core's texture L1 (R173, R188). -/
structure TexLine where
  /-- Core. -/
  core : Nat
  /-- Handle address over 128. -/
  line : Nat
  /-- Its 128 bytes. -/
  bytes : List Nat
deriving DecidableEq, Repr

/-- The render array's own state. -/
structure Gx where
  /-- Jobs accepted and not finished, oldest first. -/
  jobs : List Job := []
  /-- Barriers in force. -/
  barriers : List RBarrier := []
  /-- PIPELINE_DESTROY commands that wait for accepted jobs: the command and the number (R200). -/
  destroys : List (Call × Nat) := []
  /-- Next job number of each function (R168, R191). -/
  nextNum : List (Nat × Nat) := []
  /-- Modules stored. -/
  modules : List Module := []
  /-- Live pipelines. -/
  pipes : List Pipeline := []
  /-- Shader cache. -/
  cache : List CacheEntry := []
  /-- Size of the shader cache allocation in force, MiB (R574). -/
  shcSize : Nat := 64
  /-- Function whose pipeline each core ran last (R132); 128 for none. -/
  lastFn : List (Nat × Nat) := []
  /-- Lines that the cores' texture L1 may hold. -/
  l1 : List TexLine := []
deriving DecidableEq, Repr

/-! ### Check-value units (15_check_values.md) -/

/-- A check-value unit's own state. -/
structure CvUnit where
  /-- Seconds of the latest final value. -/
  sec : Nat := 0
  /-- Ticks of the latest final value. -/
  tick : Nat := 0
  /-- The function that issued CV_BIND. -/
  binder : Nat := 0
  /-- A data unit is in progress (R400). -/
  running : Bool := false
  /-- In Block reset. -/
  inReset : Bool := false
  /-- The data unit in progress gives no final value (R409). -/
  spoiled : Bool := false
deriving DecidableEq, Repr

/-! ### Composer (08_composition.md) -/

/-- What a queued change does (R214, R270). -/
inductive ChangeKind where
  /-- LAYER_SET, its words 1 to 11. -/
  | layerSet (words : List Nat)
  /-- LAYER_REMOVE. -/
  | layerRemove
  /-- FLIP: plane 0 address, and fence with value where it names one. -/
  | flip (addr : Nat) (fence : Option (Nat × Nat))
  /-- TONE_MAP_SET: word 1, the nine coefficients, the curve's bytes. -/
  | tone (ctl : Nat) (matrix : List Nat) (curve : List Nat)
  /-- BACKGROUND_SET: words 1 and 2. -/
  | background (rg b : Nat)
  /-- A protected layer: its record's words in the form of LAYER_SET words 1 to 11 (R219, R455). -/
  | prot (words : List Nat)
  /-- The protected layer is removed (R452). -/
  | protRemove
  /-- HIT_REGION_WRITE: its records, four words each (R270). -/
  | hitWrite (records : List (List Nat))
  /-- HIT_REGION_CLEAR: one region, or every region of the function (R270). -/
  | hitClear (region : Option Nat)
deriving DecidableEq, Repr

/-- A queued change (R214). -/
structure Change where
  /-- Change number. -/
  num : Nat
  /-- Head. -/
  head : Nat
  /-- Unit; none for a change of the head's own. -/
  unit : Option Nat
  /-- Function that queued it. -/
  fn : Nat
  /-- Effect. -/
  kind : ChangeKind
  /-- FLIP_DONE asked for. -/
  notice : Bool
  /-- Member of a flip group. -/
  group : Bool
  /-- Commit lines at which it failed to apply (R218). -/
  count : Nat
deriving DecidableEq, Repr

/-- The layer set on a unit: LAYER_SET words 1 to 11 as they stand, who set it and under which generation. -/
structure Layer where
  /-- Unit. -/
  unit : Nat
  /-- Function; 128 for the secure world. -/
  fn : Nat
  /-- Generation of the setting. -/
  gen : Nat
  /-- Words 1 to 11. -/
  words : List Nat
  /-- Held by a withdrawal: its allocation has passed to firmware (R92, R114). -/
  fw : Bool
  /-- The hold time has passed (R94). -/
  expired : Bool
deriving DecidableEq, Repr

/-- The key of a line: the head's setting tag and the units that cover it with their tags (R222). -/
abbrev LineKey := Nat × List (Nat × Nat)

/-- A composed line (R223): the key it was composed from and its pixels, R in bits 29:20, G in 19:10, B in 9:0. -/
abbrev LineSlot := LineKey × List Nat

/-- The two slots of an active line (R223); an empty slot is `none`. -/
structure LineSlots where
  /-- Head × 8,192 + line. -/
  line : Nat
  /-- The current slot. -/
  cur : Option LineSlot
  /-- The spare slot. -/
  spare : Option LineSlot
  /-- The spare was composed forward and not used yet. -/
  fresh : Bool
deriving DecidableEq, Repr

/-- What a head's lines are composed from (R211 to R213, R222). -/
structure Scene where
  /-- The head's setting tag. -/
  tag : Nat := 0
  /-- Each unit with a layer: unit, tag, words of the layer. -/
  units : List (Nat × Nat × List Nat) := []
  /-- OUT_TF, CURVE_EN and MATRIX_EN, as in CP_HEADn_TONE. -/
  tone : Nat := 0
  /-- Tone curve, bytes. -/
  curve : List Nat := []
  /-- Matrix coefficients, row-major. -/
  matrix : List Nat := []
  /-- Background: R and G as in CP_HEADn_BG_LO, B as in CP_HEADn_BG_HI. -/
  bg : Nat × Nat := (0, 0)
deriving DecidableEq, Repr

/-- A frame of a head as its lines are confirmed (R225). -/
structure Frame where
  /-- The committed inputs of its lines (R222). -/
  scene : Scene := {}
  /-- Lines confirmed so far, with the pixels that go out. -/
  rows : List (Nat × List Nat) := []
  /-- Lines of its selective update, in self-refresh (R249). -/
  update : List Nat := []
  /-- BLANK is in force for it: black in every active pixel (R240). -/
  blank : Bool := false
  /-- It had a held line. -/
  held : Bool := false
  /-- It had a direct line. -/
  direct : Bool := false
deriving DecidableEq, Repr

/-- How a line goes out (R225). -/
inductive LineOut where
  /-- From a slot. -/
  | forward
  /-- Composed from the committed inputs. -/
  | direct
  /-- The current slot's content, or the background. -/
  | held
deriving DecidableEq, Repr

/-- The composer's own state. -/
structure Cp where
  /-- Changes queued, oldest first. -/
  changes : List Change := []
  /-- Layers set. -/
  layers : List Layer := []
  /-- Heads whose composer arm is raised (R214). -/
  arms : List Nat := []
  /-- Setting tag of each head. -/
  headTag : List (Nat × Nat) := []
  /-- Tone curve in force on each head. -/
  curves : List (Nat × List Nat) := []
  /-- Matrix coefficients in force on each head. -/
  matrix : List (Nat × List Nat) := []
  /-- Line stores. -/
  store : List LineSlots := []
  /-- Forward ring and companion of each head: head, entry, entry (R223). -/
  rings : List (Nat × Nat × Nat) := []
  /-- TC0 bytes charged to each head's allowance in the frame (R227). -/
  spent : List (Nat × Nat) := []
  /-- Changes of protected units that wait for a place in their unit's queue (R216): unit, change. -/
  protWait : List (Nat × ChangeKind) := []
  /-- Function each unit is assigned to (R207). -/
  assign : List (Nat × Nat) := []
  /-- HDn_COMMIT_SEQ when each unit's tag applied (R231). -/
  seqs : List (Nat × Nat) := []
  /-- The last line each head sent, and how. -/
  sent : List (Nat × Nat × LineOut) := []
deriving DecidableEq, Repr

/-! ### Heads and ports (09_scanout_heads.md) -/

/-- A head's own state beside its registers. -/
structure HeadSt where
  /-- Shadow values taken at the accepted normal arm: NEXT, DITHER, BLANK (R244). -/
  armed : Nat × Nat × Nat := (0, 0, 0)
  /-- DITHER and BLANK in force. -/
  out : Nat × Nat := (0, 0)
  /-- Window values taken at the accepted secure arm: XY0, XY1, EXP of the four windows, EN, CMP (R244). -/
  sarmed : List Nat := []
  /-- Window values in force, in the same order; empty before the first secure commit. -/
  windows : List Nat := []
  /-- Run of mismatching frames of each window (R252). -/
  runs : List Nat := [0, 0, 0, 0]
  /-- The frame about to be sent is not compared (R252). -/
  noCompare : Bool := false
  /-- The frame being sent is not compared. -/
  noCompareNow : Bool := false
  /-- Front porch values of VRR_PORCH_SET waiting for the arm, with their calls (R246). -/
  porch : List (Nat × Call) := []
  /-- Front porch that applies in the next frame's blanking (R246). -/
  porchNext : Option Nat := none
  /-- STOP_HEAD calls to answer at the safe point. -/
  stops : List Call := []
  /-- Self-refresh that SELF_REFRESH_SET asked for (R249, R250). -/
  wantSr : Bool := false
  /-- Suspension by Hold or Park is wanted (R241). -/
  suspend : Bool := false
  /-- An underrun has been counted in this frame (R247). -/
  underNow : Bool := false
  /-- The commit line of the next frame has passed. -/
  committed : Bool := false
  /-- The frame that scans, and the one after it, whose first 32 lines are confirmed ahead of its line 0 (R225). -/
  now : Frame := {}
  /-- The frame after. -/
  next : Frame := {}
  /-- Key of the line last sent at each place (R249). -/
  sent : List (Nat × LineKey) := []
  /-- The layer of a stale head has been queued again: 1 applied, 2 its first compared frame runs (R460). -/
  requeued : Nat := 0
  /-- Numbers of the protected layer's changes that were queued before the layer became stale: they do not end that (R460). -/
  before : List Nat := []
  /-- Compared windows of the frame whose value is still due. -/
  cmpLeft : Nat := 0
  /-- Every compared window of the frame so far matched. -/
  allMatch : Bool := true
deriving DecidableEq, Repr

/-- A port's own state beside its registers. -/
structure PortSt where
  /-- Hold or Park has turned the port off (R22, R250). -/
  off : Bool := false
  /-- The sink reported self-refresh support at link start (R249). -/
  srSink : Bool := false
  /-- The link trains now (R256). -/
  training : Bool := false
  /-- Output resumes at the next line 0 (R256). -/
  resume : Bool := false
  /-- Carries a critical head whose group the chip does not hold (R355, R363). -/
  standby : Bool := false
deriving DecidableEq, Repr

/-! ### Roles and journal (19_roles_journal.md) -/

/-- A journal record before its flush (R479). -/
structure JRec where
  /-- Record number. -/
  seq : Nat
  /-- Seconds when it entered the buffer. -/
  sec : Nat
  /-- Ticks when it entered the buffer. -/
  tick : Nat
  /-- Kind (R478). -/
  kind : Nat
  /-- Role: 0 Operator, 1 Installer, 2 Maker, 3 firmware. -/
  role : Nat
  /-- Issuing function, 127 for firmware. -/
  func : Nat
  /-- Status code. -/
  result : Nat
  /-- Opcode of a command record. -/
  opcode : Nat
  /-- DETAIL. -/
  detail : Nat
  /-- DIGEST: the words a command's digest covers, hashed at the flush. -/
  digest : List Nat
deriving DecidableEq, Repr

/-- The state of roles and journal beside its registers. -/
structure Rj where
  /-- Records in safe SRAM, oldest first (R480). -/
  jbuf : List JRec := []
  /-- Records in the flash ring, oldest first: slot and 64 bytes (R481). -/
  ring : List (Nat × List Nat) := []
  /-- Slot written next. -/
  wpos : Nat := 0
  /-- Sectors erased since power-on (R478). -/
  erased : Nat := 0
  /-- Records lost that no gap record has reported (R480). -/
  gap : Nat := 0
  /-- Challenge outstanding, and when it was issued (R471). -/
  challenge : Option (List Nat × Nat) := none
  /-- Consecutive failed claims (R472). -/
  streak : Nat := 0
  /-- The last Installer or Maker opcode or Commission-class write of the session, on the counter (R473). -/
  idleAt : Nat := 0
deriving DecidableEq, Repr

/-! ### Links (12_skein_ports.md, 13_bowline_twin.md) -/

/-- A link's own state: a Skein port, or Bowline (R325 to R329, R348). -/
structure LinkSt where
  /-- Next SEQ expected. -/
  rxSeq : Nat := 0
  /-- A sequenced flit has been received since link up. -/
  ackV : Bool := false
  /-- Next SEQ to send. -/
  txSeq : Nat := 0
  /-- Unacknowledged flits: SEQ, type, stream and payload bytes, oldest first. -/
  replay : List (Nat × Nat × Nat × List Nat) := []
  /-- SEQ replays last started from, and how many did without the ACK advancing. -/
  tries : Nat × Nat := (0, 0)
  /-- When the NAK for the SEQ expected was sent, on the counter; none after that SEQ arrives. -/
  nakAt : Option Nat := none
  /-- Lanes in block lock, one bit each. -/
  lock : Nat := 0
  /-- Phase of the TRAIN flits sent. -/
  phase : Nat := 0
  /-- RESUME is offered: the link came from Up. -/
  resume : Bool := false
  /-- The far end has given CLOSE (R339). -/
  farClose : Bool := false
  /-- STOP calls to answer at the safe point. -/
  stops : List Call := []
  /-- Hold or Park entry stops the link (R340). -/
  suspend : Bool := false
  /-- The last 58 bits sent on each transmit lane: its scrambler (R321). -/
  lanes : List Nat := List.replicate 8 0
  /-- Block times since the last alignment marker. -/
  blk : Nat := 0
deriving DecidableEq, Repr

/-! ### Bowline and the twin pair (13_bowline_twin.md) -/

/-- A Bowline message that is sent (R349). -/
structure BlMsg where
  /-- Class. -/
  cls : Nat
  /-- CODE. -/
  code : Nat
  /-- ID. -/
  id : Nat
  /-- Body. -/
  body : List Nat
deriving DecidableEq, Repr

/-- A copy held for the twin (R357). -/
structure MCopy where
  /-- The twin's map index. -/
  idx : Nat
  /-- Its tag there. -/
  tag : Nat
  /-- Placement entry here. -/
  entry : Nat
deriving DecidableEq, Repr

/-- Tile signatures of one protected frame (R359). -/
structure SigSet where
  /-- Head. -/
  head : Nat
  /-- Protected frame number. -/
  pfn : Nat
  /-- Signatures, tile 0 first. -/
  sigs : List Nat
  /-- A proof tile failed. -/
  failed : Bool
  /-- A set of the twin's is whole, with its tiles and its proof tile's failure: it waits for this chip's own. -/
  ended : Option (Nat × Bool) := none
deriving DecidableEq, Repr

/-- What a critical head's comparisons have shown (R358, R359). -/
structure SigHead where
  /-- Head. -/
  head : Nat
  /-- The last PFN compared, and its mismatching tiles. -/
  prev : Option (Nat × List Nat) := none
  /-- The proof tile of that PFN failed: this chip's, the twin's. -/
  proofs : Bool × Bool := (false, false)
  /-- Consecutive PFNs compared clean. -/
  clean : Nat := 0
  /-- Consecutive frames uncompared. -/
  missed : Nat := 0
deriving DecidableEq, Repr

/-- A job offered to the twin, or run there (R369). -/
structure OffOut where
  /-- Job reference. -/
  ref : Nat
  /-- Owner. -/
  fn : Nat
  /-- Job number. -/
  num : Nat
  /-- Accepted. -/
  taken : Bool
  /-- Its estimated writes, bytes. -/
  bytes : Nat
deriving DecidableEq, Repr

/-- A result block in staging (R370). -/
structure Staged where
  /-- Job reference. -/
  ref : Nat
  /-- Map index. -/
  idx : Nat
  /-- Tag. -/
  tag : Nat
  /-- Offset. -/
  off : Nat
  /-- Bytes. -/
  bytes : List Nat
deriving DecidableEq, Repr

/-- A job run for the twin. -/
structure OffIn where
  /-- The twin's reference. -/
  ref : Nat
  /-- Job number under function 127. -/
  num : Nat
  /-- Blocks of its outputs: the twin's map index and tag, and the copy's entry. -/
  outs : List MCopy
  /-- The issuer's pipeline numbers and the keys of the pipelines they name. -/
  pipes : List (Nat × List Nat)
deriving DecidableEq, Repr

/-- A pipeline the twin has shipped (R350). -/
structure ShipPipe where
  /-- Cache key. -/
  key : List Nat
  /-- Bytes received. -/
  bytes : List Nat
  /-- All of it has arrived. -/
  whole : Bool
deriving DecidableEq, Repr

/-- The pair's own state beside its registers. -/
structure Bl where
  /-- Link. -/
  link : LinkSt := {}
  /-- BL_CFG and BL_GROUPk as the last attach, or the start, took them (R372), by register key. -/
  cfg : List (Nat × Nat) := []
  /-- Leash supervision runs (R351). -/
  supervised : Bool := false
  /-- Ticks since the last LEASH, under supervision (R351). -/
  age : Nat := 0
  /-- Messages to send. -/
  txq : List BlMsg := []
  /-- Messages sent whose last flit, by SEQ, is not acknowledged. -/
  sent : List (Nat × BlMsg) := []
  /-- Messages numbered in each class (R349). -/
  txId : List (Nat × Nat) := []
  /-- The ID a receiver expects next in each class. -/
  rxId : List (Nat × Nat) := []
  /-- Credit held for each class, in quarters. -/
  txCredit : List (Nat × Nat) := []
  /-- Credit given for each class, in quarters. -/
  rxCredit : List (Nat × Nat) := []
  /-- Flits of each class processed that no unit has been granted for. -/
  owe : List (Nat × Nat) := []
  /-- The last of mirror and offload to be sent was mirror. -/
  turn : Bool := false
  /-- COUNT of the last LEASH sent. -/
  count : Nat := 0
  /-- HELLO of the twin. -/
  hello : Option Hello := none
  /-- This chip won the election. -/
  lead : Option Bool := none
  /-- Mirror allocations still to copy: entry, next offset. -/
  sync : List (Nat × Nat) := []
  /-- Writes to mirror allocations are sent. -/
  mirroring : Bool := false
  /-- SYNC_DONE has been sent. -/
  syncSent : Bool := false
  /-- SYNC_DONE has arrived. -/
  syncGot : Bool := false
  /-- ID of the last MIRROR_WRITE sent. -/
  lastWrite : Nat := 0
  /-- One more than the ID of the last MIRROR_WRITE applied; 0 for none. -/
  applied : Nat := 0
  /-- Writes to mirror allocations not sent yet: address and bytes, oldest first. -/
  mw : List (Nat × List Nat) := []
  /-- Copies held for the twin. -/
  copies : List MCopy := []
  /-- DETACH that waits for the twin. -/
  detach : Option Call := none
  /-- The twin has asked for a detach. -/
  detachIn : Bool := false
  /-- Both chips have agreed: the detach happens at the next LEASH. -/
  detachGo : Bool := false
  /-- GL_MODE bits 23:0 as the twin knows them. -/
  modeSent : Nat := 0
  /-- The twin was lost and no LEASH has come since: COLD_REQ may be sent once (R352). -/
  hung : Bool := false
  /-- A time exchange has been made since supervision started. -/
  timed : Bool := false
  /-- Exchanges in a row within 24 ticks (R439). -/
  near : Nat := 0
  /-- TWIN_HASH_SET's value, 32 bytes. -/
  twinHash : List Nat := List.replicate 32 0
  /-- Signature sets of this chip. -/
  mine : List SigSet := []
  /-- Signature sets of the twin, as far as they have come. -/
  theirs : List SigSet := []
  /-- Comparisons of each critical head. -/
  heads : List SigHead := []
  /-- The protected frame number of the Lead's last render of each critical head (R357). -/
  pfn : List (Nat × Nat) := []
  /-- Protected render inputs of each head: head, PFN, bytes. -/
  inputs : List (Nat × Nat × List Nat) := []
  /-- Jobs offered or run on the twin. -/
  offOut : List OffOut := []
  /-- Jobs run for the twin. -/
  offIn : List OffIn := []
  /-- Next job reference. -/
  nextRef : Nat := 0
  /-- Size of the staging in force, MiB (R574). -/
  stageMib : Nat := 64
  /-- Results in staging. -/
  stage : List Staged := []
  /-- Pipelines shipped to the twin, by cache key. -/
  shipped : List (List Nat) := []
  /-- Pipelines the twin has shipped here. -/
  pipes : List ShipPipe := []
  /-- POWER_MODE_SET that waits for POWER_REPLY, with the mode proposed (R368). -/
  propose : Option (Call × Nat) := none
  /-- The mode this chip, as Follow, has agreed to enter. -/
  agreed : Option Nat := none
deriving DecidableEq, Repr
/-! ### Touch (10_touch_and_haptics.md) -/

/-- Who holds a contact, and what the region it struck asks for (R272). -/
structure Capture where
  /-- Function 0 to 64, or 128 for the secure world. -/
  who : Nat
  /-- Generation of the function at the down. -/
  gen : Nat
  /-- Region ID, 0xFFFF for none. -/
  region : Nat
  /-- Moves are delivered. -/
  moves : Bool
  /-- The up triggers an effect. -/
  onUp : Bool
  /-- Stored waveform. -/
  wave : Nat
  /-- Haptic channel. -/
  ch : Nat
deriving DecidableEq, Repr

/-- A position, with the CLAMPED flag (R265, R273). -/
structure Pos where
  /-- hx. -/
  x : Nat
  /-- hy. -/
  y : Nat
  /-- Clamped to the active area. -/
  clamped : Bool
deriving DecidableEq, Repr

/-- A tracked contact (R264). -/
structure Contact where
  /-- Contact ID. -/
  id : Nat
  /-- Capturer; none for a contact whose down was dropped. -/
  cap : Option Capture
  /-- Last position computed. -/
  last : Pos
  /-- Last position delivered. -/
  sent : Pos
  /-- It lay in the protected rectangle at its last record (R272). -/
  inside : Bool
deriving DecidableEq, Repr

/-- A touch port's own state. -/
structure TpSt where
  /-- Contacts tracked. -/
  track : List Contact := []
  /-- Failed attempts of the report being read. -/
  fails : Nat := 0
  /-- STOP_TOUCH calls to answer at the safe point. -/
  stops : List Call := []
deriving DecidableEq, Repr

/-- An entry of the hit-region table (R268). -/
structure HitEntry where
  /-- Entry number, 0 to 4,095. -/
  idx : Nat
  /-- Secure world's. -/
  world : Bool
  /-- Head. -/
  head : Nat
  /-- Owning function. -/
  func : Nat
  /-- Region ID. -/
  region : Nat
  /-- Priority. -/
  prio : Nat
  /-- Deliver moves. -/
  moves : Bool
  /-- Trigger the effect. -/
  hapticEn : Bool
  /-- On the up. -/
  onUp : Bool
  /-- Left edge. -/
  x0 : Nat
  /-- Top edge. -/
  y0 : Nat
  /-- Right edge, exclusive. -/
  x1 : Nat
  /-- Bottom edge, exclusive. -/
  y1 : Nat
  /-- Stored waveform. -/
  wave : Nat
  /-- Haptic channel. -/
  ch : Nat
deriving DecidableEq, Repr

/-- The touch hub's own state. -/
structure Th where
  /-- Ports. -/
  ports : List TpSt := List.replicate 16 {}
  /-- VALID entries of the hit-region table. -/
  hits : List HitEntry := []
  /-- Protected rectangle in force on each head: x0, y0, x1, y1 (R221). -/
  prot : List (Nat × List Nat) := []
  /-- The secure world's own touch queue, oldest first: one contact an entry, as the words of a TOUCH_EVENT (R273). -/
  secQ : List (List Nat) := []
deriving DecidableEq, Repr

/-! ### Haptics (10_touch_and_haptics.md) -/

/-- A trigger, or the effect it started (R283). -/
structure Trig where
  /-- Stored waveform. -/
  wave : Nat
  /-- SCALE. -/
  scale : Nat
  /-- Who made it: 0 to 64, 128 the secure world. -/
  who : Nat
  /-- Its generation. -/
  gen : Nat
  /-- DONE_NOTICE. -/
  notice : Bool
deriving DecidableEq, Repr

/-- A haptic channel's own state. -/
structure HpSt where
  /-- Effect running. -/
  cur : Option Trig := none
  /-- Trigger latched. -/
  latch : Option Trig := none
  /-- The effect waits for the next PWM period (R283). -/
  armed : Bool := false
  /-- The effect enters Brake at the next drive half-cycle, with this ending (R283, R287). -/
  toBrake : Option Nat := none
  /-- Ending of the effect that brakes. -/
  ending : Nat := 0
  /-- The first 2 ms of drive run (R282). -/
  window : Bool := false
  /-- The first gap after the attack has not been measured (R282). -/
  first : Bool := false
  /-- Drive frequency, 0.1 Hz (R280, R281). -/
  freq : Nat := 0
  /-- What the pins drive: duties of the phase under way, the amplitude in bits 11:0 and the bridge diagonal in bit 12;
  empty for the short state (R276, R278). -/
  drive : List Nat := []
  /-- HAPTIC_LIMIT_SET words 1 to 3 that wait for Idle (R286); empty for none. -/
  limits : List Nat := []
  /-- A calibration waits for Idle or Fault (R280, R286). -/
  calWant : Bool := false
deriving DecidableEq, Repr

/-- A HAPTIC_CALIBRATE not answered (R286). -/
structure CalCmd where
  /-- The call. -/
  call : Call
  /-- Channels that have not calibrated. -/
  left : List Nat
  /-- Those of them whose calibration runs. -/
  going : List Nat
  /-- Mask of successes. -/
  ok : Nat
  /-- Mask of failures. -/
  bad : Nat
deriving DecidableEq, Repr

/-- The haptic engine's own state. -/
structure Hp where
  /-- Channels. -/
  ch : List HpSt := List.replicate 16 {}
  /-- Samples of the stored waveforms. -/
  waves : List (Nat × List Nat) := []
  /-- Calibrations not answered. -/
  cals : List CalCmd := []
deriving DecidableEq, Repr

/-! ### Resets (20_reset_boot.md) -/

/-- A Block or Subsystem reset under way (R503). -/
structure Heel where
  /-- Subsystem reset, else Block. -/
  sub : Bool
  /-- Kind of block (R450), or the subsystem. -/
  kind : Nat
  /-- Instance. -/
  inst : Nat
  /-- The command to answer. -/
  call : Call
  /-- HOLD. -/
  hold : Bool
  /-- The reset has asserted. -/
  asserted : Bool
  /-- The block was in use by a secure world that is down: the reset counts as forced (R453). -/
  forced : Bool
deriving DecidableEq, Repr

/-! ### Power and modes (02_operating_modes.md, 21_power_thermal.md) -/

/-- The power modes' own state beside GL_MODE. -/
structure Pw where
  /-- The mode being entered, while the change is under way. -/
  target : Option Nat := none
  /-- POWER_MODE_SET commands that wait for the mode. -/
  calls : List Call := []
  /-- POWER_MODE_SET commands that wait for the transition to end (R32). -/
  queue : List Call := []
  /-- Transitions of the mode axes that wait for the one under way to end: BUSY number of the axis, mode (R32). -/
  modes : List (Nat × Nat) := []
  /-- CLAIM_ROLE whose response was right, and RELEASE_ROLE, that wait for the transition under way to end (R32). -/
  access : List Call := []
  /-- The mode before the entry. -/
  prior : Nat := 0
  /-- Step of the Park entry: 0 none, 1 gathering, 2 suspensions, 3 memory, 4 clock face. -/
  stage : Nat := 0
  /-- The entry is cancelled, or Hold is to be left as soon as it is reached. -/
  cancel : Bool := false
  /-- FACE of the entry. -/
  face : Bool := false
  /-- Dim is commanded (R35). -/
  dimCmd : Bool := false
  /-- Event 70 has been raised for this gathering. -/
  gathered : Bool := false
  /-- Face record held (R523); empty for none. -/
  faceRec : List Nat := []
  /-- The face's rectangle in safe SRAM, RGB565 pixels in row order (R522). -/
  faceImg : List Nat := []
  /-- Readings of TS0 to TS7, signed 0.1 degrees (R524). -/
  temps : List Nat := List.replicate 8 0
  /-- The twin-wake output is driven low (R37). -/
  wakeLow : Bool := false
  /-- GATE_BLOCK commands that wait for a render group's jobs to leave: the call and the group (R520). -/
  gates : List (Call × Nat) := []
deriving DecidableEq, Repr

/-! ### Secure world (18_security_worlds.md) -/

/-- The secure world's own state beside the SW block. -/
structure Sw where
  /-- The time from which protected layers become stale: the declaration that took the world down plus the limit in force at it (R459). -/
  staleFrom : Option Nat := none
  /-- Pairs A and B: the secure world runs there, and the return address its entry saved (R444). -/
  pairs : List (Bool × Nat) := [(false, 0), (false, 0)]
  /-- The address each pair went on at after its last GATE, GATE_RET or interrupt entry (R444 to R446). -/
  goes : List (Nat × Nat) := []
  /-- Pairs whose general registers GATE_RET cleared at its last return, but for the result registers (R445). -/
  cleared : List Nat := []
  /-- The exception a pair took last: 1 GATE fault, 2 undefined instruction (R444, R445). -/
  trap : List (Nat × Nat) := []
  /-- The first result register a GATE in a down secure world left: pair and value (R444). -/
  result : List (Nat × Nat) := []
  /-- Stale settings that wait for the next declaration: limit, action, RG, B (R465). -/
  next : List Nat := []
  /-- SECURE_RELEASE commands that wait for the block: kind and instance (R452). -/
  rel : List (Call × Nat × Nat) := []
  /-- Times of the declarations of the last 60 s (R462). -/
  downs : List Nat := []
  /-- The SECURE_RESTART that waits, and when the restart began. -/
  restart : Option (Option Call × Nat) := none
  /-- The secure watchdog runs, and was last kicked at this time (R457). -/
  wdog : Option Nat := none
  /-- Resets of secure blocks the secure world is to be told of when it next runs (R451): kind and instance. -/
  removed : List (Nat × Nat) := []
  /-- PROTECTED allocations that hold records of heads: head, entry (R455). -/
  alloc : List (Nat × Nat) := []
deriving DecidableEq, Repr

/-- The reset controller's own state. -/
structure Rs where
  /-- Block and Subsystem resets under way. -/
  heels : List Heel := []
  /-- Resets held by HOLD (R505): Subsystem, kind or subsystem number, instance. -/
  holds : List (Bool × Nat × Nat) := []
  /-- The widest reach asserted: 0 none, 1 Warm, 2 Cold, 3 Power-on. -/
  reach : Nat := 3
  /-- Sources that keep it asserted, by RB_CAUSE bit. -/
  levels : List Nat := []
  /-- RB_CAUSE bit of the source that took it first. -/
  src : Nat := 0
  /-- Resets commanded, that follow their reply by 1 ms: RB_CAUSE bits. -/
  soon : List Nat := []
  /-- A reach has cleared the placement map in this command: what memory holds is named no longer. -/
  wiped : Bool := false
  /-- When the current start was released, on the counter. -/
  relAt : Nat := 0
  /-- The last kick of the normal-world watchdog, on the counter. -/
  nwdogAt : Nat := 0
  /-- The start is timed (R498). -/
  timed : Bool := false
  /-- Journal records owed at the next start: kind and DETAIL (R473, R478). -/
  owed : List (Nat × Nat) := []
  /-- A failed start has been counted since the last start-confirm (R498). -/
  failed : Bool := false
  /-- The commissioned configuration has been loaded in this start. -/
  loaded : Bool := false
  /-- Memory training has ended in this start. -/
  trained : Bool := false
  /-- PLL bypass: CLK_MODE 0b11, or Kennel without a lock (R418, R500). -/
  bypass : Bool := false
  /-- Kennel's Bowline runs (R500). -/
  kennelBl : Bool := false
deriving DecidableEq, Repr

/-! ### Audio (11_audio_graph.md) -/

/-- A node of an audio graph (R293). -/
structure ANode where
  /-- ID. -/
  id : Nat
  /-- KIND (R294). -/
  kind : Nat
  /-- ARG. -/
  arg : Nat
deriving DecidableEq, Repr

/-- A gain that moves linearly in amplitude to its target (R299). -/
structure Ramp where
  /-- Amplitude at its start. -/
  start : Rat := 0
  /-- Target. -/
  goal : Rat := 0
  /-- Ticks left. -/
  left : Nat := 0
  /-- Ticks in all. -/
  total : Nat := 0
deriving DecidableEq, Repr

/-- An edge of an audio graph, with its gain as it stands. -/
structure AEdge where
  /-- FROM. -/
  src : Nat
  /-- TO. -/
  dst : Nat
  /-- Gain target, coded as GAIN (R293). -/
  gain : Nat
  /-- LOCK. -/
  lock : Bool
  /-- A route change is taking it out of the graph: its target is mute (R297). -/
  out : Bool := false
  /-- Its amplitude. -/
  ramp : Ramp := {}
deriving DecidableEq, Repr

/-- A loaded graph. -/
structure AGraph where
  /-- Nodes, in the order of the description. -/
  nodes : List ANode
  /-- Edges. -/
  edges : List AEdge
deriving DecidableEq, Repr

/-- A rate domain's own state. -/
structure ADom where
  /-- The graph in force. -/
  graph : Option AGraph := none
  /-- The new graph of a route change (R297). -/
  next : Option AGraph := none
  /-- Route change: 0 none, 1 edges ramp out, 2 the swap waits for a block boundary, 3 edges ramp in. -/
  route : Nat := 0
  /-- Ticks into the block. -/
  tick : Nat := 0
  /-- Outputs ramp to mute, or are muted, with the ticks left; none while they sound. -/
  mute : Option Nat := none
  /-- Ticks of the ramp to mute in all. -/
  muteTotal : Nat := 1
  /-- What its TDM ports received in the last frames, newest first (R305). -/
  tdm : List (List TdmIn) := []
  /-- Memory of its biquad nodes: node ID, x1, x2, y1, y2 (R301). -/
  filt : List (Nat × List Rat) := []
  /-- STOP_AUDIO calls to answer at the block boundary. -/
  stops : List Call := []
  /-- Halted: clock lost (R292), or suspended (R312). -/
  halted : Bool := false
  /-- The halt ends at the next block boundary. -/
  resume : Bool := false
  /-- Hold or Park entry wants the domain suspended (R312). -/
  suspend : Bool := false
deriving DecidableEq, Repr

/-- An endpoint's stream (R302 to R304). -/
structure AStream where
  /-- Endpoint. -/
  ep : Nat
  /-- Function. -/
  fn : Nat
  /-- Its generation. -/
  gen : Nat
  /-- Buffer handle. -/
  buf : Nat
  /-- k: 2^k blocks. -/
  k : Nat
  /-- PERIOD in blocks, 0 without the period notice. -/
  period : Nat
  /-- Blocks since the last period notice. -/
  since : Nat
  /-- HW. -/
  hw : Nat
  /-- Frames the Skein port has appended or sent (R337); APPL as the port writes it. -/
  appl : Nat
  /-- The last block was lost. -/
  xrun : Bool
  /-- Bytes of a part frame that Skein has delivered. -/
  part : List Nat
  /-- Its gain as it stands. -/
  ramp : Ramp := {}
  /-- Frames, each a list of channels: of the block that plays, or captured of the block that fills. -/
  block : List (List Rat) := []
  /-- The block that plays ramps in over its 16 ticks, the first after an underrun. -/
  soft : Bool := false
deriving DecidableEq, Repr

/-- A tone pattern: TONE_PLAY words 0 to 5, with its issuer (R308). -/
structure Pattern where
  /-- Words. -/
  words : List Nat
  /-- Issuer. -/
  fn : Nat
  /-- Its generation. -/
  gen : Nat
deriving DecidableEq, Repr

/-- A tone generator's own state (R309). -/
structure ToneSt where
  /-- Pattern sounding. -/
  cur : Option Pattern := none
  /-- Pattern latched. -/
  latch : Option Pattern := none
  /-- Repeats left, none without a limit. -/
  reps : Option Nat := none
  /-- Ending of the current pattern where its release is its last: 1 replaced, 2 stopped. -/
  ending : Option Nat := none
  /-- Ticks into the phase. -/
  pos : Nat := 0
  /-- Ticks since its attack began. -/
  clock : Nat := 0
  /-- Envelope at the start of the release. -/
  level : Rat := 1
deriving DecidableEq, Repr

/-- A beep generator's own state (R310): BEEP_PLAY words with the issuer. -/
structure BeepSt where
  /-- Sequence sounding. -/
  cur : Option Pattern := none
  /-- Sequence that follows the current burst. -/
  next : Option Pattern := none
  /-- Bursts left, the current one included. -/
  left : Nat := 0
  /-- In the gap between bursts. -/
  gap : Bool := false
  /-- The sequence ends with the burst. -/
  stop : Bool := false
  /-- Ticks into the burst. -/
  clock : Nat := 0
deriving DecidableEq, Repr

/-- A glide of a microphone filter's corner (R311). -/
structure Glide where
  /-- Filter. -/
  flt : Nat
  /-- Corner at its start. -/
  start : Nat
  /-- Ticks left. -/
  left : Nat
  /-- Ticks in all. -/
  total : Nat
deriving DecidableEq, Repr

/-- A rate bridge's own state (R307). -/
structure BrSt where
  /-- Samples sent into it, newest first, each a list of channels. -/
  sent : List (List Rat) := []
  /-- Receiving ticks since the last of them. -/
  since : Nat := 0
  /-- Frames converted and not yet out, newest first. -/
  queue : List (List Rat) := []
  /-- Its output's gain. -/
  fade : Ramp := {}
deriving DecidableEq, Repr

/-- A microphone filter's own state (R311). -/
structure HpfSt where
  /-- Memory of the offset stage: x1, x2, y1, y2. -/
  offset : List Rat := []
  /-- Memory of the wind stage. -/
  wind : List Rat := []
  /-- The wind stage's part of the output. -/
  fade : Ramp := { goal := 1 }
deriving DecidableEq, Repr

/-- The audio engine's own state. -/
structure Au where
  /-- Domains A, B, C. -/
  dom : List ADom := [{}, {}, {}]
  /-- Streams open. -/
  streams : List AStream := []
  /-- Tone generators. -/
  tones : List ToneSt := List.replicate 16 {}
  /-- Beep generators. -/
  beeps : List BeepSt := List.replicate 8 {}
  /-- Biquad sets written since the last commit (R301). -/
  bqDirty : List Nat := []
  /-- Committed sets that wait for a block boundary. -/
  bqWait : List (Nat × List Nat) := []
  /-- Coefficients in force of the sets that differ from the reset ones. -/
  bq : List (Nat × List Nat) := []
  /-- Corner glides. -/
  glides : List Glide := []
  /-- Rate bridges. -/
  bridges : List BrSt := List.replicate 16 {}
  /-- Microphone filters. -/
  hpf : List HpfSt := List.replicate 16 {}
  /-- The graphs of the commissioned configuration (R312, R477). -/
  saved : List (Nat × AGraph) := []
deriving DecidableEq, Repr

/-! ### Skein (12_skein_ports.md) -/

/-- What a stream's receive buffer holds (R331, R335). -/
inductive SkItem where
  /-- Data bytes of a flit not drained yet. -/
  | data (bytes : List Nat)
  /-- MARK START: TAG, and the time it was received. -/
  | start (tag sec tick : Nat)
  /-- MARK END: LENGTH. -/
  | fin (length : Nat)
deriving DecidableEq, Repr

/-- An open ingress frame of a frame ring (R335). -/
structure InFrame where
  /-- Slot. -/
  slot : Nat
  /-- TAG. -/
  tag : Nat
  /-- Seconds of the MARK START. -/
  sec : Nat
  /-- Ticks of the MARK START. -/
  tick : Nat
  /-- Bytes received. -/
  got : Nat
  /-- The frame is discarded: the ring was full under DROP. -/
  drop : Bool
  /-- The last bytes received, not written yet: they may lie beyond LENGTH, or be check bytes. -/
  last : List Nat
deriving DecidableEq, Repr

/-- An egress frame in progress (R336). -/
structure OutFrame where
  /-- Bytes sent from the slot. -/
  len : Nat
  /-- TAG. -/
  tag : Nat
  /-- LEN was above the slot size. -/
  trunc : Bool
  /-- Check bytes that APPEND adds (R404); none before the unit has seen every byte. -/
  check : Option (List Nat)
  /-- Bytes sent. -/
  pos : Nat
  /-- Time of the MARK START; none before it is sent. -/
  begun : Option (Nat × Nat)
  /-- SEQ of the MARK END sent. -/
  endSeq : Option Nat
deriving DecidableEq, Repr

/-- What a port keeps of a bound stream beside its registers. -/
structure SkStream where
  /-- Stream. -/
  st : Nat
  /-- Credit in 64-byte quarters beyond the whole units CREDIT shows. -/
  quarter : Nat := 0
  /-- Flits drained, and quarters freed at link up, that no unit has been granted for yet (R329, R331). -/
  drained : Nat := 0
  /-- Receive buffer, oldest first. -/
  fifo : List SkItem := []
  /-- Frames completed since the binding (R338). -/
  done : Nat := 0
  /-- Causes SKEIN_STREAM could tell of the frame before this one (R344). -/
  told : List Nat := []
  /-- Causes of this frame. -/
  causes : List Nat := []
  /-- Open ingress frame. -/
  frame : Option InFrame := none
  /-- Egress frame in progress. -/
  eg : Option OutFrame := none
deriving DecidableEq, Repr

/-- A Skein port's own state. -/
structure SkPort where
  /-- Link. -/
  link : LinkSt := {}
  /-- Streams bound. -/
  streams : List SkStream := []
deriving DecidableEq, Repr

/-- The Skein ports' own state. -/
structure Sk where
  /-- Ports. -/
  port : List SkPort := [{}, {}]
deriving DecidableEq, Repr

/-! ### What survives without power (19_roles_journal.md, 20_reset_boot.md) -/

/-- The commissioned configuration (R477). -/
structure CfgCopy where
  /-- Fields, by register key, that differ from their reset values. -/
  regs : List (Nat × Nat)
  /-- Default share. -/
  dflt : Share
  /-- F0's share. -/
  own : Share
  /-- Memory size, MiB. -/
  memSize : Nat
  /-- Face record. -/
  face : List Nat
  /-- Audio graphs. -/
  graphs : List (Nat × AGraph)
  /-- Start marks of heads, ports, audio domains, Skein ports and touch ports, one bit each. -/
  marks : List Nat
deriving DecidableEq, Repr

/-- Flash and fuses. -/
structure Nv where
  /-- The Maker key; none for the delivery key (R470). -/
  maker : Option (List Nat) := none
  /-- The Installer key. -/
  installer : Option (List Nat) := none
  /-- Protected-content keys: slot, 64 bytes (R454). -/
  prot : List (Nat × List Nat) := []
  /-- Copy of the key store in force (R456). -/
  keySel : Nat := 0
  /-- The commissioned configuration saved last. -/
  cfg : Option CfgCopy := none
  /-- Heads that may lose their protected layer (R452). -/
  safety : Nat := 0
  /-- Slot the flash selector names: 0 A, 1 B. -/
  active : Nat := 0
  /-- Rollback floor, as fused. -/
  floor : Nat := 0
  /-- Firmware slots A and B, bytes; empty for an empty slot. -/
  slots : List (List Nat) := [[], []]
  /-- Debug lock (R512). -/
  debugLock : Bool := false
  /-- Maker words written: number and value. -/
  words : List (Nat × Nat) := []
  /-- Key-hash slots programmed: slot and 32 bytes (R507). -/
  hashes : List (Nat × List Nat) := []
deriving DecidableEq, Repr

/-- The maintenance UART and the boot load (R509, R510). -/
structure Ld where
  /-- Image bytes received. -/
  bytes : List Nat := []
  /-- RECOVERY_LOAD that waits for the UART's image, with its length. -/
  waits : Option (Call × Nat) := none
  /-- The start waits for an image from the host, the twin or the UART. -/
  boot : Bool := false
  /-- Commands in the engine that came by the UART, whose replies go out there. -/
  uart : List Call := []
  /-- The reply being written goes out on the UART. -/
  via : Bool := false
  /-- The last frame sent on the UART. -/
  lastOut : List Nat := []
deriving DecidableEq, Repr

/-- The JTAG TAP (R540). -/
structure Tap where
  /-- Instruction: 0 BYPASS, 1 IDCODE, 2 SAMPLE/PRELOAD, 3 EXTEST. -/
  ir : Nat := 1
  /-- Boundary register. -/
  boundary : List Nat := []
deriving DecidableEq, Repr

/-! ### Memory controller (14_memory_controller.md) -/

/-- A row of a device: rank, bank group, bank, row (R379). -/
structure McRow where
  /-- Rank. -/
  rank : Nat
  /-- Bank group. -/
  bgrp : Nat
  /-- Bank. -/
  bank : Nat
  /-- Row. -/
  row : Nat
deriving DecidableEq, Repr

/-- Activations of a row by one requester and function in the window (R385). -/
structure ActBy where
  /-- Requester. -/
  req : Nat
  /-- Function. -/
  fn : Nat
  /-- Its requests are in TC0. -/
  tc0 : Bool
  /-- Activations. -/
  n : Nat
deriving DecidableEq, Repr

/-- Activations of a row in the window (R384). -/
structure RowCount where
  /-- Channel. -/
  chan : Nat
  /-- Row. -/
  row : McRow
  /-- Count since the window began or the row last crossed. -/
  n : Nat
  /-- Activations in the window by requester and function. -/
  pairs : List ActBy
deriving DecidableEq, Repr

/-- A throttle of a requester and function on a bank (R385). -/
structure Throttle where
  /-- Rank, bank group and bank. -/
  bank : Nat × Nat × Nat
  /-- Requester. -/
  req : Nat
  /-- Function. -/
  fn : Nat
  /-- Wait, ns. -/
  wait : Nat
deriving DecidableEq, Repr

/-- A channel's own state. -/
structure McChan where
  /-- Refreshes issued ahead (R382). -/
  ahead : Nat := 0
  /-- Corrected errors in the window (R388). -/
  corr : Nat := 0
  /-- The last 16 rows recorded, oldest first (R387). -/
  rows : List McRow := []
  /-- Throttles in place, oldest first (R386). -/
  throttles : List Throttle := []
  /-- Epochs since the last cause that made it Disturbed (R388). -/
  calm : Nat := 0
  /-- Disturbed for drift. -/
  drift : Bool := false
  /-- Entries named for evacuation that still use the channel (R121, R388). -/
  named : List Nat := []
  /-- Attempts of the retrain under way. -/
  tries : Nat := 0
deriving DecidableEq, Repr

/-- The memory controllers' own state. -/
structure Mc where
  /-- Channels. -/
  chan : List McChan := List.replicate 16 {}
  /-- Row counts above zero. -/
  counts : List RowCount := []
  /-- The channels have two ranks each. -/
  ranks2 : Bool := false
  /-- Phase markers of the training that the last power-on or Cold reach start began: the last phase each channel has passed,
  its trained record standing in safe SRAM with 5 (R390, R391). -/
  phases : List Nat := List.replicate 16 0
  /-- That training has ended. -/
  done : Bool := false
deriving DecidableEq, Repr

/-! ### The chip -/

/-- What leaves the block: writes to host memory, messages, flits and levels on pins, in order. -/
inductive Out where
  /-- A PCI Express write of 32-bit words by a function (R58, R65). -/
  | hostWrite (fn addr : Nat) (words : List Nat)
  /-- An MSI-X message: function, vector, message address and data (R563). -/
  | msix (fn vec addr data : Nat)
  /-- A flit sent on a link: link (0, 1 Skein ports, 2 Bowline), TYPE, its 64 bytes (R322, R347). -/
  | link (l kind : Nat) (bytes : List Nat)
  /-- One block time of a link's transmit lanes (R321): lane, sync header and the 64 bits after it, as they go out. -/
  | lanes (l : Nat) (blocks : List (Nat × Nat × Nat))
  /-- A pin or bus driven: pin class and the levels or bytes. -/
  | pin (cls : Nat) (values : List Nat)
  /-- A row that a memory controller refreshes beside a disturbed one (R384): channel, row. -/
  | rowRefresh (c : Nat) (r : McRow)
  /-- The PCI Express link leaves L1 (R565). -/
  | leaveL1
  /-- What a memory request's read returns: requester, function, bytes (R113). -/
  | readBack (req fn : Nat) (bytes : List Nat)
  /-- What the secure world receives: the outcome of a service it asked for, or a notice of its own work. -/
  | secure (opcode status : Nat) (words : List Nat)
  /-- What a register read returns. -/
  | regRead (addr value : Nat)
deriving DecidableEq, Repr

/-- Everything the spec gives the block but its memory and its queue of commands. -/
structure Chip where
  /-- Register fields that do not hold their reset value: key, value. -/
  regs : List (Nat × Nat) := []
  /-- Command engine. -/
  ce : Ce := {}
  /-- Functions. -/
  fn : Fns := {}
  /-- Event controller. -/
  ev : Ev := {}
  /-- Pulse crossings, by their bit in CK_LOST. -/
  cross : List Cross := List.replicate 25 {}
  /-- Time base. -/
  tb : Tb := {}
  /-- Herder. -/
  hb : Hb := {}
  /-- Render array. -/
  gx : Gx := {}
  /-- Composer. -/
  cp : Cp := {}
  /-- Heads. -/
  hd : List HeadSt := List.replicate 16 {}
  /-- Ports. -/
  dx : List PortSt := List.replicate 10 {}
  /-- Roles and journal. -/
  rj : Rj := {}
  /-- Bowline and the pair. -/
  bl : Bl := {}
  /-- Touch hub. -/
  th : Th := {}
  /-- Haptic engine. -/
  hp : Hp := {}
  /-- Reset controller. -/
  rs : Rs := {}
  /-- Power modes. -/
  pw : Pw := {}
  /-- Secure world. -/
  sw : Sw := {}
  /-- Audio engine. -/
  au : Au := {}
  /-- Skein ports. -/
  sk : Sk := {}
  /-- Check-value units. -/
  cv : List CvUnit := List.replicate 24 {}
  /-- Memory controllers. -/
  mc : Mc := {}
  /-- Flash and fuses. -/
  nv : Nv := {}
  /-- Maintenance UART and boot load. -/
  ld : Ld := {}
  /-- JTAG TAP. -/
  tap : Tap := {}
  /-- What has left the block, oldest first. -/
  out : List Out := []
  /-- How many free values have been taken (the model's own). -/
  freeCtr : Nat := 0
deriving DecidableEq, Repr

end Sys2Proof.Machine
end

