-- ==== Sys2Proof/Machine/State.lean ====
section
/-!
DEFINITION. The state of the block, as plain data: the queue of commands waiting, the memory its handles name, and
everything else the spec gives the part. `State.reset` is the part as a Power-on reach leaves it.
-/
namespace Sys2Proof.Machine

/-- The whole state. -/
structure State where
  /-- Commands waiting, first in, first out. -/
  pending : List Instr := []
  /-- Memory by device address (R109): addresses rising, no entry equal to what an unlisted address reads as. -/
  mem : List Host.Cell := []
  /-- The blocks. -/
  chip : Chip := {}
deriving DecidableEq, Repr

/-- The canonical form of memory: addresses strictly rising, and no entry equal to what an unlisted address reads as. -/
abbrev Memory.wf (m : List Host.Cell) : Prop := sparseSorted m = true ∧ ∀ e ∈ m, e.2 ≠ 0

/-- The faults of the machine: none is raised, since the spec gives every command an effect in every state. -/
inductive Fault where
  /-- Raised by nothing: no rule of the spec stops the block. Safe. -/
  | none
deriving DecidableEq, Repr

/-- The refusals of the machine. -/
inductive Refusal where
  /-- A command the model gives no meaning yet, by its mnemonic. Raised by the dispatch alone. Safe. -/
  | notModelled (mnemonic : String)
  /-- A JTAG access beyond the four instructions of R540, with the debug lock not programmed: the spec names it and says
  nothing of what it does. Raised by TAP_INSTRUCTION alone. Safe: the machine stops. -/
  | debugAccess
deriving DecidableEq, Repr

/-- The part right after a power-on, its supplies good and its reach about to release (RESET_RELEASE): every register
at the value of its Reset column, every queue and table empty. Assumption log, rows 4, 10. -/
def State.reset : State := {}

end Sys2Proof.Machine
end

