-- ==== Sys2Proof/Machine/Ops.lean ====
section
/-!
DEFINITION. The named operations every block shares: reading and writing a register field, counting, raising an event,
taking a free value, the clock, memory by device address, and lifting a change of the blocks to the whole state.
-/
namespace Sys2Proof.Machine

/-! ### Memory cells -/

/-- A command that also writes memory: `f` answers the blocks and the writes to make, in order, as device addresses and
bytes. -/
def writeCells (mem : List Host.Cell) (ws : List (Nat × Byte)) : List Host.Cell :=
  ws.foldl (fun m w => sparseSet m w.1 w.2 0) mem

/-! ### Register fields -/

/-- Key of instance `n` of a field in the register file. -/
def Fld.key (f : Fld) (n : Nat) : Nat := f.id * 2048 + n

/-- Reset value of instance `n`. Assumption log, row 4. -/
def Fld.resetAt (f : Fld) (n : Nat) : Nat := f.resets.getD (n % f.resets.length) 0

/-- The value of field `f`, instance `n`. -/
def Chip.get (x : Chip) (f : Fld) (n : Nat := 0) : Nat := sparseGet x.regs (f.key n) (f.resetAt n)

/-- `x` with field `f`, instance `n`, at `v`, cut to the field's width. -/
def Chip.set (x : Chip) (f : Fld) (v : Nat) (n : Nat := 0) : Chip :=
  { x with regs := sparseSet x.regs (f.key n) (v % 2 ^ f.width) (f.resetAt n) }

/-- A field read as a flag. -/
def Chip.on (x : Chip) (f : Fld) (n : Nat := 0) : Bool := x.get f n != 0

/-- A field set as a flag. -/
def Chip.flag (x : Chip) (f : Fld) (b : Bool) (n : Nat := 0) : Chip := x.set f (b2n b) n

/-- A counter that wraps, advanced by one. -/
def Chip.inc (x : Chip) (f : Fld) (n : Nat := 0) : Chip := x.set f (x.get f n + 1) n

/-- A counter that saturates, advanced by `k`. -/
def Chip.sat (x : Chip) (f : Fld) (n : Nat := 0) (k : Nat := 1) : Chip :=
  x.set f (min (x.get f n + k) (2 ^ f.width - 1)) n

/-- Bit `i` of a field. -/
def Chip.bit (x : Chip) (f : Fld) (i : Nat) (n : Nat := 0) : Bool := bitAt (x.get f n) i

/-- A field with its bit `i` at `b`. -/
def Chip.setBit (x : Chip) (f : Fld) (i : Nat) (b : Bool) (n : Nat := 0) : Chip := x.set f (putBit (x.get f n) i b) n

/-- A field back at its reset value. -/
def Chip.resetField (x : Chip) (f : Fld) (n : Nat := 0) : Chip := x.set f (f.resetAt n) n

/-- Every listed field back at its reset value, in one instance. -/
def Chip.resetFields (x : Chip) (fs : List Fld) (n : Nat) : Chip := fs.foldl (fun y f => y.resetField f n) x

/-- The word a register reads: its fields at their places, of the instance `n` of each. -/
def Chip.word (x : Chip) (fs : List Fld) (n : Nat := 0) : Nat :=
  fs.foldl (fun a f => a + x.get f n * 2 ^ f.lsb) 0

/-! ### Events, output, free values -/

/-- The block raises event source `src`: the raise sets out for the event controller (R559). Assumption log, row 12.
-/
def Chip.raise (x : Chip) (src : Nat) : Chip := { x with ev.raised := x.ev.raised ++ [.source src] }

/-- Raise where `b` holds. -/
def Chip.raiseIf (x : Chip) (b : Bool) (src : Nat) : Chip := if b then x.raise src else x

/-- What of an output reaches the balls: while the TAP holds EXTEST the pins follow the boundary register (R540). Assumption
log, row 109. -/
def Chip.shown (x : Chip) (o : Out) : List Out :=
  match o with
  | .pin k _ => if x.tap.ir = 3 && k < 11 then [] else [o]
  | _ => [o]

/-- Something leaves the block. Assumption log, row 13. -/
def Chip.emit (x : Chip) (o : Out) : Chip := { x with out := x.out ++ x.shown o }

/-- The next free value, below `2 ^ w`. Assumption log, row 2. -/
def Chip.free (x : Chip) (w : Nat) : Nat := (Config.freeValue x.freeCtr).toNat % 2 ^ w

/-- The free value has been taken. Assumption log, row 2. -/
def Chip.took (x : Chip) : Chip := { x with freeCtr := x.freeCtr + 1 }

/-- Change where `b` holds. -/
def Chip.onlyIf (x : Chip) (b : Bool) (f : Chip → Chip) : Chip := if b then f x else x

/-! ### Clock (R429) -/

/-- Ticks in a second. -/
def tps : Nat := 1228800000

/-- Ticks in a millisecond: an epoch (R105). -/
def tpms : Nat := 1228800

/-- The counter as one count of ticks. Assumption log, row 22. -/
def Chip.now (x : Chip) : Nat := x.get TB_SEC_SEC * tps + x.get TB_TICK_TICK

/-- Ticks that have passed, whatever steps the counter took (R436). Assumption log, row 111. -/
def Chip.up (x : Chip) : Nat := x.tb.up

/-! ### Modes (R27) -/

/-- GL_MODE as the register reads. -/
def Chip.glMode (x : Chip) : Nat :=
  x.word [GL_MODE_PAIR, GL_MODE_POWER, GL_MODE_ACCESS, GL_MODE_INTEG, GL_MODE_BUSY, GL_MODE_TWIN_SERVICE,
    GL_MODE_TWIN_KENNEL, GL_MODE_THERM_DIM, GL_MODE_SEQ]

/-- INTEG is Kennel. -/
def Chip.kennel (x : Chip) : Bool := x.get GL_MODE_INTEG = 2

/-- POWER is Hold. -/
def Chip.inHold (x : Chip) : Bool := x.get GL_MODE_POWER = 2

/-- PAIR is Follow. -/
def Chip.follow (x : Chip) : Bool := x.get GL_MODE_PAIR = 2

/-- PAIR is not Solo. -/
def Chip.paired (x : Chip) : Bool := x.get GL_MODE_PAIR != 0

/-- POWER is Park: no command path, and the domains that hold the blocks are off (R22, R42). -/
def Chip.parked (x : Chip) : Bool := x.get GL_MODE_POWER = 3

/-- The axis of a mode field, as BUSY numbers them (R27). -/
def modeAxis (f : Fld) : Nat :=
  if f.id = GL_MODE_PAIR.id then 0 else if f.id = GL_MODE_POWER.id then 1 else if f.id = GL_MODE_ACCESS.id then 2 else 3

/-- The mode field of an axis. -/
def axisField (a : Nat) : Fld :=
  match a with
  | 0 => GL_MODE_PAIR
  | 1 => GL_MODE_POWER
  | 2 => GL_MODE_ACCESS
  | _ => GL_MODE_INTEG

/-- Every bit of GL_DEG_CAUSE clears: Degraded is left (R28). -/
def Chip.clearCauses (x : Chip) : Chip :=
  x.resetFields [GL_DEG_CAUSE_SIG_DISAGREE, GL_DEG_CAUSE_TRIM_DEFAULT, GL_DEG_CAUSE_CHAN_RETIRED, GL_DEG_CAUSE_LOCKSTEP,
    GL_DEG_CAUSE_PROOF_FAIL] 0

/-! ### PEND_RESTART and its mirrors (R29, R30) -/

/-- The mirror bit of a stop unit's flag: head, port, audio domain, Skein port or touch port field. -/
def pendMirror (f : Fld) : Option (Fld × Nat) :=
  if f.id = HDn_STAT_PEND_RESTART.id then some (GL_PEND0_HEAD, 0)
  else if f.id = DXn_STAT_PEND_RESTART.id then some (GL_PEND0_PORT, 0)
  else if f.id = AU_DOMx_STAT_PEND_RESTART.id then some (GL_PEND0_AUDIO, 0)
  else if f.id = SKn_STAT_PEND_RESTART.id then some (GL_PEND0_SKEIN, 0)
  else if f.id = TPn_STAT_PEND_RESTART.id then some (GL_PEND1_TOUCH, 0)
  else none

/-- A PEND_RESTART flag takes a value: its mirror follows (R29), and source 9 is raised on 0 to 1 (R30). -/
def Chip.setPend (x : Chip) (f : Fld) (n : Nat) (b : Bool) : Chip :=
  let y := (x.flag f b n).onlyIf (b && !x.on f n) (·.raise 9)
  match pendMirror f with
  | some m => y.setBit m.1 n b
  | none => y

/-! ### Journal (R478, R480) -/

/-- A record takes its place in the buffer (R480): the next SEQ, and the time. Assumption log, row 91. -/
def Chip.pushRec (x : Chip) (kind role func result opcode detail : Nat) (digest : List Nat) : Chip :=
  let r : JRec := ⟨x.get RJ_JNEXT_SEQ, x.get TB_SEC_SEC, x.get TB_TICK_TICK, kind, role, func, result, opcode, detail, digest⟩
  let y := ({ x with rj := { x.rj with jbuf := x.rj.jbuf ++ [r] } }).inc RJ_JNEXT_SEQ
  (y.set RJ_JBUF_BUFFERED y.rj.jbuf.length).raiseIf (y.rj.jbuf.length = 48) 510

/-- A record enters the buffer (R480). A record that will begin a flash sector that holds records comes behind the
wrap record of that sector (R481). A full buffer loses the record. Assumption log, row 91. -/
def Chip.journalRec (x : Chip) (kind role func result opcode detail : Nat) (digest : List Nat) : Chip :=
  let slot := (x.rj.wpos + x.rj.jbuf.length) % 4096
  let wrap := slot % 1024 = 0 && x.rj.ring.any fun r => r.1 / 1024 = slot / 1024
  if 64 < x.rj.jbuf.length + (if wrap then 2 else 1) then
    ((({ x with rj := { x.rj with gap := x.rj.gap + 1 } }).sat RJ_JBUF_LOST)).raise 510
  else
    let y := if wrap then
      ({ x with rj := { x.rj with erased := x.rj.erased + 1 } }).pushRec 14 3 127 0 0 ((x.rj.erased + 1) % 65536) [] else x
    y.pushRec kind role func result opcode detail digest

/-- A record of the firmware's own: no role, no function, no opcode. -/
def Chip.journal (x : Chip) (kind detail : Nat) : Chip := x.journalRec kind 3 127 0 0 detail []

/-! ### Transitions of the modes (R32) -/

/-- A mode field takes a value; SEQ advances and source 8 is raised where it changes (R27, R30), and a change of
integrity is journaled (R40, R478). -/
def Chip.takeMode (x : Chip) (f : Fld) (v : Nat) : Chip :=
  if x.get f = v then x
  else
    let y := ((x.set f v).inc GL_MODE_SEQ).raise 8
    if modeAxis f = 3 then y.journal 6 v else y

/-- A transition is under way that one on axis `a` waits for: a power transition, and for integrity an attach too; a
session opens and closes during an attach (R354), and a power transition takes its own turn. Assumption log, row 116.
-/
def Chip.otherBusy (x : Chip) (a : Nat) : Bool :=
  (a != 1 && x.bit GL_MODE_BUSY 1) || (a = 3 && x.bit GL_MODE_BUSY 0)

/-- A transition of a mode field: transitions are made one at a time, so one whose cause arises while another axis is
in transition waits for that to end (R32). Assumption log, row 116. -/
def Chip.setMode (x : Chip) (f : Fld) (v : Nat) : Chip :=
  if x.otherBusy (modeAxis f) then { x with pw := { x.pw with modes := x.pw.modes ++ [(modeAxis f, v)] } }
  else x.takeMode f v

/-- Transitions of an axis that wait are dropped: what caused them is gone. -/
def Chip.dropModes (x : Chip) (a : Nat) : Chip :=
  { x with pw := { x.pw with modes := x.pw.modes.filter fun p => p.1 != a } }

/-- Transitions that waited, and need wait no longer, are made, axis by axis in the order given (R32). Assumption log,
row 116. -/
def Chip.modesDue (x : Chip) (axes : List Nat) : Chip :=
  let free := axes.filter fun a => !x.otherBusy a
  let y := { x with pw := { x.pw with modes := x.pw.modes.filter fun p => !free.contains p.1 } }
  (free.flatMap fun a => x.pw.modes.filter fun p => p.1 = a).foldl (fun (y : Chip) p => y.takeMode (axisField p.1) p.2) y

/-! ### Roles (R72, R473) -/

/-- The role step 9 asks for: RECOVERY_LOAD reads its mode from word 0, and mode CLEAR (3) needs Maker (R72). -/
def Op.roleFor (o : Op) (c : Call) : Nat :=
  if o.code = opRecoveryLoad.code then (if c.w 0 = 3 then 2 else 0) else o.role

/-- An Installer or Maker opcode, or a Commission-class write, restarts the idle time of the session (R473).
Assumption log, row 93. -/
def Chip.roleAct (x : Chip) : Chip :=
  if x.get RJ_SESSION_ROLE = 0 then x
  else { x.set RJ_SESSION_IDLE_LEFT (max 1 (x.get RJ_IDLE_MIN)) with rj := { x.rj with idleAt := x.up } }

/-- The record of an Installer or Maker opcode (R478 kind 1), made with its outcome. -/
def Chip.journalOp (x : Chip) (o : Op) (c : Call) (status : Nat) : Chip :=
  if o.roleFor c = 0 then x
  else x.roleAct.journalRec 1 (x.get RJ_SESSION_ROLE) c.fn.val status o.code 0 (c.words.flatMap fun w => wordBytes w.toNat)

/-! ### Memory by device address (R109) -/

/-- Placement-map entry number of a handle address. -/
def hIndex (a : Nat) : Nat := bits a 34 13

/-- Tag of a handle address. -/
def hTag (a : Nat) : Nat := bits a 48 16

/-- Offset of a handle address. -/
def hOffset (a : Nat) : Nat := bits a 0 34

/-- The handle of an entry, offset zero. -/
def handleOf (e : MapEntry) : Nat := e.idx * 2 ^ 34 + e.tag * 2 ^ 48

/-- The entry of the map with a number. -/
def Chip.entry (x : Chip) (i : Nat) : Option MapEntry := x.hb.map.find? fun e => e.idx = i

/-- The entry a handle address names, where it passes steps 2 to 6 of R113 for function `fn` in the normal world, or for the
secure world as 127. -/
def Chip.ownEntry (x : Chip) (fn a : Nat) : Option MapEntry :=
  if bitAt a 47 then none
  else match x.entry (hIndex a) with
    | some e => if e.valid && (e.tag = hTag a && (e.func = fn && ((!e.world || fn = 127) && !e.wdrawn))) then some e else none
    | none => none

/-- The function's own entry, of a class in the list, that holds `len` bytes from the address on. -/
def Chip.ownRange (x : Chip) (fn a len : Nat) (classes : List Nat) : Option MapEntry :=
  match x.ownEntry fn a with
  | some e => if classes.contains e.cls && (hOffset a + len ≤ e.size * 65536) then some e else none
  | none => none

/-- A memory request as the walker sees it (R15, R113). -/
structure Ask where
  /-- Requester code. -/
  req : Nat
  /-- Function. -/
  fn : Nat
  /-- Generation. -/
  gen : Nat
  /-- Secure world. -/
  world : Bool
  /-- Handle address. -/
  addr : Nat
  /-- Length in bytes. -/
  len : Nat
  /-- A write. -/
  write : Bool
deriving DecidableEq, Repr

/-- The generation of a request is not its function's current one (R113 step 1). -/
def Chip.askStale (x : Chip) (r : Ask) : Bool := r.fn ≤ 64 && x.get FNf_GEN_GEN r.fn != r.gen

/-- The reason the walker refuses a request, by steps 2 to 7 of R113. -/
def Chip.askFault (x : Chip) (r : Ask) : Option Nat :=
  if bitAt r.addr 47 then some 5
  else match x.entry (hIndex r.addr) with
    | none => some 0
    | some e =>
      if !e.valid then some 0
      else if e.tag != hTag r.addr then some 1
      else if !r.world && (r.fn != 127 && e.func != r.fn) then some 2
      else if !r.world && e.world then some 3
      else if e.wdrawn then some 6
      else if e.size * 65536 < hOffset r.addr + r.len then some 4
      else none

/-- A refused request is recorded and told to F0 (R19, R113, R139). -/
def Chip.askRefuse (x : Chip) (r : Ask) (reason : Nat) : Chip :=
  let y := (((x.sat HB_FAULT_CNT_COUNT).set HB_FAULT_INFO_REQ r.req).set HB_FAULT_INFO_FUNC r.fn).flag HB_FAULT_INFO_WORLD r.world
  ((((y.set HB_FAULT_INFO_REASON reason).flag HB_FAULT_INFO_WRITE r.write).set HB_FAULT_ADDR_LO_ADDR (lo32 r.addr)).set
    HB_FAULT_ADDR_HI_ADDR (hi32 r.addr)).raise 64

/-- A request of one of the block's own engines meets the walker (R19): whether it goes through; a stale one is
counted and a refused one recorded. Assumption log, row 127. -/
def Chip.ask (x : Chip) (r : Ask) : Chip × Bool :=
  if x.askStale r then ((x.sat HB_STALE_CNT_COUNT).raise 65, false)
  else match x.askFault r with
    | some reason => (x.askRefuse r reason, false)
    | none => (x, true)

/-- The classes any function may allocate (R116). -/
def guestClasses : List Nat := [0, 1, 2, 3, 4, 5, 6, 7]

/-- A byte that reads as undefined where its allocation lost its content at a wake (R130), else zero: what a stored
byte is combined with. Assumption log, rows 2, 3, 82. -/
def Chip.pad (x : Chip) (a : Nat) : Byte :=
  match x.entry (hIndex a) with
  | some e => if e.lost = 0 then 0 else Config.freeByte e.lost a
  | none => 0

/-- The byte at a device address; a byte nothing has written reads zero (assumption log, row 3). Assumption log, rows
3, 82. -/
def readByte (mem : List Host.Cell) (x : Chip) (a : Nat) : Byte := (sparseGet mem a 0) ^^^ x.pad a

/-- `n` bytes from a device address. -/
def readBytes (mem : List Host.Cell) (x : Chip) (a n : Nat) : List Nat :=
  (List.range n).map fun i => (readByte mem x (a + i)).toNat

/-- A little-endian value of `n` bytes. -/
def readLe (mem : List Host.Cell) (x : Chip) (a n : Nat) : Nat := leNat (readBytes mem x a n)

/-- The writes that store bytes from a device address on. -/
def storeBytes (x : Chip) (a : Nat) (bs : List Nat) : List (Nat × Byte) :=
  bs.zipIdx.map fun p => (a + p.2, (BitVec.ofNat 8 p.1) ^^^ x.pad (a + p.2))

/-! ### Lifting a change of the blocks -/

/-- A command whose effect is on the blocks alone: queue and memory stay. In Park the domains of the command path and of
the blocks are off, and it has no effect (R22, R42). -/
def State.onChip (s : State) (f : Chip → Chip) : Host.Outcome State Fault Refusal :=
  if s.chip.parked then .next s else .next { s with chip := f s.chip }

/-- A command that reads memory and changes the blocks alone; none in Park (R22, R42). -/
def State.onChipM (s : State) (f : List Host.Cell → Chip → Chip) : Host.Outcome State Fault Refusal :=
  if s.chip.parked then .next s else .next { s with chip := f s.mem s.chip }

/-- A command of the domains that stay on in Park: AON and PARK (R22). -/
def State.onAon (s : State) (f : Chip → Chip) : Host.Outcome State Fault Refusal :=
  .next { s with chip := f s.chip }

/-! ### Commands that write memory -/

/-- A byte written to a mirror allocation joins the last run waiting to be sent, or starts one (R357). -/
def mirrorByte (runs : List (Nat × List Nat)) (a v : Nat) : List (Nat × List Nat) :=
  match runs.getLast? with
  | some r => if r.1 + r.2.length = a && (hIndex r.1 = hIndex a && decide (r.2.length < 4096)) then
      runs.dropLast ++ [(r.1, r.2 ++ [v])] else runs ++ [(a, [v])]
  | none => [(a, [v])]

/-- Writes to mirror allocations wait to be sent to the twin. -/
def Chip.noteMirror (x : Chip) (ws : List (Nat × Byte)) : Chip :=
  if !x.bl.mirroring then x
  else
    let own := ws.filter fun w => match x.entry (hIndex w.1) with
      | some e => e.valid && e.mirror
      | none => false
    { x with bl := { x.bl with mw := own.foldl (fun m w => mirrorByte m w.1 (w.2 ^^^ x.pad w.1).toNat) x.bl.mw } }

/-- A command that reads and writes memory, whatever the power mode. -/
def State.onAonBoth (s : State) (f : List Host.Cell → Chip → Chip × List (Nat × Byte)) :
    Host.Outcome State Fault Refusal :=
  .next { s with chip := (f s.mem s.chip).1.noteMirror (f s.mem s.chip).2, mem := writeCells s.mem (f s.mem s.chip).2 }

/-- A command that reads and writes memory; none in Park (R22, R42). -/
def State.onBoth (s : State) (f : List Host.Cell → Chip → Chip × List (Nat × Byte)) :
    Host.Outcome State Fault Refusal :=
  if s.chip.parked then .next s else s.onAonBoth f

end Sys2Proof.Machine
end

