-- ==== Sys2Proof/Machine/Rings.lean ====
section
/-!
DEFINITION. Rings, replies and notices (R52 to R68): pointers, occupancy, the writes into a reply ring.
-/
namespace Sys2Proof.Machine

/-- Ring instance number of ring `k` of function `f`. -/
def ringIx (f k : Nat) : Nat := f * 5 + k

/-- Slots of a ring (R52). -/
def Chip.ringSize (x : Chip) (f k : Nat) : Nat := 2 ^ x.get RINGk_CTL_SIZE_LOG2 (ringIx f k)

/-- Slot index of a pointer (R56). -/
def ptrIdx (p : Nat) : Nat := bits p 0 16

/-- Wrap bit of a pointer (R56). -/
def ptrWrap (p : Nat) : Nat := bits p 16 1

/-- Slots in use between a consumer pointer `head` and a producer pointer `tail` (R56). -/
def occupancy (size head tail : Nat) : Nat :=
  if ptrWrap tail = ptrWrap head then ptrIdx tail - ptrIdx head else size - ptrIdx head + ptrIdx tail

/-- pos(x) of R57. -/
def ptrPos (size p : Nat) : Nat := (ptrWrap p * size + ptrIdx p) % (2 * size)

/-- d(a, b) of R57: the distance from `b` forward to `a`. -/
def ptrDist (size a b : Nat) : Nat := (ptrPos size a + 2 * size - ptrPos size b) % (2 * size)

/-- A pointer moved on by `n` slots, the wrap bit toggling past the last slot (R56). -/
def ptrAdd (size p n : Nat) : Nat :=
  if ptrIdx p + n < size then ptrWrap p * 65536 + (ptrIdx p + n)
  else (1 - ptrWrap p) * 65536 + (ptrIdx p + n - size)

/-- Slots in use on ring `k` of function `f`. -/
def Chip.ringUsed (x : Chip) (f k : Nat) : Nat :=
  occupancy (x.ringSize f k) (x.get RINGk_HEAD_PTR (ringIx f k)) (x.get RINGk_TAIL_PTR (ringIx f k))

/-- Free slots of the reply ring. -/
def Chip.replyFree (x : Chip) (f : Nat) : Nat := x.ringSize f 4 - x.ringUsed f 4

/-- RINGk_STAT.FULL of the reply ring follows its free slots (R53). -/
def Chip.setFull (x : Chip) (f : Nat) : Chip := x.flag RINGk_STAT_FULL (x.replyFree f < 8) (ringIx f 4)

/-- Host address of a slot. -/
def Chip.slotAddr (x : Chip) (f k slot : Nat) : Nat :=
  x.get RINGk_BASE_LO_ADDR (ringIx f k) * 4096 + x.get RINGk_BASE_HI_ADDR (ringIx f k) * 2 ^ 32 + slot * 64

/-- The engine's own pointer of ring `k` is written back where WB_EN is set (R58). -/
def Chip.writeBack (x : Chip) (f k : Nat) : Chip :=
  if x.on RINGk_CTL_WB_EN (ringIx f k) then
    x.emit (.hostWrite f (x.get RINGk_WB_LO_ADDR (ringIx f k) * 8 + x.get RINGk_WB_HI_ADDR (ringIx f k) * 2 ^ 32)
      [x.get (if k = 4 then RINGk_TAIL_PTR else RINGk_HEAD_PTR) (ringIx f k), 0])
  else x

/-- Slots of a reply with `n` result words (R64). -/
def replySlots (n : Nat) : Nat := ceilDiv (16 + 4 * (n - 1)) 64

/-- The four header words of a reply or notice (R64), its phase bit the inverse of the producer's wrap bit (R65). -/
def replyHeader (opcode status gen seq tag tail : Nat) (words : List Nat) : List Nat :=
  [opcode % 65536 + (status % 128 + 128 * (1 - ptrWrap tail)) * 65536 + gen % 256 * 16777216,
   seq % 65536 + words.length * 65536, tag, words.getD 0 0]

/-- A frame goes out on the maintenance UART (R510). -/
def Chip.uartFrame (x : Chip) (type : Nat) (body : List Nat) : Chip :=
  let inner := [type, body.length % 256, body.length / 256 % 256] ++ body
  let frame := [0x55] ++ (inner ++ wordBytes (crcOf 0 inner))
  { x with ld := { x.ld with lastOut := frame } }.emit (.pin 10 frame)

/-- Replies go out on the UART, or to the reply rings. -/
def Chip.viaUart (x : Chip) (b : Bool) : Chip := { x with ld := { x.ld with via := b } }

/-- A reply or notice is written into the reply ring of `f` (R64, R65): extension slots first, then the slot of the
header; the producer pointer moves, is written back, and the reply event is raised (R58, R66). -/
def Chip.ringReply (x : Chip) (f opcode status gen seq tag : Nat) (words : List Nat) : Chip :=
  let size := x.ringSize f 4
  let tail := x.get RINGk_TAIL_PTR (ringIx f 4)
  let all := replyHeader opcode status gen seq tag tail words ++ words.drop 1
  let n := replySlots words.length
  let y := (List.range (n - 1)).foldl (fun (z : Chip) i =>
    z.emit (.hostWrite f (x.slotAddr f 4 ((ptrIdx tail + 1 + i) % size)) ((all.drop (16 * (i + 1))).take 16))) x
  let y := y.emit (.hostWrite f (x.slotAddr f 4 (ptrIdx tail)) (all.take 16))
  let y := ((y.set RINGk_TAIL_PTR (ptrAdd size tail n) (ringIx f 4)).setFull f).writeBack f 4
  { y with ev.raised := y.ev.raised ++ [.reply f] }

/-- A reply or notice goes where its command came from: the function's reply ring, or the UART (R64, R510). -/
def Chip.writeReply (x : Chip) (f opcode status gen seq tag : Nat) (words : List Nat) : Chip :=
  if x.ld.via then
    x.uartFrame 0xA2 ((replyHeader opcode status gen seq tag 0 words ++ words.drop 1).flatMap wordBytes)
  else x.ringReply f opcode status gen seq tag words

/-- The reply ring is enabled and has room for `n` slots. -/
def Chip.replyRoom (x : Chip) (f n : Nat) : Bool :=
  x.on RINGk_CTL_EN (ringIx f 4) && decide (n ≤ x.replyFree f)

/-- A reply or notice that found no room is counted (R68, R91). Assumption log, row 6. -/
def Chip.lostNotice (x : Chip) (f : Nat) : Chip :=
  (((x.flag RINGk_STAT_NOTICE_LOST true (ringIx f 4)).sat RINGk_STAT_NOTICES_LOST (ringIx f 4))).raise 37

/-- A notice to function `f` (R67, R68): it takes the function's next number whether or not it is written; it is
written whole or dropped. The first notice carries number 0 (assumption log, row 6). Assumption log, row 6. -/
def Chip.notice (x : Chip) (f opcode : Nat) (words : List Nat) : Chip :=
  let num := sparseGet x.ce.nseq f 0
  let y := { x with ce.nseq := sparseSet x.ce.nseq f ((num + 1) % 65536) 0 }
  if y.replyRoom f (replySlots words.length) then y.writeReply f opcode 0 (y.get FNf_GEN_GEN f) num 0 words
  else y.lostNotice f

end Sys2Proof.Machine
end

