-- ==== Sys2Proof/Machine/Engine.lean ====
section
/-!
DEFINITION. The command engine's checks, completion and retirement (R70 to R80): which packets it holds, when one is
dispatched, how its outcome is recorded and when its reply is written.
-/
namespace Sys2Proof.Machine

/-! ### Status codes (R79) -/

/-- OK. -/
def stOk : Nat := 0x00
/-- ACCEPTED_DEFERRED. -/
def stDeferred : Nat := 0x01
/-- PARTIAL. -/
def stPartial : Nat := 0x02
/-- BAD_OPCODE. -/
def stBadOpcode : Nat := 0x10
/-- BAD_PARAM. -/
def stBadParam : Nat := 0x11
/-- BAD_LENGTH. -/
def stBadLength : Nat := 0x12
/-- DENIED_ROLE. -/
def stDeniedRole : Nat := 0x20
/-- DENIED_SECURE_IN_USE. -/
def stSecureInUse : Nat := 0x21
/-- DENIED_MODE. -/
def stDeniedMode : Nat := 0x22
/-- NOT_STOPPED. -/
def stNotStopped : Nat := 0x23
/-- SECURE_DOWN. -/
def stSecureDown : Nat := 0x24
/-- NO_RESOURCE. -/
def stNoResource : Nat := 0x30
/-- QUOTA. -/
def stQuota : Nat := 0x31
/-- STALE_GENERATION. -/
def stStale : Nat := 0x40
/-- CANCELLED. -/
def stCancelled : Nat := 0x41
/-- TIMEOUT. -/
def stTimeout : Nat := 0x50
/-- HW_FAULT. -/
def stHwFault : Nat := 0x60
/-- INTERNAL. -/
def stInternal : Nat := 0x7F

/-! ### Packets held -/

/-- The packet is this opcode with these header fields and words. -/
def Pkt.is (p : Pkt) (o : Op) (c : Call) : Bool := p.opcode = o.code && p.call = c

/-- The packet has been dispatched and has no outcome yet. -/
def Pkt.isDispatched (p : Pkt) : Bool :=
  match p.stage with
  | .dispatched => true
  | _ => false

/-- The packet was dispatched under a generation since withdrawn. -/
def Pkt.isAbandoned (p : Pkt) : Bool :=
  match p.stage with
  | .abandoned => true
  | _ => false

/-- The packet waits for its prefix or a BARRIER. -/
def Pkt.isWaiting (p : Pkt) : Bool :=
  match p.stage with
  | .waiting => true
  | _ => false

/-- The packet has completed: its outcome is fixed. Assumption log, row 24. -/
def Pkt.isOver (p : Pkt) : Bool :=
  match p.stage with
  | .outcome _ _ => true
  | .completed _ _ => true
  | _ => false

/-- The engine has dispatched this command and waits for its outcome. -/
def Chip.dispatchedCall (x : Chip) (o : Op) (c : Call) : Bool :=
  x.ce.pkts.any fun p => p.is o c && p.isDispatched

/-- The function's packets in the engine are counted in FNf_QUSE.USE (R71). -/
def Chip.countPkts (x : Chip) (f : Nat) : Chip :=
  x.set FNf_QUSE_USE (x.ce.pkts.filter fun p => p.call.fn = f).length f

/-- The engine takes a packet up. -/
def Chip.pushPkt (x : Chip) (p : Pkt) : Chip :=
  ({ x with ce.pkts := x.ce.pkts ++ [p] }).countPkts p.call.fn

/-- A drain of function `f` counts a discarded completion. Assumption log, row 24. -/
def Chip.countDiscard (x : Chip) (f : Nat) : Chip :=
  let ds := updAll x.fn.drains (fun d => d.fn = f) fun d => { d with discarded := d.discarded + 1 }
  { x.sat FNf_DISCARD_CNT_COUNT f with fn := { x.fn with drains := ds } }

/-- The outcome of a dispatched command is recorded (R74, R75): status and result words. An Installer or Maker opcode
enters the journal (R478). An abandoned packet's completion is discarded and counted (R88); a command the engine no
longer holds has none; the secure world hears the outcome of a service it asked for. Assumption log, rows 12, 131. -/
def Chip.done (x : Chip) (o : Op) (c : Call) (status : Nat) (words : List Nat) : Chip :=
  if x.ce.pkts.any (fun p => p.is o c && p.isDispatched) then
    let ps := updFirst x.ce.pkts (fun p => p.is o c && p.isDispatched) fun p => { p with stage := .outcome status words }
    ({ x with ce := { x.ce with pkts := ps } }).journalOp o c status
  else if x.ce.pkts.any (fun p => p.is o c && p.isAbandoned) then
    (({ x with ce.pkts := dropFirst x.ce.pkts fun p => p.is o c && p.isAbandoned }).countPkts c.fn).countDiscard c.fn
  else if c.world then x.emit (.secure o.code status words)
  else x

/-- OK with result words. -/
def Chip.ok (x : Chip) (o : Op) (c : Call) (words : List Nat) : Chip := x.done o c stOk words

/-- ACCEPTED_DEFERRED with result words. -/
def Chip.deferred (x : Chip) (o : Op) (c : Call) (words : List Nat) : Chip := x.done o c stDeferred words

/-- BAD_PARAM naming a parameter word. -/
def Chip.bad (x : Chip) (o : Op) (c : Call) (i : Nat) : Chip := x.done o c stBadParam [i]

/-- BAD_PARAM with result words 0 and 1. -/
def Chip.bad2 (x : Chip) (o : Op) (c : Call) (i j : Nat) : Chip := x.done o c stBadParam [i, j]

/-- DENIED_MODE with GL_MODE at the time of refusal (R79). -/
def Chip.deniedMode (x : Chip) (o : Op) (c : Call) : Chip := x.done o c stDeniedMode [x.glMode]

/-! ### Checks 6 to 11 (R72) -/

/-- The parameter length is in the opcode's range (step 7). -/
def Op.lengthOk (o : Op) (n : Nat) : Bool := o.minW ≤ n && (n ≤ o.maxW && (n - o.minW) % o.stepW = 0)

/-- The open session gives the role: Installer needs an Installer session, Maker a Maker session (R42, R81).
Assumption log, row 116. -/
def Chip.roleGiven (x : Chip) (role : Nat) : Bool := role = 0 || x.get RJ_SESSION_ROLE = role

/-- The modes allow the opcode (R42): Hold refuses classes 0x3, 0x4, 0x5, 0x7 and 0x8 but their queries; Kennel all but
classes 0x0, 0xC queries, 0xD and 0xE, and of 0xD the four opcodes of R512; RECOVERY_LOAD runs in Kennel alone (R72). -/
def Chip.modeAllows (x : Chip) (o : Op) : Bool :=
  (!x.inHold || (!([3, 4, 5, 7, 8].contains o.cls) || o.query)) &&
  ((!x.kennel || ((([0, 13, 14].contains o.cls) || (o.cls = 12 && o.query)) &&
    !([opResetBlock.code, opResetSubsystem.code, opFwSlotWrite.code, opFwSlotCommit.code].contains o.code))) &&
  (x.kennel || o.code != opRecoveryLoad.code))

/-- The secure world is up: in Kennel the boot ROM's own secure stage is (R464). -/
def Chip.secureUp (x : Chip) : Bool := x.on GL_SEC_UP || x.on GL_SEC_ROM_STAGE

/-- The opcode needs the secure world (step 11): classes 0xE and 0xF, and CLAIM_ROLE. -/
def Op.needsSecure (o : Op) : Bool := o.cls = 14 || (o.cls = 15 || o.code = opClaimRole.code)

/-- Steps 7 to 11 of R72 on a command: the refusal they give, with its result words. Assumption log, rows 7, 18. -/
def Chip.refusal (x : Chip) (o : Op) (c : Call) (length : Nat) : Option (Nat × List Nat) :=
  if !o.lengthOk c.words.length then some (stBadLength, [length])
  else if o.f0 && c.fn != 0 then some (stDeniedRole, [3])
  else if !x.roleGiven (o.roleFor c) then some (stDeniedRole, [o.roleFor c])
  else if !x.modeAllows o then some (stDeniedMode, [x.glMode])
  else if o.needsSecure && !x.secureUp then some (stSecureDown, [0])
  else none

/-! ### Fences as the engine sees them (R62, R572) -/

/-- The record of a fence that is not free. -/
def Chip.fence (x : Chip) (i : Nat) : Option Fence := x.ce.fences.find? fun f => f.id = i

/-- The value of a fence. -/
def Chip.fenceValue (x : Chip) (i : Nat) : Nat :=
  match x.fence i with
  | some f => f.value
  | none => 0

/-- The fence is orphaned. -/
def Chip.fenceOrphan (x : Chip) (i : Nat) : Bool :=
  match x.fence i with
  | some f => f.orphan
  | none => false

/-- Function `fn` may wait on fence `i`: it owns it or holds a grant (R62). -/
def Chip.mayWait (x : Chip) (fn i : Nat) : Bool :=
  match x.fence i with
  | some f => f.owner = fn || f.grants.contains fn
  | none => false

/-- Function `fn` owns fence `i`, not orphaned. -/
def Chip.ownsFence (x : Chip) (fn i : Nat) : Bool :=
  match x.fence i with
  | some f => f.owner = fn && !f.orphan
  | none => false

/-! ### Dispatch of packets held (R62, R70, R76) -/

/-- Packets of the same ring that stand before packet `i` in the engine; those of a withdrawn generation hold nothing
back (R88). -/
def Chip.before (x : Chip) (i : Nat) (p : Pkt) : List Pkt :=
  (x.ce.pkts.take i).filter fun q => q.call.fn = p.call.fn && (q.call.ring = p.call.ring && !q.isAbandoned)

/-- A waiting packet may be dispatched: its fence is reached, every earlier packet of its ring is dispatched, no earlier
BARRIER is incomplete, and for a BARRIER every earlier packet has completed. -/
def Chip.mayDispatch (x : Chip) (i : Nat) (p : Pkt) : Bool :=
  (match p.wait with
   | some w => decide (w.2 ≤ x.fenceValue w.1)
   | none => true) &&
  (x.before i p).all fun q =>
    !q.isWaiting && ((q.isOver || (q.opcode != opBarrier.code && p.opcode != opBarrier.code)))

/-- RINGk_STAT.FENCE_WAIT reads 1 while the ring holds a packet whose fence is not reached (R62). -/
def Chip.setFenceWait (x : Chip) (f k : Nat) : Chip :=
  x.flag RINGk_STAT_FENCE_WAIT
    (x.ce.pkts.any fun p => p.call.fn = f && (p.call.ring = k && (p.isWaiting &&
      (match p.wait with
       | some w => decide (x.fenceValue w.1 < w.2)
       | none => false)))) (ringIx f k)

/-- Every waiting packet that may now be dispatched is, in order. Assumption log, rows 7, 114. -/
def Chip.release (x : Chip) : Chip :=
  (List.range x.ce.pkts.length).foldl (fun (y : Chip) i =>
    match y.ce.pkts[i]? with
    | some p =>
      if p.isWaiting && y.mayDispatch i p then
        ({ y with ce.pkts := updAt y.ce.pkts i fun q => { q with stage := .dispatched } }).setFenceWait p.call.fn p.call.ring
      else y
    | none => y) x

/-- What the secure world asks for through its own services, as opcodes give it to functions: allocations, shaders and
jobs, hit regions, effects and check-value units (R116, R143, R269, R283, R410). Assumption log, row 131. -/
def Op.serves (o : Op) : Bool :=
  [opAlloc, opFreeHandle, opShaderLoad, opPipelineCreate, opPipelineDestroy, opRenderSubmit, opComputeSubmit, opRenderBarrier,
    opBinGrow, opHitRegionWrite, opHitRegionClear, opHapticPlay, opCvBind, opCvRead, opCvWrite, opCvRelease].contains o

/-- A packet opcode reaches the block (assumption log, row 7): the state in which the block's own part runs, and
whether it runs. Where the engine has dispatched the command it runs; where its generation was withdrawn its
completion is discarded; otherwise the engine first takes it up and makes checks 7 to 11, and the block's part runs if
nothing of its ring holds it (R70, R76). What the secure world asks for through its own services comes as no packet:
the block's part runs while that world is up. Assumption log, rows 7, 131. -/
def Chip.arrive (x : Chip) (o : Op) (c : Call) : Chip × Bool :=
  if x.dispatchedCall o c then (x, true)
  else if c.world then (x, x.on GL_SEC_UP && (o.serves && o.lengthOk c.words.length))
  else if x.ce.pkts.any (fun p => p.is o c && p.isAbandoned) then (x.done o c stOk [], false)
  else
    match x.refusal o c c.words.length with
    | some r => ((x.pushPkt ⟨o.code, c, none, .dispatched⟩).done o c r.1 r.2, false)
    | none =>
      let y := (x.pushPkt ⟨o.code, c, none, .waiting⟩).release
      (y, y.dispatchedCall o c)

/-- A packet opcode as a command of the block, with the block's own part `body`. Assumption log, row 7. -/
def Chip.perform (x : Chip) (o : Op) (c : Call) (body : Chip → Chip) : Chip :=
  if (x.arrive o c).2 then body (x.arrive o c).1 else (x.arrive o c).1

/-- The same for an opcode that writes memory. Assumption log, row 7. -/
def Chip.performM (x : Chip) (o : Op) (c : Call) (body : Chip → Chip × List (Nat × Byte)) :
    Chip × List (Nat × Byte) :=
  if (x.arrive o c).2 then body (x.arrive o c).1 else ((x.arrive o c).1, [])

/-! ### Retirement (R66, R68, R76) -/

/-- Opcode class of a packet. -/
def Pkt.cls (p : Pkt) : Nat := p.opcode / 4096

/-- A reply is due: requested, or the status is 0x10 or higher (R66). -/
def replyDue (p : Pkt) (status : Nat) : Bool := p.call.reply || decide (16 ≤ status)

/-- Packet `i` may retire now: completed, no earlier packet of its ring and class left (R76), and its reply, if due,
finds the reply ring enabled with 8 free slots (R68). -/
def Chip.mayRetire (x : Chip) (i : Nat) (p : Pkt) : Bool :=
  match p.stage with
  | .completed st _ =>
    !((x.before i p).any fun q => q.cls = p.cls) && (!replyDue p st || (x.ld.uart.contains p.call || x.replyRoom p.call.fn 8))
  | _ => false

/-- TIMEOUT and INTERNAL completions are counted and raised, and an INTERNAL one is journaled with its detail code
(R78, R79, R478, R557). -/
def Chip.statusEvents (x : Chip) (st : Nat) (ws : List Nat) : Chip :=
  if st = stTimeout then (x.sat CE_TMO_CNT_COUNT).raise 34
  else if st = stInternal then (x.raise 38).journal 13 (ws.headD 0)
  else x

/-- Packet `p`, at place `i`, retires: its reply is written where one is due, and it counts no longer (R71). -/
def Chip.retireAt (x : Chip) (i : Nat) (p : Pkt) : Chip :=
  match p.stage with
  | .completed st ws =>
    let y := x.viaUart (x.ld.uart.contains p.call)
    let y := if replyDue p st then y.writeReply p.call.fn p.opcode st p.call.gen.toNat p.call.seq.toNat p.call.tag.toNat ws
      else y
    let y := { y with ld := { y.ld with via := false, uart := dropFirst y.ld.uart fun c => c = p.call } }
    ({ y with ce.pkts := y.ce.pkts.eraseIdx i }).countPkts p.call.fn
  | _ => x

/-- Every packet of function `f` that may retire does, oldest first. Assumption log, row 114. -/
def Chip.retire (x : Chip) (f fuel : Nat) : Chip :=
  match fuel with
  | 0 => x
  | k + 1 =>
    match (List.range x.ce.pkts.length).find? fun i =>
      match x.ce.pkts[i]? with
      | some p => p.call.fn = f && x.mayRetire i p
      | none => false with
    | some i =>
      match x.ce.pkts[i]? with
      | some p => Chip.retire (x.retireAt i p) f k
      | none => x
    | none => x

/-- The packet has completed. -/
def Pkt.isCompleted (p : Pkt) : Bool :=
  match p.stage with
  | .completed _ _ => true
  | _ => false

/-- The outcome of a packet that is not reported. -/
def Pkt.outcome (p : Pkt) : Option (Nat × List Nat) :=
  match p.stage with
  | .outcome st ws => some (st, ws)
  | _ => none

/-- An earlier packet of the ring and class of packet `i` has not completed: it may not complete either (R76). -/
def Chip.classHeld (x : Chip) (i : Nat) (p : Pkt) : Bool :=
  (x.before i p).any fun q => q.cls = p.cls && !q.isCompleted

/-- Packet `i` ends with a status: it completes, and what may retire does; where an earlier packet of its ring and class
has not completed, its outcome waits for its turn (R76). -/
def Chip.conclude (x : Chip) (i st : Nat) (ws : List Nat) : Chip :=
  match x.ce.pkts[i]? with
  | some p =>
    let held := x.classHeld i p
    let y := { x with ce.pkts := updAt x.ce.pkts i fun q => { q with stage := if held then .outcome st ws else .completed st ws } }
    if held then y else (y.statusEvents st ws).retire p.call.fn y.ce.pkts.length
  | none => x

/-- The place of the oldest outcome of ring `k` of `f` that may be reported: no earlier packet of its class is left to
complete (R76). -/
def Chip.reportIx (x : Chip) (f k : Nat) : Option Nat :=
  (List.range x.ce.pkts.length).find? fun i =>
    match x.ce.pkts[i]? with
    | some p => p.call.fn = f && (p.call.ring = k && (p.outcome.isSome && !x.classHeld i p))
    | none => false

/-- COMMAND_COMPLETE: the oldest outcome of ring `k` that the order of R76 lets complete is reported; the packet
completes and every packet of the function that may retire does; a BARRIER behind it may now be dispatched (R75, R76).
Assumption log, row 12. -/
def Chip.complete (x : Chip) (f k : Nat) : Chip :=
  match x.reportIx f k with
  | none => (x.retire f x.ce.pkts.length).release
  | some i =>
    match (x.ce.pkts[i]?).bind Pkt.outcome with
    | some o => (x.conclude i o.1 o.2).release
    | none => x.release

end Sys2Proof.Machine
end

