-- ==== Sys2Proof/Machine/Placement.lean ====
section
/-!
DEFINITION. Operations of the placement map (R109 to R130): entries, memory use, where an allocation goes, migration,
and the epoch boundary's part of them.
-/
namespace Sys2Proof.Machine

/-! ### Entries -/

/-- An entry takes its place in the map, in order of number. -/
def putEntry (m : List MapEntry) (e : MapEntry) : List MapEntry :=
  m.filter (fun a => a.idx < e.idx) ++ [e] ++ m.filter (fun a => e.idx < a.idx)

/-- Units of 64 KiB charged to function `f`. -/
def Chip.unitsOf (x : Chip) (f : Nat) : Nat :=
  ((x.hb.map.filter fun e => e.valid && e.charge = f).map (·.size)).sum

/-- Channels in service (R388). -/
def Chip.inService (x : Chip) (c : Nat) : Bool := x.get MCn_CHk_STAT_STATE c = 0

/-- Number of channels named by HB_RETAIN_ACT.CHAN. -/
def Chip.retainChans (x : Chip) : Nat :=
  ((List.range 16).filter fun c => bitAt (x.get HB_RETAIN_ACT_LAYOUT) c).length

/-- MiB of the retained region: the first SEG + 1 of eight segments on each channel named (R118). -/
def Chip.retainMib (x : Chip) : Nat :=
  x.retainChans * (bits (x.get HB_RETAIN_ACT_LAYOUT) 16 3 + 1) * x.get HB_MEM_CFG_MIB / 8

/-- The channel lies in the retained layout in force. -/
def Chip.retained (x : Chip) (c : Nat) : Bool := bitAt (x.get HB_RETAIN_ACT_LAYOUT) c

/-- A placement lies inside the retained region: ORDER_C on a channel of the layout in force, for PARKED allocations and
the firmware's Park state (R116, R118). -/
def Chip.regionAt (x : Chip) (cls order chanset : Nat) : Bool :=
  (cls = 7 || cls = 15) && (order = 2 && (chanset != 0 && (List.range 16).all fun c => !bitAt chanset c || x.retained c))

/-- An entry that lies inside the retained region. -/
def Chip.inRegion (x : Chip) (e : MapEntry) : Bool := x.regionAt e.cls e.order e.chanset

/-- Units of 64 KiB free for allocation outside the retained region (R138): what the channels hold but for the region, the
training areas of R380, the allocations outside it and the targets reserved there by migrations (R123). -/
def Chip.roomUnits (x : Chip) : Nat :=
  let chans := ((List.range 16).filter fun c => x.get MCn_CHk_STAT_STATE c != 3).length
  let es := x.hb.map.filter (·.valid)
  let used := ((es.filter fun e => !x.inRegion e).map (·.size)).sum
  let targets := ((es.filter fun e => e.mig != 0 && !x.regionAt e.cls e.torder e.tchanset).map (·.size)).sum
  chans * (x.get HB_MEM_CFG_MIB * 16 - 1) - x.retainMib * 16 - used - targets

/-- MiB free for allocation outside the retained region, as HB_FREE_MIB shows them. -/
def Chip.freeMib (x : Chip) : Nat := x.roomUnits / 16

/-- The registers that follow from the map (R102, R138, R372): memory use of a function, entries used, free, parked and
mirrored MiB;
source 72 where MAP_USED rises to 7,680. -/
def Chip.mapChanged (x : Chip) (f : Nat) : Chip :=
  let used := (x.hb.map.filter (·.valid)).length
  let y := x.onlyIf (used = 7680 && x.get HB_STAT_MAP_USED < 7680) (·.raise 72)
  let parked := ((x.hb.map.filter fun e => e.valid && e.cls = 7).map (·.size)).sum
  let out := ((x.hb.map.filter fun e => e.valid && e.mirror).map (·.size)).sum
  let y := y.set BL_MIRROR_OUT_MIB (ceilDiv out 16)
  (((y.onlyIf (f ≤ 64) fun z => z.set FNf_MEM_USE_MIB (ceilDiv (x.unitsOf f) 16) f).set HB_STAT_MAP_USED used).set HB_FREE_MIB_MIB x.freeMib).set
    HB_PARKED_MIB_MIB (ceilDiv parked 16)

/-- An entry is written. -/
def Chip.setEntry (x : Chip) (e : MapEntry) : Chip :=
  ({ x with hb := { x.hb with map := putEntry x.hb.map e } }).mapChanged e.charge

/-- HB_STAT's migration bits follow the map (R138). -/
def Chip.migStat (x : Chip) : Chip :=
  let m := x.hb.map.filter fun e => e.mig != 0
  (x.flag HB_STAT_MIG (m.any fun e => e.kind = 0)).flag HB_STAT_EVAC (m.any fun e => e.kind = 1)

/-! ### Messages to the twin (R349, R357) -/

/-- Change of the pair's own state. -/
def Chip.setBl (x : Chip) (f : Bl → Bl) : Chip := { x with bl := f x.bl }

/-- A message is numbered and queued. -/
def Chip.blSend (x : Chip) (cls code : Nat) (body : List Nat) : Chip :=
  let id := sparseGet x.bl.txId cls 0
  x.setBl fun b => { b with txId := sparseSet b.txId cls ((id + 1) % 2 ^ 32) 0, txq := b.txq ++ [⟨cls, code, id, body⟩] }

/-- A 16-bit little-endian field. -/
def halfBytes (v : Nat) : List Nat := [v % 256, v / 256 % 256]

/-- MIRROR_OPEN of a mirror allocation. Assumption log, row 74. -/
def Chip.mirrorTold (x : Chip) (e : MapEntry) : Chip :=
  x.blSend 1 1 (halfBytes e.idx ++ (halfBytes e.tag ++ ([e.cls, 0, 0, 0] ++ (wordBytes e.size ++ [0, 0, 0, 0]))))

/-- A mirror allocation goes: MIRROR_CLOSE, and what was still to be sent of it is not. Assumption log, row 74. -/
def Chip.mirrorGone (x : Chip) (e : MapEntry) : Chip :=
  if x.bl.mirroring && (e.mirror && e.valid) then
    (x.blSend 1 3 (halfBytes e.idx ++ halfBytes e.tag)).setBl fun b => { b with
      mw := b.mw.filter fun r => hIndex r.1 != e.idx, sync := b.sync.filter fun s => s.1 != e.idx }
  else x

/-- An entry is released: no longer valid, its tag kept (R110). -/
def Chip.freeEntry (x : Chip) (e : MapEntry) : Chip :=
  ((x.mirrorGone e).setEntry { e with valid := false, mig := 0, pin := 0, wdrawn := false, held := false, freeing := false }).migStat

/-- The lowest-numbered free entry (R115). -/
def Chip.freeIndex (x : Chip) : Option Nat :=
  firstBelow (fun i => match x.entry i with
    | some e => !e.valid
    | none => true) 0 8192

/-- The tag of the next allocation of an entry (R110). Assumption log, row 28. -/
def Chip.nextTag (x : Chip) (i : Nat) : Nat :=
  match x.entry i with
  | some e => if e.tag = 65535 then 1 else e.tag + 1
  | none => 1

/-! ### Where an allocation goes -/

/-- Address order of a class at allocation (R116): 0 ORDER_A, 1 ORDER_B, 2 ORDER_C, 3 ORDER_D. -/
def orderOf (cls : Nat) : Nat :=
  match cls with
  | 0 => 1
  | 1 => 0
  | 2 => 0
  | 3 => 0
  | 4 => 1
  | 5 => 1
  | 6 => 2
  | 7 => 1
  | 12 => 1
  | 13 => 0
  | 14 => 3
  | _ => 2

/-- The load of a channel in the running epoch: 0 all of it, 1 TC0's, 2 TC3's (R116, R119, R121). -/
def Chip.loadOf (x : Chip) (kind c : Nat) : Nat :=
  (if kind = 2 then 0 else sparseGet x.hb.load (2 * c) 0) + (if kind = 1 then 0 else sparseGet x.hb.load (2 * c + 1) 0)

/-- The load that decides where an allocation goes: AUDIO by TC0's, a LATENCY hint by TC3's for the classes that respond
to hints, any other by both (R116, R119). -/
def loadKind (cls : Nat) (latency : Bool) : Nat :=
  if cls = 6 then 1 else if latency && [0, 1, 5].contains cls then 2 else 0

/-- `n` channels with the lowest load among the in-service ones not in `avoid`, lowest number first on equal load: the
set the balancing rule favours (R117, R121). Assumption log, row 28. -/
def Chip.lightest (x : Chip) (n : Nat) (avoid : List Nat) (kind : Nat) : List Nat :=
  let cs := (List.range 16).filter fun c => x.inService c && !avoid.contains c
  let load := x.loadOf kind
  (List.range n).foldl (fun acc _ =>
    match (cs.filter fun c => !acc.contains c).foldl
      (fun best c => match best with
        | none => some c
        | some b => if load c < load b then some c else some b) none with
    | some c => acc ++ [c]
    | none => acc) []

/-- The mask of a list of channels. -/
def chanMask (cs : List Nat) : Nat := (cs.map fun c => 2 ^ c).sum

/-- The channel set of an allocation of an order, off the channels in `avoid` (R116, R117): one channel for ORDER_C
and ORDER_D's group; else all 16 while every channel is in service and none is to be left, otherwise the 8 (or 4, or
2) favoured; 0 where there is none. Assumption log, rows 28, 128. -/
def Chip.chanSet (x : Chip) (order : Nat) (avoid : List Nat) (kind : Nat) : Nat :=
  let up := ((List.range 16).filter fun c => x.inService c && !avoid.contains c).length
  if 2 ≤ order then chanMask (x.lightest 1 avoid kind)
  else if up = 16 then 65535
  else if 8 ≤ up then chanMask (x.lightest 8 avoid kind)
  else if 4 ≤ up then chanMask (x.lightest 4 avoid kind)
  else if 2 ≤ up then chanMask (x.lightest 2 avoid kind)
  else 0

/-- The channel of an allocation inside the retained region: the lowest-numbered one of the layout in service, off the
channels in `avoid` (R116, R118). -/
def Chip.retainSet (x : Chip) (avoid : List Nat) : Option Nat :=
  ((List.range 16).find? fun c => x.retained c && (x.inService c && !avoid.contains c)).map fun c => 2 ^ c

/-! ### Layers that show an allocation -/

/-- Plane 0 address of a layer (LAYER_SET words 1 and 2). -/
def Layer.addr (l : Layer) : Nat := l.words.getD 0 0 + 2 ^ 32 * l.words.getD 1 0

/-- A layer, or a queued flip, names entry `i`. -/
def Chip.layerShows (x : Chip) (i : Nat) : Bool := x.cp.layers.any fun l => hIndex l.addr = i

/-- A queued change names entry `i`. -/
def Chip.changeNames (x : Chip) (i : Nat) : Bool :=
  x.cp.changes.any fun c => match c.kind with
    | .flip a _ => hIndex a = i
    | .layerSet ws => hIndex (ws.getD 0 0 + 2 ^ 32 * ws.getD 1 0) = i
    | _ => false

/-- The lowest-numbered running head one of whose layers shows entry `i` (R125). -/
def Chip.shownOn (x : Chip) (i : Nat) : Option Nat :=
  (List.range 16).find? fun h => x.on HDn_STAT_RUN h &&
    x.cp.layers.any fun l => hIndex l.addr = i && (x.get CP_Ln_OWNER_HEAD l.unit = h && x.on CP_Ln_OWNER_BOUND l.unit)

/-! ### Migration (R121 to R126) -/

/-- Entries in Copying. -/
def Chip.copying (x : Chip) : Nat := (x.hb.map.filter fun e => e.mig = 1).length

/-- Balancing and evacuations go on: not in Hold or Park, nor while one is entered (R126). -/
def Chip.migOk (x : Chip) : Bool := decide (x.get GL_MODE_POWER < 2) && x.pw.target.all (· < 2)

/-- A migration starts: the target is reserved and MIG becomes Copying (R123 step 1). At most four copy at once
(R126); an entry that FREE waits to release starts none. The target's base is the Herder's own choice: a free value
(R115). Assumption log, row 64. -/
def Chip.startMig (x : Chip) (e : MapEntry) (kind order chans : Nat) : Chip :=
  if e.mig != 0 || (e.freeing || (4 ≤ x.copying || chans = 0)) then x
  else
    let t := { e with mig := 1, kind := kind, torder := order, tchanset := chans, tbgrp := e.bgrp, tpbase := x.free 20 }
    ((x.setEntry t).took.migStat).raiseIf (kind = 1) 68

/-- A migration off channel `c`: an allocation in the retained region goes to another channel of the region, or, where
none is in service, outside it as ORDER_B; any other keeps its order (R116 to R118). Assumption log, row 128. -/
def Chip.moveOff (x : Chip) (e : MapEntry) (kind c : Nat) : Chip :=
  let load := loadKind e.cls e.latency
  if x.inRegion e then
    match x.retainSet [c] with
    | some m => x.startMig e kind 2 m
    | none => x.startMig e kind 1 (x.chanSet 1 [c] load)
  else x.startMig e kind e.order (x.chanSet e.order [c] load)

/-- A migration is aborted: the target is released, the abort counted (R126). Draining is never aborted. -/
def Chip.abortMig (x : Chip) (e : MapEntry) : Chip :=
  if e.mig = 1 || e.mig = 2 then
    (((x.setEntry { e with mig := 0, kind := 0, tchanset := 0, torder := 0, tbgrp := 0, tpbase := 0 }).migStat).sat
      HB_MIG_ABORT_CNT_COUNT).raise 67
  else x

/-- Armed entries that remap at this boundary enter Draining (R123 step 5, R125). Assumption log, row 86. -/
def Chip.remap (x : Chip) (p : MapEntry → Bool) : Chip :=
  { x with hb := { x.hb with map := updAll x.hb.map (fun e => e.mig = 2 && p e) fun e => { e with mig := 3 } } }

/-- A hint leads GENERAL, TEXTURE and STREAM allocations to an order: sequential to ORDER_B, random to ORDER_A (R119). -/
def hintOrder (e : MapEntry) (pattern : Nat) : Nat :=
  if [0, 1, 5].contains e.cls then (if pattern = 1 then 1 else if pattern = 2 then 0 else e.order) else e.order

/-- At an epoch boundary the allocations whose hint leads elsewhere move, as balancing does (R119, R121): a hint given
at ALLOC, or one that found no migration free. Assumption log, row 86. -/
def Chip.hintMoves (x : Chip) : Chip :=
  if !x.on HB_CTL_BAL_EN || !x.migOk then x
  else (x.hb.map.filter fun e => e.valid && (e.mig = 0 && (e.pin = 0 && hintOrder e e.pattern != e.order))).foldl
    (fun (y : Chip) e => y.startMig e 0 (hintOrder e e.pattern) (y.chanSet (hintOrder e e.pattern) [] (loadKind e.cls e.latency))) x

/-- Balancing at an epoch boundary (R121): where the busiest channel's load exceeds the mean over in-service channels
by more than BAL_THR percent, the unpinned allocation with the highest access weight that uses it moves, the
lowest-numbered of equals. Assumption log, row 128. -/
def Chip.balance (x : Chip) : Chip :=
  let cs := (List.range 16).filter x.inService
  let load := x.loadOf 0
  let total := (cs.map load).sum
  let thr := clampN (x.get HB_CTL_BAL_THR) 5 100
  match cs.foldl (fun b c => match b with
    | none => some c
    | some d => if load d < load c then some c else some d) none with
  | none => x
  | some busy =>
    if !x.on HB_CTL_BAL_EN || (!x.migOk || decide (load busy * cs.length * 100 ≤ total * (100 + thr))) then x
    else
      match (x.hb.map.filter fun e => e.valid && (e.mig = 0 && (!e.freeing && (e.pin = 0 && bitAt e.chanset busy)))).foldl
        (fun b e => match b with
          | none => some e
          | some d => if d.act < e.act then some e else some d) none with
      | none => x
      | some e => x.moveOff e 0 busy

end Sys2Proof.Machine
end

