-- ==== Sys2Proof/Machine/Raster.lean ====
section
/-!
DEFINITION. What becomes of a render job's primitives (R150, R151, R160 to R164): assembly, clipping and culling, the tiles
a primitive touches, the samples it covers, depth and stencil tests, the visibility record and the shading of a tile.
What shaders answer and the arithmetic of Vulkan 1.3 are free (Config). Assumption log, rows 130, 132.
-/
namespace Sys2Proof.Machine

/-! ### Geometry in homogeneous pixels -/

/-- The point of a segment where a plane's distance, `da` and `db` at its ends, is zero. -/
def Vertex.mix (a b : Vertex) (da db : Int) : Vertex :=
  let p : Int := db.natAbs
  let q : Int := da.natAbs
  ⟨a.x * p + b.x * q, a.y * p + b.y * q, a.z * p + b.z * q, a.w * p + b.w * q, []⟩

/-- Points with their successors, around. -/
def edgesOf (p : List Vertex) : List (Vertex × Vertex) := p.zip (p.rotateLeft 1)

/-- The part of a polygon on the inner side of a plane. -/
def clipBy (d : Vertex → Int) (p : List Vertex) : List Vertex :=
  (edgesOf p).flatMap fun e =>
    (if 0 ≤ d e.1 then [e.1] else []) ++ (if decide (0 ≤ d e.1) != decide (0 ≤ d e.2) then [Vertex.mix e.1 e.2 (d e.1) (d e.2)] else [])

/-- The part of a polygon on the inner side of every plane. -/
def clipAll (ds : List (Vertex → Int)) (p : List Vertex) : List Vertex := ds.foldl (fun q d => clipBy d q) p

/-- The view volume: near and far, and the guard band of 16,384 pixels each way (R150). Assumption log, row 132. -/
def viewPlanes : List (Vertex → Int) :=
  [fun v => v.z, fun v => v.w - v.z, fun v => v.x + 16384 * v.w, fun v => 16384 * v.w - v.x, fun v => v.y + 16384 * v.w,
    fun v => 16384 * v.w - v.y]

/-- A rectangle of pixels: left, top, right and bottom, exclusive of the last two. -/
def rectPlanes (r : Int × Int × Int × Int) : List (Vertex → Int) :=
  [fun v => v.x - r.1 * v.w, fun v => v.y - r.2.1 * v.w, fun v => r.2.2.1 * v.w - v.x, fun v => r.2.2.2 * v.w - v.y]

/-- What two rectangles share. -/
def rectMeet (a b : Int × Int × Int × Int) : Int × Int × Int × Int :=
  (max a.1 b.1, max a.2.1 b.2.1, min a.2.2.1 b.2.2.1, min a.2.2.2 b.2.2.2)

/-- Twice the signed area of a triangle, in its own scale. -/
def det3 (a b c : Vertex) : Int :=
  a.x * (b.y * c.w - b.w * c.y) - a.y * (b.x * c.w - b.w * c.x) + a.w * (b.x * c.y - b.y * c.x)

/-- The sign of a convex polygon's area; zero for none. -/
def polySign (p : List Vertex) : Int :=
  match p with
  | [] => 0
  | a :: t => (((t.zip (t.drop 1)).map fun e => Int.sign (det3 a e.1 e.2)).find? fun s => s != 0).getD 0

/-- Where the samples of a pixel lie, in sixteenths: Vulkan's standard locations. Assumption log, row 132. -/
def samplePos (samples s : Nat) : Int × Int :=
  if samples = 1 then (8, 8)
  else if samples = 2 then [(12, 12), (4, 4)].getD s (8, 8)
  else [(6, 2), (14, 6), (2, 10), (10, 14)].getD s (8, 8)

/-- A primitive covers a sample of a pixel. On the very edge of a triangle Vulkan's rule decides, which is free here.
Assumption log, row 132. -/
def Prim.covers (p : Prim) (samples x y s : Nat) : Bool :=
  let inside := p.clip.1 ≤ x && (p.clip.2.1 ≤ y && (decide ((x : Int) < p.clip.2.2.1) && decide ((y : Int) < p.clip.2.2.2)))
  let at_ := samplePos samples s
  let q : Vertex := ⟨16 * x + at_.1, 16 * y + at_.2, 0, 16, []⟩
  let real := fun (e : Vertex × Vertex) =>
    e.1.y * e.2.w != e.1.w * e.2.y || (e.1.x * e.2.w != e.1.w * e.2.x || e.1.x * e.2.y != e.1.y * e.2.x)
  let side := ((edgesOf p.poly).filter real).map fun e => polySign p.poly * det3 e.1 e.2 q
  inside && (if p.topo < 3 then Config.footprint p.src p.topo x y s
    else side.all (fun d => 0 ≤ d) && (side.all (fun d => 0 < d) || Config.onEdge p.src x y s))

/-- A primitive touches a rectangle: a triangle by its true area, a line or point by its footprint (R150). -/
def Prim.touches (p : Prim) (samples : Nat) (r : Int × Int × Int × Int) : Bool :=
  if p.topo < 3 then
    (List.range (r.2.2.1 - r.1).toNat).any fun i => (List.range (r.2.2.2 - r.2.1).toNat).any fun k =>
      (List.range samples).any fun s => p.covers samples (r.1.toNat + i) (r.2.1.toNat + k) s
  else polySign (clipAll (rectPlanes (rectMeet r p.clip)) p.poly) != 0

/-! ### Tiles (R151, R160) -/

/-- Tiles across and down a render area (R151). -/
def tileGrid (w h : Nat) : Nat × Nat := (ceilDiv w 32, ceilDiv h 32)

/-- Tiles of a job's render area. -/
def Job.tiles (j : Job) : Nat := (tileGrid j.area.2.2.1 j.area.2.2.2).1 * (tileGrid j.area.2.2.1 j.area.2.2.2).2

/-- The render area as a rectangle of target pixels. -/
def Job.areaRect (j : Job) : Int × Int × Int × Int :=
  (j.area.1, j.area.2.1, j.area.1 + j.area.2.2.1, j.area.2.1 + j.area.2.2.2)

/-- Top-left pixel of tile `n`, in target pixels. -/
def Job.tileAt (j : Job) (n : Nat) : Nat × Nat :=
  let gw := (tileGrid j.area.2.2.1 j.area.2.2.2).1
  (j.area.1 + n % gw * 32, j.area.2.1 + n / gw * 32)

/-- Tile `n` as a rectangle, cut at the render area. -/
def Job.tileRect (j : Job) (n : Nat) : Int × Int × Int × Int :=
  rectMeet j.areaRect ((j.tileAt n).1, (j.tileAt n).2, (j.tileAt n).1 + 32, (j.tileAt n).2 + 32)

/-- The list of tile `n`, in draw order (R151). -/
def Job.tileList (j : Job) (n : Nat) : List Prim := j.prims.filter fun p => p.touches j.samples (j.tileRect n)

/-- The member that owns tile `n`: supertiles of 2 × 2 tiles in raster order, dealt s mod k (R160). -/
def tileMember (gw k n : Nat) : Nat := (n / gw / 2 * ceilDiv gw 2 + n % gw / 2) % k

/-- Tiles of member `m` in the phase; a spill takes those whose list is non-empty (R156). -/
def Job.memberTiles (j : Job) (m : Nat) : List Nat :=
  (List.range j.tiles).filter fun n =>
    tileMember (tileGrid j.area.2.2.1 j.area.2.2.2).1 j.members n = m && (j.st != .spill || j.tileList n != [])

/-- Tiles a member has left in the phase (R171). -/
def Job.left (j : Job) (m : Nat) : List Nat := (j.memberTiles m).filter fun n => !j.done.contains n

/-- The member that the `i`th of a job's cores runs: members that share a core run in member order (R160). -/
def Job.memberAt (j : Job) (i : Nat) : Nat :=
  ((List.range j.members).find? fun m => m % j.cores.length = i && j.left m != []).getD i

/-! ### Assembly (R142, R150) -/

/-- Which vertices of a run of `n` make up its primitives. Assumption log, row 132. -/
def primIndex (topo n : Nat) : List (List Nat) :=
  match topo with
  | 0 => (List.range n).map fun i => [i]
  | 1 => (List.range (n / 2)).map fun i => [2 * i, 2 * i + 1]
  | 2 => (List.range (n - 1)).map fun i => [i, i + 1]
  | 3 => (List.range (n / 3)).map fun i => [3 * i, 3 * i + 1, 3 * i + 2]
  | 4 => (List.range (n - 2)).map fun i => if i % 2 = 0 then [i, i + 1, i + 2] else [i, i + 2, i + 1]
  | _ => (List.range (n - 2)).map fun i => [i + 1, i + 2, 0]

/-- Runs of vertices between restarts. -/
def vertexRuns (vs : List (Option Int)) : List (List Int) :=
  vs.foldr (fun v rs => match v with
    | some i => (match rs with
      | r :: t => (i :: r) :: t
      | [] => [[i]])
    | none => [] :: rs) [[]]

/-- Bytes of an index of a draw record. -/
def indexSize (flags : Nat) : Nat := [2, 4, 1].getD (bits flags 1 2) 2

/-- A little-endian field of a record. -/
def fieldAt (d : List Nat) (o n : Nat) : Nat := leNat ((d.drop o).take n)

/-- A 32-bit field as a signed number. -/
def signed32 (v : Nat) : Int := if v < 2 ^ 31 then v else (v : Int) - 2 ^ 32

/-- The vertices of each primitive of one instance of a draw, by index: draw record, topology, primitive restart, and
how an index is read. Assumption log, row 132. -/
def drawPrims (rd : Nat → Nat → Nat) (d : List Nat) (topo : Nat) (restart : Bool) : List (List Int) :=
  let flags := fieldAt d 2 2
  let first := fieldAt d 0xC 4
  let n := indexSize flags
  let vs := (List.range (fieldAt d 4 4)).map fun i =>
    if bitAt flags 0 then
      let v := rd (fieldAt d 0x18 8 + n * (first + i)) n
      if restart && (topo != 1 && (topo != 3 && (topo != 0 && v + 1 = 256 ^ n))) then none
      else some ((v : Int) + signed32 (fieldAt d 0x10 4))
    else some ((first + i : Nat) : Int)
  (vertexRuns vs).flatMap fun r => (primIndex topo r.length).map fun is => is.map fun i => r.getD i 0

/-- A primitive after the vertex stage: clipped, culled, and discarded where it has no area or lies outside; none
where nothing is left of it (R150). `record` is the pipeline's. Assumption log, row 132. -/
def makePrim (j : Job) (draw pipe : Nat) (rcd record : List Nat) (src : List Vertex) : Option Prim :=
  let topo := record.getD 0x24 0
  let raster := record.getD 0x25 0
  let poly := clipAll viewPlanes src
  let front := topo < 3 || (if bitAt raster 3 then 0 < polySign poly else polySign poly < 0)
  let clip := rectMeet j.areaRect (fieldAt rcd 0x28 2, fieldAt rcd 0x2A 2, fieldAt rcd 0x2C 2, fieldAt rcd 0x2E 2)
  let p : Prim := ⟨draw, pipe, topo, rcd, src, poly, front, clip⟩
  let culled := 3 ≤ topo && (polySign poly = 0 || bitAt raster (if front then 1 else 2))
  if poly = [] || (culled || !p.touches j.samples clip) then none else some p

/-! ### Depth and stencil -/

/-- A VkCompareOp. -/
def compareOp (op a b : Nat) : Bool :=
  match op with
  | 0 => false
  | 1 => a < b
  | 2 => a = b
  | 3 => a ≤ b
  | 4 => b < a
  | 5 => a != b
  | 6 => b ≤ a
  | _ => true

/-- A VkStencilOp. -/
def stencilOp (op ref v : Nat) : Nat :=
  match op with
  | 0 => v
  | 1 => 0
  | 2 => ref
  | 3 => min 255 (v + 1)
  | 4 => v - 1
  | 5 => 255 - v
  | 6 => (v + 1) % 256
  | _ => (v + 255) % 256

/-- One sample of tile memory (R173): its colour by target, depth, stencil, and what the visibility record holds. -/
structure Smp where
  /-- Colours, in the order of the job's targets. -/
  colour : List Nat
  /-- Depth, as the format stores it. -/
  depth : Nat
  /-- Stencil. -/
  stencil : Nat
  /-- The primitive recorded, not yet shaded (R162). -/
  seen : Option Prim

/-- The depth and stencil tests of a sample: whether it passes, and the sample with its new depth and stencil. `f` is
the depth-stencil format. Assumption log, row 132. -/
def dsTest (record : List Nat) (f : Nat) (front : Bool) (z : Nat) (m : Smp) : Bool × Smp :=
  let b := fun o => record.getD o 0
  let o := if front then 0x28 else 0x30
  let stencil := b 0x27 = 1 && (f = 2 || f = 4)
  let depth := f != 0 && bitAt (b 0x26) 0
  let sOk := !stencil || compareOp (b (o + 3)) (b (o + 6) &&& b (o + 4)) (m.stencil &&& b (o + 4))
  let dOk := !depth || compareOp (bits (b 0x26) 2 3) z m.depth
  let op := if !sOk then b o else if dOk then b (o + 1) else b (o + 2)
  let new := stencilOp op (b (o + 6)) m.stencil
  (sOk && dOk, { m with
    stencil := if stencil then (m.stencil &&& (255 - b (o + 5))) ||| (new &&& b (o + 5)) else m.stencil
    depth := if sOk && (dOk && (depth && bitAt (b 0x26) 1)) then z else m.depth })

/-! ### Hidden surfaces (R161 to R163) -/

/-- What the shading of a tile looks up: memory, the job, and of each pipeline its record, its cache key and what its
fragment shader does. -/
structure Pass where
  /-- Memory. -/
  mem : List (Nat × Byte)
  /-- The job. -/
  job : Job
  /-- Record, key and flags of a pipeline. -/
  pipe : Nat → List Nat × Nat × Nat

/-- Depth-stencil format of the job. -/
def Pass.dsFormat (e : Pass) : Nat := if e.job.ds = 0 then 0 else e.job.desc.getD 0x58 0

/-- The part of a pipeline record for a colour target. -/
def targetPart (record : List Nat) (slot : Nat) : List Nat := (record.drop (0xC0 + 16 * slot)).take 16

/-- The fragments of a primitive are opaque (R161). -/
def Pass.isOpaque (e : Pass) (p : Prim) : Bool :=
  let r := (e.pipe p.pipe).1
  let b := fun o => r.getD o 0
  e.job.targets.all (fun t => (targetPart r t.slot).getD 3 0 = 0) &&
    ((e.pipe p.pipe).2.2 % 16 = 0 && (b 0x26 % 4 = 3 && ([1, 3, 4, 6].contains (bits (b 0x26) 2 3) &&
    (b 0x27 = 0 || [0x28, 0x29, 0x2A, 0x30, 0x31, 0x32].all fun o => b o = 0))))

/-- A fragment shader invocation for a sample. -/
def Pass.shade (e : Pass) (p : Prim) (x y s : Nat) : Shaded :=
  let q := e.pipe p.pipe
  Config.fragmentStage e.mem q.2.1 e.job.res p.rcd p.src (x, y, if bitAt q.2.2 4 then s else 0)

/-- A shaded sample takes its colours; without a fragment shader none. -/
def Pass.put (e : Pass) (p : Prim) (o : Shaded) (m : Smp) : Smp :=
  let r := (e.pipe p.pipe).1
  if fieldAt r 0xC 2 = 0xFFFF then { m with seen := none }
  else
    { m with
      seen := none
      colour := e.job.targets.zipIdx.map fun t =>
        let part := targetPart r t.1.slot
        let old := if part.getD 3 0 = 0 && part.getD 2 0 = 15 then 0 else m.colour.getD t.2 0
        Config.colourWrite t.1.format part (o.colour.getD t.1.slot 0) old }

/-- The recorded sample is shaded. Assumption log, row 132. -/
def Pass.flush (e : Pass) (q : (Nat × Nat × Nat) × Smp) : (Nat × Nat × Nat) × Smp :=
  match q.2.seen with
  | some p => (q.1, e.put p (e.shade p q.1.1 q.1.2.1 q.1.2.2) q.2)
  | none => q

/-- A sample of a non-opaque primitive: early tests unless the shader writes FragDepth, then shading; a sample that is
discarded or masked stays as it was (R162). -/
def Pass.blendOne (e : Pass) (p : Prim) (x y s : Nat) (m : Smp) : Smp :=
  let q := e.pipe p.pipe
  let o := e.shade p x y s
  let gone := (bitAt q.2.2 0 && o.gone) || (bitAt q.2.2 1 && !bitAt o.mask s)
  let t := dsTest q.1 e.dsFormat p.front (if bitAt q.2.2 2 then o.depth else Config.depthAt e.dsFormat p.src x y s) m
  if bitAt q.2.2 2 && gone then m
  else if !t.1 then t.2
  else if gone then m
  else e.put p o t.2

/-- A primitive of the tile's list is taken, its samples with their places (R162). -/
def Pass.take (e : Pass) (tile : List ((Nat × Nat × Nat) × Smp)) (p : Prim) : List ((Nat × Nat × Nat) × Smp) :=
  let hit := fun (q : (Nat × Nat × Nat) × Smp) => p.covers e.job.samples q.1.1 q.1.2.1 q.1.2.2
  if e.isOpaque p then
    tile.map fun q =>
      if hit q then
        let t := dsTest (e.pipe p.pipe).1 e.dsFormat p.front (Config.depthAt e.dsFormat p.src q.1.1 q.1.2.1 q.1.2.2) q.2
        (q.1, if t.1 then { t.2 with seen := some p } else t.2)
      else q
  else if tile.any hit then
    (tile.map e.flush).map fun q => if hit q then (q.1, e.blendOne p q.1.1 q.1.2.1 q.1.2.2 q.2) else q
  else tile

/-- A tile after its whole list: what is still recorded is shaded at the end. -/
def Pass.run (e : Pass) (tile : List ((Nat × Nat × Nat) × Smp)) (ps : List Prim) : List ((Nat × Nat × Nat) × Smp) :=
  (ps.foldl e.take tile).map e.flush

end Sys2Proof.Machine
end

