-- ==== Sys2Proof/Machine/Jobs.lean ====
section
/-!
DEFINITION. Operations on render and compute jobs and on fences (R131 to R134, R144 to R167, R191, R198, R572): dispatch,
preemption, ends, signals, orphaning.
-/
namespace Sys2Proof.Machine


/-! ### Jobs -/

/-- The job is the one named. -/
def Job.is (j : Job) (fn num : Nat) : Bool := j.fn = fn && j.num = num

/-- The live job named. -/
def Chip.job (x : Chip) (fn num : Nat) : Option Job := x.gx.jobs.find? fun j => j.is fn num

/-- A job takes a new record. -/
def Chip.setJob (x : Chip) (j : Job) : Chip :=
  let js := updFirst x.gx.jobs (fun k => k.is j.fn j.num) fun _ => j
  { x with gx := { x.gx with jobs := js } }

/-- A job changes, where it is still there. -/
def Chip.onJob (x : Chip) (j : Job) (f : Job → Job) : Chip :=
  match x.job j.fn j.num with
  | some k => x.setJob (f k)
  | none => x

/-- GX_JOBS and GX_CJOBS follow the list of jobs (R170, R202). Assumption log, row 133. -/
def Chip.countJobs (x : Chip) : Chip :=
  ((x.set GX_JOBS_ACTIVE (x.gx.jobs.filter fun j => !j.compute).length).set GX_JOBS_BINWAIT
    (x.gx.jobs.filter fun j => j.st = .binWait).length).set GX_CJOBS_ACTIVE (x.gx.jobs.filter fun j => j.compute).length

/-- Core-microseconds from core-ticks (1,228.8 ticks a microsecond). -/
def ticksToUs (t : Nat) : Nat := t * 10 / 12288

/-- Service is charged for the cores a job has held since it was last charged (R131). -/
def Chip.accrue (x : Chip) (j : Job) : Chip :=
  let t := (x.up - j.since) * j.cores.length
  let y := x.setJob { j with used := j.used + t, since := x.up }
  { y with gx := y.gx, hb := { y.hb with service := sparseSet y.hb.service j.fn (sparseGet y.hb.service j.fn 0 + t) 0 } }

/-- State code of a core for a job's phase (R171). -/
def coreState (st : JobSt) : Nat :=
  match st with
  | .binning => 1
  | .tiling => 2
  | .spill => 3
  | .running => 4
  | _ => 0

/-- A render group is gated, by GATE_BLOCK or by the 125 degree rule (R520, R524). Assumption log, row 110. -/
def Chip.groupGated (x : Chip) (g : Nat) : Bool := bitAt (x.get GL_GATE_DOM) g || bitAt (x.get GL_GATE_THERM) g

/-- A core goes idle. -/
def Chip.idleCore (x : Chip) (n : Nat) : Chip :=
  if x.get GXn_STAT_STATE n = 5 || x.get GXn_STAT_STATE n = 6 then x
  else ((((((x.set GXn_STAT_STATE (if x.groupGated (n / 4) then 5 else 0) n).set GXn_STAT_FUNC 0 n).set GXn_STAT_WORLD 0 n).set GXn_PASS_JOB 0 n).set
    GXn_PASS_MEMBER 0 n).set GXn_PASS_MEMBERS 0 n).set GXn_TILES_LEFT 0 n

/-- What a core's performance counters have counted is not stated by any rule: they hold free values (R203).
Assumption log, row 41. -/
def Chip.perfCore (x : Chip) (compute : Bool) (n : Nat) : Chip :=
  ([GXn_BUSY_CYCLES, GXn_TEXELS_COUNT, GXn_L1_HIT_COUNT, GXn_L1_MISS_COUNT] ++
    ((if x.on GX_CTL_PREFETCH_EN then [GXn_PF_ISSUED_COUNT, GXn_PF_USED_COUNT] else []) ++
    if compute || x.on GX_CTL_FILL_EN then [GXn_CWAVES_COUNT] else [])).foldl
      (fun (y : Chip) f => (y.set f (y.free 32) n).took) x

/-- The job gives up its cores. -/
def Chip.dropCores (x : Chip) (j : Job) : Chip :=
  let y := x.accrue j
  let y := j.cores.foldl (fun (y : Chip) n => (y.perfCore j.compute n).idleCore n) y
  match y.job j.fn j.num with
  | some k => y.setJob { k with cores := [] }
  | none => y

/-- The `i`th core of a job shows the member it runs and the tiles that member has left (R171). -/
def Chip.showPass (x : Chip) (j : Job) (core i : Nat) : Chip :=
  let m := if j.compute then 0 else j.memberAt i
  (x.set GXn_PASS_MEMBER m core).set GXn_TILES_LEFT (if j.compute then 0 else (j.left m).length) core

/-- A core takes up its part of a job's pass (R160, R171). -/
def Chip.bindCore (x : Chip) (j : Job) (core i : Nat) : Chip :=
  let y := ((((x.set GXn_STAT_STATE (coreState j.st) core).set GXn_STAT_FUNC j.fn core).flag GXn_STAT_WORLD j.world core).set
    GXn_PASS_JOB j.num core).set GXn_PASS_MEMBERS (j.members - 1) core
  let y := y.showPass j core i
  { y with gx := { y.gx with lastFn := sparseSet y.gx.lastFn core j.fn 128 } }

/-- A notice of a job goes to its owner, to the secure world for its own (R169); those of old-generation work are
dropped (R88). Assumption log, row 131. -/
def Chip.jobNotice (x : Chip) (j : Job) (opcode : Nat) (ws : List Nat) : Chip :=
  if j.old then x
  else if j.world then x.emit (.secure opcode 0 ws)
  else if j.fn = 127 then x
  else x.notice j.fn opcode ws

/-- The fences a packet names: in its wait prefix and in its own parameters. A submission names those of its
descriptor, which is read where the command is performed. -/
def Pkt.fences (p : Pkt) : List Nat :=
  let c := p.call
  (p.wait.map (·.1)).toList ++
  (if [opFenceFree.code, opFenceSignal.code, opFenceShare.code].contains p.opcode then [c.w 0]
   else if p.opcode = opFlip.code then (if bitAt (c.w 3) 16 then [] else [bits (c.w 3) 0 12])
   else if p.opcode = opFlipGroup.code then
     ((List.range (c.w 0)).filter fun j => !bitAt (c.w (4 + 6 * j)) 16).map fun j => bits (c.w (4 + 6 * j)) 0 12
   else if p.opcode = opSkeinStreamBind.code && bitAt (c.w 0) 20 then [bits (c.w 5) 16 12]
   else [])

/-- No job, packet or queued flip names fence `i` any longer. -/
def Chip.fenceNamed (x : Chip) (i : Nat) : Bool :=
  x.ce.pkts.any (fun p => !p.isOver && p.fences.contains i) ||
  (x.cp.changes.any (fun c => match c.kind with
    | .flip _ (some w) => w.1 = i
    | _ => false) ||
  x.gx.jobs.any fun j => (match j.wait with
    | some w => w.1 = i
    | none => false) || (match j.signal with
    | some w => w.1 = i
    | none => false))

/-- Orphaned fences that nothing names return to the pool, free; one orphaned by a withdrawal waits for the drain too
(R572). -/
def Chip.reapFences (x : Chip) : Chip :=
  { x with ce := { x.ce with fences := x.ce.fences.filter fun f => !f.orphan || (f.drain || x.fenceNamed f.id) } }

/-- A stored module or pipeline that PIPELINE_DESTROY named goes once no accepted job names it; its reply is then due
(R200). -/
def Chip.pipeUsed (x : Chip) (fn num : Nat) : Bool := x.gx.jobs.any fun j => j.fn = fn && j.pipes.contains num

/-- The job names entry `i`: in its targets, draw list, resource table or bin pool, or in what its draw records, table and
push data name. -/
def Job.names (j : Job) (i : Nat) : Bool :=
  (j.targets.any fun t => hIndex t.addr = i || (t.sigTable != 0 && hIndex t.sigTable = i)) ||
  ((j.ds != 0 && hIndex j.ds = i) || (hIndex j.draws = i || (hIndex j.res = i || (j.handles.contains i || j.pool.any fun p => hIndex p.1 = i))))

/-- Dispatched work names entry `i`: a job, or a copy put off by Hold (R137). -/
def Chip.workNames (x : Chip) (i : Nat) : Bool :=
  (x.gx.jobs.any fun j => j.names i) || x.hb.copies.any fun c => hIndex c.src = i || hIndex c.dst = i

/-- PIPELINE_DESTROY commands whose pipeline no accepted job names any longer take effect (R200). -/
def Chip.reapPipes (x : Chip) : Chip :=
  (x.gx.destroys.filter fun d => !x.pipeUsed d.1.who d.2).foldl (fun (y : Chip) d =>
    let ps := y.gx.pipes.filter fun p => !(p.fn = d.1.who && p.num = d.2)
    let ds := y.gx.destroys.filter fun e => e != d
    ({ y with gx := { y.gx with pipes := ps, destroys := ds } }.set GX_PIPES_LIVE ps.length).ok opPipelineDestroy d.1 []) x

/-- FREE of an entry waits: work names it, or its migration is Draining, which nothing aborts (R126, R137). -/
def Chip.freeWaits (x : Chip) (e : MapEntry) : Bool := x.workNames e.idx || e.mig = 3

/-- FREE commands whose entry no work names any longer take effect: the entry is freed and the reply due (R137). -/
def Chip.reapFrees (x : Chip) : Chip :=
  let due := fun (p : Nat × Call) => match x.entry p.1 with
    | some e => !x.freeWaits e
    | none => true
  (x.hb.frees.filter due).foldl (fun (y : Chip) p =>
    let y := { y with hb := { y.hb with frees := dropFirst y.hb.frees fun q => q = p } }
    match y.entry p.1 with
    | some e => (y.freeEntry e).ok opFreeHandle p.2 []
    | none => y.ok opFreeHandle p.2 []) x

/-- A queued job whose fence is reached and that waits for no earlier work is Ready (R147, R191). -/
def Chip.readyJobs (x : Chip) : Chip :=
  let ok := fun (j : Job) => j.st = .queued && (j.deps = [] && (match j.wait with
    | some w => decide (w.2 ≤ x.fenceValue w.1)
    | none => true))
  { x with gx := { x.gx with jobs := updAll x.gx.jobs ok fun j => { j with st := .ready } } }

/-- The job waits here for cores. -/
def Job.isReady (j : Job) : Bool := j.st = .ready && !j.onTwin

/-- Jobs in BinWait give up their cores when another job is ready (R148). -/
def Chip.yieldWaiting (x : Chip) : Chip :=
  if x.gx.jobs.any Job.isReady then
    (x.gx.jobs.filter fun j => j.st = .binWait && j.cores != []).foldl Chip.dropCores x
  else x

/-- Jobs that may be are Ready, and those in BinWait give way to them (R147, R148). -/
def Chip.settleJobs (x : Chip) : Chip := x.readyJobs.yieldWaiting

/-- The core time a job takes in fill cycles is not stated: a free value, charged as service (R192). Assumption log, row
41. -/
def Chip.chargeFill (x : Chip) (j : Job) : Chip :=
  if j.filled then
    let n := x.free 32
    let s := sparseSet x.hb.service j.fn (sparseGet x.hb.service j.fn 0 + n) 0
    let y := { x.took with hb := { x.hb with service := s } }
    match y.job j.fn j.num with
    | some k => y.setJob { k with used := k.used + n, filled := false }
    | none => y
  else x

/-- A job leaves the list: its cores are idle, later work no longer waits for it, and its pool returns (R158). -/
def Chip.endJob (x : Chip) (j : Job) : Chip :=
  let y := (x.chargeFill j).dropCores j
  let js := (dropFirst y.gx.jobs fun k => k.is j.fn j.num).map fun k =>
    if k.fn = j.fn then { k with deps := k.deps.filter fun d => d != j.num } else k
  let bs := (y.gx.barriers.map fun b =>
    if b.fn = j.fn then { b with before := b.before.filter fun d => d != j.num } else b).filter fun b => b.before != []
  ((((({ y with gx := { y.gx with jobs := js, barriers := bs } }).countJobs).reapFences).reapFrees).reapPipes).settleJobs

/-- A job run for the twin that does not reach its end tells the twin: OFFLOAD_DONE with status 1 (R350, R370). -/
def Chip.offInOver (x : Chip) (j : Job) : Chip :=
  match x.bl.offIn.find? fun o => j.fn = 127 && o.num = j.num with
  | some o =>
    (x.blSend 3 5 (wordBytes o.ref ++ ([1, j.spills % 256, 0, 0] ++ (wordBytes (ticksToUs j.used) ++ wordBytes 0)))).setBl
      fun b => { b with offIn := b.offIn.filter fun p => p.ref != o.ref }
  | none => x

/-- A job ends Aborted (R147, R191): counted, JOB_ABORTED or COMPUTE_ABORTED with reason and word 2, and source 99 or
118. -/
def Chip.abortJob (x : Chip) (j : Job) (reason w2 : Nat) : Chip :=
  let y := (x.endJob j).offInOver j
  let y := (y.sat GX_ABANDON_CNT_ABORTED).raise (if j.compute then 118 else 99)
  y.jobNotice j (if j.compute then 0x3811 else 0x3802) [j.num, reason, w2]

/-- A job ends Abandoned: no fence is written; at Park entry JOB_ABORTED reason 4 is sent (R149). Assumption log, row
39. -/
def Chip.abandonJob (x : Chip) (j : Job) (park : Bool) : Chip :=
  let y := x.endJob j
  let y := (y.sat GX_ABANDON_CNT_ABANDONED).raise (if j.compute then 117 else 98)
  if park then y.jobNotice j (if j.compute then 0x3811 else 0x3802) [j.num, 4, 0] else y

/-! ### Fences (R198, R572) -/

/-- A fence takes a new record. -/
def Chip.setFence (x : Chip) (f : Fence) : Chip :=
  { x with ce := { x.ce with fences := updFirst x.ce.fences (fun g => g.id = f.id) fun _ => f } }

/-- A value is signalled to a fence: the fence holds the larger; a value below the current one is counted and raises
119; a signal to an orphaned or free fence is discarded; packets that wait may go (R62, R198, R572). -/
def Chip.signalFence (x : Chip) (i v : Nat) : Chip :=
  match x.fence i with
  | some f =>
    if f.orphan then x
    else if v < f.value then (x.sat GX_FENCE_BACK_CNT_COUNT).raise 119
    else ((x.setFence { f with value := v }).release).settleJobs
  | none => x

/-- Packets whose prefix waits on fence `i` end with TIMEOUT, result word 0 = 0 (R93). -/
def Chip.failWaits (x : Chip) (i : Nat) : Chip :=
  let hit := fun (p : Pkt) => p.isWaiting && (match p.wait with
    | some w => w.1 = i
    | none => false)
  (x.ce.pkts.filter hit).foldl (fun (y : Chip) p => match y.ce.pkts.findIdx? hit with
    | some k => (y.conclude k stTimeout [0]).setFenceWait p.call.fn p.call.ring
    | none => y) x

/-- A fence becomes orphaned at once (R572): its grants end, prefix waits end with TIMEOUT, and a job still Queued on it
ends Aborted with reason 3. -/
def Chip.orphanFence (x : Chip) (f : Fence) (drain : Bool) : Chip :=
  let y := x.readyJobs.setFence { f with orphan := true, drain := drain, grants := [] }
  let y := y.failWaits f.id
  let y := ((y.gx.jobs.filter fun j => j.st = .queued && (match j.wait with
    | some w => w.1 = f.id
    | none => false))).foldl (fun (z : Chip) j => z.abortJob j 3 0xFFFFFFFF) y
  y.reapFences.release

/-! ### Dispatch (R131 to R134) -/

/-- The group that Dim allows: that of the lowest-numbered core that can run; 6 for none (R133, R520). Assumption log,
row 100. -/
def Chip.dimGroup (x : Chip) : Nat :=
  match (List.range 24).find? fun n => !x.groupGated (n / 4) && x.get GXn_STAT_STATE n != 6 with
  | some n => n / 4
  | none => 6

/-- A heel request covers the core: it accepts no new work (R503). Assumption log, row 39. -/
def Chip.coreHeel (x : Chip) (n : Nat) : Bool :=
  x.rs.heels.any fun h => if h.sub then h.kind = 0 else h.kind = 1 && h.inst = n

/-- The power mode and the core's own state let the Herder assign it (R133). -/
def Chip.coreUsable (x : Chip) (n : Nat) : Bool :=
  x.get GXn_STAT_STATE n != 5 && (x.get GXn_STAT_STATE n != 6 && (!x.coreHeel n && (!x.kennel && (!x.groupGated (n / 4) && x.pw.target.all (· < 2) &&
    ((x.get GL_MODE_POWER = 0 && x.pw.target.isNone) || (x.get GL_MODE_POWER < 2 && n / 4 = x.dimGroup))))))

/-- Cores free for assignment. -/
def Chip.freeCores (x : Chip) : List Nat :=
  (List.range 24).filter fun n => x.coreUsable n && !x.gx.jobs.any fun j => j.cores.contains n

/-- Weight of a function: firmware takes 64 (R131). -/
def Chip.weightOf (x : Chip) (f : Nat) : Nat := if f = 127 then 64 else x.get FNf_WEIGHT_WEIGHT f

/-- Job `a` is chosen before job `b` (R131): secure world first, then the lower ratio of service to weight, then the
lower function number. Assumption log, row 29. -/
def Chip.jobBefore (x : Chip) (a b : Job) : Bool :=
  let sa := sparseGet x.hb.service a.fn 0 * x.weightOf b.fn
  let sb := sparseGet x.hb.service b.fn 0 * x.weightOf a.fn
  if a.world && !b.world then true
  else if b.world && !a.world then false
  else if sa < sb then true
  else if sb < sa then false
  else decide (a.fn < b.fn)

/-- The ready job chosen among those that meet `p`, the oldest of its function. -/
def Chip.pickJob (x : Chip) (p : Job → Bool) : Option Job :=
  (x.gx.jobs.filter fun j => j.isReady && p j).foldl (fun b j => match b with
    | none => some j
    | some k => if x.jobBefore j k then some j else some k) none

/-- Cores a job asks for (R132): one for every 64 tiles of a render area; a compute job takes what is idle, one for
each workgroup left at most (R134). Assumption log, row 31. -/
def coresWanted (j : Job) : Nat :=
  if j.compute then max 1 (j.groups - j.finished)
  else
    let g := tileGrid j.area.2.2.1 j.area.2.2.2
    max 1 (ceilDiv (g.1 * g.2) 64)

/-- Free cores in the order the Herder prefers them for a function: first those that ran its pipeline last (R132).
Assumption log, row 31. -/
def Chip.corePref (x : Chip) (fn : Nat) (cs : List Nat) : List Nat :=
  cs.filter (fun n => sparseGet x.gx.lastFn n 128 = fn) ++ cs.filter (fun n => sparseGet x.gx.lastFn n 128 != fn)

/-- A spill render begins (R156): counted, and source 97. -/
def Chip.spillBegins (x : Chip) : Chip := (x.sat GX_SPILL_CNT_COUNT).raise 97

/-- The texture L1 of some cores is emptied (R188). -/
def Chip.emptyL1 (x : Chip) (cs : List Nat) : Chip :=
  { x with gx := { x.gx with l1 := x.gx.l1.filter fun l => !cs.contains l.core } }

/-- A ready job gets its cores and goes on in the phase it left (R132, R147, R160): at the first dispatch the member
count k is fixed, and later dispatches take k cores at most. Assumption log, row 31. -/
def Chip.startJob (x : Chip) (j : Job) : Chip :=
  let want := if j.compute || j.members = 0 then coresWanted j else j.members
  let cs := ((x.corePref j.fn x.freeCores).take want)
  let due := j.spillDue
  let j := { j with
    st := j.phase, members := if j.members = 0 then cs.length else j.members, cores := cs, since := x.up, preempt := false
    spillDue := false, spills := if due then j.spills + 1 else j.spills, done := if due then [] else j.done }
  cs.zipIdx.foldl (fun (y : Chip) p => y.bindCore j p.1 p.2) (((x.setJob j).emptyL1 cs).onlyIf due Chip.spillBegins)

/-- A job that holds cores enters a phase: each core starts on its first member again. -/
def Chip.enterPhase (x : Chip) (j : Job) (st : JobSt) : Chip :=
  let j := { j with st := st, done := [] }
  j.cores.zipIdx.foldl (fun (y : Chip) p => y.bindCore j p.1 p.2) (x.setJob j)

/-- A heel request covers a core the job holds: it keeps its cores for the reset (R504). Assumption log, row 39. -/
def Chip.jobHeel (x : Chip) (j : Job) : Bool := j.cores.any x.coreHeel

/-- The Herder requests preemption of every job that meets `p` and holds cores (R167). BinWait is a preemption point
as a whole (R166): such a job leaves its cores at once, and is Abandoned where its owner was withdrawn (R159).
Assumption log, rows 29, 39. -/
def Chip.requestPreempt (x : Chip) (p : Job → Bool) : Chip :=
  let waits := fun (j : Job) => j.st = .binWait && !x.jobHeel j
  let js := updAll x.gx.jobs (fun j => j.cores != [] && (p j && !waits j)) fun j => { j with preempt := true }
  (x.gx.jobs.filter fun j => j.cores != [] && (p j && waits j)).foldl (fun (y : Chip) i => match y.job i.fn i.num with
    | some j => if j.old then y.abandonJob j false else (y.dropCores j).sat GX_PREEMPT_CNT_COUNT
    | none => y) { x with gx := { x.gx with jobs := js } }

/-- A job yields at a preemption point: back to Ready in the phase it left, or Abandoned where its owner was withdrawn
(R92, R147, R166). -/
def Chip.yieldJob (x : Chip) (j : Job) : Chip :=
  if j.old then x.abandonJob j false
  else
    let y := x.dropCores j
    match y.job j.fn j.num with
    | some k =>
      ((y.setJob { k with st := .ready, phase := (if j.st = .ready then j.phase else j.st), preempt := false }).sat
        GX_PREEMPT_CNT_COUNT).countJobs.settleJobs
    | none => y

end Sys2Proof.Machine
end

