-- ==== Sys2Proof/Machine/CheckValue.lean ====
section
/-!
DEFINITION. The check-value units (15_check_values.md): binding, running and final values, results.
-/
namespace Sys2Proof.Machine

/-- A unit's own state. -/
def Chip.cvUnit (x : Chip) (u : Nat) : CvUnit := x.cv.getD u {}

/-- A unit's own state changes. -/
def Chip.setCv (x : Chip) (u : Nat) (f : CvUnit → CvUnit) : Chip := { x with cv := updAt x.cv u f }

/-- The polynomial of a unit. -/
def Chip.cvPoly (x : Chip) (u : Nat) : Poly := polyOf (x.get CVn_CFG_POLY u)

/-- A unit takes bytes of its tap (R400): at the start of a data unit the running value is Init unless CHAIN is set. -/
def Chip.cvFeed (x : Chip) (u : Nat) (bs : List Nat) : Chip :=
  let p := x.cvPoly u
  let start := if (x.cvUnit u).running || x.on CVn_CFG_CHAIN u then x.get CVn_RUN_VALUE u else p.init
  (x.set CVn_RUN_VALUE (crcRun p start bs) u).setCv u fun s => { s with running := true }

/-- Allocations a result ring may lie in are the binding function's own (R408, R411). -/
def Chip.cvHandle (x : Chip) (u : Nat) : Nat := x.get CVn_RES_LO_HANDLE u + 2 ^ 32 * x.get CVn_RES_HI_HANDLE u

/-- The function whose attributes the unit's writes carry: its owner's, or for a unit of the firmware's the stream's.
Assumption log, row 115. -/
def Chip.cvFn (x : Chip) (u : Nat) : Nat :=
  if x.on CVn_CFG_WORLD u then 127
  else if x.get CVn_CFG_FUNC u = 127 then x.get SKn_STs_BIND_FUNC ((if x.get CVn_CFG_TAP u < 32 then 0 else 64) + x.get CVn_SEL_STREAM u)
  else x.get CVn_CFG_FUNC u

/-- The end of a data unit (R400, R408): the final value is formed and stored with the time, the count advances, the
16-byte record goes to the result ring, and CV_RESULT to the owner. Assumption log, rows 115, 127. -/
def Chip.cvFinal (x : Chip) (u : Nat) : Chip × List (Nat × Byte) :=
  let v := crcFinal (x.cvPoly u) (x.get CVn_RUN_VALUE u)
  let y := (x.set CVn_FINAL_VALUE v u).inc CVn_COUNT_COUNT u
  let y := y.setCv u fun s => { s with sec := x.get TB_SEC_SEC, tick := x.get TB_TICK_TICK, running := false, spoiled := false }
  let n := y.get CVn_COUNT_COUNT u
  let k := x.get CVn_SEL_K u
  let owner := x.get CVn_CFG_FUNC u
  let rec16 := [v, n, x.get TB_SEC_SEC, x.get TB_TICK_TICK]
  let a := x.cvHandle u + 16 * (n % 2 ^ k)
  let r := if k = 0 then (y, false) else
    y.ask ⟨0x34 + u, x.cvFn u, if x.cvFn u ≤ 64 then x.get FNf_GEN_GEN (x.cvFn u) else 0, x.on CVn_CFG_WORLD u, a, 16, true⟩
  let y := r.1
  let ws := if r.2 then storeBytes x a (rec16.flatMap wordBytes) else []
  let y := if x.on CVn_CFG_NOTICE u then
      (if x.on CVn_CFG_WORLD u then y.emit (.secure 0xA800 0 ([u] ++ [v, n, x.get TB_SEC_SEC, x.get TB_TICK_TICK]))
        else if owner = 127 then y else y.notice owner 0xA800 ([u] ++ [v, n, x.get TB_SEC_SEC, x.get TB_TICK_TICK])).raise 465
    else y
  (y, ws)

/-- The last bytes pass the tap and the data unit ends; one spoiled by a reset gives no final value (R409). Assumption
log, row 115. -/
def cvUnitEnd (u : Nat) (bs : List Nat) (x : Chip) : Chip × List (Nat × Byte) :=
  if !x.on CVn_CFG_BOUND u || (x.cvUnit u).inReset then (x, [])
  else if (x.cvUnit u).spoiled then
    ((x.set CVn_RUN_VALUE (x.cvPoly u).init u).setCv u fun s => { s with running := false, spoiled := false }, [])
  else (x.cvFeed u bs).cvFinal u

/-- The fields CV_BIND sets and CV_RELEASE clears (R410). -/
def cvCfgFields : List Fld :=
  [CVn_CFG_TAP, CVn_CFG_POLY, CVn_CFG_MODE, CVn_CFG_CHAIN, CVn_CFG_NOTICE, CVn_CFG_BOUND, CVn_CFG_FUNC, CVn_CFG_WORLD] ++
  [CVn_SEL_STREAM, CVn_SEL_COPYFN, CVn_SEL_K, CVn_WIN0_XY, CVn_WIN1_XY, CVn_RES_LO_HANDLE, CVn_RES_HI_HANDLE]

/-- A unit is released: its binding fields clear; the counters and values stay (R410). Assumption log, row 115. -/
def Chip.cvReleaseUnit (x : Chip) (u : Nat) : Chip :=
  (x.resetFields cvCfgFields u).setCv u fun s => { s with binder := 0, running := false, spoiled := false }

/-- A unit loses its running and final values (R92, R409). Assumption log, row 115. -/
def Chip.cvLose (x : Chip) (u : Nat) : Chip :=
  let w := (x.cvPoly u).width
  let a := (x.set CVn_FINAL_VALUE (x.free w) u).took
  let b := (a.set CVn_RUN_VALUE (a.free w) u).took
  ((b.took).took).setCv u fun s => { s with running := false, sec := b.free 32, tick := (b.took).free 31 }

/-- A unit is released by a withdrawal, with source 466 (R409, R412). Assumption log, row 115. -/
def Chip.cvWithdraw (x : Chip) (u : Nat) : Chip := ((x.cvLose u).cvReleaseUnit u).raise 466

/-- The Skein port of a stream tap. -/
def tapPort (tap : Nat) : Nat := if tap < 32 then 0 else 1

/-- The tap is a Skein stream tap. -/
def tapIsStream (tap : Nat) : Bool := 16 ≤ tap && tap < 48

/-- A data unit is in progress at a unit's tap. Assumption log, row 115. -/
def Chip.cvOpen (x : Chip) (u : Nat) : Bool :=
  let tap := x.get CVn_CFG_TAP u
  if tapIsStream tap then
    match (x.sk.port.getD (tapPort tap) {}).streams.find? fun t => t.st = x.get CVn_SEL_STREAM u with
    | some t => t.frame.isSome || (match t.eg with
        | some o => o.begun.isSome
        | none => false)
    | none => false
  else if tap < 16 then [1, 2, 3].contains (x.get HDn_STAT_STATE tap)
  else if 52 ≤ tap && tap < 60 then ((x.au.dom.getD (x.get AU_TDMn_CFG_DOM (tap - 52)) {}).tick != 0)
  else false

/-- SKn_STAT as the register reads. -/
def Chip.skStat (x : Chip) (p : Nat) : Nat :=
  x.word [SKn_STAT_RUN, SKn_STAT_PEND_RESTART, SKn_STAT_LINK, SKn_STAT_LANES_ACT, SKn_STAT_MISMATCH] p

/-- DXn_STAT as it reads. -/
def Chip.dxStat (x : Chip) (p : Nat) : Nat :=
  x.word [DXn_STAT_RUN, DXn_STAT_PEND_RESTART, DXn_STAT_LINK_UP, DXn_STAT_HPD, DXn_STAT_TRAIN_FAIL, DXn_STAT_LANES_ACT,
    DXn_STAT_RATE_ACT] p

/-- Units bound to a tap, of a stream or function where the tap serves one. -/
def Chip.tapUnits (x : Chip) (tap : Nat) : List Nat :=
  (List.range 24).filter fun u => x.on CVn_CFG_BOUND u && x.get CVn_CFG_TAP u = tap

/-- The mode is one the tap has (R401): APPEND on egress stream taps, CHECK on ingress stream taps. -/
def tapMode (tap mode : Nat) : Bool := mode = 0 || (tapIsStream tap && mode < 3)

/-- The issuer may bind the tap in the mode (R401): a VF only READ on its own streams, or its own copies. -/
def tapAllowed (fn tap mode : Nat) : Bool :=
  fn = 0 || fn = 127 || ((tapIsStream tap && mode = 0) || 60 ≤ tap)

/-- CV_BIND (R403, R406, R411). Assumption log, rows 115, 131. -/
def cvBind (c : Call) (x : Chip) : Chip :=
  x.perform opCvBind c fun x =>
    let tap := bits (c.w 0) 0 6
    let mode := bits (c.w 0) 8 2
    let f := c.w 1
    let st := tapPort tap * 64 + c.w 2 % 64
    let kind := x.get SKn_STs_CFG_KIND st
    let x0 := bits (c.w 3) 0 16
    let y0 := bits (c.w 3) 16 16
    let x1 := bits (c.w 4) 0 16
    let y1 := bits (c.w 4) 16 16
    let h := c.q 5
    let k := c.w 7
    if 4096 ≤ c.w 0 || (!tapMode tap mode || !tapAllowed c.who tap mode) then x.bad opCvBind c 0
    else if 64 < f || (c.who != 127 && (c.fn != 0 && f != c.fn) || x.get FNf_STAT_STATE f = 0) then x.bad opCvBind c 1
    else if (if tapIsStream tap then
        decide (64 ≤ c.w 2) || (x.get SKn_STs_BIND_FUNC st != f || (!([1, 3].contains kind) ||
          ((mode = 1 && kind != 3) || (mode = 2 && kind != 1))))
      else c.w 2 != 0) then x.bad opCvBind c 2
    else if (if tap < 16 then
        decide (x1 ≤ x0) || (decide (y1 ≤ y0) || (decide (x.get HDn_HTIME0_HACTIVE tap < x1) ||
          decide (x.get HDn_VTIME0_VACTIVE tap < y1)))
      else c.q 3 != 0) then x.bad opCvBind c 3
    else if h != 0 && (x.ownRange (if c.world then 127 else f) h (16 * 2 ^ k) guestClasses).isNone then x.bad opCvBind c 5
    else if (h = 0 && k != 0) || (h != 0 && (k < 4 || 12 < k)) then x.bad opCvBind c 7
    else if mode != 0 && x.on SKn_STAT_RUN (tapPort tap) then
      x.done opCvBind c stNotStopped [x.skStat (tapPort tap)]
    else match (List.range 24).find? fun u => !x.on CVn_CFG_BOUND u with
      | none => x.done opCvBind c stNoResource [1]
      | some u =>
        if 2 ≤ (x.tapUnits tap).length || (mode != 0 && (x.tapUnits tap).any fun v => x.get CVn_CFG_MODE v != 0) then
          x.done opCvBind c stNoResource [0]
        else
          let y := ((((x.set CVn_CFG_TAP tap u).set CVn_CFG_POLY (bits (c.w 0) 6 2) u).set CVn_CFG_MODE mode u).flag
            CVn_CFG_CHAIN (bitAt (c.w 0) 10) u).flag CVn_CFG_NOTICE (bitAt (c.w 0) 11) u
          let y := ((y.flag CVn_CFG_BOUND true u).set CVn_CFG_FUNC (if mode = 0 && !c.world then f else 127) u).set CVn_SEL_STREAM
            (if tapIsStream tap then c.w 2 else 0) u
          let y := ((y.set CVn_SEL_COPYFN (if 60 ≤ tap then f else 0) u).set CVn_SEL_K (if h = 0 then 0 else k) u).set
            CVn_WIN0_XY (c.w 3) u
          let y := ((y.set CVn_WIN1_XY (c.w 4) u).set CVn_RES_LO_HANDLE (c.w 5) u).set CVn_RES_HI_HANDLE (c.w 6) u
          let y := (y.flag CVn_CFG_WORLD c.world u).set CVn_RUN_VALUE (polyOf (bits (c.w 0) 6 2)).init u
          (y.setCv u fun s => { s with binder := c.who, running := false, spoiled := false }).ok opCvBind c [u]

/-- Word 0 names a unit bound by the issuer, the secure world's own for the secure world; F0 may also name one owned by
firmware (R411). -/
def Chip.cvNamed (x : Chip) (fn u : Nat) : Bool :=
  u < 24 && (x.on CVn_CFG_BOUND u && (x.on CVn_CFG_WORLD u = decide (fn = 127) &&
    ((x.cvUnit u).binder = fn || (fn = 0 && x.get CVn_CFG_FUNC u = 127))))

/-- CV_READ (R407, R411). -/
def cvRead (c : Call) (x : Chip) : Chip :=
  x.perform opCvRead c fun x =>
    let u := bits (c.w 0) 0 5
    if (c.w 0 != u && c.w 0 != u + 256) || !x.cvNamed c.who u then x.bad opCvRead c 0
    else x.ok opCvRead c [if bitAt (c.w 0) 8 then x.get CVn_RUN_VALUE u else x.get CVn_FINAL_VALUE u,
      x.get CVn_COUNT_COUNT u, (x.cvUnit u).sec, (x.cvUnit u).tick]

/-- CV_WRITE (R407, R411). Assumption log, row 115. -/
def cvWrite (c : Call) (x : Chip) : Chip :=
  x.perform opCvWrite c fun x =>
    let u := c.w 0
    if !x.cvNamed c.who u || x.get CVn_CFG_MODE u != 0 then x.bad opCvWrite c 0
    else if 2 ^ (x.cvPoly u).width ≤ c.w 1 then x.bad opCvWrite c 1
    else ((x.set CVn_RUN_VALUE (c.w 1) u).setCv u fun s => { s with running := s.running || x.cvOpen u }).ok opCvWrite c []

/-- CV_RELEASE (R406, R411). -/
def cvRelease (c : Call) (x : Chip) : Chip :=
  x.perform opCvRelease c fun x =>
    let u := c.w 0
    let p := tapPort (x.get CVn_CFG_TAP u)
    if !x.cvNamed c.who u then x.bad opCvRelease c 0
    else if x.get CVn_CFG_MODE u != 0 && x.on SKn_STAT_RUN p then x.done opCvRelease c stNotStopped [x.skStat p]
    else (x.cvReleaseUnit u).ok opCvRelease c []

/-- CV_BIND. -/
def execCvBind (c : Call) (s : State) : Host.Outcome State Fault Refusal := s.onChip (cvBind c)
/-- CV_READ. -/
def execCvRead (c : Call) (s : State) : Host.Outcome State Fault Refusal := s.onChip (cvRead c)
/-- CV_WRITE. -/
def execCvWrite (c : Call) (s : State) : Host.Outcome State Fault Refusal := s.onChip (cvWrite c)
/-- CV_RELEASE. -/
def execCvRelease (c : Call) (s : State) : Host.Outcome State Fault Refusal := s.onChip (cvRelease c)

end Sys2Proof.Machine
end

