-- ==== Sys2Proof/Machine/Blocks.lean ====
section
/-!
DEFINITION. What the stop units, the secure world and the reset controller share: safe lookups of a unit's own state,
whether a block takes new work, START_x refusals common to every unit (R47, R503 to R505).
-/
namespace Sys2Proof.Machine

/-- Subsystem that covers a kind of block (R487, R512). -/
def subOf (kind : Nat) : Option Nat :=
  match kind with
  | 1 => some 0
  | 2 => some 1
  | 3 => some 1
  | 5 => some 3
  | 6 => some 3
  | _ => none

/-- A block lies in a region held in reset by a HOLD (R505). -/
def Chip.heldBlock (x : Chip) (kind inst : Nat) : Bool :=
  x.rs.holds.contains (false, kind, inst) || (match subOf kind with
    | some s => x.rs.holds.contains (true, s, 0)
    | none => false)

/-- A subsystem is held in reset by a HOLD. -/
def Chip.heldSub (x : Chip) (s : Nat) : Bool := x.rs.holds.contains (true, s, 0)

/-- A reset command covers a block. -/
def Heel.covers (h : Heel) (kind inst : Nat) : Bool :=
  if h.sub then subOf kind = some h.kind else h.kind = kind && h.inst = inst

/-- A block has a heel request or is in reset, so that it takes no new work (R503). -/
def Chip.noWork (x : Chip) (kind inst : Nat) : Bool :=
  x.heldBlock kind inst || x.rs.heels.any fun h => h.covers kind inst

/-- The chip enters Park, or is in it. -/
def Chip.parking (x : Chip) : Bool := x.get GL_MODE_POWER = 3 || x.pw.target = some 3

/-- BAD_LENGTH with the parameter length received, the wait prefix counted. -/
def Chip.badLength (x : Chip) (o : Op) (c : Call) : Chip :=
  let pre := x.ce.pkts.any fun p => p.is o c && p.wait.isSome
  x.done o c stBadLength [c.words.length + (if pre then 3 else 0)]

/-- NO_RESOURCE for a unit held in reset by a HOLD (R47). -/
def Chip.heldRefusal (x : Chip) (o : Op) (c : Call) : Chip := x.done o c stNoResource [0, 5]

/-- The secure world is up, as a block sees it. -/
def Chip.secUp (x : Chip) : Bool := x.on GL_SEC_UP

/-- A function's current generation; the secure world, 128, has none. -/
def Chip.genOf (x : Chip) (who : Nat) : Nat := if who ≤ 64 then x.get FNf_GEN_GEN who else 0

/-- GL_SAFE and SAFE_FAULT_N follow their causes (R461). -/
def Chip.updSafe (x : Chip) : Chip :=
  let check := (List.range 16).any fun n => x.on HDn_CHKSTAT_FAULT n
  let stale := x.on GL_SEC_STALE
  let pin := check || (stale || (x.on GL_SAFE_START || x.on GL_SAFE_FORCED))
  let y := ((x.flag GL_SAFE_CHECK check).flag GL_SAFE_STALE stale).flag GL_SAFE_PIN pin
  if x.on GL_SAFE_PIN = pin then y else y.emit (.pin 2 [b2n (!pin)])

/-- A head's protected layer becomes stale, or stops being stale (R459, R460). -/
def Chip.setStale (x : Chip) (h : Nat) (b : Bool) : Chip :=
  if x.bit GL_SEC_STALE h = b then x
  else
    let old := x.cp.changes.filter fun (c : Change) => c.head = h && (match c.kind with
      | .prot _ => true
      | _ => false)
    (({ x.setBit GL_SEC_STALE h b with hd := updAt x.hd h fun s => { s with
        requeued := 0, before := if b then old.map Change.num else [] } }).raise 506).updSafe

/-- `n / d` rounded, half away from zero, for a positive `d`. -/
def roundDiv (n d : Int) : Int :=
  if n < 0 then -((2 * -n + d) / (2 * d)) else (2 * n + d) / (2 * d)

end Sys2Proof.Machine
end

