-- ==== Sys2Proof/Machine/Sound.lean ====
section
/-!
DEFINITION. The samples of the audio engine (R290, R294, R299, R301, R303, R305, R307 to R311): what each node of a graph
gives at a tick, and what the tick leaves in filters, bridges and generators. Samples are exact fractions of full scale;
the rounding, the order of a sum and the shapes that the spec does not state are free (Config). Assumption log, row 65.
-/
namespace Sys2Proof.Machine

/-- A domain's own state. -/
def Chip.adom (x : Chip) (d : Nat) : ADom := x.au.dom.getD d {}

/-- A domain's own state changes. -/
def Chip.setAdom (x : Chip) (d : Nat) (f : ADom → ADom) : Chip := { x with au := { x.au with dom := updAt x.au.dom d f } }

/-- Ticks of a ramp that begins now (R299). -/
def Chip.rampTicks (x : Chip) (d : Nat) : Nat := clampN (x.get AU_DOMx_CTL_RAMP_MS d) 5 100 * x.get AU_DOMx_RATE_HZ d / 1000

/-- The stream open on an endpoint. -/
def Chip.stream (x : Chip) (e : Nat) : Option AStream := x.au.streams.find? fun s => s.ep = e

/-! ### Gains (R293, R299) -/

/-- Amplitude of a gain in 0.01 dB. -/
def amplitude (db : Int) : Rat := if db = 0 then 1 else Config.decibel db

/-- Amplitude of a gain code: 0x8000 is mute. -/
def gainAmp (g : Nat) : Rat := if g = 0x8000 then 0 else amplitude (toS 16 g)

/-- The value in force: linear in amplitude, the target once no tick is left. -/
def Ramp.value (r : Ramp) : Rat := r.goal + (r.start - r.goal) * r.left / (max r.total 1 : Nat)

/-- A ramp that stands at its target. -/
def Ramp.at (goal : Rat) : Ramp := { start := goal, goal := goal }

/-- A fresh ramp from the value in force, of `n` ticks (R299). -/
def Ramp.to (r : Ramp) (goal : Rat) (n : Nat) : Ramp := { start := r.value, goal := goal, left := n, total := n }

/-- A fresh ramp from mute. -/
def Ramp.up (goal : Rat) (n : Nat) : Ramp := (Ramp.at 0).to goal n

/-- One tick on. -/
def Ramp.tick (r : Ramp) : Ramp := { r with left := r.left - 1 }

/-- The ramp is over. -/
def Ramp.finish (r : Ramp) : Ramp := { r with left := 0 }

/-! ### Samples as words (R303, R305) -/

/-- The value of an integer sample of a width: full scale is 1. Assumption log, row 65. -/
def sampleValue (w v : Nat) : Rat := (toS w v : Rat) / (2 ^ (w - 1) : Nat)

/-- A sample as an integer of a width, saturated (R290). Assumption log, row 65. -/
def sampleBits (w : Nat) (v : Rat) : Nat :=
  ofS w (clampI (Config.sampleCode w v) (-((2 ^ (w - 1) : Nat) : Int)) (((2 ^ (w - 1) : Nat) : Int) - 1))

/-- The value of an FP32 word. -/
def singleValue (w : Nat) : Rat :=
  let e := bits w 23 8
  let m : Rat := bits w 0 23
  let v := if e = 0 then m / (2 ^ 149 : Nat) else if e = 255 then Config.notFinite w
    else (8388608 + m) * (2 ^ e : Nat) / (2 ^ 150 : Nat)
  if bitAt w 31 && e != 255 then -v else v

/-- The value of a stream's sample: S16, S32 with its data in bits 31:8, FP32. -/
def streamValue (fmt v : Nat) : Rat :=
  match fmt with
  | 0 => sampleValue 16 v
  | 1 => sampleValue 24 (v / 256)
  | _ => singleValue v

/-- A sample as a stream's bytes. -/
def streamBits (fmt : Nat) (v : Rat) : List Nat :=
  match fmt with
  | 0 => leBytes 2 (sampleBits 16 v)
  | 1 => leBytes 4 (256 * sampleBits 24 v)
  | _ => leBytes 4 (Config.sampleWord v)

/-! ### Sources (R294, R304, R307, R308, R310) -/

/-- A slot of what a port received three frames ago (R305), 0 where nothing came. Assumption log, row 65. -/
def Chip.tdmValue (x : Chip) (d p slot : Nat) : Rat :=
  match ((x.adom d).tdm.getD 3 []).find? fun t => t.port.val = p with
  | some t => sampleValue (16 + 8 * x.get AU_TDMn_CFG_WIDTH p) (t.slots.getD slot 0).toNat
  | none => 0

/-- A channel of the block that an endpoint plays, under its gain; a soft block ramps in over its 16 ticks. -/
def Chip.playValue (x : Chip) (d e ch : Nat) : Rat :=
  match x.stream e with
  | none => 0
  | some s =>
    let k := (x.adom d).tick
    let v := ((s.block.getD k []).getD ch 0) * s.ramp.value
    if s.soft then v * (k + 1 : Nat) / 16 else v

/-- Envelope of a tone, 0 to 1: linear attack, hold, linear release from where it stood. -/
def Chip.toneEnvelope (x : Chip) (d g : Nat) : Rat :=
  let s := x.au.tones.getD g {}
  let w3 := match s.cur with
    | some p => p.words.getD 3 0
    | none => 0
  let part := fun (ms : Nat) => min 1 ((s.pos : Rat) / (max 1 (ms * x.get AU_DOMx_RATE_HZ d / 1000) : Nat))
  match x.get AU_TONEg_STAT_PHASE g with
  | 1 => part (bits w3 16 8)
  | 2 => 1
  | 3 => s.level * (1 - part (bits w3 24 8))
  | _ => 0

/-- A tone generator's sample: one or two partials with LEVEL as the peak of their sum. LEVEL is coded as
AU_BEEPb_LEVEL is. Assumption log, row 65. -/
def Chip.toneValue (x : Chip) (d g : Nat) : Rat :=
  let s := x.au.tones.getD g {}
  match s.cur with
  | none => 0
  | some p =>
    let rel := fun (i : Nat) => (p.words.getD i 0 : Rat) / (10 * x.get AU_DOMx_RATE_HZ d : Nat)
    let fs := if p.words.getD 2 0 = 0 then [rel 1] else [rel 1, rel 2]
    x.toneEnvelope d g * amplitude (toS 16 (p.words.getD 3 0)) * Config.partials (bits (p.words.getD 0 0) 4 2) fs s.clock

/-- A beep generator's sample: a sine burst from phase zero at AU_BEEPb_LEVEL. -/
def Chip.beepValue (x : Chip) (d g : Nat) : Rat :=
  let s := x.au.beeps.getD g {}
  match s.cur with
  | none => 0
  | some p =>
    if s.gap then 0
    else amplitude (toS 16 (x.get AU_BEEPb_LEVEL_LEVEL g)) *
      Config.partials 0 [(p.words.getD 1 0 : Rat) / (x.get AU_DOMx_RATE_HZ d : Nat)] s.clock

/-- A bridge's output of a channel: what was converted 32 receiving ticks ago, under its fade. -/
def Chip.bridgeValue (x : Chip) (b ch : Nat) : Rat :=
  let s := x.au.bridges.getD b {}
  ((s.queue.getD 31 []).getD ch 0) * s.fade.value

/-- What a source node gives. -/
def Chip.sourceValue (x : Chip) (d : Nat) (n : ANode) : Rat :=
  let ch := bits n.arg 8 3
  match n.kind with
  | 1 => x.tdmValue d (bits n.arg 0 3) (bits n.arg 8 4)
  | 3 => x.playValue d (bits n.arg 0 6) ch
  | 5 => x.bridgeValue (bits n.arg 0 4) ch
  | 7 => x.toneValue d n.arg
  | 8 => x.beepValue d n.arg
  | _ => 0

/-! ### Filters (R301, R311) -/

/-- One sample through a second-order section: its output, and x1, x2, y1, y2 after. -/
def section2 (co mem : List Rat) (v : Rat) : Rat × List Rat :=
  let c := fun i => co.getD i 0
  let m := fun i => mem.getD i 0
  let y := Config.sum32 [c 0 * v, c 1 * m 0, c 2 * m 1, -(c 3 * m 2), -(c 4 * m 3)]
  (y, [v, m 0, y, m 2])

/-- Coefficients in force of a set: signed Q3.28, B0 1 and the rest 0 until one is committed. -/
def Chip.bqCoef (x : Chip) (i : Nat) : List Rat :=
  match x.au.bq.find? fun p => p.1 = i with
  | some p => p.2.map fun v => (toS 32 v : Rat) / (2 ^ 28 : Nat)
  | none => [1, 0, 0, 0, 0]

/-- Coefficients of a high-pass stage. -/
def stageCoef (order corner rate : Nat) : List Rat := (List.range 5).map (Config.highPass order corner rate)

/-- One sample through a microphone filter: the offset stage, then the wind stage, cross-faded by WIND_EN. -/
def Chip.micStep (x : Chip) (d f : Nat) (v : Rat) : Rat × HpfSt :=
  let s := x.au.hpf.getD f {}
  let rate := x.get AU_DOMx_RATE_HZ d
  let o := section2 (stageCoef 1 2 rate) s.offset v
  let w := section2 (stageCoef 2 (x.get AU_HPFf_STAT_ACT f) rate) s.wind o.1
  (Config.sum32 [s.fade.value * w.1, (1 - s.fade.value) * o.1], { s with offset := o.2, wind := w.2 })

/-! ### The program (R290, R294) -/

/-- What a node gives for the sum of its incoming edges, and its filter's memory after. -/
def Chip.nodeStep (x : Chip) (d : Nat) (n : ANode) (v : Rat) : Rat × List Rat :=
  match n.kind with
  | 9 => (Config.single (gainAmp n.arg * v), [])
  | 10 => section2 (x.bqCoef n.arg) (((x.adom d).filt.find? fun p => p.1 = n.id).map (·.2) |>.getD []) v
  | 11 => ((x.micStep d n.arg v).1, [])
  | k => (if k = 2 || (k = 4 || k = 6) then v else x.sourceValue d n, [])

/-- What a node has given at a tick: node, sum of its incoming edges, its own value, its filter's memory. -/
structure NodeOut where
  /-- The node. -/
  node : ANode
  /-- Sum of its incoming edges. -/
  sum : Rat
  /-- Value. -/
  value : Rat
  /-- Memory of its biquad. -/
  mem : List Rat
deriving DecidableEq, Repr

/-- The sum that reaches a node over its incoming edges, none while one of them comes from a node not done yet. -/
def incoming (es : List AEdge) (done : List NodeOut) (n : ANode) : Option Rat :=
  ((es.filter fun e => e.dst = n.id).mapM fun (e : AEdge) =>
    (done.find? fun o => o.node.id = e.src).map fun o => Config.single (e.ramp.value * o.value)).map Config.sum32

/-- The nodes left run as their sources are done, in at most `k` rounds. -/
def Chip.runNodes (x : Chip) (d : Nat) (es : List AEdge) (left : List ANode) (done : List NodeOut) (k : Nat) : List NodeOut :=
  match k with
  | 0 => done
  | k + 1 =>
    let now := left.filterMap fun n => (incoming es done n).map fun v =>
      let r := x.nodeStep d n v
      (⟨n, v, r.1, r.2⟩ : NodeOut)
    x.runNodes d es (left.filter fun n => !now.any fun o => o.node.id = n.id) (done ++ now) k

/-- One run of a domain's program. -/
def Chip.runGraph (x : Chip) (d : Nat) : List NodeOut :=
  match (x.adom d).graph with
  | none => []
  | some g => x.runNodes d g.edges g.nodes [] g.nodes.length

/-! ### Sinks, and what a tick leaves (R294, R305, R307) -/

/-- The part of a domain's output that its mute lets through: linear to nothing (R312). -/
def ADom.open_ (a : ADom) : Rat :=
  match a.mute with
  | none => 1
  | some k => (k : Rat) / (max 1 a.muteTotal : Nat)

/-- One sample goes out on a TDM slot. -/
def Chip.tdmOut (x : Chip) (n : ANode) (v : Rat) : Chip :=
  let p := bits n.arg 0 3
  x.emit (.pin 5 [p, bits n.arg 8 4, sampleBits (16 + 8 * x.get AU_TDMn_CFG_WIDTH p) v])

/-- Zero goes out on every TDM slot that the domain drives. -/
def Chip.sendZero (x : Chip) (d : Nat) : Chip :=
  match (x.adom d).graph with
  | none => x
  | some g => (g.nodes.filter fun n => n.kind = 2).foldl (fun (y : Chip) n => y.emit (.pin 5 [bits n.arg 0 3, bits n.arg 8 4, 0])) x

/-- The values that sink nodes of a kind took for a number in their argument: channels, values. -/
def sunk (outs : List NodeOut) (kind wide i : Nat) : List (Nat × Rat) :=
  outs.filterMap fun o => if o.node.kind = kind && bits o.node.arg 0 wide = i then some (bits o.node.arg 8 3, o.value) else none

/-- Values by channel as a frame. -/
def frameOf (vs : List (Nat × Rat)) (n : Nat) : List Rat :=
  (List.range n).map fun c => match vs.find? fun p => p.1 = c with
    | some p => p.2
    | none => 0

/-- A captured frame joins the block that fills, under the endpoint's gain. -/
def Chip.takeCapture (x : Chip) (outs : List NodeOut) (s : AStream) : AStream :=
  let vs := sunk outs 4 6 s.ep
  if x.on AU_EPe_STAT_DIR s.ep && !vs.isEmpty then
    { s with block := s.block ++ [(frameOf vs (x.get AU_EPe_STAT_CH s.ep + 1)).map (s.ramp.value * ·)] }
  else s

/-- A bridge takes a frame that the domain sends into it, and converts one for the domain that it feeds. The converter
sees the last 1,024 frames. Assumption log, row 65. -/
def Chip.bridgeTick (x : Chip) (d : Nat) (outs : List NodeOut) (b : Nat) (s : BrSt) : BrSt :=
  let n := x.get AU_BRk_CFG_CH b + 1
  let vs := sunk outs 6 4 b
  let s := if x.get AU_BRk_CFG_FROM b = d && !vs.isEmpty then { s with sent := (frameOf vs n :: s.sent).take 1024, since := 0 } else s
  if x.get AU_BRk_CFG_TO b = d then
    let rate := fun e => x.get AU_DOMx_RATE_HZ e
    let f := (List.range n).map fun c =>
      Config.convert (rate (x.get AU_BRk_CFG_FROM b)) (rate d) s.since (s.sent.map fun q => q.getD c 0)
    { s with queue := (f :: s.queue).take 32, since := s.since + 1, fade := s.fade.tick }
  else s

/-- A graph's node of a kind and number. -/
def ADom.has (a : ADom) (kind i : Nat) : Bool :=
  match a.graph with
  | some g => g.nodes.any fun n => n.kind = kind && n.arg = i
  | none => false

/-- What a tick leaves in the filters, bridges and generators that the domain's graph names. -/
def Chip.soundTick (x : Chip) (d : Nat) (outs : List NodeOut) : Chip :=
  let a := x.adom d
  let hpf := x.au.hpf.zipIdx.map fun p => match outs.find? fun o => o.node.kind = 11 && o.node.arg = p.2 with
    | some o => let s := (x.micStep d p.2 o.sum).2
                { s with fade := s.fade.tick }
    | none => p.1
  let tones := x.au.tones.zipIdx.map fun p =>
    if a.has 7 p.2 then { p.1 with pos := p.1.pos + 1, clock := p.1.clock + 1 } else p.1
  let beeps := x.au.beeps.zipIdx.map fun p => if a.has 8 p.2 then { p.1 with clock := p.1.clock + 1 } else p.1
  let bridges := x.au.bridges.zipIdx.map fun p => x.bridgeTick d outs p.2 p.1
  let y := { x with au := { x.au with hpf := hpf, tones := tones, beeps := beeps, bridges := bridges } }
  y.setAdom d fun s => { s with filt := outs.filterMap fun o => if o.node.kind = 10 then some (o.node.id, o.mem) else none }

end Sys2Proof.Machine
end

