-- ==== Sys2Proof/Machine/Audio.lean ====
section
/-!
DEFINITION. The audio engine (11_audio_graph.md): graphs and their checks, route changes, gain ramps, endpoints and their
blocks, bridges, tones and beeps.
-/
namespace Sys2Proof.Machine

/-- A gain code: mute, or −96.00 to +24.00 dB (R293). -/
def gainOk (g : Nat) : Bool := g = 0x8000 || (decide (-9600 ≤ toS 16 g) && decide (toS 16 g ≤ 2400))

/-! ### Graphs (R293 to R295) -/

/-- A source node kind. -/
def aSource (k : Nat) : Bool := [1, 3, 5, 7, 8].contains k

/-- A sink node kind. -/
def aSink (k : Nat) : Bool := [2, 4, 6].contains k

/-- Program slots of a node. -/
def aCost (k : Nat) : Nat :=
  match k with
  | 7 => 2
  | 10 => 3
  | 11 => 4
  | _ => 1

/-- Slots of a graph's program. -/
def AGraph.slots (g : AGraph) : Nat := (g.nodes.map fun n => aCost n.kind).sum + g.edges.length

/-- The argument of a node has no bit outside its fields. -/
def aArgOk (k a : Nat) : Bool :=
  match k with
  | 1 => bits a 3 5 = 0 && a < 4096
  | 2 => bits a 3 5 = 0 && a < 4096
  | 3 => bits a 6 2 = 0 && a < 2048
  | 4 => bits a 6 2 = 0 && a < 2048
  | 5 => bits a 4 4 = 0 && a < 2048
  | 6 => bits a 4 4 = 0 && a < 2048
  | 7 => a < 16
  | 8 => a < 8
  | 9 => a < 65536 && gainOk a
  | 10 => a < 256
  | 11 => a < 16
  | _ => false

/-- TDM slots of a port. -/
def Chip.tdmSlots (x : Chip) (p : Nat) : Nat := 2 * 2 ^ x.get AU_TDMn_CFG_SLOTS p

/-- Ports and bridges let domain `d` hold the node (R295). -/
def Chip.nodeFits (x : Chip) (d : Nat) (n : ANode) : Bool :=
  let p := bits n.arg 0 3
  let b := bits n.arg 0 4
  let br := x.get AU_BRk_CFG_FROM b != 3 && (x.get AU_BRk_CFG_TO b != 3 && (x.get AU_BRk_CFG_FROM b != x.get AU_BRk_CFG_TO b &&
    decide (bits n.arg 8 3 ≤ x.get AU_BRk_CFG_CH b)))
  match n.kind with
  | 1 => x.get AU_TDMn_CFG_DOM p = d && bits n.arg 8 4 < x.tdmSlots p
  | 2 => x.get AU_TDMn_CFG_DOM p = d && bits n.arg 8 4 < x.tdmSlots p
  | 5 => br && x.get AU_BRk_CFG_TO b = d
  | 6 => br && x.get AU_BRk_CFG_FROM b = d
  | _ => true

/-- Two nodes claim one slot, channel, generator or filter, or use one endpoint in both directions. -/
def aClash (n m : ANode) : Bool :=
  (n.kind = m.kind && (n.arg = m.arg && !(n.kind = 9 || n.kind = 10))) ||
  (((n.kind = 3 && m.kind = 4) || (n.kind = 4 && m.kind = 3)) && bits n.arg 0 6 = bits m.arg 0 6)

/-- Nodes of the graphs loaded on other domains. -/
def Chip.otherNodes (x : Chip) (d : Nat) : List ANode :=
  ((List.range 3).filter fun e => e != d).flatMap fun e => match (x.adom e).graph with
    | some g => g.nodes
    | none => []

/-- The node is allowed by what stands outside its graph. -/
def Chip.nodeAllowed (x : Chip) (d : Nat) (n : ANode) : Bool := x.nodeFits d n && !(x.otherNodes d).any (aClash n)

/-- Byte offset, in its record, of what is wrong with a node, given the nodes before it. Assumption log, row 66. -/
def Chip.nodeWrong (x : Chip) (d : Nat) (before : List ANode) (n : ANode) (res : Nat) : Option Nat :=
  if 1024 ≤ n.id || before.any fun m => m.id = n.id then some 0
  else if n.kind = 0 || 11 < n.kind then some 2
  else if res != 0 then some 3
  else if !aArgOk n.kind n.arg || (!x.nodeAllowed d n || before.any (aClash n)) then some 4
  else none

/-- What can be reached from a set of nodes over edges, after `k` rounds. -/
def aReach (es : List AEdge) (from_ : List Nat) (k : Nat) : List Nat :=
  match k with
  | 0 => from_
  | k + 1 => aReach es (from_ ++ (es.filterMap fun e => if from_.contains e.src && !from_.contains e.dst then some e.dst else none)) k

/-- Byte offset, in its record, of what is wrong with an edge, given the nodes and the edges before it. Assumption
log, row 66. -/
def edgeWrong (ns : List ANode) (before : List AEdge) (e : AEdge) (flags res : Nat) : Option Nat :=
  let kind := fun i => (ns.find? fun n => n.id = i).map (·.kind)
  match kind e.src, kind e.dst with
  | none, _ => some 0
  | some a, b =>
    if aSink a || before.any fun f => f.src = e.src && f.dst = e.dst then some 0
    else match b with
      | none => some 2
      | some k =>
        if aSource k then some 2
        else if e.src = e.dst || (aReach before [e.dst] before.length).contains e.src then some 0
        else if !gainOk e.gain then some 4
        else if 2 ≤ flags then some 6
        else if res != 0 then some 7
        else none

/-- The node at byte `o` of a description, with its reserved byte. -/
def aNodeAt (bs : List Nat) (o : Nat) : ANode × Nat :=
  (⟨leNat ((bs.drop o).take 2), bs.getD (o + 2) 0, leNat ((bs.drop (o + 4)).take 4)⟩, bs.getD (o + 3) 0)

/-- The edge at byte `o`, with its flags and reserved byte. -/
def aEdgeAt (bs : List Nat) (o : Nat) : AEdge × Nat × Nat :=
  (⟨leNat ((bs.drop o).take 2), leNat ((bs.drop (o + 2)).take 2), leNat ((bs.drop (o + 4)).take 2), bitAt (bs.getD (o + 6) 0) 0, false,
    Ramp.at (gainAmp (leNat ((bs.drop (o + 4)).take 2)))⟩,
   bs.getD (o + 6) 0, bs.getD (o + 7) 0)

/-- A description read: the graph, or the byte offset of the first wrong field. Assumption log, row 66. -/
def Chip.readGraph (x : Chip) (d : Nat) (bs : List Nat) : Except Nat AGraph :=
  let nn := leNat ((bs.drop 4).take 2)
  let ne := leNat ((bs.drop 6).take 2)
  if leNat (bs.take 4) != 1 then .error 0
  else if nn = 0 || 1024 < nn then .error 4
  else if 4096 < ne then .error 6
  else
    match (List.range 8).find? fun i => bs.getD (8 + i) 0 != 0 with
    | some i => .error (8 + i)
    | none =>
      let ns := (List.range nn).map fun i => aNodeAt bs (16 + 8 * i)
      let nodes := ns.map (·.1)
      match (List.range nn).findSome? fun i => match ns[i]? with
        | some p => (x.nodeWrong d (nodes.take i) p.1 p.2).map fun o => 16 + 8 * i + o
        | none => none with
      | some o => .error o
      | none =>
        let es := (List.range ne).map fun j => aEdgeAt bs (16 + 8 * nn + 8 * j)
        let edges := es.map (·.1)
        match (List.range ne).findSome? fun j => match es[j]? with
          | some p => (edgeWrong nodes (edges.take j) p.1 p.2.1 p.2.2).map fun o => 16 + 8 * nn + 8 * j + o
          | none => none with
        | some o => .error o
        | none => .ok ⟨nodes, edges⟩

/-! ### Loading and changing the graph (R296 to R298) -/

/-- AU_STORE.FREE, PROG_SLOTS and GRAPH follow the programs placed. -/
def Chip.updStore (x : Chip) : Chip :=
  let size := fun (g : Option AGraph) => match g with
    | some g => g.slots
    | none => 0
  let used := ((List.range 3).map fun d => size (x.adom d).graph + size (x.adom d).next).sum
  (List.range 3).foldl (fun (y : Chip) d =>
    (y.set AU_DOMx_PROG_SLOTS (size (x.adom d).graph) d).flag AU_DOMx_STAT_GRAPH (x.adom d).graph.isSome d)
    (x.set AU_STORE_FREE (6144 - used))

/-- Slots of the graph in force. -/
def Chip.progSlots (x : Chip) (d : Nat) : Nat :=
  match (x.adom d).graph with
  | some g => g.slots
  | none => 0

/-- The node records of two graphs are equal as sets. -/
def sameNodes (a b : AGraph) : Bool := a.nodes.all b.nodes.contains && b.nodes.all a.nodes.contains

/-- An edge of a graph. -/
def AGraph.edge (g : AGraph) (s t : Nat) : Option AEdge := g.edges.find? fun e => e.src = s && e.dst = t

/-- AU_DOMx_STAT as it reads. -/
def Chip.domStat (x : Chip) (d : Nat) : Nat :=
  x.word [AU_DOMx_STAT_RUN, AU_DOMx_STAT_PEND_RESTART, AU_DOMx_STAT_CLK_OK, AU_DOMx_STAT_ROUTE_PEND, AU_DOMx_STAT_GRAPH] d

/-- A route change begins: edges absent from the new graph ramp to mute (R297 steps 1 and 2). -/
def Chip.routeStart (x : Chip) (d : Nat) (g : AGraph) : Chip :=
  let r := x.rampTicks d
  let y := x.setAdom d fun s => { s with
    next := some g, route := 1,
    graph := s.graph.map fun o => { o with
      edges := o.edges.map fun e => if (g.edge e.src e.dst).isNone then { e with out := true, ramp := e.ramp.to 0 r } else e } }
  (y.flag AU_DOMx_STAT_ROUTE_PEND true d).updStore

/-- The new program replaces the old one (step 3); new edges and those whose GAIN differs ramp (step 4). -/
def Chip.routeSwap (x : Chip) (d : Nat) : Chip :=
  let r := x.rampTicks d
  match (x.adom d).graph, (x.adom d).next with
  | some o, some g =>
    let es := g.edges.map fun e => match o.edge e.src e.dst with
      | some p => { e with ramp := if p.gain = e.gain then p.ramp else p.ramp.to (gainAmp e.gain) r }
      | none => { e with ramp := Ramp.up (gainAmp e.gain) r }
    (x.setAdom d fun s => { s with graph := some { g with edges := es }, next := none, route := 3 }).updStore
  | _, _ => x

/-- A route change ends, installed or abandoned: GRAPH_SWAPPED and the event (R297 step 5, R298). -/
def Chip.routeEnd (x : Chip) (d : Nat) (installed : Bool) : Chip :=
  let y := ((x.setAdom d fun s => { s with next := none, route := 0 }).flag AU_DOMx_STAT_ROUTE_PEND false d).updStore
  (y.notice 0 0x7802 [d, b2n installed, y.progSlots d]).raise (355 + d)

/-- The edges of a graph as it stands, changed. -/
def ADom.onEdges (a : ADom) (f : AEdge → AEdge) : ADom := { a with graph := a.graph.map fun g => { g with edges := g.edges.map f } }

/-- A stop or suspension meets a route change: before the swap it is abandoned, and no edge leaves the graph; after it the
new graph stays (R298). -/
def Chip.routeCut (x : Chip) (d : Nat) : Chip :=
  let r := (x.adom d).route
  if r = 1 || r = 2 then
    (x.setAdom d fun s => s.onEdges fun e => if e.out then { e with out := false, ramp := Ramp.at (gainAmp e.gain) } else e).routeEnd d false
  else x

/-- AUDIO_GRAPH_LOAD. Assumption log, row 66. -/
def audioGraphLoad (c : Call) (mem : List Host.Cell) (x : Chip) : Chip :=
  x.perform opAudioGraphLoad c fun x =>
    let d := c.w 0
    let len := c.w 3
    if 3 ≤ d then x.bad opAudioGraphLoad c 0
    else if (x.ownRange c.fn (c.q 1) len (List.range 16)).isNone then x.bad opAudioGraphLoad c 1
    else
      let bs := readBytes mem x (c.q 1) len
      if len < 16 || len != 16 + 8 * (leNat ((bs.drop 4).take 2) + leNat ((bs.drop 6).take 2)) then x.bad opAudioGraphLoad c 3
      else if (x.adom d).route != 0 then x.done opAudioGraphLoad c stNoResource [0]
      else
        match x.readGraph d bs with
        | .error o => x.bad2 opAudioGraphLoad c 0 o
        | .ok g =>
          let free := x.get AU_STORE_FREE
          if x.on AU_DOMx_STAT_RUN d then
            match (x.adom d).graph with
            | some o =>
              if !sameNodes o g then x.done opAudioGraphLoad c stNotStopped [x.domStat d]
              else if free < g.slots then x.done opAudioGraphLoad c stNoResource [g.slots - free]
              else (x.routeStart d g).deferred opAudioGraphLoad c [g.slots]
            | none => x.done opAudioGraphLoad c stNotStopped [x.domStat d]
          else if free + x.progSlots d < g.slots then x.done opAudioGraphLoad c stNoResource [g.slots - (free + x.progSlots d)]
          else ((x.setAdom d fun s => { s with graph := some g }).updStore).ok opAudioGraphLoad c
            [g.slots, g.nodes.length, g.edges.length]

/-! ### Starting and stopping (R45, R47, R305, R307) -/

/-- Offset in the AU block of the first wrong register of a domain's configuration. -/
def Chip.domWrong (x : Chip) (d : Nat) : Option Nat :=
  let page := 0x1000 + 0x100 * d
  let r := x.get AU_DOMx_RATE_HZ d
  let p := x.get AU_DOMx_CTL_SRC_PORT d
  if d = 2 && (!x.on AU_DOMx_CTL_SRC d && (x.get AU_TDMn_CFG_DOM p != 2 || x.on AU_TDMn_CFG_LEADER p)) then some page
  else if (d = 0 && r != 48000) || ((d = 1 && r != 16000) || (d = 2 && (decide (r < 8000) || decide (48000 < r)))) then some (page + 8)
  else
    match (List.range 8).find? fun t => x.get AU_TDMn_CFG_DOM t = d && (x.get AU_TDMn_CFG_WIDTH t = 3 ||
      (x.on AU_TDMn_CFG_LEADER t && (d = 2 || 24576000 % (r * x.tdmSlots t * (16 + 8 * x.get AU_TDMn_CFG_WIDTH t)) != 0))) with
    | some t => some (0x2000 + 0x40 * t)
    | none => ((List.range 16).find? fun b => (x.get AU_BRk_CFG_FROM b = d || x.get AU_BRk_CFG_TO b = d) &&
        x.get AU_BRk_CFG_FROM b = x.get AU_BRk_CFG_TO b).map fun b => 0x3000 + 0x20 * b

/-- A bridge's output gain changes. -/
def Chip.setFade (x : Chip) (b : Nat) (f : Ramp → Ramp) : Chip :=
  { x with au := { x.au with bridges := updAt x.au.bridges b fun s => { s with fade := f s.fade } } }

/-- A bridge's output fades to zero over 16 ticks: counted and raised (R307). -/
def Chip.bridgeFade (x : Chip) (b : Nat) : Chip :=
  if x.on AU_BRk_STAT_LOCK b && !x.on AU_BRk_STAT_FADED b then
    (((x.flag AU_BRk_STAT_FADED true b).setFade b fun r => r.to 0 16).sat AU_BRk_XRUN_COUNT b).raise 362
  else x

/-- A bridge is locked and its output comes in over `n` ticks, unless it sounds already. -/
def Chip.bridgeOpen (x : Chip) (b n : Nat) : Chip :=
  if x.on AU_BRk_STAT_LOCK b && !x.on AU_BRk_STAT_FADED b then x
  else ((x.flag AU_BRk_STAT_LOCK true b).flag AU_BRk_STAT_FADED false b).setFade b fun r => r.to 1 n

/-- A bridge has lost its lock: its output is muted, once a fade under way has ended. -/
def Chip.bridgeUnlock (x : Chip) (b : Nat) : Chip :=
  (x.flag AU_BRk_STAT_LOCK false b).setFade b fun r => if r.goal = 0 then r else Ramp.at 0

/-- Every bridge fed by a domain fades; one to or from domain C loses its lock, at whichever end the samples stop.
Assumption log, row 68. -/
def Chip.fadeFrom (x : Chip) (d : Nat) : Chip :=
  ((List.range 16).filter fun b => x.get AU_BRk_CFG_FROM b = d || x.get AU_BRk_CFG_TO b = d).foldl (fun (y : Chip) b =>
    let y := y.onlyIf (x.get AU_BRk_CFG_FROM b = d) (·.bridgeFade b)
    y.onlyIf (x.get AU_BRk_CFG_FROM b = 2 || x.get AU_BRk_CFG_TO b = 2) (·.bridgeUnlock b)) x

/-- A domain moves samples: it runs and is not halted. Assumption log, row 68. -/
def Chip.domLive (x : Chip) (d : Nat) : Bool := x.on AU_DOMx_STAT_RUN d && !(x.adom d).halted

/-- Both ends of a bridge move samples. -/
def Chip.bridgeFed (x : Chip) (b : Nat) : Bool := x.domLive (x.get AU_BRk_CFG_FROM b) && x.domLive (x.get AU_BRk_CFG_TO b)

/-- Bridges between A and B convert at an exact ratio, and lock as soon as both ends run, with a fade-in of 16 ticks
(R307). Assumption log, row 68. -/
def Chip.lockExact (x : Chip) : Chip :=
  ((List.range 16).filter fun b => x.get AU_BRk_CFG_FROM b < 2 && (x.get AU_BRk_CFG_TO b < 2 && x.bridgeFed b)).foldl
    (fun (y : Chip) b => y.bridgeOpen b 16) x

/-- BRIDGE_LOCK: the ratio is locked, and the output ramps in. Assumption log, row 68. -/
def bridgeLock (b : Nat) (x : Chip) : Chip :=
  if x.bridgeFed b then x.bridgeOpen b (x.rampTicks (x.get AU_BRk_CFG_TO b)) else x

/-- Result word 1 of START_AUDIO's BAD_PARAM, or none. -/
def Chip.domRefusal (x : Chip) (d : Nat) : Option Nat :=
  match x.domWrong d, (x.adom d).graph with
  | some o, _ => some o
  | none, none => some 0xFFFFFFFF
  | none, some g => (g.nodes.find? fun n => !x.nodeAllowed d n).map fun n => 0x10000 + n.id

/-- The domain runs. Assumption log, row 68. -/
def Chip.enterDom (x : Chip) (d : Nat) : Chip :=
  let y := (x.setPend AU_DOMx_STAT_PEND_RESTART d false).setAdom d fun s =>
    { s.onEdges fun e => { e with ramp := e.ramp.finish } with
      tick := 0, mute := none, stops := [], halted := false, resume := false, suspend := false, tdm := [], filt := [] }
  let y := ((y.flag AU_DOMx_STAT_RUN true d).flag AU_DOMx_STAT_CLK_OK true d).set AU_DOMx_BLOCKS_COUNT 0 d
  y.lockExact.raise (352 + d)

/-- START_AUDIO: PLL bypass stops CLK_AUD, so it is refused there (R418). -/
def startAudio (c : Call) (x : Chip) : Chip :=
  x.perform opStartAudio c fun x =>
    let d := c.w 0
    if 3 ≤ d then x.bad opStartAudio c 0
    else if x.on AU_DOMx_STAT_RUN d then x.done opStartAudio c stNotStopped [x.domStat d]
    else if x.heldSub 2 then x.heldRefusal opStartAudio c
    else if x.rs.bypass then x.done opStartAudio c stNoResource [0]
    else
      match x.domRefusal d with
      | some o => x.bad2 opStartAudio c 0 o
      | none => (x.enterDom d).ok opStartAudio c []

/-- A domain's outputs begin their ramp to mute, unless they have. -/
def ADom.fadeOut (a : ADom) (n : Nat) : ADom :=
  match a.mute with
  | some _ => a
  | none => { a with mute := some n, muteTotal := n }

/-- STOP_AUDIO: outputs ramp to mute, and the domain stops at the block boundary after. -/
def stopAudio (c : Call) (x : Chip) : Chip :=
  x.perform opStopAudio c fun x =>
    let d := c.w 0
    if 3 ≤ d then x.bad opStopAudio c 0
    else if !x.on AU_DOMx_STAT_RUN d then x.ok opStopAudio c []
    else (x.routeCut d).setAdom d fun s => { s.fadeOut (x.rampTicks d) with stops := s.stops ++ [c] }

/-- A domain's graph uses a coefficient set. -/
def Chip.usesBq (x : Chip) (d i : Nat) : Bool :=
  match (x.adom d).graph with
  | some g => g.nodes.any fun n => n.kind = 10 && n.arg = i
  | none => false

/-- A running domain uses a coefficient set. -/
def Chip.bqUsed (x : Chip) (i : Nat) : Bool := (List.range 3).any fun d => x.on AU_DOMx_STAT_RUN d && x.usesBq d i

/-- Those of the committed coefficient sets that are due apply; GO clears once none waits (R301, R316). -/
def Chip.takeBq (x : Chip) (due : Nat → Bool) : Chip :=
  let now := x.au.bqWait.filter fun p => due p.1
  let rest := x.au.bqWait.filter fun p => !due p.1
  let bq := (x.au.bq.filter fun p => !now.any fun q => q.1 = p.1) ++ now
  ({ x with au := { x.au with bqWait := rest, bq := bq } }).flag AU_BQ_COMMIT_GO (!rest.isEmpty)

/-- The domain is stopped: STOP_AUDIO is answered (R45), and coefficient sets that only it used apply. -/
def Chip.domStopped (x : Chip) (d : Nat) : Chip :=
  let calls := (x.adom d).stops
  let y := if (x.adom d).route = 3 then x.routeEnd d true else x
  let y := y.setAdom d fun s => { s with mute := none, stops := [], halted := false, resume := false, suspend := false, tick := 0 }
  let y := (y.flag AU_DOMx_STAT_RUN false d).flag AU_DOMx_STAT_CLK_OK false d
  let y := y.takeBq fun i => !y.bqUsed i
  calls.foldl (fun (z : Chip) c => z.ok opStopAudio c []) ((y.fadeFrom d).raise (352 + d))

/-! ### Streams (R299, R302 to R304) -/

/-- An endpoint's stream changes. -/
def Chip.setStream (x : Chip) (s : AStream) : Chip :=
  { x with au := { x.au with streams := updFirst x.au.streams (fun t => t.ep = s.ep) fun _ => s } }

/-- Domains whose loaded graph names an endpoint, with the direction: 0 PLAY, 1 CAPTURE. -/
def Chip.epNamed (x : Chip) (e : Nat) : Option (Nat × Nat) :=
  (List.range 3).findSome? fun d => match (x.adom d).graph with
    | some g => (g.nodes.find? fun n => (n.kind = 3 || n.kind = 4) && bits n.arg 0 6 = e).map fun n => (d, n.kind - 3)
    | none => none

/-- A running graph names the endpoint. -/
def Chip.epLive (x : Chip) (e : Nat) : Option Nat :=
  match x.epNamed e with
  | some p => if x.domLive p.1 then some p.1 else none
  | none => none

/-- Bytes a sample of a format. -/
def sampleBytes (f : Nat) : Nat := if f = 0 then 2 else 4

/-- Bytes of one frame of an endpoint's stream. -/
def Chip.frameBytes (x : Chip) (e : Nat) : Nat := (x.get AU_EPe_STAT_CH e + 1) * sampleBytes (x.get AU_EPe_STAT_FMT e)

/-- A stream opens: STAT and the count of open streams follow. Assumption log, row 67. -/
def Chip.openStream (x : Chip) (s : AStream) (dir ch fmt gain : Nat) (skein : Bool) : Chip :=
  let e := s.ep
  let y := { x with au := { x.au with streams := x.au.streams ++ [s] } }
  let y := (((y.flag AU_EPe_STAT_OPEN true e).set AU_EPe_STAT_DIR dir e).flag AU_EPe_STAT_SKEIN skein e).set AU_EPe_STAT_CH ch e
  let y := ((y.set AU_EPe_STAT_FMT fmt e).flag AU_EPe_STAT_CLOSING false e).set AU_EPe_GAIN_GAIN gain e
  y.set FNf_AUDIO_USE (y.get FNf_AUDIO_USE s.fn + 1) s.fn

/-- A stream is closed. -/
def Chip.closeStream (x : Chip) (e : Nat) : Chip :=
  match x.stream e with
  | none => x
  | some s =>
    let y := { x with au := { x.au with streams := x.au.streams.filter fun t => t.ep != e } }
    let y := y.resetFields [AU_EPe_STAT_OPEN, AU_EPe_STAT_DIR, AU_EPe_STAT_SKEIN, AU_EPe_STAT_CH, AU_EPe_STAT_FMT,
      AU_EPe_STAT_CLOSING, AU_EPe_STAT_FILL] e
    y.set FNf_AUDIO_USE (y.get FNf_AUDIO_USE s.fn - 1) s.fn

/-- A stream begins its ramp to close; where no running graph moves it, it closes at once. Assumption log, row 67. -/
def Chip.beginClose (x : Chip) (e : Nat) : Chip :=
  match x.epLive e, x.stream e with
  | some d, some s => (x.flag AU_EPe_STAT_CLOSING true e).setStream { s with ramp := s.ramp.to 0 (x.rampTicks d) }
  | _, _ => x.closeStream e

/-- Bytes of a stream's buffer (R303). -/
def streamBytes (k ch fmt : Nat) : Nat := 64 + 2 ^ k * 16 * ((ch + 1) * sampleBytes fmt)

/-- AUDIO_STREAM_OPEN. Assumption log, row 67. -/
def audioStreamOpen (c : Call) (x : Chip) : Chip :=
  x.perform opAudioStreamOpen c fun x =>
    let w := c.w 0
    let e := bits w 0 6
    let dir := bits w 8 1
    let ch := bits w 9 3
    let fmt := bits w 12 2
    let k := c.w 3
    let wrongDir := match x.epNamed e with
      | some p => p.2 != dir
      | none => false
    if bits w 6 2 != 0 || (bits w 15 1 != 0 || (bits w 24 8 != 0 || (fmt = 3 || ((bitAt w 14 && bits w 16 8 = 0) ||
        (x.get AU_EPe_OWNER_FUNC e != c.fn || ((x.stream e).isSome || wrongDir)))))) then x.bad opAudioStreamOpen c 0
    else if (x.ownRange c.fn (c.q 1) (streamBytes (clampN k 2 10) ch fmt) [6]).isNone || hOffset (c.q 1) != 0 then
      x.bad opAudioStreamOpen c 1
    else if k < 2 || 10 < k then x.bad opAudioStreamOpen c 3
    else if 65536 ≤ c.w 4 || !gainOk (c.w 4) then x.bad opAudioStreamOpen c 4
    else if x.get FNf_AUDIO_QUOTA c.fn ≤ x.get FNf_AUDIO_USE c.fn then
      (x.sat FNf_QUOTA_REF_COUNT c.fn).done opAudioStreamOpen c stQuota [4]
    else
      let left := match x.epNamed e with
        | some p => x.rampTicks p.1
        | none => 0
      let s : AStream := ⟨e, c.fn, x.genOf c.fn, c.q 1, k, if bitAt w 14 then bits w 16 8 else 0, 0, 0, 0, false, [],
        Ramp.up (gainAmp (c.w 4)) left, [], false⟩
      (x.openStream s dir ch fmt (c.w 4) false).ok opAudioStreamOpen c [16 * ((ch + 1) * sampleBytes fmt)]

/-- AUDIO_STREAM_CLOSE. Assumption log, row 67. -/
def audioStreamClose (c : Call) (x : Chip) : Chip :=
  x.perform opAudioStreamClose c fun x =>
    match (if c.w 0 < 64 then x.stream (c.w 0) else none) with
    | none => x.bad opAudioStreamClose c 0
    | some s =>
      if s.fn != c.fn || (s.gen != x.genOf c.fn || x.on AU_EPe_STAT_SKEIN s.ep) then x.bad opAudioStreamClose c 0
      else if x.on AU_EPe_STAT_CLOSING s.ep then x.deferred opAudioStreamClose c []
      else (x.beginClose s.ep).deferred opAudioStreamClose c []

/-- An edge's target gain changes in a graph, and it ramps. -/
def AGraph.setGain (g : AGraph) (s t gain r : Nat) : AGraph :=
  { g with edges := updFirst g.edges (fun e => e.src = s && e.dst = t) fun e =>
    { e with gain := gain, ramp := e.ramp.to (gainAmp gain) r } }

/-- AUDIO_GAIN_SET. -/
def audioGainSet (c : Call) (x : Chip) : Chip :=
  x.perform opAudioGainSet c fun x =>
    let w := c.w 0
    let d := bits w 8 2
    let e := bits w 16 6
    let g := c.w 2
    let gBad := decide (65536 ≤ g) || !gainOk g
    if bits w 1 7 != 0 || (bits w 10 6 != 0 || bits w 22 10 != 0) then x.bad opAudioGainSet c 0
    else if bitAt w 0 then
      if c.fn != 0 || d = 3 then x.bad opAudioGainSet c 0
      else
        let a := x.adom d
        let s := bits (c.w 1) 0 16
        let t := bits (c.w 1) 16 16
        let o := a.graph.bind fun o => o.edge s t
        let n := a.next.bind fun n => n.edge s t
        let target := if a.next.isSome then n else o
        match target with
        | none => x.bad opAudioGainSet c 1
        | some te =>
          let locked := te.lock || (match o with
            | some oe => oe.lock
            | none => false)
          if !x.on AU_DOMx_STAT_RUN d || locked then x.bad opAudioGainSet c 1
          else if gBad then x.bad opAudioGainSet c 2
          else
            let r := x.rampTicks d
            (x.setAdom d fun q => { q with graph := q.graph.map fun o => o.setGain s t g r,
                                           next := q.next.map fun n => n.setGain s t g 0 }).ok opAudioGainSet c []
    else
      match x.stream e with
      | none => x.bad opAudioGainSet c 0
      | some s =>
        if x.get AU_EPe_OWNER_FUNC e != c.fn || (s.fn != c.fn || s.gen != x.genOf c.fn) then x.bad opAudioGainSet c 0
        else if gBad then x.bad opAudioGainSet c 2
        else
          let left := match x.epNamed e with
            | some p => x.rampTicks p.1
            | none => 0
          ((x.set AU_EPe_GAIN_GAIN g e).setStream { s with ramp := s.ramp.to (gainAmp g) left }).ok opAudioGainSet c []

/-! ### Ticks and ramp ends (R290, R297, R299) -/

/-- What the domain's TDM ports receive at a tick (R305): a follower shows whether its frame sync is there, and a slip is
counted and raised. -/
def Chip.tdmFrames (x : Chip) (d : Nat) (tdm : List TdmIn) : Chip :=
  (tdm.filter fun t => x.get AU_TDMn_CFG_DOM t.port.val = d && !x.on AU_TDMn_CFG_LEADER t.port.val).foldl (fun (y : Chip) t =>
    (y.flag AU_TDMn_STAT_FS_SEEN t.sync t.port.val).onlyIf t.slip.isSome fun z => (z.sat AU_TDMn_SLIP_COUNT t.port.val).raise 361) x

/-- A port's frame as the engine takes it: the last one again where the FIFO ran empty. -/
def takenFrame (t : TdmIn) (last : List TdmIn) : TdmIn :=
  match t.slip, last.find? fun u => u.port = t.port with
  | some true, some u => { t with slots := u.slots }
  | _, _ => t

/-- The frame that a TDM port sends at a tick: its output slots in slot order, each as its slot width in bytes,
little-endian (R401); a slot that nothing drives holds zero. -/
def Chip.tdmBytes (x : Chip) (d p : Nat) (outs : List NodeOut) : List Nat :=
  let w := 2 + x.get AU_TDMn_CFG_WIDTH p
  (List.range (2 ^ (1 + x.get AU_TDMn_CFG_SLOTS p))).flatMap fun k =>
    leBytes w (match outs.find? fun o => o.node.kind = 2 && (bits o.node.arg 0 3 = p && bits o.node.arg 8 4 = k) with
      | some o => sampleBits (8 * w) ((x.adom d).open_ * o.value)
      | none => 0)

/-- The units at the outputs of the domain's TDM ports take a frame; a data unit is one block of 16 ticks (R401).
Assumption log, row 115. -/
def Chip.tdmTaps (x : Chip) (d : Nat) (outs : List NodeOut) : Chip × List (Nat × Byte) :=
  ((List.range 8).filter fun p => x.get AU_TDMn_CFG_DOM p = d).foldl (fun (a : Chip × List (Nat × Byte)) p =>
    (a.1.tapUnits (52 + p)).foldl (fun (b : Chip × List (Nat × Byte)) u =>
      let bs := x.tdmBytes d p outs
      if (x.adom d).tick = 15 then
        let r := cvUnitEnd u bs b.1
        (r.1, b.2 ++ r.2)
      else if (b.1.cvUnit u).inReset then b
      else (b.1.cvFeed u bs, b.2)) a) (x, [])

/-- AUDIO_TICK: the domain's program runs once; its samples go out, and every ramp moves on by a tick. Assumption log,
row 65. -/
def audioTick (d : Nat) (tdm : List TdmIn) (x : Chip) : Chip × List (Nat × Byte) :=
  let x := x.tdmFrames d tdm
  if !x.domLive d then (x, [])
  else
    let x := x.setAdom d fun s => { s with tdm := (tdm.map fun t => takenFrame t (s.tdm.getD 0 [])) :: s.tdm.take 3 }
    let a := x.adom d
    let outs := x.runGraph d
    let y := (outs.filter fun o => o.node.kind = 2).foldl (fun (y : Chip) o => y.tdmOut o.node (a.open_ * o.value)) x
    let ss := y.au.streams.map fun s => if x.epLive s.ep = some d then
        let s := x.takeCapture outs s
        { s with ramp := s.ramp.tick }
      else s
    let r := y.tdmTaps d outs
    (({ r.1 with au.streams := ss }.soundTick d outs).setAdom d fun s =>
      { s.onEdges fun e => { e with ramp := e.ramp.tick } with tick := (s.tick + 1) % 16, mute := s.mute.map (· - 1) }, r.2)

/-- ROUTE_RAMP_END: the removed edges are mute and the swap waits for the block boundary, or the new edges stand at their
gains and the change is complete. -/
def routeRampEnd (d : Nat) (x : Chip) : Chip :=
  let a := x.adom d
  if a.halted then x
  else if a.route = 1 then x.setAdom d fun s => { s with route := 2 }
  else if a.route = 3 then
    (x.setAdom d fun s => s.onEdges fun e => { e with ramp := e.ramp.finish }).routeEnd d true
  else x

/-- GAIN_RAMP_END: the gain stands at its target; a closing stream closes. -/
def gainRampEnd (r : RampRef) (x : Chip) : Chip :=
  match r with
  | .stream e =>
    match x.stream e.val with
    | none => x
    | some s => if x.on AU_EPe_STAT_CLOSING e.val then x.closeStream e.val else x.setStream { s with ramp := s.ramp.finish }
  | .edge d s t =>
    x.setAdom d.val fun q => { q with graph := q.graph.map fun g =>
      { g with edges := updFirst g.edges (fun e => e.src = s.toNat && e.dst = t.toNat) fun e => { e with ramp := e.ramp.finish } } }
  | .outputs d => x.setAdom d.val fun q => { q with mute := q.mute.map fun _ => 0 }

/-! ### Block boundaries (R291, R297, R301, R304, R311) -/

/-- BQ_COMMIT_GO: every set written since the last commit is taken; one that no running domain uses applies at once. -/
def bqCommitGo (v : Nat) (x : Chip) : Chip :=
  if !bitAt v 0 then x
  else
    let new := x.au.bqDirty.map fun i => (i, (List.range 5).map fun k => x.get AU_BQs_COEF (i * 5 + k))
    let old := x.au.bqWait.filter fun p => !new.any fun q => q.1 = p.1
    { x with au := { x.au with bqDirty := [], bqWait := old ++ new } }.takeBq fun i => !x.bqUsed i

/-- Time of the first sample of the block just moved: the boundary for playback, 16 samples earlier for capture
(R440). Assumption log, row 65. -/
def Chip.blockTime (x : Chip) (d dir : Nat) : Nat × Nat :=
  let t := if dir = 0 then x.now else x.now - 16 * tps / x.get AU_DOMx_RATE_HZ d
  (t / tps % 2 ^ 32, t % tps)

/-- The frames of a block in memory. -/
def Chip.readBlock (x : Chip) (mem : List Host.Cell) (e at_ : Nat) : List (List Rat) :=
  let fmt := x.get AU_EPe_STAT_FMT e
  let n := sampleBytes fmt
  let ch := x.get AU_EPe_STAT_CH e + 1
  let bs := readBytes mem x at_ (16 * ch * n)
  (List.range 16).map fun i => (List.range ch).map fun c => streamValue fmt (leNat ((bs.drop ((i * ch + c) * n)).take n))

/-- The bytes of a captured block. -/
def Chip.blockBytes (x : Chip) (s : AStream) : List Nat :=
  (List.range 16).flatMap fun i => (List.range (x.get AU_EPe_STAT_CH s.ep + 1)).flatMap fun c =>
    streamBits (x.get AU_EPe_STAT_FMT s.ep) ((s.block.getD i []).getD c 0)

/-- One block of an open stream (R303, R304): the next one read to be played, or the one just captured written, or
lost as an underrun (silence, and the first good block after it ramps in) or an overrun; HW advances by 16 and the
header is written after the block. Assumption log, rows 65, 67, 127. -/
def Chip.moveBlock (x : Chip) (mem : List Host.Cell) (d : Nat) (s : AStream) : Chip × List (Nat × Byte) :=
  let e := s.ep
  let dir := x.get AU_EPe_STAT_DIR e
  let fb := x.frameBytes e
  let r := x.ask ⟨0x30, s.fn, s.gen, false, s.buf, streamBytes s.k (x.get AU_EPe_STAT_CH e) (x.get AU_EPe_STAT_FMT e), dir = 1⟩
  if !r.2 then (r.1.setStream { s with block := [] }, [])
  else
    let appl := readLe mem x s.buf 4
    let gap := if dir = 0 then (appl + 2 ^ 32 - s.hw) % 2 ^ 32 else (s.hw + 2 ^ 32 - appl) % 2 ^ 32
    let good := if dir = 0 then decide (32 ≤ gap) else decide (16 ≤ 2 ^ s.k * 16 - gap)
    let t := x.blockTime d dir
    let hw := (s.hw + 16) % 2 ^ 32
    let told := s.period != 0 && s.since + 1 = s.period
    let place := fun (p : Nat) => s.buf + 64 + (p / 16 % 2 ^ s.k) * (16 * fb)
    let s' := { s with
      hw := hw, xrun := !good, since := if told then 0 else s.since + 1, soft := s.xrun
      block := if dir = 0 && good then x.readBlock mem e (place hw) else [] }
    let y := x.setStream s'
    let y := if good then y
      else
        let z := (y.sat AU_EPe_XRUN_COUNT e).raise 360
        if s.xrun then z else z.notice s.fn 0x7801 [e, s.hw]
    let y := if told then y.notice s.fn 0x7800 [e, hw, t.1, t.2] else y
    let y := y.set AU_EPe_STAT_FILL ((if dir = 0 then gap - 16 else min (gap + 16) (2 ^ s.k * 16)) / 16) e
    (y, storeBytes y (place s.hw) (if dir = 1 && good then x.blockBytes s else []) ++ (storeBytes y (s.buf + 8) (wordBytes hw) ++
      storeBytes y (s.buf + 16) (wordBytes t.1 ++ wordBytes t.2)))

/-- Domain C's rate is trimmed towards half the fill of its endpoint: the amount is free, within ±500 ppm, its sign
the one that moves the fill towards half (R291). Assumption log, row 65. -/
def Chip.trimC (x : Chip) : Chip :=
  let e := x.get AU_DOMx_CTL_SRC_EP 2
  match x.stream e with
  | none => x
  | some s =>
    let f := x.get AU_EPe_STAT_FILL e
    let up := if x.on AU_EPe_STAT_DIR e then decide (2 * f < 2 ^ s.k) else decide (2 ^ s.k < 2 * f)
    let m := x.free 13 % 5001
    (x.set AU_DOMx_TRIM_PPM10 (ofS 16 (if up then (m : Int) else -(m : Int))) 2).took

/-- Corners that glide move on by a block (R311). Assumption log, row 68. -/
def Chip.glideStep (x : Chip) (d : Nat) : Chip :=
  let named := fun (f : Nat) => match (x.adom d).graph with
    | some g => g.nodes.any fun n => n.kind = 11 && n.arg = f
    | none => false
  let gs := x.au.glides.map fun g => if named g.flt then { g with left := g.left - 16 } else g
  let y := gs.foldl (fun (y : Chip) g =>
    if named g.flt then
      let goal := clampN (y.get AU_HPFf_CFG_CORNER g.flt) 20 500
      let v : Int := if g.left = 0 then goal else
        g.start + ((goal : Int) - g.start) * ((g.total - g.left : Nat) : Int) / (g.total : Int)
      y.set AU_HPFf_STAT_ACT v.toNat g.flt
    else y) x
  { y with au := { y.au with glides := gs.filter fun g => g.left != 0 } }

/-- A halt ends at a block boundary: every edge ramps in from mute, and bridges fed again resume (R292, R312). -/
def Chip.domResume (x : Chip) (d : Nat) : Chip :=
  let r := x.rampTicks d
  let y := x.setAdom d fun s => {
    (s.onEdges fun e => if e.out then e else { e with ramp := Ramp.up (gainAmp e.gain) r }) with
    halted := false, resume := false, tick := 0, mute := none }
  y.lockExact

/-- AUDIO_BLOCK_BOUNDARY: blocks move, waiting coefficients and a ready route change apply, and a muted domain that is to
stop or be suspended does. -/
def audioBlock (d : Nat) (mem : List Host.Cell) (x : Chip) : Chip × List (Nat × Byte) :=
  if !x.on AU_DOMx_STAT_RUN d then (x, [])
  else if (x.adom d).halted then
    (if (x.adom d).stops != [] then x.domStopped d else if (x.adom d).resume then x.domResume d else x, [])
  else
    let y := (x.inc AU_DOMx_BLOCKS_COUNT d).setAdom d fun s => { s with tick := 0 }
    let y := (y.takeBq (y.usesBq d)).glideStep d
    let r := (y.au.streams.filter fun s => y.epLive s.ep = some d).foldl (fun (a : Chip × List (Nat × Byte)) s =>
      let q := a.1.moveBlock mem d s
      (q.1, a.2 ++ q.2)) (y, [])
    let z := if d = 2 && x.on AU_DOMx_CTL_SRC 2 then r.1.trimC else r.1
    let z := if (z.adom d).route = 2 then z.routeSwap d else z
    let a := z.adom d
    let z := if a.mute = some 0 && a.stops != [] then z.domStopped d
      else if a.mute = some 0 && a.suspend then
        ((z.setAdom d fun s => { s with halted := true, suspend := false }).fadeFrom d)
      else z
    (z, r.2)

/-! ### Domain C's clock (R292) -/

/-- AUDIO_CLOCK_LOST: FOLLOW mode, no frame sync for 4 periods. -/
def audioClockLost (x : Chip) : Chip :=
  if !x.on AU_DOMx_STAT_RUN 2 || (x.on AU_DOMx_CTL_SRC 2 || !x.on AU_DOMx_STAT_CLK_OK 2) then x
  else
    let y := (x.flag AU_DOMx_STAT_CLK_OK false 2).sat AU_DOMx_CLKLOSS_COUNT 2
    let y := (y.fadeFrom 2).setAdom 2 fun s => { s with halted := true, resume := false }
    (((y.sendZero 2).flag AU_TDMn_STAT_FS_SEEN false (y.get AU_DOMx_CTL_SRC_PORT 2)).raise 358).notice 0 0x7804 [2, 0]

/-- AUDIO_CLOCK_REGAINED: the program resumes at a block boundary. -/
def audioClockRegained (x : Chip) : Chip :=
  if !x.on AU_DOMx_STAT_RUN 2 || (x.on AU_DOMx_CTL_SRC 2 || x.on AU_DOMx_STAT_CLK_OK 2) then x
  else
    let y := (x.flag AU_DOMx_STAT_CLK_OK true 2).flag AU_TDMn_STAT_FS_SEEN true (x.get AU_DOMx_CTL_SRC_PORT 2)
    ((y.setAdom 2 fun s => { s with resume := true }).raise 359).notice 0 0x7804 [2, 1]

/-! ### Signal sounds (R308 to R310) -/

/-- A generator's node stands in a running graph: its domain. -/
def Chip.genDom (x : Chip) (kind g : Nat) : Option Nat :=
  (List.range 3).find? fun d => x.on AU_DOMx_STAT_RUN d && (match (x.adom d).graph with
    | some gr => gr.nodes.any fun n => n.kind = kind && n.arg = g
    | none => false)

/-- SIGNAL_DONE for a pattern that asked for it, under its own generation (R314, R88). -/
def Chip.signalDone (x : Chip) (beep : Bool) (g ending : Nat) (p : Option Pattern) : Chip :=
  match p with
  | some p => if bitAt (p.words.getD 0 0) 8 && x.genOf p.fn = p.gen then x.notice p.fn 0x7803 [g + 256 * b2n beep, ending] else x
  | none => x

/-- A tone generator's own state changes; LATCHED follows. -/
def Chip.setTone_ (x : Chip) (g : Nat) (f : ToneSt → ToneSt) : Chip :=
  let y := { x with au := { x.au with tones := updAt x.au.tones g f } }
  y.flag AU_TONEg_STAT_LATCHED (y.au.tones.getD g {}).latch.isSome g

/-- A pattern starts its attack. -/
def Chip.toneStart (x : Chip) (g : Nat) (p : Pattern) : Chip :=
  let n := bits (p.words.getD 5 0) 0 16
  (x.setTone_ g fun s =>
    { s with cur := some p, reps := if n = 0 then none else some n, ending := none, pos := 0, clock := 0 }).set
    AU_TONEg_STAT_PHASE 1 g

/-- The generator falls silent for good, or starts its latched pattern. -/
def Chip.toneOver (x : Chip) (g ending : Nat) : Chip :=
  let s := x.au.tones.getD g {}
  let y := match s.latch with
    | some p => (x.setTone_ g fun s => { s with latch := none }).toneStart g p
    | none => (x.setTone_ g fun s => { s with cur := none, ending := none }).set AU_TONEg_STAT_PHASE 0 g
  y.signalDone false g ending s.cur

/-- The latched pattern is discarded. Assumption log, row 68. -/
def Chip.toneUnlatch (x : Chip) (g : Nat) : Chip :=
  let s := x.au.tones.getD g {}
  (x.setTone_ g fun s => { s with latch := none }).signalDone false g 3 s.latch

/-- The current pattern's last release begins, or, in silence, it is over. -/
def Chip.toneRelease (x : Chip) (g ending : Nat) : Chip :=
  let ph := x.get AU_TONEg_STAT_PHASE g
  if ph = 1 || ph = 2 then
    let level := x.toneEnvelope ((x.genDom 7 g).getD 0) g
    (x.setTone_ g fun s => { s with ending := some ending, pos := 0, level := level }).set AU_TONEg_STAT_PHASE 3 g
  else if ph = 3 then x.setTone_ g fun s => { s with ending := some (s.ending.getD ending) }
  else if ph = 4 then x.toneOver g ending
  else x

/-- The first wrong word of TONE_PLAY, for a generator at `rate`. -/
def toneWrong (c : Call) (rate : Nat) : Option Nat :=
  let out := fun f => decide (f < 200) || decide (9 * rate < 2 * f)
  let on := bits (c.w 4) 0 16
  if bits (c.w 0) 4 2 = 3 then some 0
  else if out (c.w 1) then some 1
  else if c.w 2 != 0 && out (c.w 2) then some 2
  else if bits (c.w 3) 16 8 = 0 || bits (c.w 3) 24 8 = 0 then some 3
  else if on != 0 && on < bits (c.w 3) 16 8 then some 4
  else none

/-- TONE_PLAY (R309). Assumption log, row 68. -/
def tonePlay (c : Call) (x : Chip) : Chip :=
  x.perform opTonePlay c fun x =>
    let g := bits (c.w 0) 0 4
    let ph := x.get AU_TONEg_STAT_PHASE g
    let p : Pattern := ⟨(List.range 6).map c.w, c.fn, x.genOf c.fn⟩
    match x.genDom 7 g with
    | none => x.bad opTonePlay c 0
    | some d =>
      if x.get AU_TONEg_OWNER_FUNC g != c.fn && c.fn != 0 then x.bad opTonePlay c 0
      else if bitAt (c.w 5) 31 then ((x.toneUnlatch g).toneRelease g 2).ok opTonePlay c [3]
      else
        match toneWrong c (x.get AU_DOMx_RATE_HZ d) with
        | some i => x.bad opTonePlay c i
        | none =>
          let s := x.au.tones.getD g {}
          if ph = 0 || ph = 4 then ((x.toneStart g p).signalDone false g 1 s.cur).ok opTonePlay c [0]
          else if s.latch.isSome then
            let y := ((x.signalDone false g 1 s.latch).sat AU_TONEg_OVERRUN_COUNT g).raise 363
            (y.setTone_ g fun s => { s with latch := some p }).ok opTonePlay c [2]
          else ((x.toneRelease g 1).setTone_ g fun s => { s with latch := some p }).ok opTonePlay c [1]

/-- TONE_PHASE_END: attack, hold, release or silence ends (R308). -/
def tonePhaseEnd (g : Nat) (x : Chip) : Chip :=
  let s := x.au.tones.getD g {}
  match s.cur with
  | none => x
  | some p =>
    let go := fun (ph : Nat) => (x.setTone_ g fun s => { s with pos := 0, level := 1 }).set AU_TONEg_STAT_PHASE ph g
    let again := (x.setTone_ g fun s => { s with reps := s.reps.map (· - 1), pos := 0, clock := 0 }).set AU_TONEg_STAT_PHASE 1 g
    let last := s.reps = some 1
    match x.get AU_TONEg_STAT_PHASE g with
    | 1 => go 2
    | 2 => if bits (p.words.getD 4 0) 0 16 = 0 then x else go 3
    | 3 =>
      if s.ending.isSome || s.latch.isSome then x.toneOver g (s.ending.getD 1)
      else if bits (p.words.getD 4 0) 16 16 != 0 then go 4
      else if last then x.toneOver g 0
      else again
    | 4 => if last then x.toneOver g 0 else again
    | _ => x

/-- A beep generator's own state changes; ACTIVE follows. -/
def Chip.setBeep (x : Chip) (g : Nat) (f : BeepSt → BeepSt) : Chip :=
  let y := { x with au := { x.au with beeps := updAt x.au.beeps g f } }
  y.flag AU_BEEPb_STAT_ACTIVE (y.au.beeps.getD g {}).cur.isSome g

/-- A sequence starts its first burst. -/
def Chip.beepStart (x : Chip) (g : Nat) (p : Pattern) : Chip :=
  x.setBeep g fun _ => { cur := some p, left := bits (p.words.getD 2 0) 16 8 }

/-- BEEP_PLAY (R310). Assumption log, row 68. -/
def beepPlay (c : Call) (x : Chip) : Chip :=
  x.perform opBeepPlay c fun x =>
    let g := bits (c.w 0) 0 3
    let p : Pattern := ⟨(List.range 3).map c.w, c.fn, x.genOf c.fn⟩
    let s := x.au.beeps.getD g {}
    let dur := bits (c.w 2) 0 16
    match x.genDom 8 g with
    | none => x.bad opBeepPlay c 0
    | some d =>
      if x.get AU_BEEPb_OWNER_FUNC g != c.fn && c.fn != 0 then x.bad opBeepPlay c 0
      else if c.w 1 < 100 || 9 * x.get AU_DOMx_RATE_HZ d < 20 * c.w 1 then x.bad opBeepPlay c 1
      else if dur < 5 || (2000 < dur || bits (c.w 2) 16 8 = 0) then x.bad opBeepPlay c 2
      else if s.cur.isSome && !s.gap then
        ((x.setBeep g fun s => { s with next := some p }).signalDone true g 1 s.next).ok opBeepPlay c [1]
      else ((x.beepStart g p).signalDone true g 1 s.cur).ok opBeepPlay c [0]

/-- BEEP_BURST_END: the burst ends at a zero crossing; a sequence that follows starts at once. -/
def beepBurstEnd (g : Nat) (x : Chip) : Chip :=
  let s := x.au.beeps.getD g {}
  match s.cur with
  | none => x
  | some p =>
    if s.gap then x
    else
      match s.next with
      | some q => (x.beepStart g q).signalDone true g 1 s.cur
      | none =>
        if s.stop || s.left ≤ 1 then (x.setBeep g fun _ => {}).signalDone true g (if s.stop then 2 else 0) s.cur
        else x.setBeep g fun s => { s with left := s.left - 1, gap := bits (p.words.getD 2 0) 24 8 != 0, clock := 0 }

/-- BEEP_GAP_END: the next burst starts at phase zero. -/
def beepGapEnd (g : Nat) (x : Chip) : Chip :=
  if (x.au.beeps.getD g {}).gap then x.setBeep g fun s => { s with gap := false, clock := 0 } else x

/-! ### Withdrawal, power and reset (R92, R312) -/

/-- A function's streams ramp to close, its tones release, its beeps end with their burst. Skein bindings stay. -/
def Chip.auWithdraw (x : Chip) (f : Nat) : Chip :=
  let y := (x.au.streams.filter fun s => s.fn = f && !x.on AU_EPe_STAT_SKEIN s.ep).foldl (fun (y : Chip) s => y.beginClose s.ep) x
  let y := ((List.range 16).filter fun g => y.get AU_TONEg_OWNER_FUNC g = f).foldl (fun (y : Chip) g =>
    (y.toneUnlatch g).toneRelease g 2) y
  ((List.range 8).filter fun g => y.get AU_BEEPb_OWNER_FUNC g = f).foldl (fun (y : Chip) g =>
    let s := y.au.beeps.getD g {}
    let y := y.signalDone true g 3 s.next
    if s.gap then (y.setBeep g fun _ => {}).signalDone true g 2 s.cur
    else y.setBeep g fun s => { s with next := none, stop := s.cur.isSome }) y

/-- Streams of a function that ramp to close: pieces of its drain (R108). -/
def Chip.auOld (x : Chip) (f : Nat) : Nat :=
  (x.au.streams.filter fun s => s.fn = f && (s.gen != x.genOf f && !x.on AU_EPe_STAT_SKEIN s.ep)).length

/-- Hold or Park entry: route changes are cut, latched tones discarded, outputs ramp to mute (R312). -/
def Chip.auSuspend (x : Chip) : Chip :=
  let y := (List.range 16).foldl (fun (y : Chip) g => y.toneUnlatch g) x
  ((List.range 3).filter fun d => y.on AU_DOMx_STAT_RUN d).foldl (fun (y : Chip) d =>
    (y.routeCut d).setAdom d fun s =>
      if s.halted then { s with resume := false } else { s.fadeOut (x.rampTicks d) with suspend := true }) y

/-- Every running domain is suspended. -/
def Chip.auSuspended (x : Chip) : Bool := (List.range 3).all fun d => !x.on AU_DOMx_STAT_RUN d || (x.adom d).halted

/-- Return to Run or Dim: each domain resumes at a block boundary. -/
def Chip.auResume (x : Chip) : Chip :=
  ((List.range 3).filter fun d => x.on AU_DOMx_STAT_RUN d).foldl (fun (y : Chip) d =>
    y.setAdom d fun s => if s.halted then { s with resume := y.on AU_DOMx_STAT_CLK_OK d } else { s with suspend := false, mute := none }) x

/-- A Subsystem reset of audio (R312): every domain stopped, zero on every output, streams closed, graphs as
commissioned. -/
def Chip.auReset (x : Chip) : Chip :=
  let y := (List.range 3).foldl (fun (y : Chip) d => y.sendZero d) x
  let y := (y.au.streams.filter fun s => !y.on AU_EPe_STAT_SKEIN s.ep).foldl (fun (y : Chip) s => y.closeStream s.ep) y
  let calls := (List.range 3).flatMap fun d => (y.adom d).stops
  let dom := (List.range 3).map fun d =>
    ({ graph := (x.au.saved.find? fun p => p.1 = d).map (·.2) } : ADom)
  let y := { y with au := { streams := y.au.streams, bqDirty := y.au.bqDirty, bq := y.au.bq, saved := y.au.saved, dom := dom } }
  let y := (List.range 3).foldl (fun (y : Chip) d =>
    (y.resetFields [AU_DOMx_STAT_RUN, AU_DOMx_STAT_CLK_OK, AU_DOMx_STAT_ROUTE_PEND, AU_DOMx_TRIM_PPM10,
      AU_DOMx_BLOCKS_COUNT, AU_DOMx_CLKLOSS_COUNT] d).setPend AU_DOMx_STAT_PEND_RESTART d false) y
  let y := (List.range 64).foldl (fun (y : Chip) e => y.resetFields [AU_EPe_XRUN_COUNT] e) y
  let y := (List.range 16).foldl (fun (y : Chip) g => y.resetFields [AU_TONEg_STAT_PHASE, AU_TONEg_STAT_LATCHED,
    AU_TONEg_OVERRUN_COUNT, AU_HPFf_STAT_ACT, AU_BRk_STAT_LOCK, AU_BRk_STAT_FADED, AU_BRk_XRUN_COUNT] g) y
  let y := (List.range 8).foldl (fun (y : Chip) g => y.resetFields [AU_BEEPb_STAT_ACTIVE, AU_TDMn_SLIP_COUNT, AU_TDMn_STAT_FS_SEEN] g) y
  let y := ((List.range 3).filter fun d => x.on AU_DOMx_STAT_RUN d).foldl (fun (y : Chip) d => y.raise (352 + d)) y
  calls.foldl (fun (z : Chip) c => z.ok opStopAudio c []) (y.flag AU_BQ_COMMIT_GO false).updStore

/-! ### The commands -/

/-- AUDIO_GRAPH_LOAD. -/
def execAudioGraphLoad (c : Call) (s : State) : Host.Outcome State Fault Refusal := s.onChipM (audioGraphLoad c)
/-- START_AUDIO. -/
def execStartAudio (c : Call) (s : State) : Host.Outcome State Fault Refusal := s.onChip (startAudio c)
/-- STOP_AUDIO. -/
def execStopAudio (c : Call) (s : State) : Host.Outcome State Fault Refusal := s.onChip (stopAudio c)
/-- AUDIO_GAIN_SET. -/
def execAudioGainSet (c : Call) (s : State) : Host.Outcome State Fault Refusal := s.onChip (audioGainSet c)
/-- AUDIO_STREAM_OPEN. -/
def execAudioStreamOpen (c : Call) (s : State) : Host.Outcome State Fault Refusal := s.onChip (audioStreamOpen c)
/-- AUDIO_STREAM_CLOSE. -/
def execAudioStreamClose (c : Call) (s : State) : Host.Outcome State Fault Refusal := s.onChip (audioStreamClose c)
/-- TONE_PLAY. -/
def execTonePlay (c : Call) (s : State) : Host.Outcome State Fault Refusal := s.onChip (tonePlay c)
/-- BEEP_PLAY. -/
def execBeepPlay (c : Call) (s : State) : Host.Outcome State Fault Refusal := s.onChip (beepPlay c)
/-- AUDIO_TICK. -/
def execAudioTick (t : DomTick) (s : State) : Host.Outcome State Fault Refusal :=
  s.onBoth fun _ x => audioTick t.dom.val t.tdm x
/-- GAIN_RAMP_END. -/
def execGainRampEnd (ramp : RampRef) (s : State) : Host.Outcome State Fault Refusal := s.onChip (gainRampEnd ramp)
/-- ROUTE_RAMP_END. -/
def execRouteRampEnd (dom : Fin 3) (s : State) : Host.Outcome State Fault Refusal := s.onChip (routeRampEnd dom.val)
/-- AUDIO_CLOCK_LOST. -/
def execAudioClockLost (s : State) : Host.Outcome State Fault Refusal := s.onChip audioClockLost
/-- AUDIO_CLOCK_REGAINED. -/
def execAudioClockRegained (s : State) : Host.Outcome State Fault Refusal := s.onChip audioClockRegained
/-- BRIDGE_LOCK. -/
def execBridgeLock (bridge : Fin 16) (s : State) : Host.Outcome State Fault Refusal := s.onChip (bridgeLock bridge.val)
/-- TONE_PHASE_END. -/
def execTonePhaseEnd (gen : Fin 16) (s : State) : Host.Outcome State Fault Refusal := s.onChip (tonePhaseEnd gen.val)
/-- BEEP_BURST_END. -/
def execBeepBurstEnd (gen : Fin 8) (s : State) : Host.Outcome State Fault Refusal := s.onChip (beepBurstEnd gen.val)
/-- BEEP_GAP_END. -/
def execBeepGapEnd (gen : Fin 8) (s : State) : Host.Outcome State Fault Refusal := s.onChip (beepGapEnd gen.val)
/-- BQ_COMMIT_GO. -/
def execBqCommitGo (value : Word) (s : State) : Host.Outcome State Fault Refusal := s.onChip (bqCommitGo value.toNat)

end Sys2Proof.Machine
end

