-- ==== Sys2Proof/Machine/Crypto.lean ====
section
/-!
DEFINITION. SHA-256 and HMAC-SHA-256 over byte lists. The spec names them (R178, R471, R479) and does not print them:
the algorithms are the published ones, FIPS 180-4 and FIPS 198-1 (PRESUMED, assumption log row 5).
-/
namespace Sys2Proof.Machine

/-- A big-endian word from up to four bytes. -/
def beWord (bs : List Nat) : Nat := bs.foldl (fun a b => a * 256 + b % 256) 0

/-- The big-endian bytes of a word. -/
def beBytes (w : Nat) : List Nat := [w / 16777216 % 256, w / 65536 % 256, w / 256 % 256, w % 256]

/-- The largest `r` below `lo + 2 ^ bits` with `r ^ k ≤ n`, from `lo`, settled a bit at a time. -/
def rootFrom (k n : Nat) (bits lo : Nat) : Nat :=
  match bits with
  | 0 => lo
  | b + 1 => rootFrom k n b (if (lo + 2 ^ b) ^ k ≤ n then lo + 2 ^ b else lo)

/-- The first 32 bits of the fraction of the `k`th root of `p`. -/
def rootFraction (k p : Nat) : Nat := rootFrom k (p * 2 ^ (32 * k)) 37 0 % 2 ^ 32

/-- The primes below 312, of which SHA-256 takes its constants. -/
def hashPrimes : List Nat :=
  (List.range 312).filter fun p => decide (1 < p) && (List.range 18).all fun d => decide (d < 2) || (p % d != 0 || p == d)

/-- A word turned right by each amount of the list, the results added without carry, with the word moved right by `shift`
places where it is not 0. -/
def turned (turns : List Nat) (shift w : Nat) : Nat :=
  turns.foldl (fun acc n => acc.xor (w * (2 ^ 32 + 1) / 2 ^ n % 2 ^ 32)) (if shift = 0 then 0 else w / 2 ^ shift)

/-- Where the compression of a block stands. The working variables of FIPS 180-4 are two runs of words, each the last
four of its kind: a to d, and e to h. -/
structure Compress where
  /-- a to d: the newest first. -/
  upper : List Nat
  /-- e to h: the newest first. -/
  lower : List Nat
  /-- The next sixteen words of the message schedule. -/
  window : List Nat

/-- One round under a constant: each run gains a word, and so does the schedule. -/
def Compress.round (s : Compress) (k : Nat) : Compress :=
  let u := fun i => s.upper.getD i 0
  let l := fun i => s.lower.getD i 0
  let w := fun i => s.window.getD i 0
  let chosen := (l 2).xor ((l 0).land ((l 1).xor (l 2)))
  let most := ((u 0).land (u 1)).lor ((u 2).land ((u 0).lor (u 1)))
  let mixed := l 3 + turned [6, 11, 25] 0 (l 0) + chosen + k + w 0
  { upper := (mixed + turned [2, 13, 22] 0 (u 0) + most) % 2 ^ 32 :: s.upper.take 3
    lower := (mixed + u 3) % 2 ^ 32 :: s.lower.take 3
    window := s.window.drop 1 ++ [(w 0 + turned [7, 18] 3 (w 1) + w 9 + turned [17, 19] 10 (w 14)) % 2 ^ 32] }

/-- The hash value after one more block of sixteen words. -/
def absorb (hash block : List Nat) : List Nat :=
  let s := (hashPrimes.map (rootFraction 3)).foldl Compress.round ⟨hash.take 4, hash.drop 4, block⟩
  hash.zipWith (fun a b => (a + b) % 2 ^ 32) (s.upper ++ s.lower)

/-- A list in pieces of `k`, at most `n` of them. -/
def pieces {α : Type} (k : Nat) : Nat → List α → List (List α)
  | 0, _ => []
  | n + 1, l => if l.isEmpty then [] else l.take k :: pieces k n (l.drop k)

/-- The message with its end mark, zeros and bit count, as blocks of sixteen words. -/
def hashBlocks (bs : List Nat) : List (List Nat) :=
  let fill := List.replicate ((119 - bs.length % 64) % 64) 0
  let bytes := bs ++ 128 :: (fill ++ (beBytes (bs.length / 2 ^ 29) ++ beBytes (8 * bs.length % 2 ^ 32)))
  (pieces 64 bytes.length bytes).map fun b => (pieces 4 16 b).map beWord

/-- SHA-256, 32 bytes. Assumption log, row 5. -/
def sha256 (bs : List Nat) : List Nat :=
  ((hashBlocks bs).foldl absorb ((hashPrimes.take 8).map (rootFraction 2))).flatMap beBytes

/-- HMAC-SHA-256, 32 bytes. Assumption log, row 5. -/
def hmacSha256 (key msg : List Nat) : List Nat :=
  let k0 := if key.length > 64 then sha256 key else key
  let k := k0 ++ List.replicate (64 - k0.length) 0
  sha256 (k.map (fun b => b.xor 0x5c) ++ sha256 (k.map (fun b => b.xor 0x36) ++ msg))

end Sys2Proof.Machine
end

