-- ==== Sys2Proof/Machine/P256.lean ====
section
/-!
DEFINITION. ECDSA over P-256 with SHA-256, which firmware images and signed content records carry (R454, R507). The spec does
not print it: curve and check are the published ones, FIPS 186 (PRESUMED, assumption log row 5).
-/
namespace Sys2Proof.Machine

/-- The field's prime. -/
def p256p : Nat := 0xffffffff00000001000000000000000000000000ffffffffffffffffffffffff
/-- The curve's constant b; a is −3. -/
def p256b : Nat := 0x5ac635d8aa3a93e7b3ebbd55769886bc651d06b0cc53b0f63bce3c3e27d2604b
/-- The order of the base point. -/
def p256n : Nat := 0xffffffff00000000ffffffffffffffffbce6faada7179e84f3b9cac2fc632551
/-- The base point. -/
def p256g : Nat × Nat :=
  (0x6b17d1f2e12c4247f8bce6e563a440f277037d812deb33a0f4a13945d898c296,
   0x4fe342e2fe1a7f9b8ee7eb4a7c0f9e162bce33576b315ececbb6406837bf51f5)

/-- `b` to the power `e` modulo `m`, for an exponent of up to `n` bits. -/
def powMod (m : Nat) (n : Nat) (b e : Nat) : Nat :=
  match n with
  | 0 => 1 % m
  | k + 1 =>
    let r := powMod m k (b * b % m) (e / 2)
    if e % 2 = 1 then b * r % m else r

/-- The inverse modulo a prime. -/
def invMod (m a : Nat) : Nat := powMod m 256 a (m - 2)

/-- A point, none at infinity. -/
abbrev Point := Option (Nat × Nat)

/-- A point with coordinates below the prime lies on the curve. -/
def onCurve (x y : Nat) : Bool :=
  x < p256p && (y < p256p && y * y % p256p = (x * x * x + (p256p - 3) * x + p256b) % p256p)

/-- The line through two points with a slope gives the third. -/
def chord (l x1 y1 x2 : Nat) : Point :=
  let x3 := (l * l + 2 * p256p - x1 - x2) % p256p
  some (x3, (l * (x1 + p256p - x3) + p256p - y1) % p256p)

/-- Sum of two points. -/
def addPt (a b : Point) : Point :=
  match a, b with
  | none, q => q
  | p, none => p
  | some p, some q =>
    if p.1 = q.1 then
      if (p.2 + q.2) % p256p = 0 then none
      else chord ((3 * p.1 * p.1 + p256p - 3) * invMod p256p (2 * p.2) % p256p) p.1 p.2 q.1
    else chord ((q.2 + p256p - p.2) * invMod p256p ((q.1 + p256p - p.1) % p256p) % p256p) p.1 p.2 q.1

/-- `k` times a point, for a factor of up to `n` bits. -/
def mulPt (n k : Nat) (a : Point) : Point :=
  match n with
  | 0 => none
  | m + 1 =>
    let r := mulPt m (k / 2) (addPt a a)
    if k % 2 = 1 then addPt a r else r

/-- The signature, r then s, over the message verifies under the public key, X then Y; each a 32-byte big-endian integer. -/
def ecdsaOk (key sig msg : List Nat) : Bool :=
  let qx := beWord (key.take 32)
  let qy := beWord ((key.drop 32).take 32)
  let r := beWord (sig.take 32)
  let s := beWord ((sig.drop 32).take 32)
  let e := beWord (sha256 msg)
  let w := invMod p256n s
  onCurve qx qy && (r != 0 && (decide (r < p256n) && (s != 0 && (decide (s < p256n) &&
    (match addPt (mulPt 256 (e * w % p256n) (some p256g)) (mulPt 256 (r * w % p256n) (some (qx, qy))) with
     | some p => p.1 % p256n = r
     | none => false)))))

end Sys2Proof.Machine
end

