-- ==== Sys2Proof/Machine/Command.lean ====
section
/-!
DEFINITION. Class 0x0 opcodes, doorbells, ring enables, packet fetch, timeouts and completion (R52 to R80, R571, R572).
-/
namespace Sys2Proof.Machine

/-! ### Class 0x0 opcodes (R571) -/

/-- NOP: OK. -/
def nopMeaning (c : Call) (x : Chip) : Chip := x.perform opNop c fun x => x.ok opNop c []

/-- VERSION_QUERY: the running version, GL_ID.STEP, RB_FW.ACTIVE. -/
def versionQuery (c : Call) (x : Chip) : Chip :=
  x.perform opVersionQuery c fun x =>
    x.ok opVersionQuery c [x.get GL_FWVER_VERSION, x.get GL_ID_STEP, x.get RB_FW_ACTIVE]

/-- BARRIER: it is dispatched only after every earlier packet of its ring has completed (R76), so it is OK at once. -/
def barrier (c : Call) (x : Chip) : Chip := x.perform opBarrier c fun x => x.ok opBarrier c []

/-- The lowest-numbered free fence (R572). -/
def Chip.freeFence (x : Chip) : Option Nat := firstBelow (fun i => (x.fence i).isNone) 0 4096

/-- FENCE_ALLOC: the lowest-numbered free fence, owned by the issuer with value 0 and no grants (R572). -/
def fenceAlloc (c : Call) (x : Chip) : Chip :=
  x.perform opFenceAlloc c fun x =>
    match x.freeFence with
    | some i =>
      let x := { x with ce := { x.ce with fences := x.ce.fences ++ [Fence.mk i c.fn.val false false 0 []] } }
      x.ok opFenceAlloc c [i]
    | none => x.done opFenceAlloc c stNoResource [1]

/-- A Skein binding names the fence (R338, R571): a bound stream with FENCE_EN. -/
def Chip.skeinNamesFence (x : Chip) (i : Nat) : Bool :=
  (List.range 128).any fun n => x.get SKn_STs_CFG_KIND n != 0 && (x.on SKn_STs_CFG_FENCE_EN n && x.get SKn_STs_RING_FENCE n = i)

/-- FENCE_FREE: the fence is orphaned at once (R572). -/
def fenceFree (c : Call) (x : Chip) : Chip :=
  x.perform opFenceFree c fun x =>
    match x.fence (c.w 0) with
    | some f =>
      if 4096 ≤ c.w 0 || (!x.ownsFence c.fn f.id || x.skeinNamesFence f.id) then x.bad opFenceFree c 0
      else (x.orphanFence f false).ok opFenceFree c []
    | none => x.bad opFenceFree c 0

/-- FENCE_SIGNAL: the fence takes a value not below its current one; a smaller one is counted (R198, R571). -/
def fenceSignal (c : Call) (x : Chip) : Chip :=
  x.perform opFenceSignal c fun x =>
    if 4096 ≤ c.w 0 || !x.ownsFence c.fn (c.w 0) then x.bad opFenceSignal c 0
    else (x.signalFence (c.w 0) (c.q 1)).ok opFenceSignal c [b2n (decide (c.q 1 < x.fenceValue (c.w 0)))]

/-- FENCE_SHARE: a grant held by one function under its current generation (R571, R572). -/
def fenceShare (c : Call) (x : Chip) : Chip :=
  x.perform opFenceShare c fun x =>
    if 4096 ≤ c.w 0 || !x.ownsFence c.fn (c.w 0) then x.bad opFenceShare c 0
    else if 64 < c.w 1 || x.get FNf_STAT_STATE (c.w 1) = 0 then x.bad opFenceShare c 1
    else match x.fence (c.w 0) with
      | some f =>
        if c.w 1 = c.fn || f.grants.contains (c.w 1) then x.ok opFenceShare c []
        else (x.setFence { f with grants := f.grants ++ [c.w 1] }).ok opFenceShare c []
      | none => x.bad opFenceShare c 0

/-! ### Doorbells and ring enables -/

/-- The function is on the bus, so that its registers are reached. -/
def Chip.present (x : Chip) (f : Nat) : Bool := x.get FNf_STAT_STATE f != 0

/-- The largest SIZE_LOG2 of a ring (R52). -/
def ringMaxLog (k : Nat) : Nat := if k = 0 then 6 else 16

/-- A pointer value has an index bit set at or above SIZE_LOG2 (R57). -/
def ptrTooLarge (size p : Nat) : Bool := decide (size ≤ ptrIdx p)

/-- DB_RINGk: the producer pointer moves, or the value is refused with BAD_DB and source 32; its present value has no
effect (R57). Assumption log, row 17. -/
def dbRing (f k v : Nat) (x : Chip) : Chip :=
  if !x.present f then x
  else
    let p := v % 2 ^ 17
    let size := x.ringSize f k
    let tail := x.get RINGk_TAIL_PTR (ringIx f k)
    let head := x.get RINGk_HEAD_PTR (ringIx f k)
    if p = tail then x
    else if ptrTooLarge size p || (size < ptrDist size p head || ptrDist size p head < ptrDist size tail head) then
      (x.flag RINGk_STAT_BAD_DB true (ringIx f k)).raise 32
    else
      let y := x.set RINGk_TAIL_PTR p (ringIx f k)
      if sparseGet y.ce.need (ringIx f k) 0 ≤ y.ringUsed f k then
        { y.flag RINGk_STAT_PARTIAL false (ringIx f k) with
          ce := { y.ce with need := sparseSet y.ce.need (ringIx f k) 0 0 } }
      else y

/-- DB_REPLY: the consumer pointer of ring 4 moves, or the value is refused with BAD_DB; replies that waited for room
are written; its present value has no effect (R57, R68). Assumption log, row 17. -/
def dbReply (f v : Nat) (x : Chip) : Chip :=
  if !x.present f then x
  else
    let c := v % 2 ^ 17
    let size := x.ringSize f 4
    let tail := x.get RINGk_TAIL_PTR (ringIx f 4)
    let head := x.get RINGk_HEAD_PTR (ringIx f 4)
    if c = head then x
    else if ptrTooLarge size c || ptrDist size tail head < ptrDist size tail c then
      x.flag RINGk_STAT_BAD_DB true (ringIx f 4)
    else
      let y := (x.set RINGk_HEAD_PTR c (ringIx f 4)).setFull f
      (y.retire f y.ce.pkts.length).release

/-- RINGk_CTL.EN set while it is 0 (R54): SIZE_LOG2 and WB_EN take the written values; a size out of range leaves EN at 0
and sets CFG_ERR; otherwise the pointers reset. Where EN is already 1 only WB_EN is writable. -/
def ringEnable (f k size : Nat) (wb : Bool) (x : Chip) : Chip :=
  if !x.present f then x
  else
    let x := x.flag RINGk_CTL_WB_EN wb (ringIx f k)
    if x.on RINGk_CTL_EN (ringIx f k) then x
    else
      let y := x.set RINGk_CTL_SIZE_LOG2 size (ringIx f k)
      if size < 4 || ringMaxLog k < size then y.flag RINGk_STAT_CFG_ERR true (ringIx f k)
      else
        let z := ((y.flag RINGk_CTL_EN true (ringIx f k)).set RINGk_HEAD_PTR 0 (ringIx f k)).set RINGk_TAIL_PTR 0 (ringIx f k)
        if k = 4 then let z := z.setFull f; (z.retire f z.ce.pkts.length).release else z

/-- RINGk_CTL.EN cleared (R54): fetching stops; packets not yet fetched are abandoned. -/
def ringDisable (f k : Nat) (x : Chip) : Chip :=
  if !x.present f then x
  else
    { (x.flag RINGk_CTL_EN false (ringIx f k)).flag RINGk_STAT_PARTIAL false (ringIx f k) with
      ce := { x.ce with need := sparseSet x.ce.need (ringIx f k) 0 0 } }

/-! ### Fetch (R59 to R63, R68 to R72) -/

/-- Slots of a packet of `n` parameter words (R60). Assumption log, row 16. -/
def packetSlots (n : Nat) : Nat := ceilDiv (16 + 4 * n) 64

/-- Ring `k` of `f` has a packet ready (R68, R69): the function is Enabled, both rings enabled, at least 8 reply slots
free, slots exposed, and the ring neither PARTIAL nor holding an undispatched packet. Assumption log, row 123. -/
def Chip.ringReady (x : Chip) (f k : Nat) : Bool :=
  x.get FNf_STAT_STATE f = 2 && (x.on RINGk_CTL_EN (ringIx f k) && (x.replyRoom f 8 &&
    (decide (0 < x.ringUsed f k) && (decide (sparseGet x.ce.need (ringIx f k) 0 ≤ x.ringUsed f k) &&
    (!(x.ce.pkts.any fun p => p.call.fn = f && (p.call.ring = k && p.isWaiting)) &&
    (x.get GL_MODE_POWER != 3 && (!x.kennel || f = 0)))))))

/-- The ring the engine fetches from next (R69): by precedence, round robin within a level; a setup or background ring
whose function has had 14 fetches since it was served is served first, so that each gets one in every 16. Assumption
log, row 15. -/
def Chip.chooseRing (x : Chip) : Option (Nat × Nat) :=
  ((List.range 4).findSome? fun k =>
    (((List.range 65).map fun i => (x.ce.rr.getD k 64 + 1 + i) % 65).find? fun f => x.ringReady f k).map
      fun f => (f, k)).map fun p =>
    if x.ringReady p.1 2 && decide (14 ≤ sparseGet x.ce.starve (2 * p.1) 0) then (p.1, 2)
    else if x.ringReady p.1 3 && decide (14 ≤ sparseGet x.ce.starve (2 * p.1 + 1) 0) then (p.1, 3)
    else p

/-- The fetch from ring `k` of `f` is counted for the order of R69. Assumption log, row 15. -/
def Chip.served (x : Chip) (f k : Nat) : Chip :=
  let bump := fun (r key : Nat) (l : List (Nat × Nat)) =>
    sparseSet l key (if k = r then 0 else if x.ringReady f r then sparseGet l key 0 + 1 else 0) 0
  { x with ce := { x.ce with
      rr := updAt x.ce.rr k (fun _ => f),
      starve := bump 3 (2 * f + 1) (bump 2 (2 * f) x.ce.starve) } }

/-- The bytes of a packet with bytes 12 to 15 taken as zero (R63). -/
def packetBytes (p : Packet) : List Nat :=
  [p.opcode.toNat % 256, p.opcode.toNat / 256, p.flags.toNat, p.gen.toNat, p.seq.toNat % 256, p.seq.toNat / 256,
   p.plen.toNat % 256, p.plen.toNat / 256] ++ wordBytes p.tag.toNat ++ [0, 0, 0, 0] ++
  p.words.flatMap fun w => wordBytes w.toNat

/-- The wait prefix of a packet whose wait flag is set (R62): its fence and value. -/
def packetWait (p : Packet) : Option (Nat × Nat) :=
  if bitAt p.flags.toNat 1 then
    some ((p.words.getD 0 0).toNat, (p.words.getD 1 0).toNat + 4294967296 * (p.words.getD 2 0).toNat)
  else none

/-- The packet as the block that performs it sees it. Assumption log, row 122. -/
def packetCall (f : Fin 65) (k : Fin 4) (p : Packet) : Call :=
  ⟨f, k, p.gen, p.seq, p.tag, bitAt p.flags.toNat 0, if bitAt p.flags.toNat 1 then p.words.drop 3 else p.words, false⟩

/-- An Installer or Maker opcode enters the journal at whatever step it is refused (R478). -/
def Chip.journalRefused (x : Chip) (p : Packet) (c : Call) (status : Nat) : Chip :=
  match opOf p.opcode.toNat with
  | some o => x.journalOp o c status
  | none => x

/-- A packet that a step of R72 refuses completes with its status, in the order of its ring and class (R76).
Assumption log, row 16. -/
def Chip.refuse (x : Chip) (p : Packet) (c : Call) (status : Nat) (ws : List Nat) : Chip :=
  let y := (x.pushPkt ⟨p.opcode.toNat, c, none, .dispatched⟩).journalRefused p c status
  y.conclude x.ce.pkts.length status ws

/-- A malformed packet (R72, R80): every slot up to the producer pointer is discarded, MALFORMED is set, one reply is
written. -/
def Chip.flushRing (x : Chip) (f k : Nat) (p : Packet) (status w0 : Nat) : Chip :=
  let n := x.ringUsed f k
  let y := (x.set RINGk_HEAD_PTR (x.get RINGk_TAIL_PTR (ringIx f k)) (ringIx f k)).flag RINGk_STAT_MALFORMED true (ringIx f k)
  let y := ((y.sat CE_MAL_CNT_COUNT).raise 33).writeBack f k
  if h : f < 65 ∧ k < 4 then y.refuse p (packetCall ⟨f, h.1⟩ ⟨k, h.2⟩ p) status [w0, n] else y

/-- Checks 3 to 12 on a packet whose slots have been consumed, and its dispatch (R70 to R72). Assumption log, rows 16,
122. -/
def Chip.admitPacket (x : Chip) (f : Fin 65) (k : Fin 4) (p : Packet) : Chip :=
  let c := packetCall f k p
  if bits p.flags.toNat 4 4 != 0 || bitAt p.flags.toNat 2 != decide (k = 0) then x.refuse p c stBadParam [0xFFFFFFFE]
  else if p.gen.toNat != x.get FNf_GEN_GEN f then x.refuse p c stStale [x.get FNf_GEN_GEN f]
  else if x.get FNf_QDEPTH_DEPTH f ≤ x.get FNf_QUSE_USE f then
    ((x.writeReply f p.opcode.toNat stQuota p.gen.toNat p.seq.toNat p.tag.toNat [0]).sat FNf_QUOTA_REF_COUNT f).journalRefused p c stQuota
  else match opOf p.opcode.toNat with
    | none => x.refuse p c stBadOpcode [p.opcode.toNat]
    | some o =>
      if bitAt p.flags.toNat 1 && p.words.length < 3 then x.refuse p c stBadLength [p.plen.toNat]
      else match x.refusal o c p.plen.toNat with
        | some r => x.refuse p c r.1 r.2
        | none =>
          match packetWait p with
          | some w =>
            if 4096 ≤ w.1 || !x.mayWait f w.1 then x.refuse p c stBadParam [0]
            else if x.fenceOrphan w.1 then x.refuse p c stTimeout [0]
            else ((x.pushPkt ⟨o.code, c, some w, .waiting⟩).setFenceWait f k).release
          | none => (x.pushPkt ⟨o.code, c, none, .waiting⟩).release

/-- PACKET_FETCH: the engine takes the next packet, as host memory returned it, from the ring it chose, and makes the
checks of R72 in order. Assumption log, row 16. -/
def packetFetch (p : Packet) (x : Chip) : Chip :=
  match x.chooseRing with
  | none => x
  | some (f, k) =>
    let x := x.served f k
    let need := packetSlots p.plen.toNat
    let crcBad := bitAt p.flags.toNat 3 && crcOf 0 (packetBytes p) != p.crc.toNat
    if 1024 < p.plen.toNat || x.ringSize f k < need then x.flushRing f k p stBadLength p.plen.toNat
    else if x.ringUsed f k < need then
      { x.flag RINGk_STAT_PARTIAL true (ringIx f k) with
        ce := { x.ce with need := sparseSet x.ce.need (ringIx f k) need 0 } }
    else if crcBad then x.flushRing f k p stBadParam 0xFFFFFFFF
    else
      let y := (x.set RINGk_HEAD_PTR (ptrAdd (x.ringSize f k) (x.get RINGk_HEAD_PTR (ringIx f k)) need) (ringIx f k)).writeBack f k
      if h : f < 65 ∧ k < 4 then y.admitPacket ⟨f, h.1⟩ ⟨k, h.2⟩ p else y

/-! ### Timeouts and completion -/

/-- FENCE_WAIT_TIMEOUT: the packet of ring `k` that waits on its prefix ends with TIMEOUT, result word 0 = 0 (R62). -/
def fenceWaitTimeout (f k : Nat) (x : Chip) : Chip :=
  match x.ce.pkts.findIdx? fun p => p.call.fn = f && (p.call.ring = k && (p.isWaiting && p.wait.isSome)) with
  | some i => ((x.conclude i stTimeout [0]).setFenceWait f k).reapFences.release
  | none => x

/-- Opcodes that R78 exempts from CE_EXEC_TMO. -/
def execExempt (p : Pkt) : Bool :=
  [opFwSlotCommit.code, opFwSlotWrite.code, opRecoveryLoad.code].contains p.opcode

/-- COMMAND_COMPLETE on ring `k` of `f`. -/
def commandComplete (f k : Nat) (x : Chip) : Chip := (x.complete f k).reapFences

/-! ### The meanings -/

/-- NOP. -/
def execNop (c : Call) (s : State) : Host.Outcome State Fault Refusal := s.onChip (nopMeaning c)
/-- VERSION_QUERY. -/
def execVersionQuery (c : Call) (s : State) : Host.Outcome State Fault Refusal := s.onChip (versionQuery c)
/-- BARRIER. -/
def execBarrier (c : Call) (s : State) : Host.Outcome State Fault Refusal := s.onChip (barrier c)
/-- FENCE_ALLOC. -/
def execFenceAlloc (c : Call) (s : State) : Host.Outcome State Fault Refusal := s.onChip (fenceAlloc c)
/-- FENCE_FREE. -/
def execFenceFree (c : Call) (s : State) : Host.Outcome State Fault Refusal := s.onChip (fenceFree c)
/-- FENCE_SIGNAL. -/
def execFenceSignal (c : Call) (s : State) : Host.Outcome State Fault Refusal := s.onChip (fenceSignal c)
/-- FENCE_SHARE. -/
def execFenceShare (c : Call) (s : State) : Host.Outcome State Fault Refusal := s.onChip (fenceShare c)
/-- DB_RING. -/
def execDbRing (f : Fin 65) (k : Fin 4) (v : Word) (s : State) : Host.Outcome State Fault Refusal :=
  s.onChip (dbRing f k v.toNat)
/-- DB_REPLY. -/
def execDbReply (f : Fin 65) (v : Word) (s : State) : Host.Outcome State Fault Refusal := s.onChip (dbReply f v.toNat)
/-- RING_ENABLE. -/
def execRingEnable (f : Fin 65) (k : Fin 5) (size : Fin 32) (wb : Bool) (s : State) : Host.Outcome State Fault Refusal :=
  s.onChip (ringEnable f k size wb)
/-- RING_DISABLE. -/
def execRingDisable (f : Fin 65) (k : Fin 5) (s : State) : Host.Outcome State Fault Refusal := s.onChip (ringDisable f k)
/-- PACKET_FETCH. -/
def execPacketFetch (p : Packet) (s : State) : Host.Outcome State Fault Refusal := s.onChip (packetFetch p)
/-- FENCE_WAIT_TIMEOUT. -/
def execFenceWaitTimeout (f : Fin 65) (k : Fin 4) (s : State) : Host.Outcome State Fault Refusal :=
  s.onChip (fenceWaitTimeout f k)

end Sys2Proof.Machine
end

