-- ==== Sys2Proof/Machine/Crossings.lean ====
section
/-!
DEFINITION. Pulse crossings between clock domains (R423 to R426): the handshake, lost pulses, and resets of one side.
-/
namespace Sys2Proof.Machine

/-- A crossing. -/
def Chip.crossAt (x : Chip) (c : Nat) : Cross := x.cross.getD c {}

/-- A crossing changes. -/
def Chip.setCross (x : Chip) (c : Nat) (f : Cross → Cross) : Chip := { x with cross := updAt x.cross c f }

/-- An idle sender with pulses launches: it flips its toggle, presents the count and becomes busy (R423, step 2). -/
def Cross.launch (k : Cross) : Cross :=
  if k.busy || k.acc = 0 then k else { k with toggle := !k.toggle, count := k.acc, acc := 0, busy := true }

/-- A sending edge brings `n` pulses: they add up to 7, the excess is lost and flagged (R423, R424). Assumption log,
row 143. -/
def crossEdge (c n : Nat) (x : Chip) : Chip :=
  let lost := 7 < (x.crossAt c).acc + n
  let y := x.setCross c fun k => { k with acc := min 7 (k.acc + n) }.launch
  if lost then ((y.setBit CK_LOST_FLAGS c true).sat CK_LOST_CNT_COUNT).raise 489 else y

/-- The receiver sees the toggle: it takes the count and acknowledges (R423, step 3); a transfer of a sender that has
been reset is discarded by its valid check (R426). Assumption log, row 143. -/
def crossTaken (c : Nat) (x : Chip) : Chip :=
  x.setCross c fun k =>
    if k.toggle = k.ack then k
    else { k with ack := k.toggle, taken := if k.stale then k.taken else k.taken + k.count, stale := false }

/-- The sender sees the acknowledge toggle match its own, and is idle (R423, step 4). Assumption log, row 143. -/
def crossAcked (c : Nat) (x : Chip) : Chip :=
  x.setCross c fun k => if k.ack = k.toggle then { k with busy := false } else k

/-- The sending side is reset alone: its toggle and accumulator return to zero, and a receiver that held toggle 1 sees one
stale transfer (R425). -/
def Chip.senderReset (x : Chip) (c : Nat) : Chip :=
  x.setCross c fun k => { k with acc := 0, toggle := false, count := 0, busy := false, stale := k.ack }

/-- The receiving side is reset alone: it adopts the sender's toggle, whose sender becomes idle with nothing to send
(R425). -/
def Chip.receiverReset (x : Chip) (c : Nat) : Chip :=
  x.setCross c fun k => { k with acc := 0, busy := false, ack := k.toggle, stale := false }

/-- Crossings that the reset of a block, or of a subsystem, covers on the sending side (R424). -/
def crossesOf (sub : Bool) (kind inst : Nat) : List Nat :=
  if !sub then (if kind = 3 then [inst] else [])
  else match kind with
    | 0 => [24]
    | 1 => List.range 16
    | 2 => [18, 19, 20]
    | 4 => [21]
    | 5 => [22]
    | 6 => [23]
    | _ => []

/-- A Block or Subsystem reset meets the crossings it covers one side of (R425); the audio engine receives crossing
17. Assumption log, row 143. -/
def Chip.resetCrossings (x : Chip) (sub : Bool) (kind inst : Nat) : Chip :=
  let y := (crossesOf sub kind inst).foldl Chip.senderReset x
  if sub && kind = 2 then y.receiverReset 17 else y

end Sys2Proof.Machine
end

