-- ==== Sys2Proof/Machine/Events.lean ====
section
/-!
DEFINITION. The event controller (24_events.md): pending bits, routes, vectors, coalescing, MSI-X messages and the
INT_N pins.
-/
namespace Sys2Proof.Machine

/-- A source is of world 1 (R561). -/
def Chip.srcSecure (x : Chip) (s : Nat) : Bool := bitAt (x.get SW_EVWk_SRC (s / 32)) (s % 32)

/-- A source's bit in EV_PENDk. -/
def Chip.pending (x : Chip) (s : Nat) : Bool := bitAt (x.get EV_PENDk_SRC (s / 32)) (s % 32)

/-- The level of INT_N[p] (R566): driven low while EV_CTL.EN, its own EN and a pending source of world 0 routed to it
hold together. -/
def Chip.pinLow (x : Chip) (p : Nat) : Bool :=
  x.on EV_CTL_EN && (x.on EV_PINp_EN p && ((List.range 512).any fun s =>
    x.pending s && (!x.srcSecure s && bitAt (x.get EV_ROUTEs_PINS s) p)))

/-- EV_PINp.LEVEL follows its conditions. -/
def Chip.updPins (x : Chip) : Chip :=
  (List.range 4).foldl (fun (y : Chip) p => y.flag EV_PINp_LEVEL (x.pinLow p) p) x

/-- Coalescing of a vector (R563): COUNT, 0 taken as 1, and TIME. -/
def Chip.coalesce (x : Chip) (fn vec : Nat) : Nat × Nat :=
  if fn = 0 then (max 1 (x.get EV_VECv_COAL_COUNT vec), x.get EV_VECv_COAL_TIME vec)
  else (max 1 (x.get EV_FNf_COUNT fn), x.get EV_FNf_TIME fn)

/-- Key of word `w` of the MSI-X table entry of a vector. -/
def msixKey (fn vec w : Nat) : Nat := (fn * 128 + vec) * 4 + w

/-- A word of the MSI-X table; an unwritten vector control word reads 1, masked. Assumption log, row 25. -/
def Chip.msixWord (x : Chip) (fn vec w : Nat) : Nat := sparseGet x.ev.table (msixKey fn vec w) (if w = 3 then 1 else 0)

/-- The vector or the function is masked. -/
def Chip.masked (x : Chip) (fn vec : Nat) : Bool := bitAt (x.msixWord fn vec 3) 0 || x.ev.fmask.contains fn

/-- The MSI-X write of a vector; in L1 the endpoint leaves L1 first (R565). -/
def Chip.sendMsix (x : Chip) (fn vec : Nat) : Chip :=
  let y := if x.fn.l1 then { x with fn := { x.fn with l1 := false } }.emit .leaveL1 else x
  y.emit (.msix fn vec (x.msixWord fn vec 0 + 2 ^ 32 * x.msixWord fn vec 1) (x.msixWord fn vec 2))

/-- A vector fires (R563, R565): its count clears; the message is sent, held in the PBA, or dropped and counted. -/
def Chip.fire (x : Chip) (fn vec : Nat) : Chip :=
  let y := { x with ev := { x.ev with counts := x.ev.counts.filter fun c => !(c.fn = fn && c.vec = vec) } }
  if y.get FNf_STAT_STATE fn != 2 || !y.ev.enabled.contains fn then y.sat EV_DROP_COUNT
  else if y.masked fn vec then
    if y.ev.pba.contains (fn, vec) then y else { y with ev := { y.ev with pba := y.ev.pba ++ [(fn, vec)] } }
  else y.sendMsix fn vec

/-- The vector's coalescing condition holds (R563). -/
def Chip.mayFire (x : Chip) (c : VecCount) : Bool :=
  x.on EV_CTL_EN && (decide ((x.coalesce c.fn c.vec).1 ≤ c.count) || (c.timeUp && (x.coalesce c.fn c.vec).2 != 0))

/-- A raise counts toward a vector, which fires when its condition holds and delivery is enabled (R563, R569). -/
def Chip.countVec (x : Chip) (fn vec : Nat) : Chip :=
  let c := match x.ev.counts.find? fun c => c.fn = fn && c.vec = vec with
    | some c => { c with count := c.count + 1 }
    | none => ⟨fn, vec, 1, false⟩
  let rest := x.ev.counts.filter fun d => !(d.fn = fn && d.vec = vec)
  let y := { x with ev := { x.ev with counts := rest ++ [c] } }
  if y.mayFire c then y.fire fn vec else y

/-- The address that entry `e` of the secure world begins at: the entry address plus 4 (R444). -/
def Chip.gateStart (x : Chip) (e : Nat) : Nat :=
  (x.get SW_ENTRYe_LO_ADDR e * 4 + x.get SW_ENTRYe_HI_ADDR e * 2 ^ 32 + 4) % 2 ^ 64

/-- A pair enters the secure world through entry `e`, and saves the return address (R444, R446). -/
def Chip.enterSecure (x : Chip) (p e ret : Nat) : Chip :=
  { x with sw := { x.sw with pairs := updAt x.sw.pairs p fun _ => (true, ret), goes := sparseSet x.sw.goes p (x.gateStart e) 0 } }

/-- A source of world 1 enters the secure world on pair B through entry 0, where the pair is in the normal world, as a
GATE would (R444, R446): the address returned to is the interrupted instruction's, a free value. Assumption log, row
94. -/
def Chip.secureEnter (x : Chip) : Chip :=
  if !x.on GL_SEC_UP || (x.sw.pairs.getD 1 (false, 0)).1 then x
  else if !x.on SW_CTL_ENTRY_LOCK || !x.on SW_ENTRYe_LO_VALID 0 then (x.sat SW_GATE_FAULT_COUNT).raise 507
  else x.took.enterSecure 1 0 (x.free 64)

/-- A source of world 1 is pending: it is taken when the secure world comes up (R561). -/
def Chip.secureWaits (x : Chip) : Bool := (List.range 512).any fun s => x.pending s && x.srcSecure s

/-- A raise reaches the controller (R559 to R562): the pending bit is set; a source of world 1 goes to pair B through
the interrupt entry, any other to its vector and pins. A reply event counts toward its function's reply vector (R558).
In Kennel the controller is gated: no message is sent and no pin driven (R567). -/
def Chip.deliver (x : Chip) (r : Raise) : Chip :=
  match r with
  | .source s =>
    let y := x.setBit EV_PENDk_SRC (s % 32) true (s / 32)
    if x.srcSecure s then y.secureEnter
    else
      let fn := if 64 < y.get EV_ROUTEs_FUNC s then 0 else y.get EV_ROUTEs_FUNC s
      let vec := if fn = 0 then y.get EV_ROUTEs_VEC s else y.get EV_ROUTEs_VEC s % 8
      (if y.on EV_ROUTEs_MSIX_EN s then y.countVec fn vec else y).updPins
  | .reply f =>
    x.countVec f (if f = 0 then x.get EV_FNf_REPLY_VEC f else x.get EV_FNf_REPLY_VEC f % 8)

/-- EVENT_RAISE: the raise leaves the list of those on their way, if it is there, and reaches the controller.
Assumption log, rows 12, 112. -/
def eventRaise (r : Raise) (x : Chip) : Chip :=
  let y := { x with ev := { x.ev with raised := dropFirst x.ev.raised fun q => q = r } }
  if x.kennel || x.get GL_MODE_POWER = 3 then y else y.deliver r

/-- COALESCE_TIMEOUT: TIME has passed since the first raise the vector counts; it fires (R563). -/
def coalesceTimeout (fn vec : Nat) (x : Chip) : Chip :=
  if (x.ev.counts.any fun c => c.fn = fn && c.vec = vec) && (x.coalesce fn vec).2 != 0 then
    if x.on EV_CTL_EN then x.fire fn vec
    else { x with ev := { x.ev with
      counts := updAll x.ev.counts (fun c => c.fn = fn && c.vec = vec) fun c => { c with timeUp := true } } }
  else x

/-- EV_PEND_CLEAR: writing 1 clears, but a bit raised in the same cycle stays set (R559); the normal world cannot
clear a source of world 1 (R561). Assumption log, row 97. -/
def evPendClear (k value same : Nat) (world : Bool) (x : Chip) : Chip :=
  let keep := fun i => !bitAt value i || (bitAt same i || (!world && x.srcSecure (32 * k + i)))
  let v := ((List.range 32).map fun i => if keep i && bitAt (x.get EV_PENDk_SRC k) i then 2 ^ i else 0).sum
  (x.set EV_PENDk_SRC v k).updPins

/-- EV_CTL.EN takes a value; where it is set, every vector whose condition holds fires (R569). -/
def Chip.setEvEn (x : Chip) (b : Bool) : Chip :=
  let y := x.flag EV_CTL_EN b
  ((y.ev.counts.filter y.mayFire).foldl (fun (z : Chip) c => z.fire c.fn c.vec) y).updPins

/-- MSIX_UNMASK: a vector, or the whole function, is unmasked; messages held in the PBA are sent (R565). -/
def msixUnmask (fn : Nat) (vec : Option Nat) (x : Chip) : Chip :=
  let y := match vec with
    | some v => { x with ev := { x.ev with table := sparseSet x.ev.table (msixKey fn v 3) 0 1 } }
    | none => { x with ev := { x.ev with fmask := x.ev.fmask.filter (· != fn) } }
  let due := y.ev.pba.filter fun p => p.1 = fn && (!y.masked p.1 p.2 && y.ev.enabled.contains fn)
  let y := { y with ev := { y.ev with pba := y.ev.pba.filter fun p => !due.contains p } }
  due.foldl (fun (z : Chip) p => z.sendMsix p.1 p.2) y

/-- EVENT_RAISE. -/
def execEventRaise (r : EventRef) (s : State) : Host.Outcome State Fault Refusal :=
  match r with
  | .source i => s.onAon (eventRaise (.source i.val))
  | .reply f => s.onAon (eventRaise (.reply f.val))
  | .pulses c n => s.onChip (crossEdge c n)
  | .taken c => s.onChip (crossTaken c)
  | .acked c => s.onChip (crossAcked c)
/-- COALESCE_TIMEOUT. -/
def execCoalesceTimeout (fn : Fin 65) (vec : Fin 128) (s : State) : Host.Outcome State Fault Refusal :=
  s.onChip (coalesceTimeout fn vec)
/-- EV_PEND_CLEAR. -/
def execEvPendClear (k : Fin 16) (value same : Word) (world : Bool) (s : State) : Host.Outcome State Fault Refusal :=
  s.onChip (evPendClear k value.toNat same.toNat world)
/-- EV_CTL_ENABLE. -/
def execEvCtlEnable (s : State) : Host.Outcome State Fault Refusal := s.onChip fun x => x.setEvEn true
/-- MSIX_UNMASK. -/
def execMsixUnmask (fn : Fin 65) (vec : Option (Fin 128)) (s : State) : Host.Outcome State Fault Refusal :=
  s.onChip (msixUnmask fn (vec.map (·.val)))

end Sys2Proof.Machine
end

