-- ==== Sys2Proof/Machine/Aes.lean ====
section
/-!
DEFINITION. AES-256 decryption and the unwrap of RFC 3394, which ROLE_KEY_SET and INSTALLER_KEY_SET name (R483). The spec does
not print them: the algorithms are the published ones, FIPS 197 and RFC 3394 (PRESUMED, assumption log row 5).
-/
namespace Sys2Proof.Machine

/-- The substitution box, 32 entries a number, the first in its lowest byte. -/
def aesBox : List Nat :=
  [0xc072a49cafa2d4adf04759fa7dc982ca76abd7fe2b670130c56f6bf27b777c63,
   0x75b227ebe28012079a059618c323c7041531d871f1e5a534ccf73f362693fdb7,
   0xcf584c4a39becb6a5bb1fc20ed00d153842fe329b3d63b52a05a6e1b1a2c8309,
   0xd2f3ff1021dab6bcf5389d928f40a351a89f3c507f02f94585334d43fbaaefd0,
   0xdb0b5ede14b8ee4688902a22dc4f816073195d643d7ea7c41744975fec130ccd,
   0x08ae7a65eaf4566ca94ed58d6d37c8e779e4959162acd3c25c2406490a3a32e0,
   0x9e1dc186b95735610ef6034866b53e708a8bbd4b1f74dde8c6b4a61c2e2578ba,
   0x16bb54b00f2d99416842e6bf0d89a18cdf2855cee9871e9b948ed9691198f8e1]

/-- The inverse box, in the same form. -/
def aesInvBox : List Nat :=
  [0xcbe9dec444438e3487ff2f9b8239e37cfbd7f3819ea340bf38a53630d56a0952,
   0x25d18b6d49a25b76b224d92866a12e084ec3fa420b954cee3d23c2a632947b54,
   0x849d8da75746155edab9edfd5048706c92b6655dcc5ca4d41698688664f6f872,
   0x6b8a130103bdafc1020f3fca8f1e2cd00645b3b80558e4f70ad3bc8c00abd890,
   0x6edf751ce837f9e28535ade72274ac9673e6b4f0cecff297eadc674f4111913a,
   0xf45acd78fec0db9a2079d2c64b3e56fc1bbe18aa0e62b76f89c5291d711af147,
   0xef9cc9939f7ae52d0d4ab519a97f51605fec8027591012b131c7078833a8dd1f,
   0x7d0c2155631469e126d677ba7e042b17619953833cbbebc8b0f52aae4d3be0a0]

/-- Entry `b` of a box. -/
def boxAt (t : List Nat) (b : Nat) : Nat := t.getD (b / 32) 0 / 2 ^ (8 * (b % 32)) % 256

/-- A byte through the box. -/
def subByte (b : Nat) : Nat := boxAt aesBox b

/-- A byte through the inverse box. -/
def invSubByte (b : Nat) : Nat := boxAt aesInvBox b

/-- Doubling in the field of AES. -/
def xtime (b : Nat) : Nat := (if 128 ≤ b then (2 * b % 256).xor 0x1b else 2 * b)

/-- Multiplication by 9, 11, 13 and 14 in the field. -/
def gf9 (b : Nat) : Nat := (xtime (xtime (xtime b))).xor b
/-- By 11. -/
def gf11 (b : Nat) : Nat := (gf9 b).xor (xtime b)
/-- By 13. -/
def gf13 (b : Nat) : Nat := (gf9 b).xor (xtime (xtime b))
/-- By 14. -/
def gf14 (b : Nat) : Nat := ((xtime (xtime (xtime b))).xor (xtime (xtime b))).xor (xtime b)

/-- Two byte lists combined bit by bit. -/
def xorBytes (a b : List Nat) : List Nat := (a.zip b).map fun p => p.1.xor p.2

/-- The key schedule: eight words of key in, `n` more appended; a word is four bytes. `rc` is the round constant. -/
def aesSched (n : Nat) (rc : Nat) (w : List (List Nat)) : List (List Nat) :=
  match n with
  | 0 => w
  | k + 1 =>
    let i := w.length
    let t := w.getD (i - 1) []
    let t := if i % 8 = 0 then xorBytes ((t.drop 1 ++ t.take 1).map subByte) [rc, 0, 0, 0]
      else if i % 8 = 4 then t.map subByte else t
    aesSched k (if i % 8 = 0 then xtime rc else rc) (w ++ [xorBytes (w.getD (i - 8) []) t])

/-- The fifteen round keys of a 32-byte key. -/
def aesKeys (key : List Nat) : List (List Nat) :=
  let w := aesSched 52 1 ((List.range 8).map fun i => (key.drop (4 * i)).take 4)
  (List.range 15).map fun r => ((w.drop (4 * r)).take 4).flatten

/-- Rows of the state move back. -/
def invShiftRows (s : List Nat) : List Nat :=
  (List.range 16).map fun i => s.getD ((i % 4) + 4 * ((i / 4 + 4 - i % 4) % 4)) 0

/-- The inverse of the column mix on one column. -/
def invMixCol (c : List Nat) : List Nat :=
  match c with
  | [a, b, d, e] =>
    [((gf14 a).xor (gf11 b)).xor ((gf13 d).xor (gf9 e)), ((gf9 a).xor (gf14 b)).xor ((gf11 d).xor (gf13 e)),
     ((gf13 a).xor (gf9 b)).xor ((gf14 d).xor (gf11 e)), ((gf11 a).xor (gf13 b)).xor ((gf9 d).xor (gf14 e))]
  | _ => c

/-- The inverse of the column mix. -/
def invMix (s : List Nat) : List Nat := (List.range 4).flatMap fun i => invMixCol ((s.drop (4 * i)).take 4)

/-- AES-256 decryption of a 16-byte block under its round keys. -/
def aesDecrypt (ks : List (List Nat)) (blk : List Nat) : List Nat :=
  let s := xorBytes blk (ks.getD 14 [])
  let s := (List.range 13).foldl (fun s i => invMix (xorBytes ((invShiftRows s).map invSubByte) (ks.getD (13 - i) []))) s
  xorBytes ((invShiftRows s).map invSubByte) (ks.getD 0 [])

/-- The big-endian bytes of a 64-bit value. -/
def be64 (v : Nat) : List Nat := beBytes (v / 2 ^ 32) ++ beBytes (v % 2 ^ 32)

/-- One step of the unwrap, at count `t`: the register A and the blocks R. -/
def unwrapStep (ks : List (List Nat)) (n : Nat) (s : List Nat × List (List Nat)) (t : Nat) : List Nat × List (List Nat) :=
  let i := (t - 1) % n
  let b := aesDecrypt ks (xorBytes s.1 (be64 t) ++ s.2.getD i [])
  (b.take 8, updAt s.2 i fun _ => b.drop 8)

/-- The key a wrapped key of 40 bytes holds, or none where its integrity check fails. -/
def keyUnwrap (kek wrapped : List Nat) : Option (List Nat) :=
  let ks := aesKeys kek
  let rs := (List.range 4).map fun i => (wrapped.drop (8 + 8 * i)).take 8
  let r := (List.range 24).foldl (fun s j => unwrapStep ks 4 s (24 - j)) (wrapped.take 8, rs)
  if r.1 = List.replicate 8 0xA6 then some r.2.flatten else none

end Sys2Proof.Machine
end

