-- ==== Sys2Proof/Machine/Haptic.lean ====
section
/-!
DEFINITION. Haptic channels (R276 to R288): triggers, the phases of an effect, tracking, faults, calibration.
-/
namespace Sys2Proof.Machine

/-- Phases of HPn_STAT.PHASE (R279). -/
def hpIdle : Nat := 0
/-- Attack. -/
def hpAttack : Nat := 1
/-- Sustain. -/
def hpSustain : Nat := 2
/-- Brake. -/
def hpBrake : Nat := 3
/-- Calibrating. -/
def hpCalib : Nat := 4
/-- Fault. -/
def hpFault : Nat := 5

/-- A channel's own state. -/
def Chip.hpCh (x : Chip) (n : Nat) : HpSt := x.hp.ch.getD n {}

/-- A channel's own state changes. -/
def Chip.setHp (x : Chip) (n : Nat) (f : HpSt → HpSt) : Chip := { x with hp := { x.hp with ch := updAt x.hp.ch n f } }

/-- Phase of a channel. -/
def Chip.hpPhase (x : Chip) (n : Nat) : Nat := x.get HPn_STAT_PHASE n

/-- Mode of a stored waveform: 0 not loaded, 1 RESONANT, 2 SAMPLED (R277). -/
def Chip.waveMode (x : Chip) (w : Nat) : Nat := x.get HP_WAVEw_MODE w

/-- The attack clip (R278). -/
def Chip.hpClip (x : Chip) (n : Nat) : Nat := min (x.get HPn_LIMIT_AMP_MAX n * (8 + x.get HPn_LIMIT_ATT_GAIN n) / 8) 4095

/-- The duty a sample stands for: full scale is AMP_MAX, times SCALE / 255 and the attack's gain in eighths, clipped;
the bridge diagonal, 1 for a negative sample, in bit 12 (R276, R278). Assumption log, row 142. -/
def hpDuty (amp scale gain clip full : Nat) (v : Int) : Nat :=
  min clip (v.natAbs * amp * scale * gain / (full * 255 * 8)) + (if v < 0 then 4096 else 0)

/-- Samples of an effect that fall into its attack: ATTACK ms of them, or ATTACK cycles of the drive frequency at one
sample a ms (R277, R278). Assumption log, row 142. -/
def Chip.attackLen (x : Chip) (n w : Nat) : Nat :=
  let a := x.get HP_WAVEw_ATTACK w
  if x.waveMode w = 2 then a * (4 * 2 ^ x.get HP_WAVEw_RATE w) else a * 10000 / max 1 (x.hpCh n).freq

/-- Duties of the effect's phase (R278): attack, sustain, or the antiphase of a resonant brake; none in the short
state. Assumption log, row 142. -/
def Chip.hpDrives (x : Chip) (n ph : Nat) : List Nat :=
  let amp := x.get HPn_LIMIT_AMP_MAX n
  match (x.hpCh n).cur with
  | none => if ph = hpCalib then [amp / 2] else []
  | some t =>
    let sampled := x.waveMode t.wave = 2
    let ss := ((x.hp.waves.find? fun p => p.1 = t.wave).map (·.2)).getD []
    let k := x.attackLen n t.wave
    let duty := fun (gain clip v : Nat) => hpDuty amp t.scale gain clip (if sampled then 32767 else 65535)
      (if sampled then toS 16 v else v)
    if ph = hpAttack then (ss.take k).map (duty (8 + x.get HPn_LIMIT_ATT_GAIN n) (x.hpClip n))
    else if ph = hpSustain then (ss.drop k).map (duty 8 amp)
    else if ph = hpBrake && !sampled then [x.hpClip n + 4096]
    else []

/-- The channel enters a phase; its pins drive the phase's duties on the carrier of PWM_KHZ, at the drive frequency
for a resonant effect, or hold the short state (R276, R278, R280). Assumption log, row 142. -/
def Chip.hpEnter (x : Chip) (n ph : Nat) : Chip :=
  let ds := x.hpDrives n ph
  let y := (x.set HPn_STAT_PHASE ph n).setHp n fun s => { s with drive := ds }
  y.emit (.pin 1 ([n, ph, x.get HPn_CFG_PWM_KHZ n, (x.hpCh n).freq] ++ ds))

/-- The latch bits follow the latch. -/
def Chip.hpLatchBits (x : Chip) (n : Nat) : Chip :=
  match (x.hpCh n).latch with
  | some t => (x.flag HPn_STAT_LATCHED true n).flag HPn_STAT_LATCH_SEC (t.who = 128) n
  | none => (x.flag HPn_STAT_LATCHED false n).flag HPn_STAT_LATCH_SEC false n

/-- The waveform is playable on the channel: loaded, and SAMPLED for a voice coil (R277). Assumption log, row 61. -/
def Chip.playable (x : Chip) (n w : Nat) : Bool :=
  x.waveMode w = 2 || (x.waveMode w = 1 && !x.on HPn_CFG_TYPE n)

/-- A latched trigger is discarded and counted. -/
def Chip.hpUnlatch (x : Chip) (n : Nat) : Chip :=
  if (x.hpCh n).latch.isSome then
    ((x.setHp n fun s => { s with latch := none }).hpLatchBits n).sat HPn_OVERRUN_COUNT n
  else x

/-- Fall-back tracking is entered (R281). -/
def Chip.hpFallBack (x : Chip) (n : Nat) : Chip :=
  if x.on HPn_STAT_TRACK n then x
  else ((x.flag HPn_STAT_TRACK true n).flag HPn_STAT_DRIFT true n).raise (321 + 2 * n)

/-- The frequency an effect starts at, 0.1 Hz (R280, R281). -/
def Chip.hpStartFreq (x : Chip) (n : Nat) : Nat :=
  if x.on HPn_STAT_F0_VALID n then x.get HPn_F0_F0 n
  else (x.get HPn_FBAND_FMIN n + x.get HPn_FBAND_FMAX n) * 5

/-- The drive of the effect begins (R278, R281, R282): it is counted, its open-load window opens, and a resonant effect
without a valid f0 runs on fall-back tracking. -/
def Chip.hpDrive (x : Chip) (n : Nat) : Chip :=
  match (x.hpCh n).cur with
  | none => x
  | some t =>
    let y := (x.setHp n fun s => { s with armed := false, window := true, first := !x.on HPn_CFG_TYPE n,
                                          freq := x.hpStartFreq n }).inc HPn_EFFECTS_COUNT n
    let y := if x.waveMode t.wave = 1 && !x.on HPn_STAT_F0_VALID n then y.hpFallBack n else y
    y.hpEnter n hpAttack

/-- A calibration starts (R280), for every HAPTIC_CALIBRATE that waits for the channel (R286). -/
def Chip.hpCalibrate (x : Chip) (n : Nat) : Chip :=
  let cs := x.hp.cals.map fun c => if c.left.contains n then { c with going := c.going ++ [n] } else c
  ({ x with hp := { x.hp with cals := cs } }.setHp n fun s => { s with calWant := false }).hpEnter n hpCalib

/-- A channel at rest out of reset starts the calibration it waits for. Assumption log, row 62. -/
def Chip.hpCalDue (x : Chip) (n : Nat) : Chip :=
  if (x.hpCh n).calWant && ((x.hpPhase n = hpIdle || x.hpPhase n = hpFault) && !x.noWork 6 n) then x.hpCalibrate n else x

/-- The automatic calibrations of a start, or of a Subsystem reset (R280): a channel that a HOLD keeps in reset
calibrates once it is released. Assumption log, row 62. -/
def Chip.hpAuto (x : Chip) : Chip :=
  ((List.range 16).filter fun n => x.on HPn_CFG_CAL_AUTO n).foldl (fun (y : Chip) n =>
    (y.setHp n fun s => { s with calWant := true }).hpCalDue n) x

/-- HPn_LIMIT, HPn_FBAND and HPn_CFG take HAPTIC_LIMIT_SET words 1 to 3 (R285, R286). -/
def Chip.hpLimits (x : Chip) (n l b p : Nat) : Chip :=
  let y := (((x.set HPn_LIMIT_AMP_MAX (bits l 0 12) n).set HPn_LIMIT_ATT_GAIN (bits l 12 4) n).set HPn_LIMIT_DUR_MAX
    (bits l 16 8) n).set HPn_LIMIT_OPEN_THR (bits l 24 8) n
  let y := ((y.set HPn_FBAND_FMIN (bits b 0 9) n).set HPn_FBAND_FMAX (bits b 16 9) n).flag HPn_CFG_TYPE (bitAt b 28) n
  (y.set HPn_CFG_PWM_KHZ (bits p 0 7) n).flag HPn_CFG_CAL_AUTO (bitAt p 8) n

/-- Limits that waited for Idle apply (R286). -/
def Chip.hpLimitsDue (x : Chip) (n : Nat) : Chip :=
  let l := (x.hpCh n).limits
  if l = [] then x
  else (x.hpLimits n (l.getD 0 0) (l.getD 1 0) (l.getD 2 0)).setHp n fun s => { s with limits := [] }

/-- The channel comes to rest in Idle or Fault: limits that waited apply in Idle, and a calibration that waited starts
(R279, R286). -/
def Chip.hpRest (x : Chip) (n ph : Nat) : Chip :=
  let y := x.setHp n fun s => { s with cur := none, armed := false, toBrake := none, window := false, first := false }
  let y := y.hpEnter n ph
  (if ph = hpIdle then y.hpLimitsDue n else y).hpCalDue n

/-- HAPTIC_DONE for an effect that ended, where it was asked for and its generation stands (R88, R287). -/
def Chip.hpDone (x : Chip) (n ending : Nat) (t : Option Trig) : Chip :=
  match t with
  | some t => if t.notice && (t.who ≤ 64 && x.genOf t.who = t.gen) then x.notice t.who 0x6801 [n, t.wave, ending] else x
  | none => x

/-- The effect is over: a latched effect starts at once, else the channel rests in Idle (R279, R283). Assumption log,
row 62. -/
def Chip.hpNext (x : Chip) (n ending : Nat) : Chip :=
  let old := (x.hpCh n).cur
  let y := match (x.hpCh n).latch with
    | some t => ((x.setHp n fun s => { s with cur := some t, latch := none, toBrake := none }).hpLatchBits n).hpDrive n
    | none => x.hpRest n hpIdle
  y.hpDone n ending old

/-- The channel enters Brake (R278). Assumption log, row 63. -/
def Chip.hpToBrake (x : Chip) (n ending : Nat) : Chip :=
  (x.setHp n fun s => { s with ending := ending, toBrake := none, window := false, armed := false }).hpEnter n hpBrake

/-- A fault is recorded and told to the channel's owner and F0 (R282, R287). -/
def Chip.hpTell (x : Chip) (n reason : Nat) : Chip :=
  let y := if reason = 1 then (x.flag HPn_STAT_MISSING true n).sat HPn_FAULT_CNT_MISSING n
    else (x.flag HPn_STAT_STALLED true n).sat HPn_FAULT_CNT_STALLED n
  let ws := [n, reason, x.get TB_SEC_SEC, x.get TB_TICK_TICK]
  let o := x.get HPn_OWNER_FUNC n
  let y := if o != 0 && o ≤ 64 then y.notice o 0x6802 ws else y
  (y.notice 0 0x6802 ws).raise (320 + 2 * n)

/-- A trigger meets the channel (R283, R284). The answer: 0 started, 1 latched, 2 latched with replacement, 3
discarded, 4 the channel calibrates, 5 it is in Fault. Assumption log, row 62. -/
def Chip.hpTrigger (x : Chip) (n : Nat) (t : Trig) : Chip × Nat :=
  let ph := x.hpPhase n
  if x.noWork 6 n || (x.parking || !x.playable n t.wave) then (x, 3)
  else if ph = hpCalib then (x.sat HPn_OVERRUN_COUNT n, 4)
  else if ph = hpFault then (x, 5)
  else if ph = hpIdle then
    ((x.setHp n fun s => { s with cur := some t, armed := true }).set HPn_STAT_PHASE hpAttack n, 0)
  else
    let y := if ph = hpBrake then x
      else x.setHp n fun s => { s with toBrake := some (s.toBrake.getD 1) }
    match (x.hpCh n).latch with
    | none => ((y.setHp n fun s => { s with latch := some t }).hpLatchBits n, 1)
    | some l =>
      if l.who = 128 && t.who != 128 then (y.sat HPn_OVERRUN_COUNT n, 3)
      else (((y.setHp n fun s => { s with latch := some t }).hpLatchBits n).sat HPn_OVERRUN_COUNT n, 2)

/-! ### Events of a channel -/

/-- PWM_PERIOD_START: a triggered effect that waits begins its drive (R283). Assumption log, row 62. -/
def pwmPeriodStart (n : Nat) (x : Chip) : Chip := if (x.hpCh n).armed then x.hpDrive n else x

/-- DRIVE_HALF_CYCLE: an effect that a trigger ended enters Brake (R283). -/
def driveHalfCycle (n : Nat) (x : Chip) : Chip :=
  match (x.hpCh n).toBrake with
  | some e => if (x.hpPhase n = hpAttack || x.hpPhase n = hpSustain) && !(x.hpCh n).armed then x.hpToBrake n e else x
  | none => x

/-- ATTACK_END (R278). -/
def attackEnd (n : Nat) (x : Chip) : Chip :=
  if x.hpPhase n = hpAttack && !(x.hpCh n).armed then x.hpEnter n hpSustain else x

/-- SUSTAIN_END: the last sample, or DUR_MAX (R278). -/
def sustainEnd (n : Nat) (x : Chip) : Chip := if x.hpPhase n = hpSustain then x.hpToBrake n 0 else x

/-- BRAKE_END (R278, R279). Assumption log, row 62. -/
def brakeEnd (n : Nat) (x : Chip) : Chip := if x.hpPhase n = hpBrake then x.hpNext n (x.hpCh n).ending else x

/-- An open load (R282): the drive stops with no brake, the channel enters Fault, a latched trigger is discarded. -/
def Chip.hpMissing (x : Chip) (n : Nat) : Chip :=
  let old := (x.hpCh n).cur
  (((x.hpUnlatch n).hpRest n hpFault).hpTell n 1).hpDone n 3 old

/-- OPEN_LOAD_WINDOW_END: the current of the first 2 ms of drive stayed below the threshold, or not (R282). -/
def openLoadWindowEnd (n peak : Nat) (x : Chip) : Chip :=
  if (x.hpCh n).window then
    if peak < x.get HPn_LIMIT_OPEN_THR n * 4 then x.hpMissing n else x.setHp n fun s => { s with window := false }
  else x

/-- BEMF_GAP (R278, R281, R282): in Brake a back-EMF below 5 % of BEMF_REF ends a resonant brake; the first gap after
the attack finds a stall; later ones track the resonance. -/
def bemfGap (n : Nat) (g : Gap) (x : Chip) : Chip :=
  match (x.hpCh n).cur with
  | none => x
  | some t =>
    let reson := x.waveMode t.wave = 1
    let f0 := x.get HPn_F0_F0 n
    if x.hpPhase n = hpBrake then
      if reson && g.emf.toNat * 20 < x.get HPn_F0_BEMF_REF n then x.hpNext n (x.hpCh n).ending else x
    else if x.hpPhase n != hpSustain || x.on HPn_CFG_TYPE n then x
    else if (x.hpCh n).first &&
        g.emf.toNat * 10 * x.get HPn_LIMIT_AMP_MAX n < x.get HPn_F0_BEMF_REF n * g.drive.toNat then
      (x.hpTell n 2).hpNext n 2
    else
      let y := x.setHp n fun s => { s with first := false }
      match g.freq with
      | none => y
      | some f =>
        if !reson then y
        else
          let d := if f.toNat < f0 then f0 - f.toNat else f.toNat - f0
          let y := if !x.on HPn_STAT_F0_VALID n || f0 < d * 20 then y.hpFallBack n else y
          if y.on HPn_STAT_TRACK n then y.setHp n fun s => { s with freq := f.toNat } else y

/-- HAPTIC_CALIBRATE commands that a calibration ran for learn its end; those complete are answered (R286). -/
def Chip.hpCalReply (x : Chip) (n : Nat) (good : Bool) : Chip :=
  let cs := x.hp.cals.map fun c =>
    if c.going.contains n then
      { c with left := c.left.filter (· != n), going := c.going.filter (· != n), ok := c.ok + (if good then 2 ^ n else 0),
               bad := c.bad + (if good then 0 else 2 ^ n) }
    else c
  let y := { x with hp := { x.hp with cals := cs.filter fun c => c.left != [] } }
  (cs.filter fun c => c.left = []).foldl (fun (z : Chip) c => z.ok opHapticCalibrate c.call [c.ok, c.bad]) y

/-- CALIBRATION_DONE (R280, R282). -/
def calibrationDone (n : Nat) (m : RingDown) (x : Chip) : Chip :=
  if x.hpPhase n != hpCalib then x
  else
    let opn := m.peak.toNat < x.get HPn_LIMIT_OPEN_THR n * 4
    let lra := !x.on HPn_CFG_TYPE n
    let found := decide (4 ≤ m.crossings) && (decide (x.get HPn_FBAND_FMIN n * 10 ≤ m.freq) &&
      decide (m.freq ≤ x.get HPn_FBAND_FMAX n * 10))
    let res := if opn then 2 else if lra && !found then 3 else 1
    let y := (x.set HPn_CAL_RESULT res n).raise (321 + 2 * n)
    if res = 1 then
      let y := if lra then ((y.set HPn_F0_F0 m.freq n).set HPn_F0_BEMF_REF m.ref.toNat n).flag HPn_STAT_F0_VALID true n else y
      let y := ((y.flag HPn_STAT_TRACK false n).flag HPn_STAT_DRIFT false n).flag HPn_STAT_MISSING false n
      (y.hpCalReply n true).hpRest n hpIdle
    else
      let y := y.onlyIf (res = 2) (·.hpTell n 1)
      (y.hpCalReply n false).hpRest n hpFault

/-! ### Opcodes (R286) -/

/-- HAPTIC_PLAY. -/
def hapticPlay (c : Call) (x : Chip) : Chip :=
  x.perform opHapticPlay c fun x =>
    let n := bits (c.w 0) 0 4
    let w := bits (c.w 0) 8 8
    if (!c.world && (c.fn != 0 && x.get HPn_OWNER_FUNC n != c.fn)) || !x.playable n w then x.bad opHapticPlay c 0
    else if 255 < c.w 1 then x.bad opHapticPlay c 1
    else
      let r := x.hpTrigger n ⟨w, c.w 1, if c.world then 128 else c.fn, if c.world then 0 else x.get FNf_GEN_GEN c.fn, bitAt (c.w 0) 16⟩
      if r.2 = 4 then r.1.done opHapticPlay c stNoResource [0]
      else if r.2 = 5 then r.1.done opHapticPlay c stHwFault [320 + 2 * n]
      else r.1.ok opHapticPlay c [r.2]

/-- HP_TRIG_GO: a trigger as F0 (R283). Assumption log, row 62. -/
def hpTrigGo (n v : Nat) (x : Chip) : Chip :=
  if bitAt v 16 then (x.hpTrigger n ⟨bits v 0 8, bits v 8 8, 0, x.get FNf_GEN_GEN 0, false⟩).1 else x

/-- Samples stored. -/
def Chip.waveSamples (x : Chip) : Nat := (x.hp.waves.map fun w => w.2.length).sum

/-- An effect plays or latches the waveform. -/
def Chip.wavePlays (x : Chip) (w : Nat) : Bool :=
  x.hp.ch.any fun s => (match s.cur with
    | some t => t.wave = w
    | none => false) || (match s.latch with
    | some t => t.wave = w
    | none => false)

/-- 16-bit samples of a byte list. -/
def halves (bs : List Nat) : List Nat :=
  (List.range (bs.length / 2)).map fun i => bs.getD (2 * i) 0 + 256 * bs.getD (2 * i + 1) 0

/-- The waveforms stored are `ws`; HP_STORE follows (R285). -/
def Chip.setWaves (x : Chip) (ws : List (Nat × List Nat)) : Chip :=
  let y := { x with hp := { x.hp with waves := ws } }
  y.set HP_STORE_KIB ((131072 - y.waveSamples) * 2 / 1024)

/-- HAPTIC_WAVE_LOAD. Where the samples lie in the store is the firmware's choice: a free value. MODE 0 leaves the
waveform not loaded (R277). Assumption log, rows 62, 64. -/
def hapticWaveLoad (c : Call) (mem : List Host.Cell) (x : Chip) : Chip :=
  x.perform opHapticWaveLoad c fun x =>
    let w := bits (c.w 0) 0 8
    let mode := bits (c.w 0) 8 2
    let rate := bits (c.w 0) 10 3
    let brake := bits (c.w 0) 20 4
    let n := c.w 3
    let rest := x.hp.waves.filter fun p => p.1 != w
    let free := 131072 - (rest.map fun p => p.2.length).sum
    if x.wavePlays w || ((mode = 3 || (mode = 2 && (decide (2 < rate) || decide (8 < brake)))) ||
        (mode != 0 && (n = 0 || decide (131072 < n)))) then x.bad opHapticWaveLoad c 0
    else if mode = 0 then
      ((x.setWaves rest).resetFields [HP_WAVEw_OFFSET, HP_WAVEw_LEN, HP_WAVEw_MODE, HP_WAVEw_RATE, HP_WAVEw_ATTACK,
        HP_WAVEw_BRAKE] w).ok opHapticWaveLoad c []
    else if (x.ownRange c.fn (c.q 1) (2 * n) guestClasses).isNone then x.bad opHapticWaveLoad c 1
    else if free < n then x.done opHapticWaveLoad c stNoResource [ceilDiv (2 * (n - free)) 1024]
    else
      let y := x.setWaves (rest ++ [(w, halves (readBytes mem x (c.q 1) (2 * n)))])
      let y := ((y.set HP_WAVEw_OFFSET (x.free 17) w).took.set HP_WAVEw_LEN n w).set HP_WAVEw_MODE mode w
      ((((y.set HP_WAVEw_RATE rate w).set HP_WAVEw_ATTACK (bits (c.w 0) 16 4) w).set HP_WAVEw_BRAKE brake w)).ok
        opHapticWaveLoad c []

/-- HAPTIC_CALIBRATE: each named channel calibrates when it is next Idle or in Fault. -/
def hapticCalibrate (c : Call) (x : Chip) : Chip :=
  x.perform opHapticCalibrate c fun x =>
    let chs := (List.range 16).filter fun n => bitAt (c.w 0) n
    if 65536 ≤ c.w 0 then x.bad opHapticCalibrate c 0
    else if chs = [] then x.ok opHapticCalibrate c [0, 0]
    else
      let cal : CalCmd := ⟨c, chs, [], 0, 0⟩
      chs.foldl (fun (y : Chip) n =>
        if (y.hpPhase n = hpIdle || y.hpPhase n = hpFault) && !y.noWork 6 n then y.hpCalibrate n
        else y.setHp n fun s => { s with calWant := true })
        { x with hp := { x.hp with cals := x.hp.cals ++ [cal] } }

/-- HAPTIC_LIMIT_SET: applied to each channel when it is next Idle. -/
def hapticLimitSet (c : Call) (x : Chip) : Chip :=
  x.perform opHapticLimitSet c fun x =>
    let fmin := bits (c.w 2) 0 9
    let fmax := bits (c.w 2) 16 9
    if 65536 ≤ c.w 0 then x.bad opHapticLimitSet c 0
    else if fmin < 60 || (400 < fmax || fmax ≤ fmin) then x.bad opHapticLimitSet c 2
    else if bits (c.w 3) 0 7 < 24 || 96 < bits (c.w 3) 0 7 then x.bad opHapticLimitSet c 3
    else
      (((List.range 16).filter fun n => bitAt (c.w 0) n).foldl (fun (y : Chip) n =>
        if y.hpPhase n = hpIdle then y.hpLimits n (c.w 1) (c.w 2) (c.w 3)
        else y.setHp n fun s => { s with limits := [c.w 1, c.w 2, c.w 3] }) x).ok opHapticLimitSet c []

/-! ### Withdrawal and reset -/

/-- A generation increment of `f` (R92, R279, R283): its latched triggers are discarded, and an effect running on a
channel it owns, or that it made, brakes; the ending such an effect would report is not stated. Assumption log, row
63. -/
def Chip.hpWithdraw (x : Chip) (f : Nat) : Chip :=
  (List.range 16).foldl (fun (y : Chip) n =>
    let s := y.hpCh n
    let y := match s.latch with
      | some t => if t.who = f then y.hpUnlatch n else y
      | none => y
    if (y.hpPhase n = hpAttack || y.hpPhase n = hpSustain) && (x.get HPn_OWNER_FUNC n = f || (match s.cur with
      | some t => t.who = f
      | none => false)) then (y.hpToBrake n (y.free 2)).took else y) x

/-- Channels on which an effect of a withdrawn generation of `f` still runs or brakes (R97). -/
def Chip.hpOld (x : Chip) (f : Nat) : Nat :=
  (x.hp.ch.filter fun s => match s.cur with
    | some t => t.who = f && x.genOf f != t.gen
    | none => false).length

/-- The channel is reset (R276, R553): status and counters at reset values, outputs in the short state; limits that
waited for Idle apply, and a calibration under way has failed. Assumption log, row 62. -/
def Chip.hpReset (x : Chip) (n : Nat) : Chip :=
  let y := x.resetFields [HPn_STAT_PHASE, HPn_STAT_LATCHED, HPn_STAT_LATCH_SEC, HPn_STAT_TRACK, HPn_STAT_F0_VALID,
    HPn_STAT_DRIFT, HPn_STAT_MISSING, HPn_STAT_STALLED, HPn_OVERRUN_COUNT, HPn_EFFECTS_COUNT, HPn_FAULT_CNT_MISSING,
    HPn_FAULT_CNT_STALLED, HPn_CAL_RESULT] n
  let calib := x.hpPhase n = hpCalib
  let y := y.setHp n fun s => { s with cur := none, latch := none, armed := false, toBrake := none, window := false,
                                        first := false }
  let y := (y.hpEnter n hpIdle).hpLimitsDue n
  if calib then y.hpCalReply n false else y

/-- HAPTIC_PLAY. -/
def execHapticPlay (c : Call) (s : State) : Host.Outcome State Fault Refusal := s.onChip (hapticPlay c)
/-- HAPTIC_WAVE_LOAD. -/
def execHapticWaveLoad (c : Call) (s : State) : Host.Outcome State Fault Refusal := s.onChipM (hapticWaveLoad c)
/-- HAPTIC_CALIBRATE. -/
def execHapticCalibrate (c : Call) (s : State) : Host.Outcome State Fault Refusal := s.onChip (hapticCalibrate c)
/-- HAPTIC_LIMIT_SET. -/
def execHapticLimitSet (c : Call) (s : State) : Host.Outcome State Fault Refusal := s.onChip (hapticLimitSet c)
/-- HP_TRIG_GO. -/
def execHpTrigGo (n : Fin 16) (v : Word) (s : State) : Host.Outcome State Fault Refusal := s.onChip (hpTrigGo n v.toNat)
/-- ATTACK_END. -/
def execAttackEnd (n : Fin 16) (s : State) : Host.Outcome State Fault Refusal := s.onChip (attackEnd n)
/-- SUSTAIN_END. -/
def execSustainEnd (n : Fin 16) (s : State) : Host.Outcome State Fault Refusal := s.onChip (sustainEnd n)
/-- BRAKE_END. -/
def execBrakeEnd (n : Fin 16) (s : State) : Host.Outcome State Fault Refusal := s.onChip (brakeEnd n)
/-- BEMF_GAP. -/
def execBemfGap (n : Fin 16) (g : Gap) (s : State) : Host.Outcome State Fault Refusal := s.onChip (bemfGap n g)
/-- OPEN_LOAD_WINDOW_END. -/
def execOpenLoadWindowEnd (n : Fin 16) (peak : BitVec 12) (s : State) : Host.Outcome State Fault Refusal :=
  s.onChip (openLoadWindowEnd n peak.toNat)
/-- CALIBRATION_DONE. -/
def execCalibrationDone (n : Fin 16) (m : RingDown) (s : State) : Host.Outcome State Fault Refusal :=
  s.onChip (calibrationDone n m)
/-- DRIVE_HALF_CYCLE. -/
def execDriveHalfCycle (n : Fin 16) (s : State) : Host.Outcome State Fault Refusal := s.onChip (driveHalfCycle n)
/-- PWM_PERIOD_START. -/
def execPwmPeriodStart (n : Fin 16) (s : State) : Host.Outcome State Fault Refusal := s.onChip (pwmPeriodStart n)

end Sys2Proof.Machine
end

