-- ==== Sys2Proof/Machine/CompOps.lean ====
section
/-!
DEFINITION. The composer's operations (R205 to R236): units and layers, fetch rates, queued changes and what applying or
dropping one does, the hit-region changes queued with them, the keys of lines and forward composition.
-/
namespace Sys2Proof.Machine

/-! ### Heads and their rates -/

/-- A head's own state. -/
def Chip.head (x : Chip) (h : Nat) : HeadSt := x.hd.getD h {}

/-- A head's own state changes. -/
def Chip.setHead (x : Chip) (h : Nat) (f : HeadSt → HeadSt) : Chip := { x with hd := updAt x.hd h f }

/-- Pixel clock in pixels a second, times 2^32 (R238). -/
def Chip.pixel32 (x : Chip) (h : Nat) : Nat := 819200000 * 2 ^ x.get HDn_CTL_PPC h * x.get HDn_PIXINC_INC h

/-- Lines of a frame at the shortest front porch (R246). -/
def Chip.minLines (x : Chip) (h : Nat) : Nat :=
  x.get HDn_VTIME0_VACTIVE h + x.get HDn_VRR_VFP_MIN h + x.get HDn_VTIME0_VSW h + x.get HDn_VTIME1_VBP h

/-- Pixels of a frame at the head's highest rate, blanking included. -/
def Chip.framePixels (x : Chip) (h : Nat) : Nat := x.get HDn_HTIME0_HTOTAL h * x.minLines h

/-- Fetch budget in bytes a second, times 2^32 (R229). -/
def Chip.budget32 (x : Chip) (h : Nat) : Nat := x.pixel32 h * x.get CP_HEADn_CFG_FETCH_DEPTH h

/-- Whole MB/s of a rate in bytes a second times 2^32. -/
def mbps32 (r : Nat) : Nat := r / (2 ^ 32 * 1000000)

/-! ### Formats (R208) -/

/-- Twice the bytes a pixel of a layer format, over all planes; 0 for a code that is none. -/
def fmtBytes2 (f : Nat) : Nat :=
  match f with
  | 0x01 => 4
  | 0x02 => 4
  | 0x03 => 4
  | 0x04 => 6
  | 0x05 => 8
  | 0x06 => 8
  | 0x07 => 8
  | 0x10 => 3
  | 0x11 => 3
  | 0x12 => 4
  | 0x13 => 6
  | _ => 0

/-- Bytes a pixel of plane 0. -/
def fmtPlane0 (f : Nat) : Nat :=
  match f with
  | 0x04 => 3
  | 0x05 => 4
  | 0x06 => 4
  | 0x07 => 4
  | 0x10 => 1
  | 0x11 => 1
  | 0x12 => 1
  | _ => 2

/-- Planes of a format. -/
def fmtPlanes (f : Nat) : Nat := if f = 0x11 then 3 else if 0x10 ≤ f then 2 else 1

/-- A format whose chroma is halved vertically. -/
def fmt420 (f : Nat) : Bool := f = 0x10 || (f = 0x11 || f = 0x13)

/-- A YUV format. -/
def fmtYuv (f : Nat) : Bool := decide (0x10 ≤ f)

/-- A format that TILED_64 serves. -/
def fmtTiled (f : Nat) : Bool := f != 0x04 && decide (f < 0x10)

/-! ### Layers as LAYER_SET words 1 to 11 -/

/-- Plane 0 address. -/
def lyAddr (ws : List Nat) : Nat := ws.getD 0 0 + 2 ^ 32 * ws.getD 1 0
/-- Format code. -/
def lyFmt (ws : List Nat) : Nat := bits (ws.getD 2 0) 0 8
/-- Source width. -/
def lySw (ws : List Nat) : Nat := bits (ws.getD 8 0) 0 16
/-- Source height. -/
def lySh (ws : List Nat) : Nat := bits (ws.getD 8 0) 16 16
/-- Source X0. -/
def lySx (ws : List Nat) : Nat := bits (ws.getD 7 0) 0 16
/-- Source Y0. -/
def lySy (ws : List Nat) : Nat := bits (ws.getD 7 0) 16 16
/-- Destination X0, signed. -/
def lyDx (ws : List Nat) : Int := toS 16 (bits (ws.getD 9 0) 0 16)
/-- Destination Y0, signed. -/
def lyDy (ws : List Nat) : Int := toS 16 (bits (ws.getD 9 0) 16 16)
/-- Destination width. -/
def lyDw (ws : List Nat) : Nat := bits (ws.getD 10 0) 0 16
/-- Destination height. -/
def lyDh (ws : List Nat) : Nat := bits (ws.getD 10 0) 16 16

/-- Words with another plane 0 address (R216). -/
def lyFlip (ws : List Nat) (a : Nat) : List Nat := [lo32 a, hi32 a] ++ ws.drop 2

/-- Twice the source bytes of one frame. -/
def lyBytes2 (ws : List Nat) : Nat := lySw ws * lySh ws * fmtBytes2 (lyFmt ws)

/-- Destination rectangle clipped to the active area: x0, y0, x1, y1, with x0 = x1 or y0 = y1 when empty (R219). -/
def Chip.lyClip (x : Chip) (h : Nat) (ws : List Nat) : Nat × Nat × Nat × Nat :=
  let w : Int := x.get HDn_HTIME0_HACTIVE h
  let v : Int := x.get HDn_VTIME0_VACTIVE h
  let x0 := clampI (lyDx ws) 0 w
  let y0 := clampI (lyDy ws) 0 v
  let x1 := clampI (lyDx ws + lyDw ws) 0 w
  let y1 := clampI (lyDy ws + lyDh ws) 0 v
  if x0 < x1 ∧ y0 < y1 then (x0.toNat, y0.toNat, x1.toNat, y1.toNat) else (x0.toNat, y0.toNat, x0.toNat, y0.toNat)

/-! ### Units -/

/-- The head's units in slot order (R205). -/
def Chip.headUnits (x : Chip) (h : Nat) : List Nat :=
  (List.range 96).filter fun u => x.on CP_Ln_OWNER_BOUND u && x.get CP_Ln_OWNER_HEAD u = h

/-- The head's protected unit (R206). -/
def Chip.protUnit (x : Chip) (h : Nat) : Option Nat :=
  (x.headUnits h).find? fun u => x.on CP_Ln_OWNER_WORLD u

/-- The layer set on a unit. -/
def Chip.layer (x : Chip) (u : Nat) : Option Layer := x.cp.layers.find? fun l => l.unit = u

/-- The unit's queued changes, oldest first. -/
def Chip.unitQueue (x : Chip) (u : Nat) : List Change := x.cp.changes.filter fun c => c.unit = some u

/-- The function a unit is assigned to. -/
def Chip.unitOwner (x : Chip) (u : Nat) : Option Nat := (x.cp.assign.find? fun p => p.1 = u).map (·.2)

/-- Function `f` owns unit `u` (R207). -/
def Chip.ownsUnit (x : Chip) (f u : Nat) : Bool :=
  u < 96 && (x.on CP_Ln_OWNER_BOUND u && x.unitOwner u = some f)

/-- Twice the bytes of the layer a unit is admitted for: its last queued setting or removal, else the layer set. -/
def Chip.unitBytes2 (x : Chip) (u : Nat) : Nat :=
  match ((x.unitQueue u).reverse.findSome? fun c => match c.kind with
    | .layerSet ws => some (lyBytes2 ws)
    | .prot ws => some (lyBytes2 ws)
    | .layerRemove => some 0
    | .protRemove => some 0
    | _ => none) with
  | some n => n
  | none => match x.layer u with
    | some l => lyBytes2 l.words
    | none => 0

/-- Admitted fetch of a unit on its head, bytes a second times 2^32 (R230). -/
def Chip.unitRate32 (x : Chip) (h bytes2 : Nat) : Nat := bytes2 * x.pixel32 h / (2 * x.framePixels h)

/-- CP_Ln_FETCH, CP_Ln_STAT.QUEUED and CP_HEADn_FETCH follow layers and queues. -/
def Chip.updFetch (x : Chip) (h : Nat) : Chip :=
  let us := x.headUnits h
  let y := us.foldl (fun (y : Chip) u =>
    ((y.set CP_Ln_FETCH_MBPS (mbps32 (x.unitRate32 h (x.unitBytes2 u))) u).set CP_Ln_STAT_QUEUED
      (x.unitQueue u).length u).flag CP_Ln_STAT_SET (x.layer u).isSome u) x
  y.set CP_HEADn_FETCH_MBPS (mbps32 ((us.map fun u => x.unitRate32 h (x.unitBytes2 u)).sum)) h

/-- FNf_STAT.HOLDING follows the layers held from a function (R102). -/
def Chip.updHolding (x : Chip) (f : Nat) : Chip :=
  if f ≤ 64 then x.flag FNf_STAT_HOLDING (x.cp.layers.any fun l => l.fn = f && x.on CP_Ln_STAT_HELD l.unit) f else x

/-- CP_Ln_OWNER's function fields follow an assignment. -/
def Chip.assignUnit (x : Chip) (u : Nat) (f : Option Nat) : Chip :=
  let as := (x.cp.assign.filter fun p => p.1 != u) ++ (match f with
    | some g => [(u, g)]
    | none => [])
  (({ x with cp := { x.cp with assign := as } }).set CP_Ln_OWNER_FUNC (f.getD 0) u).flag CP_Ln_OWNER_ASSIGNED f.isSome u

/-- A held layer's hold ends (R95): its unit shows it until a change replaces it. Assumption log, row 27. -/
def Chip.endHold (x : Chip) (u : Nat) : Chip :=
  if x.on CP_Ln_STAT_HELD u then
    let y := { (x.flag CP_Ln_STAT_HELD false u).set CP_Ln_OWNER_FUNC ((x.unitOwner u).getD 0) u with
      cp := { x.cp with layers := updAll x.cp.layers (fun l => l.unit = u) fun l => { l with expired := false } } }
    match x.layer u with
    | some l => y.updHolding l.fn
    | none => y
  else x

/-- A unit's layer goes: an allocation that passed to firmware is freed once no held layer shows it (R114); a protected
layer's copy is freed. -/
def Chip.dropLayer (x : Chip) (u : Nat) : Chip :=
  match x.layer u with
  | none => x
  | some l =>
    let y := x.endHold u
    let y := { y with cp := { y.cp with layers := y.cp.layers.filter fun m => m.unit != u } }
    let y := y.set CP_Ln_OWNER_FUNC ((y.unitOwner u).getD 0) u
    let i := hIndex (lyAddr l.words)
    if (l.fw || l.fn = 128) && !y.cp.layers.any (fun m => hIndex (lyAddr m.words) = i) then
      match y.entry i with
      | some e => if (l.fw && e.func = 127) || e.cls = 14 then y.freeEntry e else y
      | none => y
    else y

/-- The protected rectangle of a head and the CLIPPED bits follow its layers (R219 to R221): a rectangle that changes is
passed to the touch hub, raises source 167 and leaves the next frame uncompared (R252). -/
def Chip.updProt (x : Chip) (h : Nat) : Chip :=
  let r := match (x.protUnit h).bind x.layer with
    | some l => x.lyClip h l.words
    | none => (0, 0, 0, 0)
  let xy0 := r.1 + 65536 * r.2.1
  let xy1 := r.2.2.1 + 65536 * r.2.2.2
  let y := if x.get CP_HEADn_PROT_XY0_XY h = xy0 && x.get CP_HEADn_PROT_XY1_XY h = xy1 then x
    else
      let y := (x.set CP_HEADn_PROT_XY0_XY xy0 h).set CP_HEADn_PROT_XY1_XY xy1 h
      let ps := (y.th.prot.filter fun p => p.1 != h) ++
        (if xy0 = xy1 then [] else [(h, [r.1, r.2.1, r.2.2.1, r.2.2.2])])
      (({ y with th := { y.th with prot := ps } }).setHead h fun s => { s with noCompare := true }).raise 167
  (x.headUnits h).foldl (fun (z : Chip) u =>
    let c := match x.layer u with
      | some l =>
        let q := x.lyClip h l.words
        some u != x.protUnit h && (decide (q.1 < r.2.2.1) && (decide (r.1 < q.2.2.1) &&
          (decide (q.2.1 < r.2.2.2) && decide (r.2.1 < q.2.2.2))))
      | none => false
    z.flag CP_Ln_STAT_CLIPPED c u) y

/-! ### Hit regions (R268 to R270) -/

/-- TH_HRT_USED follows the table. -/
def Chip.setHits (x : Chip) (hs : List HitEntry) : Chip :=
  (({ x with th := { x.th with hits := hs } }).set TH_HRT_USED_USED hs.length).set TH_HRT_USED_SEC
    (hs.filter fun (e : HitEntry) => e.world).length

/-- The entry one record of HIT_REGION_WRITE makes; function 127 stands for the secure world. -/
def hitOf (idx fn head : Nat) (r : List Nat) : HitEntry :=
  let a := r.getD 0 0
  let b := r.getD 1 0
  let c := r.getD 2 0
  let d := r.getD 3 0
  { idx := idx, world := fn = 127, head := head, func := fn, region := bits a 0 16, prio := bits a 16 8,
    moves := bitAt a 24, hapticEn := bitAt a 25, onUp := bitAt a 26, x0 := bits b 0 16, y0 := bits b 16 16,
    x1 := bits c 0 16, y1 := bits c 16 16, wave := bits d 0 8, ch := bits d 8 4 }

/-- One record is written: over the function's entry of the same head and REGION, or in the lowest-numbered free entry. -/
def Chip.writeHit (x : Chip) (fn head : Nat) (r : List Nat) : Chip :=
  match x.th.hits.find? fun e => e.func = fn && (e.head = head && e.region = bits (r.getD 0 0) 0 16) with
  | some e => x.setHits (updFirst x.th.hits (fun d => d.idx = e.idx) fun _ => hitOf e.idx fn head r)
  | none => match firstBelow (fun i => !x.th.hits.any fun e => e.idx = i) 0 4096 with
    | some i => x.setHits (x.th.hits ++ [hitOf i fn head r])
    | none => x

/-- The function's entries on a head, of one region or of all, are removed. -/
def Chip.clearHits (x : Chip) (fn head : Nat) (region : Option Nat) : Chip :=
  x.setHits (x.th.hits.filter fun e => !(e.func = fn && (e.head = head && (match region with
    | some r => e.region = r
    | none => true))))

/-! ### Changes -/

/-- A change number is drawn (R214); at a wrap every slot is emptied (R233). Assumption log, row 49. -/
def Chip.drawChange (x : Chip) : Chip :=
  let n := (x.get CP_CHANGE_NUM + 1) % 2 ^ 32
  let y := x.set CP_CHANGE_NUM n
  if n = 0 then
    let y := y.cp.store.foldl (fun (z : Chip) l => if l.fresh then z.inc CP_HEADn_SPEC_MISS_COUNT (l.line / 8192) else z) y
    { y with cp := { y.cp with store := [] } }
  else y

/-- Changes are queued under the number just drawn, and the composer's arm for the head is raised (R214). -/
def Chip.queue (x : Chip) (h : Nat) (cs : List Change) : Chip :=
  ({ x with cp := { x.cp with
      changes := x.cp.changes ++ cs,
      arms := if x.cp.arms.contains h then x.cp.arms else x.cp.arms ++ [h] } }).updFetch h

/-- The head's setting tag takes a change's number. -/
def Chip.setHeadTag (x : Chip) (h n : Nat) : Chip :=
  { x with cp := { x.cp with headTag := sparseSet x.cp.headTag h n 0 } }

/-- A unit's tag takes a change's number, and HDn_COMMIT_SEQ is noted for it. -/
def Chip.tagUnit (x : Chip) (u num seq : Nat) : Chip :=
  let y := x.set CP_Ln_TAG_NUM num u
  { y with cp := { y.cp with seqs := sparseSet y.cp.seqs u seq 0 } }

/-- A unit's layer is set. -/
def Chip.putLayer (x : Chip) (u fn : Nat) (ws : List Nat) : Chip :=
  let l : Layer := ⟨u, fn, x.genOf fn, ws, false, false⟩
  let same := (x.layer u).any fun m => hIndex (lyAddr m.words) = hIndex (lyAddr ws)
  let y := if same then x.endHold u else x.dropLayer u
  { y with cp := { y.cp with layers := (y.cp.layers.filter fun m => m.unit != u) ++ [l] } }

/-- The protected layer of a stale head has been queued again and applies (R460). -/
def Chip.requeued (x : Chip) (h : Nat) : Chip :=
  if x.bit GL_SEC_STALE h && x.secUp then
    if (x.head h).windows.getD 13 0 = 0 then x.setStale h false
    else x.setHead h fun s => { s with requeued := 1 }
  else x

/-- A change of a unit takes effect (R214 to R216, R219); `seq` is the value HDn_COMMIT_SEQ takes. Assumption log, row
47. -/
def Chip.applyUnit (x : Chip) (seq u : Nat) (c : Change) : Chip :=
  let y := match c.kind with
    | .layerSet ws => x.putLayer u c.fn ws
    | .prot ws => x.putLayer u c.fn ws
    | .layerRemove => x.dropLayer u
    | .protRemove => (x.dropLayer u).setStale c.head false
    | .flip a _ =>
      let ls := updAll x.cp.layers (fun l => l.unit = u) fun l => { l with words := lyFlip l.words a }
      { x with cp := { x.cp with layers := ls } }
    | _ => x
  let y := ((y.tagUnit u c.num seq).updFetch c.head).updProt c.head
  match c.kind with
  | .prot _ => y.onlyIf (!(y.head c.head).before.contains c.num) (·.requeued c.head)
  | _ => y

/-- A tone mapping takes force (R213, R231). -/
def Chip.setTone (x : Chip) (h ctl : Nat) (m cv : List Nat) : Chip :=
  let z := ((x.set CP_HEADn_TONE_OUT_TF (bits ctl 0 2) h).flag CP_HEADn_TONE_CURVE_EN (bitAt ctl 2) h).flag
    CP_HEADn_TONE_MATRIX_EN (bitAt ctl 3) h
  let cs := (z.cp.curves.filter fun p => p.1 != h) ++ [(h, cv)]
  let ms := (z.cp.matrix.filter fun p => p.1 != h) ++ [(h, m)]
  { z with cp := { z.cp with curves := cs, matrix := ms } }

/-- A change of the head's own takes effect (R214, R270). -/
def Chip.applyOwn (x : Chip) (c : Change) : Chip :=
  match c.kind with
  | .tone ctl m cv => (x.setTone c.head ctl m cv).setHeadTag c.head c.num
  | .background rg b =>
    ((x.set CP_HEADn_BG_LO_RG rg c.head).set CP_HEADn_BG_HI_B b c.head).setHeadTag c.head c.num
  | .hitWrite rs => rs.foldl (fun (z : Chip) r => z.writeHit c.fn c.head r) x
  | .hitClear r => x.clearHits c.fn c.head r
  | _ => x

/-- A change leaves the queue and takes effect. -/
def Chip.applyChange (x : Chip) (seq : Nat) (c : Change) : Chip :=
  let y := { x with cp := { x.cp with changes := x.cp.changes.filter fun d => !(d.num = c.num && d.unit = c.unit) } }
  match c.unit with
  | some u => y.applyUnit seq u c
  | none => y.applyOwn c

/-- The changes that stand or fall with a change: the members of its group. Assumption log, row 48. -/
def Chip.members (x : Chip) (c : Change) : List Change :=
  if c.group then x.cp.changes.filter fun d => d.num = c.num else [c]

/-- The change is a flip. -/
def Change.isFlip (c : Change) : Bool :=
  match c.kind with
  | .flip _ _ => true
  | _ => false

/-- A change, and its group with it, is dropped (R218): flips are counted and raise source 162; FLIP_DROPPED goes to
its function. Assumption log, rows 47, 48. -/
def Chip.dropChange (x : Chip) (reason : Nat) (c : Change) : Chip :=
  let ms := x.members c
  if !x.cp.changes.contains c then x
  else
    let y := { x with cp := { x.cp with changes := x.cp.changes.filter fun d => !ms.contains d } }
    let y := if c.isFlip then (y.sat CP_HEADn_DROP_COUNT c.head).raise 162 else y
    let y := match c.kind with
      | .prot ws => (match y.entry (hIndex (lyAddr ws)) with
        | some e => y.freeEntry e
        | none => y)
      | _ => y
    let first := match ms with
      | m :: _ => (m.unit.getD 0xFFFFFFFF)
      | [] => 0xFFFFFFFF
    let y := if c.fn ≤ 64 then y.notice c.fn 0x4801 [c.num, first, reason, c.count] else y
    (y.updFetch c.head).reapFences

/-! ### Line keys and forward composition (R222 to R227) -/

/-- A unit's layer in a scene. -/
abbrev SceneUnit := Nat × Nat × List Nat

/-- The first entry a list keeps for a head. -/
def ofHead (l : List (Nat × List Nat)) (h : Nat) : List Nat := ((l.find? fun p => p.1 = h).map (·.2)).getD []

/-- The head as it is committed (R222). -/
def Chip.view (x : Chip) (h : Nat) : Scene where
  tag := sparseGet x.cp.headTag h 0
  units := (x.headUnits h).filterMap fun u => (x.layer u).map fun l => (u, x.get CP_Ln_TAG_NUM u, l.words)
  tone := x.word [CP_HEADn_TONE_OUT_TF, CP_HEADn_TONE_CURVE_EN, CP_HEADn_TONE_MATRIX_EN] h
  curve := ofHead x.cp.curves h
  matrix := ofHead x.cp.matrix h
  bg := (x.get CP_HEADn_BG_LO_RG h, x.get CP_HEADn_BG_HI_B h)

/-- The layers with a change of a unit applied. -/
def viewUnit (us : List SceneUnit) (u : Nat) (c : Change) : List SceneUnit :=
  match c.kind with
  | .layerSet ws => (us.filter fun p => p.1 != u) ++ [(u, c.num, ws)]
  | .prot ws => (us.filter fun p => p.1 != u) ++ [(u, c.num, ws)]
  | .layerRemove => us.filter fun p => p.1 != u
  | .protRemove => us.filter fun p => p.1 != u
  | .flip a _ => us.map fun p => if p.1 = u then (u, c.num, lyFlip p.2.2 a) else p
  | _ => us

/-- The scene with a change applied: a tone mapping or background change alters the setting tag. -/
def viewChange (v : Scene) (c : Change) : Scene :=
  match c.unit with
  | some u => { v with units := viewUnit v.units u c }
  | none => match c.kind with
    | .tone ctl m cv => { v with tag := c.num, tone := ctl % 16, curve := cv, matrix := m }
    | .background rg b => { v with tag := c.num, bg := (rg, b) }
    | _ => v

/-- A layer's destination rows cover line `n` after clipping. -/
def Chip.covers (x : Chip) (h n : Nat) (ws : List Nat) : Bool :=
  let r := x.lyClip h ws
  decide (r.2.1 ≤ n) && decide (n < r.2.2.2)

/-- The key of a line under a view (R222), units in rising order. -/
def Chip.keyOf (x : Chip) (h n : Nat) (v : Scene) : LineKey :=
  let us := v.units.filter fun p => x.covers h n p.2.2
  (v.tag, (List.range 96).filterMap fun u => (us.find? fun p => p.1 = u).map fun p => (u, p.2.1))

/-- The fence of a flip is reached (R215). -/
def Chip.flipReady (x : Chip) (c : Change) : Bool :=
  match c.kind with
  | .flip _ (some w) => decide (w.2 ≤ x.fenceValue w.1)
  | _ => true

/-- A change is expected for the next frame (R224). -/
def Chip.expected (x : Chip) (c : Change) : Bool :=
  (x.members c).all fun d => x.flipReady d || (match d.kind with
    | .flip _ (some w) => x.gx.jobs.any fun j => j.members != 0 && (!j.old && (match j.signal with
      | some s => s.1 = w.1 && decide (w.2 ≤ s.2)
      | none => false))
    | _ => false)

/-- The slots of a line; both empty where nothing was stored. -/
def Chip.slots (x : Chip) (h n : Nat) : LineSlots :=
  (x.cp.store.find? fun l => l.line = h * 8192 + n).getD ⟨h * 8192 + n, none, none, false⟩

/-- The slots of a line change. -/
def Chip.setSlots (x : Chip) (l : LineSlots) : Chip :=
  let st := x.cp.store.filter (fun m => m.line < l.line) ++ [l] ++ x.cp.store.filter fun m => l.line < m.line
  { x with cp := { x.cp with store := st } }

end Sys2Proof.Machine
end

