-- ==== Sys2Proof/Machine/Images.lean ====
section
/-!
DEFINITION. Layouts of images, targets and layers in memory (R186, R187).
-/
namespace Sys2Proof.Machine

/-! ### Images (R186, R187) -/

/-- Bits of a number spread to the even places: `n` of them. -/
def spread (n v : Nat) : Nat := ((List.range n).map fun i => bits v i 1 * 4 ^ i).sum

/-- Byte offset of texel (x, y) of an image (R186): layout 0 LINEAR, 1 TILED_4K, 2 TILED_64. -/
def texOffset (layout width pitch bpp x y : Nat) : Nat :=
  match layout with
  | 0 => y * pitch + x * bpp
  | 1 =>
    let tile := (y / 64) * ceilDiv width 64 + x / 64
    let mb := spread 4 (x % 64 / 4) + 2 * spread 4 (y % 64 / 4)
    ((tile * 256 + mb) * 16 + (y % 4) * 4 + x % 4) * bpp
  | _ =>
    let tile := (y / 32) * ceilDiv width 64 + x / 64
    ((tile * 2 + x % 64 / 32) * 1024 + (y % 32) * 32 + x % 32) * bpp

/-- Bytes of one image level of `w` × `h` texels (R187). -/
def levelBytes (layout w h pitch bpp : Nat) : Nat :=
  match layout with
  | 0 => h * pitch
  | 1 => ceilDiv w 64 * 64 * (ceilDiv h 64 * 64) * bpp
  | _ => ceilDiv w 64 * 64 * (ceilDiv h 32 * 32) * bpp

/-- TILED_64 serves 2, 4 and 8 bytes per texel; TILED_4K and LINEAR any uncompressed format. -/
def layoutServes (layout bpp : Nat) : Bool := layout < 2 || [2, 4, 8].contains bpp

/-- Base alignment of a layout. -/
def layoutAlign (layout : Nat) : Nat := if layout = 0 then 256 else 4096

end Sys2Proof.Machine
end

