-- ==== Sys2Proof/Machine/Pixels.lean ====
section
/-!
DEFINITION. The pixels of a line (R208 to R213, R220): how a layer's pixels lie in memory, their conversion into the
composition space, scaling, blending over the background, and the head's tone mapping. Values are exact fractions; the
arithmetic that the spec does not state is free (Config). Assumption log, row 138.
-/
namespace Sys2Proof.Machine

/-- A pixel: its channels, and its alpha. -/
structure Pixel where
  /-- Red. -/
  r : Rat
  /-- Green. -/
  g : Rat
  /-- Blue. -/
  b : Rat
  /-- Alpha. -/
  a : Rat
deriving DecidableEq, Repr

/-- The same operation on each channel. -/
def Pixel.each (f : Rat → Rat) (p : Pixel) : Pixel := { p with r := f p.r, g := f p.g, b := f p.b }

/-- The channels through a 3×3 matrix, row-major. -/
def Pixel.through (p : Pixel) (m : List Rat) : Pixel :=
  let row := fun (i : Nat) => m.getD (3 * i) 0 * p.r + m.getD (3 * i + 1) 0 * p.g + m.getD (3 * i + 2) 0 * p.b
  { p with r := row 0, g := row 1, b := row 2 }

/-- Pixels added up with weights. -/
def weighted (ps : List (Rat × Pixel)) : Pixel :=
  ps.foldl (fun s p => ⟨s.r + p.1 * p.2.r, s.g + p.1 * p.2.g, s.b + p.1 * p.2.b, s.a + p.1 * p.2.a⟩) ⟨0, 0, 0, 0⟩

/-! ### Pixels in memory (R208, R209) -/

/-- An unsigned field of `n` bits as a fraction of its highest value. -/
def fraction (w lo n : Nat) : Rat := (bits w lo n : Rat) / ((2 ^ n - 1 : Nat) : Rat)

/-- The pixel a word of an RGB format stands for. Assumption log, row 138. -/
def rgbPixel (f w : Nat) : Pixel :=
  match f with
  | 0x01 => ⟨fraction w 11 5, fraction w 5 6, fraction w 0 5, 1⟩
  | 0x02 => ⟨fraction w 10 5, fraction w 5 5, fraction w 0 5, fraction w 15 1⟩
  | 0x03 => ⟨fraction w 8 4, fraction w 4 4, fraction w 0 4, fraction w 12 4⟩
  | 0x04 => ⟨fraction w 16 8, fraction w 8 8, fraction w 0 8, 1⟩
  | 0x05 => ⟨fraction w 16 8, fraction w 8 8, fraction w 0 8, fraction w 24 8⟩
  | 0x06 => ⟨fraction w 0 8, fraction w 8 8, fraction w 16 8, fraction w 24 8⟩
  | _ => ⟨fraction w 20 10, fraction w 10 10, fraction w 0 10, fraction w 30 2⟩

/-- Bits of a YUV sample. -/
def yuvBits (f : Nat) : Nat := if f = 0x13 then 10 else 8

/-- A YUV sample at a device address: P010 keeps its ten bits in 15:6 of a 16-bit word (R208). -/
def yuvSample (mem : List Host.Cell) (x : Chip) (f a : Nat) : Nat :=
  if f = 0x13 then bits (readLe mem x a 2) 6 10 else readLe mem x a 1

/-- Luma of the pixel in column `i`, row `j`. -/
def lumaAt (mem : List Host.Cell) (x : Chip) (ws : List Nat) (i j : Nat) : Nat :=
  yuvSample mem x (lyFmt ws) (lyAddr ws + j * ws.getD 3 0 + fmtPlane0 (lyFmt ws) * i)

/-- Chroma `c`, 0 Cb and 1 Cr, of the pair in column `i`, row `j` (R208). -/
def chromaAt (mem : List Host.Cell) (x : Chip) (ws : List Nat) (c i j : Nat) : Nat :=
  let row := lyAddr ws + j * ws.getD 6 0
  match lyFmt ws with
  | 0x11 => readLe mem x (row + ws.getD (4 + c) 0 + i) 1
  | 0x13 => yuvSample mem x 0x13 (row + ws.getD 4 0 + 4 * i + 2 * c)
  | _ => readLe mem x (row + ws.getD 4 0 + 2 * i + c) 1

/-- Two neighbours of a chroma axis with their weights: co-sited with the even columns, midway between rows (R209);
past the source rectangle its last sample stands. Assumption log, row 138. -/
def chromaAcross (ws : List Nat) (i : Nat) : List (Nat × Rat) :=
  if i % 2 = 0 then [(i / 2, 1)] else [(i / 2, 1 / 2), (min (i / 2 + 1) ((lySx ws + lySw ws) / 2 - 1), 1 / 2)]

/-- The same down a column. Assumption log, row 138. -/
def chromaDown (ws : List Nat) (j : Nat) : List (Nat × Rat) :=
  if !fmt420 (lyFmt ws) then [(j, 1)]
  else if j % 2 = 0 then [(j / 2, 3 / 4), (max (j / 2 - 1) (lySy ws / 2), 1 / 4)]
  else [(j / 2, 3 / 4), (min (j / 2 + 1) ((lySy ws + lySh ws) / 2 - 1), 1 / 4)]

/-- Chroma upsampled bilinearly to the pixel in column `i`, row `j` (R209). -/
def chromaOf (mem : List Host.Cell) (x : Chip) (ws : List Nat) (c i j : Nat) : Rat :=
  ((chromaDown ws j).map fun q => q.2 * ((chromaAcross ws i).map fun p =>
    p.2 * (chromaAt mem x ws c p.1 q.1 : Rat)).sum).sum

/-! ### The composition space (R211) -/

/-- Luma of a YUV format as a fraction, range expanded where the layer is limited-range. Assumption log, row 138. -/
def lumaRange (limited : Bool) (n : Nat) (v : Rat) : Rat :=
  if limited then (v - 16 * 2 ^ (n - 8)) / (219 * 2 ^ (n - 8)) else v / (2 ^ n - 1)

/-- Chroma the same, about zero. Assumption log, row 138. -/
def chromaRange (limited : Bool) (n : Nat) (v : Rat) : Rat :=
  (v - 2 ^ (n - 1)) / (if limited then 224 * 2 ^ (n - 8) else 2 ^ n - 1)

/-- Weights of red and blue in luma under a YUV matrix: BT.601, BT.709, BT.2020. Assumption log, row 138. -/
def lumaWeights (m : Nat) : Rat × Rat :=
  match m with
  | 0 => (299 / 1000, 114 / 1000)
  | 1 => (2126 / 10000, 722 / 10000)
  | _ => (2627 / 10000, 593 / 10000)

/-- A luma and its chroma pair through a YUV matrix. -/
def yuvPixel (m : Nat) (y cb cr : Rat) : Pixel :=
  let k := lumaWeights m
  let r := y + 2 * (1 - k.1) * cr
  let b := y + 2 * (1 - k.2) * cb
  ⟨r, (y - k.1 * r - k.2 * b) / (1 - k.1 - k.2), b, 1⟩

/-- BT.709 primaries expressed in BT.2020. Assumption log, row 138. -/
def primaries709 : List Rat :=
  [6274 / 10000, 3293 / 10000, 433 / 10000, 691 / 10000, 9195 / 10000, 114 / 10000, 164 / 10000, 880 / 10000, 8956 / 10000]

/-- The pixel of a layer in column `i`, row `j` of plane 0, as it is encoded. -/
def lyRaw (mem : List Host.Cell) (x : Chip) (ws : List Nat) (i j : Nat) : Pixel :=
  let f := lyFmt ws
  if fmtYuv f then
    let n := yuvBits f
    let lim := bitAt (ws.getD 2 0) 16
    yuvPixel (bits (ws.getD 2 0) 14 2) (lumaRange lim n (lumaAt mem x ws i j : Rat))
      (chromaRange lim n (chromaOf mem x ws 0 i j)) (chromaRange lim n (chromaOf mem x ws 1 i j))
  else
    let n := fmtPlane0 f
    rgbPixel f (readLe mem x (lyAddr ws + texOffset (bits (ws.getD 2 0) 8 2) (lySx ws + lySw ws) (ws.getD 3 0) n i j) n)

/-- A layer's pixel in the composition space: matrix, input transfer and primaries, in that order (R211). -/
def lyPixel (mem : List Host.Cell) (x : Chip) (ws : List Nat) (i j : Nat) : Pixel :=
  let tf := bits (ws.getD 2 0) 10 3
  let p := (lyRaw mem x ws i j).each fun v => if tf = 0 then v else Config.transferDecode tf v
  (if bitAt (ws.getD 2 0) 13 then p else p.through primaries709).each Config.half

/-! ### Scaling (R210) -/

/-- Source places of destination place `d` on an axis, with their weights: the place itself at a ratio of exactly 1,
else the taps of the filter at the nearest of 64 phases below. Assumption log, row 138. -/
def axisTaps (taps source dest d : Nat) : List (Nat × Rat) :=
  if source = dest then [(d, 1)]
  else
    let at64 : Int := ((2 * d + 1) * source * 32 : Nat) / dest - 32
    let phase := (at64 % 64).toNat
    (List.range taps).map fun (t : Nat) =>
      ((clampI (at64 / 64 - (taps / 2 : Nat) + 1 + t) 0 ((source : Int) - 1)).toNat, Config.filterTap taps phase t)

/-- What a layer shows at place (u, v) of its destination rectangle. -/
def lyShown (mem : List Host.Cell) (x : Chip) (ws : List Nat) (u v : Nat) : Pixel :=
  weighted ((axisTaps 4 (lySh ws) (lyDh ws) v).flatMap fun q => (axisTaps 8 (lySw ws) (lyDw ws) u).map fun p =>
    (p.2 * q.2, lyPixel mem x ws (lySx ws + p.1) (lySy ws + q.1)))

/-! ### Blending (R212, R220) -/

/-- The value of an FP16 word. -/
def halfValue (w : Nat) : Rat :=
  let e := bits w 10 5
  let m : Rat := bits w 0 10
  let v := if e = 0 then m / 2 ^ 24 else if e = 31 then Config.notFinite w else (1024 + m) * 2 ^ e / 2 ^ 25
  if bitAt w 15 && e != 31 then -v else v

/-- A colour of the composition space from its R and G word and its B word. -/
def spaceColour (rg b : Nat) : Pixel := ⟨halfValue (rg % 65536), halfValue (rg / 65536 % 65536), halfValue (b % 65536), 1⟩

/-- A layer's pixel blended over what lies below it (R212). -/
def blendOver (ws : List Nat) (src out : Pixel) : Pixel :=
  let plane : Rat := (bits (ws.getD 2 0) 24 8 : Rat) / 255
  let a := src.a * plane
  let k := if bitAt (ws.getD 2 0) 17 then plane else a
  let mix := fun (c o : Rat) => Config.half (c * k + o * (1 - a))
  ⟨mix src.r out.r, mix src.g out.g, mix src.b out.b, 1⟩

/-- The pixel lies in a layer's destination rectangle after clipping. -/
def Chip.shows (x : Chip) (h px n : Nat) (ws : List Nat) : Bool :=
  let r := x.lyClip h ws
  x.covers h n ws && (decide (r.1 ≤ px) && decide (px < r.2.2.1))

/-- The layers that contribute to a pixel, bottom to top: inside the protected rectangle the protected layer alone
(R206, R220). Units rise with their slots. -/
def Chip.layersAt (x : Chip) (h : Nat) (v : Scene) (px n : Nat) : List (List Nat) :=
  let us := (x.headUnits h).filterMap fun u => (v.units.find? fun p => p.1 = u && x.shows h px n p.2.2).map fun p => (u, p.2.2)
  let prot := us.filter fun p => some p.1 = x.protUnit h
  (if prot = [] then us else prot).map (·.2)

/-- A pixel of the head before tone mapping (R212). -/
def blendPixel (mem : List Host.Cell) (x : Chip) (h : Nat) (v : Scene) (px n : Nat) : Pixel :=
  (x.layersAt h v px n).foldl (fun out ws =>
    blendOver ws (lyShown mem x ws ((px : Int) - lyDx ws).toNat ((n : Int) - lyDy ws).toNat) out) (spaceColour v.bg.1 v.bg.2)

/-! ### Tone mapping (R213) -/

/-- Point `i` of the curve's table of channel `c`: red, green and blue follow one another. Assumption log, row 138. -/
def curvePoint (curve : List Nat) (c i : Nat) : Rat :=
  halfValue (curve.getD (2048 * c + 2 * i) 0 + 256 * curve.getD (2048 * c + 2 * i + 1) 0)

/-- A channel through its curve: the index is the PQ encoding of the clamped input, and points are joined by lines. -/
def throughCurve (curve : List Nat) (c : Nat) (v : Rat) : Rat :=
  let at1 := Config.pqEncode (max 0 (min 100 v)) * 1023
  let i := at1.floor.toNat
  let p := curvePoint curve c (min i 1023)
  p + (at1 - i) * (curvePoint curve c (min (i + 1) 1023) - p)

/-- A channel as the head takes it: negative values clamped, sRGB and BT.1886 clamped to 1.0, and encoded in ten bits. -/
def outputCode (tf : Nat) (v : Rat) : Nat :=
  let w := max 0 v
  min 1023 (Config.transferCode tf (if tf < 2 then min 1 w else w))

/-- Tone mapping: curve, matrix, output transfer; R in bits 29:20, G in 19:10, B in 9:0 (R213, R251). -/
def toneMap (v : Scene) (p : Pixel) : Nat :=
  let p := if bitAt v.tone 2 then
      { p with r := throughCurve v.curve 0 p.r, g := throughCurve v.curve 1 p.g, b := throughCurve v.curve 2 p.b } else p
  let p := if bitAt v.tone 3 then p.through (v.matrix.map fun w => (toS 16 (w % 65536) : Rat) / 8192) else p
  let code := outputCode (v.tone % 4)
  (code p.r * 1024 + code p.g) * 1024 + code p.b

/-- An active line as it is composed from a scene. -/
def composeLine (mem : List Host.Cell) (x : Chip) (h n : Nat) (v : Scene) : List Nat :=
  (List.range (x.get HDn_HTIME0_HACTIVE h)).map fun px => toneMap v (blendPixel mem x h v px n)

/-- A line of one colour of the composition space. -/
def Chip.plainLine (x : Chip) (h : Nat) (v : Scene) (p : Pixel) : List Nat :=
  List.replicate (x.get HDn_HTIME0_HACTIVE h) (toneMap v p)

/-- A line of the head background (R225). -/
def Chip.groundLine (x : Chip) (h : Nat) (v : Scene) : List Nat := x.plainLine h v (spaceColour v.bg.1 v.bg.2)

/-- A line as the head sends it: where the protected layer is stale, its rectangle shows what the stale action says
(R459); BLANK sends black. Assumption log, row 139. -/
def Chip.outLine (x : Chip) (h n : Nat) (f : Frame) (row : List Nat) : List Nat :=
  let stale := match x.get SW_STALE_ACTION with
    | 1 => some (toneMap f.scene (spaceColour (x.get SW_STALE_RG_RG) (x.get SW_STALE_B_B)))
    | 2 => some (toneMap f.scene (spaceColour f.scene.bg.1 f.scene.bg.2))
    | _ => none
  let prot := (x.protUnit h).bind fun u => f.scene.units.find? fun p => p.1 = u
  row.zipIdx.map fun q =>
    if f.blank then 0
    else match stale, prot with
      | some w, some p => if x.bit GL_SEC_STALE h && x.shows h q.2 n p.2.2 then w else q.1
      | _, _ => q.1

end Sys2Proof.Machine
end

