-- ==== Sys2Proof/Machine/Lines.lean ====
section
/-!
DEFINITION. Line stores and forward composition (R223 to R227): slots, the allowance, and the lines composed ahead.
-/
namespace Sys2Proof.Machine

/-- The planes of a format: half-bytes a luma pixel in a row of it, and whether its rows are halved. -/
def fmtRows (f : Nat) : List (Nat × Bool) :=
  (2 * fmtPlane0 f, false) :: (match f with
    | 0x10 => [(2, true)]
    | 0x11 => [(1, true), (1, true)]
    | 0x12 => [(2, false)]
    | 0x13 => [(4, true)]
    | _ => [])

/-- Bytes a row of a plane is fetched with: all of the source rectangle but the 64-byte blocks that lie wholly outside the
active area (R210). -/
def Chip.rowFetch (x : Chip) (h : Nat) (ws : List Nat) (b2 : Nat) : Nat :=
  let r := x.lyClip h ws
  let first := ((r.1 : Int) - lyDx ws).toNat * lySw ws / lyDw ws
  let last := ceilDiv (((r.2.2.1 : Int) - lyDx ws).toNat * lySw ws) (lyDw ws)
  let lo := (lySx ws + first) * b2 / 128 * 64
  let hi := ceilDiv ((lySx ws + last) * b2) 128 * 64
  min hi ((lySx ws + lySw ws) * b2 / 2) - max lo (lySx ws * b2 / 2)

/-- Bytes of a layer fetched for one destination line: its rows spread over them (R227). Assumption log, row 49. -/
def Chip.lyLineFetch (x : Chip) (h : Nat) (ws : List Nat) : Nat :=
  ceilDiv (((fmtRows (lyFmt ws)).map fun p => x.rowFetch h ws p.1 * (if p.2 then lySh ws / 2 else lySh ws)).sum) (lyDh ws)

/-- Bytes of the layers fetched for line `n` under a scene (R227). Assumption log, row 49. -/
def Chip.lineFetch (x : Chip) (h n : Nat) (v : Scene) : Nat :=
  ((v.units.filter fun p => x.covers h n p.2.2).map fun p => x.lyLineFetch h p.2.2).sum

/-- Bytes of a slot (R223). -/
def Chip.slotBytes (x : Chip) (h : Nat) : Nat := x.get HDn_HTIME0_HACTIVE h * 4

/-- The head's allowance for a frame, in bytes (R227). Assumption log, row 49. -/
def Chip.allowance (x : Chip) (h : Nat) : Nat := x.get CP_HEADn_CFG_FETCH_DEPTH h * x.framePixels h

/-- Bytes are charged to the head's allowance, and to the fetch of the functions that own the layers (R102).
Assumption log, row 49. -/
def Chip.charge (x : Chip) (h n : Nat) : Chip :=
  { x with cp := { x.cp with spent := sparseSet x.cp.spent h (sparseGet x.cp.spent h 0 + n) 0 } }

/-- The bytes fit in what is left of the allowance. Assumption log, row 49. -/
def Chip.affords (x : Chip) (h n : Nat) : Bool := decide (sparseGet x.cp.spent h 0 + n ≤ x.allowance h)

/-- Forward composition serves the head: it has a line store, and the decision in force allows it (R136, R223). -/
def Chip.forwards (x : Chip) (h : Nat) : Bool := x.on CP_HEADn_STAT_STORE h && x.on CP_HEADn_STAT_FWD h

/-- A composed line goes into a line's spare slot. -/
def Chip.composeSpare (x : Chip) (h n : Nat) (k : LineSlot) : Chip :=
  let s := x.slots h n
  let y := if s.fresh then x.inc CP_HEADn_SPEC_MISS_COUNT h else x
  y.setSlots { s with spare := some k, fresh := true }

/-- The head's active lines in the order of their confirmation points, from the one after the line last sent (R226). -/
def Chip.inOrder (x : Chip) (h : Nat) : List Nat :=
  let n := x.get HDn_VTIME0_VACTIVE h
  let k := match x.cp.sent.find? fun p => p.1 = h with
    | some p => p.2.1 + 1
    | none => 0
  (List.range n).map fun i => (k + i) % n

/-- FORWARD_COMPOSE: each line whose expected key is in neither slot is composed into its spare, while the allowance
lasts (R224, R227). It is done when a change is queued and at every event of the head. Assumption log, row 49. -/
def Chip.forwardCompose (x : Chip) (mem : List Host.Cell) (h : Nat) : Chip :=
  if !x.forwards h then x
  else
    let v := (x.cp.changes.filter fun c => c.head = h && x.expected c).foldl viewChange (x.view h)
    (x.inOrder h).foldl (fun (y : Chip) n =>
      let k := y.keyOf h n v
      let s := y.slots h n
      let cost := y.lineFetch h n v + y.slotBytes h
      if s.cur.any (·.1 = k) || (s.spare.any (·.1 = k) || !y.affords h cost) then y
      else ((y.charge h cost).composeSpare h n (k, composeLine mem y h n v)).inc CP_HEADn_SPEC_DONE_COUNT h) x

end Sys2Proof.Machine
end

