-- ==== Sys2Proof/Machine/Touch.lean ====
section
/-!
DEFINITION. The touch hub (R261 to R274): the states of a touch port, parsing a report, capture and delivery, and the
hit-region commands.
-/
namespace Sys2Proof.Machine

/-- TPn_STAT.STATE (R266). -/
def tpStopped : Nat := 0
/-- Waiting. -/
def tpWaiting : Nat := 1
/-- Reading. -/
def tpReading : Nat := 2
/-- Delivering. -/
def tpDelivering : Nat := 3
/-- Retrying. -/
def tpRetrying : Nat := 4

/-- A port's own state. -/
def Chip.tp (x : Chip) (n : Nat) : TpSt := x.th.ports.getD n {}

/-- A port's own state changes; TPn_STAT.CONTACTS follows. -/
def Chip.setTp (x : Chip) (n : Nat) (f : TpSt → TpSt) : Chip :=
  let y := { x with th := { x.th with ports := updAt x.th.ports n f } }
  y.set TPn_STAT_CONTACTS (y.tp n).track.length n

/-- The port takes a state; RUN is 1 in every state but Stopped. -/
def Chip.tpEnter (x : Chip) (n st : Nat) : Chip :=
  (x.set TPn_STAT_STATE st n).flag TPn_STAT_RUN (st != tpStopped) n

/-- The port's state. -/
def Chip.tpState (x : Chip) (n : Nat) : Nat := x.get TPn_STAT_STATE n

/-! ### Reports (R263, R265) -/

/-- A field descriptor marks its field absent. -/
def fdAbsent (d : Nat) : Bool := bits d 0 8 = 0xFF

/-- Bytes a field needs. -/
def fdBytes (d : Nat) : Nat := ceilDiv (bits d 8 3 + bits d 11 5 + 1) 8

/-- First byte past a field, in its record or report. -/
def fdEnd (d : Nat) : Nat := bits d 0 8 + fdBytes d

/-- The value of a field whose record begins at `base`. -/
def fdValue (data : List Nat) (base d : Nat) (be : Bool) : Nat :=
  let bs := (List.range (fdBytes d)).map fun i => data.getD (base + bits d 0 8 + i) 0
  bits (leNat (if be then bs.reverse else bs)) (bits d 8 3) (bits d 11 5 + 1)

/-- A parsed record: ID, present, raw X and Y, pressure. -/
structure TouchRec where
  /-- Contact ID. -/
  id : Nat
  /-- Contact present. -/
  present : Bool
  /-- Raw X. -/
  rx : Nat
  /-- Raw Y. -/
  ry : Nat
  /-- Pressure. -/
  p : Nat
deriving DecidableEq, Repr

/-- Record `i` of a report under the port's template. -/
def Chip.touchRec (x : Chip) (n : Nat) (data : List Nat) (i : Nat) : TouchRec :=
  let base := x.get TPn_TPL2_REC_OFF n + i * x.get TPn_TPL2_REC_STRIDE n
  let be := x.on TPn_TPL0_BE n
  let v := fun f d => if fdAbsent (x.get f n) then d else fdValue data base (x.get f n) be
  ⟨v TPn_TPL3_ID i, v TPn_TPL3_TOUCH 1 != 0, v TPn_TPL4_X 0, v TPn_TPL4_Y 0, v TPn_TPL5_P 0⟩

/-- The records of a report, and how many parse errors it holds. Assumption log, row 57. -/
def Chip.touchParse (x : Chip) (n : Nat) (data : List Nat) : List TouchRec × Nat :=
  let m := x.get TPn_TPL2_MAX_REC n
  let k := if fdAbsent (x.get TPn_TPL1_CNT n) then m else fdValue data 0 (x.get TPn_TPL1_CNT n) (x.on TPn_TPL0_BE n)
  ((List.range (min k m)).map (x.touchRec n data)).foldl (fun (a : List TouchRec × Nat) r =>
    if 16 ≤ r.id || (a.1.any fun (q : TouchRec) => q.id = r.id) then (a.1, a.2 + 1) else (a.1 ++ [r], a.2))
    ([], b2n (decide (m < k)))

/-- Coefficient `k` of the port's transform. Assumption log, row 58. -/
def Chip.xf (x : Chip) (n k : Nat) : Int := toS 32 (x.get TPn_XFk_COEF (n * 9 + k))

/-- The transformed position; none where w ≤ 0. Assumption log, row 58. -/
def Chip.touchPos (x : Chip) (n rx ry : Nat) : Option (Int × Int) :=
  let row := fun k => x.xf n k * rx + x.xf n (k + 1) * ry + x.xf n (k + 2)
  if row 6 ≤ 0 then none else some (roundDiv (row 0) (row 6), roundDiv (row 3) (row 6))

/-- A position inside the bound head's active area. -/
def Chip.onGlass (x : Chip) (h : Nat) (p : Int × Int) : Bool :=
  decide (0 ≤ p.1) && (decide (p.1 < x.get HDn_HTIME0_HACTIVE h) && (decide (0 ≤ p.2) && decide (p.2 < x.get HDn_VTIME0_VACTIVE h)))

/-- Where a captured contact is delivered (R265): clamped off glass, at the last delivered position where w ≤ 0. -/
def Chip.touchAt (x : Chip) (h : Nat) (c : Contact) (p : Option (Int × Int)) : Pos :=
  match p with
  | none => { c.sent with clamped := true }
  | some q =>
    ⟨(clampI q.1 0 ((x.get HDn_HTIME0_HACTIVE h : Int) - 1)).toNat, (clampI q.2 0 ((x.get HDn_VTIME0_VACTIVE h : Int) - 1)).toNat,
      !x.onGlass h q⟩

/-- A position lies in the head's protected rectangle in force (R221). -/
def Chip.inProt (x : Chip) (h : Nat) (p : Pos) : Bool :=
  x.th.prot.any fun r => r.1 = h && (decide (r.2.getD 0 0 ≤ p.x) && (decide (p.x < r.2.getD 2 0) &&
    (decide (r.2.getD 1 0 ≤ p.y) && decide (p.y < r.2.getD 3 0))))

/-! ### The hit test (R271) -/

/-- An entry comes before another: higher PRIO, then secure, then lower index. -/
def HitEntry.beats (a b : HitEntry) : Bool :=
  decide (b.prio < a.prio) || (a.prio = b.prio && ((a.world && !b.world) || (a.world = b.world && decide (a.idx < b.idx))))

/-- The entry that wins at a position; secure entries alone where `sec` holds or in the protected rectangle. -/
def Chip.hitWinner (x : Chip) (h : Nat) (sec : Bool) (p : Pos) : Option HitEntry :=
  (x.th.hits.filter fun e => e.head = h && ((e.world || !(sec || x.inProt h p)) && (decide (e.x0 ≤ p.x) &&
    (decide (p.x < e.x1) && (decide (e.y0 ≤ p.y) && decide (p.y < e.y1)))))).foldl
    (fun (b : Option HitEntry) e => match b with
      | none => some e
      | some d => if e.beats d then some e else some d) none

/-! ### Capture and delivery (R264, R272, R273) -/

/-- A report being delivered: the blocks, and what each capturer has been handed, in order. -/
structure Handing where
  /-- The blocks. -/
  x : Chip
  /-- Function and the three words of a contact. -/
  items : List (Nat × List Nat)

/-- Contacts are dropped and counted, with event 288 + 2n + 1 (R288). Assumption log, row 58. -/
def Chip.tpDrop (x : Chip) (n : Nat) (k : Nat := 1) : Chip := (x.sat TPn_DROP_COUNT n k).raise (288 + 2 * n + 1)

/-- Words 0 to 2 of a TOUCH_EVENT of `k` contacts (R273). -/
def Chip.touchHead (x : Chip) (n k : Nat) : List Nat :=
  [n + x.get TPn_CFG_HEAD n * 16 + k * 256, x.get TB_SEC_SEC, x.get TB_TICK_TICK]

/-- A contact enters the secure world's touch queue, and is counted (R273). Assumption log, row 141. -/
def Chip.secTouch (x : Chip) (n : Nat) (ws : List Nat) : Chip :=
  ({ x with th := { x.th with secQ := x.th.secQ ++ [x.touchHead n 1 ++ ws] } }).inc TH_SEC_CNT_COUNT

/-- One contact is handed to its capturer: the secure world's own queue, counted, or the function's notice. -/
def Handing.give (d : Handing) (n : Nat) (c : Capture) (id kind : Nat) (p : Pos) (press : Nat) : Handing :=
  let ws := [id + kind * 16 + b2n p.clamped * 128 + c.region * 65536, p.x % 65536 + p.y % 65536 * 65536, press % 65536]
  if c.who = 128 then { d with x := if d.x.secUp then d.x.secTouch n ws else d.x.tpDrop n }
  else { d with items := d.items ++ [(c.who, ws)] }

/-- A contact that is dropped. Assumption log, row 58. -/
def Handing.lose (d : Handing) (n : Nat) : Handing := { d with x := d.x.tpDrop n }

/-- The capture's effect is triggered (R271, R283); the spec states no SCALE for it: full scale. Assumption log, row
61. -/
def Handing.buzz (d : Handing) (b : Bool) (c : Capture) : Handing :=
  if b then { d with x := (d.x.hpTrigger c.ch { wave := c.wave, scale := 255, who := c.who, gen := c.gen, notice := false }).1 }
  else d

/-- The tracked contact with an ID changes or goes. -/
def Handing.track (d : Handing) (n : Nat) (f : List Contact → List Contact) : Handing :=
  { d with x := d.x.setTp n fun s => { s with track := f s.track } }

/-- A tracked contact takes new content. Assumption log, row 57. -/
def Handing.put (d : Handing) (n : Nat) (c : Contact) : Handing :=
  d.track n fun cs => updFirst cs (fun e => e.id = c.id) fun _ => c

/-- A capture whose function has been withdrawn since (R272). Assumption log, row 58. -/
def Chip.staleCapture (x : Chip) (c : Capture) : Bool := c.who ≤ 64 && x.genOf c.who != c.gen

/-- The capture a hit makes, with whether the down triggers an effect. -/
def Chip.captureOf (x : Chip) (e : HitEntry) : Capture × Bool :=
  let who := if e.world then 128 else e.func
  (⟨who, x.genOf who, e.region, e.moves, e.hapticEn && e.onUp, e.wave, e.ch⟩, e.hapticEn && !e.onUp)

/-- A down on glass meets the hit test (R271); `sec` for secure entries only (R272). The contact is tracked already.
Inside the protected rectangle the default function takes it only while the secure world is up (R458). Assumption log,
row 58. -/
def Handing.down (d : Handing) (n : Nat) (sec : Bool) (id : Nat) (p : Pos) (press : Nat) : Handing :=
  let h := d.x.get TPn_CFG_HEAD n
  let f := d.x.get TPn_DEF_FUNC n
  let hit : Option (Capture × Bool) :=
    match d.x.hitWinner h sec p with
    | some e => some (d.x.captureOf e)
    | none => if 64 < f || (d.x.inProt h p && !d.x.secUp) then none else some (⟨f, d.x.genOf f, 0xFFFF, true, false, 0, 0⟩, false)
  match hit with
  | none => (d.put n ⟨id, none, p, p, d.x.inProt h p⟩).lose n
  | some c => (((d.put n ⟨id, some c.1, p, p, d.x.inProt h p⟩).give n c.1 id 1 p press).buzz c.2 c.1)

/-- A record whose ID was not tracked (R264). -/
def Handing.fresh (d : Handing) (n : Nat) (r : TouchRec) : Handing :=
  let h := d.x.get TPn_CFG_HEAD n
  if !r.present then d
  else if 10 ≤ (d.x.tp n).track.length then d.lose n
  else
    let q := d.x.touchPos n r.rx r.ry
    let d' := d.track n fun cs => cs ++ [⟨r.id, none, ⟨0, 0, false⟩, ⟨0, 0, false⟩, false⟩]
    match q with
    | none => d'.lose n
    | some q =>
      if d.x.onGlass h q && d.x.on HDn_STAT_RUN h then d'.down n false r.id ⟨q.1.toNat, q.2.toNat, false⟩ r.p
      else d'.lose n

/-- A later record of a tracked contact: a move, or an up at position `p` (R264, R272); `last` is the position last
computed. A function's contact that enters the protected rectangle is cancelled; one inside it is dropped while the
secure world is down (R458). Assumption log, row 58. -/
def Handing.later (d : Handing) (n : Nat) (c : Contact) (up : Bool) (p last : Pos) (press : Nat) : Handing :=
  let h := d.x.get TPn_CFG_HEAD n
  let inside := d.x.inProt h p
  let c' : Contact := { c with last := last, inside := inside }
  let d := if up then d.track n fun cs => cs.filter fun e => e.id != c.id else d.put n c'
  match c.cap with
  | none => d.lose n
  | some k =>
    if d.x.staleCapture k then d
    else if !d.x.on HDn_STAT_RUN h then d.lose n
    else if k.who ≤ 64 && (inside && !c.inside) then
      let d := d.give n k c.id 4 p press
      if up then d else d.down n true c.id p press
    else if k.who ≤ 64 && (inside && !d.x.secUp) then d.lose n
    else if up then (d.give n k c.id 3 p press).buzz k.onUp k
    else if k.moves then (d.put n { c' with sent := p }).give n k c.id 2 p press
    else d

/-- One parsed record. Assumption log, row 57. -/
def Handing.record (d : Handing) (n : Nat) (r : TouchRec) : Handing :=
  match (d.x.tp n).track.find? fun c => c.id = r.id with
  | none => d.fresh n r
  | some c =>
    let q := d.x.touchPos n r.rx r.ry
    let p := d.x.touchAt (d.x.get TPn_CFG_HEAD n) c q
    d.later n c (!r.present) p (match q with
      | some _ => p
      | none => c.last) r.p

/-- A TOUCH_EVENT goes to a function (R273); one that finds no room counts its contacts in TPn_DROP. Assumption log,
row 59. -/
def Chip.touchEvent (x : Chip) (n f : Nat) (cs : List (List Nat)) : Chip :=
  let ws := x.touchHead n cs.length ++ cs.flatten
  let room := x.replyRoom f (replySlots ws.length)
  let y := x.notice f 0x6800 ws
  if room then y else y.tpDrop n cs.length

/-- TOUCH_EVENT notices, one a function; what passes the ten contacts of one goes in another (R273). Assumption log,
rows 58, 59, 141. -/
def Handing.notify (d : Handing) (n : Nat) : Chip :=
  (List.range 65).foldl (fun (y : Chip) f =>
    let cs := (d.items.filter fun p => p.1 = f).map (·.2)
    (List.range (ceilDiv cs.length 10)).foldl (fun (z : Chip) i => z.touchEvent n f ((cs.drop (10 * i)).take 10)) y) d.x

/-- Every tracked contact's capturer receives a cancel and tracking clears (R266); the answer counts the cancels.
Assumption log, row 58. -/
def Chip.cancelAll (x : Chip) (n : Nat) : Chip × Nat :=
  let cs := (x.tp n).track.filterMap fun c => match c.cap with
    | some k => if x.staleCapture k then none else some (c, k)
    | none => none
  let d := cs.foldl (fun (d : Handing) p => d.give n p.2 p.1.id 4 p.1.sent 0) ⟨x, []⟩
  ((d.notify n).setTp n fun s => { s with track := [], fails := 0 }, cs.length)

/-- The port reaches Stopped: cancels are delivered and every STOP_TOUCH is answered (R45, R266). -/
def Chip.tpStop (x : Chip) (n : Nat) : Chip :=
  let calls := (x.tp n).stops
  let y := ((x.cancelAll n).1.setTp n fun s => { s with stops := [] }).tpEnter n tpStopped
  calls.foldl (fun (z : Chip) c => z.ok opStopTouch c []) y

/-- The report is over: Stopped where STOP_TOUCH waits, else Waiting. -/
def Chip.tpRest (x : Chip) (n : Nat) : Chip :=
  if (x.tp n).stops = [] then x.tpEnter n tpWaiting else x.tpStop n

/-- END_OF_REPORT: stamp, parse, transform, hit test and deliver (R262 to R265, R271 to R274). Assumption log, rows
57, 59. -/
def endOfReport (n : Nat) (data : List Nat) (x : Chip) : Chip :=
  if x.tpState n != tpReading then x
  else
    let y := ((x.inc TPn_REPORTS_COUNT n).setTp n fun s => { s with fails := 0 }).tpEnter n tpDelivering
    let y := if y.on TPn_TPL6_ACK_EN n then
        y.emit (.pin 3 [n, y.get TPn_TPL6_ACK_REG n, y.get TPn_TPL6_ACK_VAL n]) else y
    let ps := y.touchParse n data
    let y := y.sat TPn_ERR_PARSE n ps.2
    let before := (y.tp n).track
    let d := ps.1.foldl (fun (d : Handing) r => d.record n r) ⟨y, []⟩
    let gone := (List.range 16).filter fun i => (before.any fun c => c.id = i) && !ps.1.any fun (r : TouchRec) => r.id = i
    let d := gone.foldl (fun (d : Handing) i => match (d.x.tp n).track.find? fun c => c.id = i with
      | some c => d.later n c true c.last c.last 0
      | none => d) d
    let z := d.notify n
    let z := if d.items.isEmpty then z else (z.set TH_LAT_MAX_T100NS (max (z.get TH_LAT_MAX_T100NS) (z.free 16))).took
    z.tpRest n

/-- TOUCH_TRIGGER: a waiting port starts a read (R262). -/
def touchTrigger (n : Nat) (x : Chip) : Chip :=
  if x.tpState n = tpWaiting && !x.noWork 5 n then
    (x.tpEnter n tpReading).emit (.pin 3 [n, x.get TPn_TPL0_REG n, x.get TPn_TPL0_REG_LEN n, x.get TPn_TPL1_READ_LEN n + 1])
  else x

/-- A read attempt fails, cause 1 or 2 (R266): the port retries, or loses the report at the third failure. -/
def touchFail (n cause : Nat) (x : Chip) : Chip :=
  if x.tpState n != tpReading then x
  else
    let k := (x.tp n).fails + 1
    let y := (x.sat TPn_ERR_BUS n).setTp n fun s => { s with fails := k }
    if k < 3 then (if (y.tp n).stops = [] then y.tpEnter n tpRetrying else y.tpStop n)
    else
      let r := y.cancelAll n
      ((r.1.notice 0 0x6803 [n, cause, r.2]).raise (288 + 2 * n)).tpRest n

/-- TOUCH_RETRY_TIMER: 100 µs have passed in Retrying (R266). -/
def touchRetryTimer (n : Nat) (x : Chip) : Chip := if x.tpState n = tpRetrying then x.tpEnter n tpReading else x

/-! ### START_TOUCH and STOP_TOUCH (R45, R47, R263, R267) -/

/-- Byte offset in the port page of the first wrong register. -/
def Chip.touchWrong (x : Chip) (n : Nat) : Option Nat :=
  let bus := x.get TPn_CFG_BUS n
  let spd := x.get TPn_BUS_SPEED n
  let len := x.get TPn_TPL1_READ_LEN n + 1
  let m := x.get TPn_TPL2_MAX_REC n
  let last := x.get TPn_TPL2_REC_OFF n + (m - 1) * x.get TPn_TPL2_REC_STRIDE n
  let out := fun f (need : Bool) => if fdAbsent (x.get f n) then need else decide (len < last + fdEnd (x.get f n))
  if bus = 3 || (x.get TPn_CFG_INT_MODE n = 3 || (x.get TPn_CFG_POLL n = 0 || decide (47 < x.get TPn_CFG_CS_GPIO n))) then some 0
  else if (bus = 0 && decide (2 < spd)) || (bus = 2 && (spd = 0 || decide (25 < spd))) then some 0x08
  else if x.get TPn_TPL0_REG_LEN n = 3 then some 0x20
  else if !fdAbsent (x.get TPn_TPL1_CNT n) && decide (len < fdEnd (x.get TPn_TPL1_CNT n)) then some 0x24
  else if m = 0 || decide (10 < m) then some 0x28
  else if out TPn_TPL3_ID false || out TPn_TPL3_TOUCH false then some 0x2C
  else if out TPn_TPL4_X true || out TPn_TPL4_Y true then some 0x30
  else if out TPn_TPL5_P false then some 0x34
  else none

/-- TPn_STAT as it reads. -/
def Chip.tpStatWord (x : Chip) (n : Nat) : Nat :=
  x.word [TPn_STAT_RUN, TPn_STAT_PEND_RESTART, TPn_STAT_STATE, TPn_STAT_CONTACTS] n

/-- The port runs; none where an I3C target does not take its address, which is the bus's affair: a free value
decides. Assumption log, row 60. -/
def Chip.enterTouch (x : Chip) (n : Nat) : Option Chip :=
  let i3c := x.get TPn_CFG_BUS n = 1
  if i3c && x.free 1 = 1 then none
  else some ((((x.onlyIf i3c (·.took)).setPend TPn_STAT_PEND_RESTART n false).setTp n fun _ => {}).tpEnter n tpWaiting)

/-- START_TOUCH. Assumption log, row 60. -/
def startTouch (c : Call) (x : Chip) : Chip :=
  x.perform opStartTouch c fun x =>
    let n := c.w 0
    if 16 ≤ n then x.bad opStartTouch c 0
    else if x.on TPn_STAT_RUN n then x.done opStartTouch c stNotStopped [x.tpStatWord n]
    else if x.heldBlock 5 n then x.heldRefusal opStartTouch c
    else
      match x.touchWrong n with
      | some o => x.bad2 opStartTouch c 0 o
      | none =>
        match x.enterTouch n with
        | some y => y.ok opStartTouch c []
        | none => (x.took).done opStartTouch c stHwFault [288 + 2 * n]

/-- STOP_TOUCH: at once in Waiting and Retrying, else at the end of the report being read. -/
def stopTouch (c : Call) (x : Chip) : Chip :=
  x.perform opStopTouch c fun x =>
    let n := c.w 0
    if 16 ≤ n then x.bad opStopTouch c 0
    else if x.tpState n = tpStopped then x.ok opStopTouch c []
    else
      let y := x.setTp n fun s => { s with stops := s.stops ++ [c] }
      if x.tpState n = tpReading then y else y.tpStop n

/-- A Block or Subsystem reset of a touch port asserts: cancels are delivered first, then the port is at reset (R266). -/
def Chip.tpReset (x : Chip) (n : Nat) : Chip :=
  ((x.cancelAll n).1.setTp n fun _ => {}).tpEnter n tpStopped

/-! ### Hit-region commands (R269, R270) -/

/-- Region commands pending on a head. -/
def Chip.regionCmds (x : Chip) (h : Nat) : Nat :=
  (x.cp.changes.filter fun c => c.head = h && (match c.kind with
    | .hitWrite _ => true
    | .hitClear _ => true
    | _ => false)).length

/-- Entries that queued region writes will add, each as function, head and REGION (R269). -/
def Chip.pendingHits (x : Chip) : List (Nat × Nat × Nat) :=
  ((x.cp.changes.flatMap fun c => match c.kind with
    | .hitWrite rs => rs.map fun r => (c.fn, c.head, bits (r.getD 0 0) 0 16)
    | _ => []).filter fun k =>
      !x.th.hits.any fun e => e.func = k.1 && (e.head = k.2.1 && e.region = k.2.2)).eraseDups

/-- Words of record `i`. -/
def hitWords (c : Call) (i : Nat) : List Nat := [c.w (1 + 4 * i), c.w (2 + 4 * i), c.w (3 + 4 * i), c.w (4 + 4 * i)]

/-- The first wrong word of HIT_REGION_WRITE. Assumption log, row 61. -/
def Chip.hitWrong (x : Chip) (c : Call) : Option Nat :=
  if c.w 0 / 65536 != 0 || (bits (c.w 0) 4 4 != 0 || bits (c.w 0) 8 8 = 0) then some 0
  else (List.range (bits (c.w 0) 8 8)).findSome? fun i =>
    let a := c.w (1 + 4 * i)
    let d := c.w (4 + 4 * i)
    if bits a 27 5 != 0 || bits a 0 16 = 0xFFFF then some (1 + 4 * i)
    else if d / 4096 != 0 || (bitAt a 25 && (!c.world && (c.fn != 0 && x.get HPn_OWNER_FUNC (bits d 8 4) != c.fn))) then some (4 + 4 * i)
    else none

/-- A region command takes effect at once on a head that does not run, and is queued for the commit line otherwise; the
secure world's (127) takes effect at once (R269). Assumption log, row 131. -/
def Chip.regionDo (x : Chip) (fn h : Nat) (k : ChangeKind) : Chip :=
  if x.on HDn_STAT_RUN h && fn != 127 then
    let y := x.drawChange
    y.queue h [⟨y.get CP_CHANGE_NUM, h, none, fn, k, false, false, 0⟩]
  else
    match k with
    | .hitWrite rs => rs.foldl (fun (z : Chip) r => z.writeHit fn h r) x
    | .hitClear r => x.clearHits fn h r
    | _ => x

/-- Records that take a new entry: their REGION is neither in the table, nor queued for it, nor earlier in the list. -/
def Chip.newRecs (x : Chip) (fn h : Nat) (rs : List (List Nat)) : List Nat :=
  let reg := fun (r : List Nat) => bits (r.getD 0 0) 0 16
  (List.range rs.length).filter fun i =>
    !(x.th.hits.any fun e => e.func = fn && (e.head = h && e.region = reg (rs.getD i []))) &&
    !(x.pendingHits.contains (fn, h, reg (rs.getD i [])) || (rs.take i).any fun r => reg r = reg (rs.getD i []))

/-- HIT_REGION_WRITE. -/
def hitRegionWrite (c : Call) (x : Chip) : Chip :=
  x.perform opHitRegionWrite c fun x =>
    let h := bits (c.w 0) 0 4
    let k := bits (c.w 0) 8 8
    if (c.words.length - 1) / 4 != k then x.badLength opHitRegionWrite c
    else
      match x.hitWrong c with
      | some i => x.bad opHitRegionWrite c i
      | none =>
        if !c.world && (x.on HDn_STAT_RUN h && decide (8 ≤ x.regionCmds h)) then x.done opHitRegionWrite c stNoResource [1]
        else
          let rs := (List.range k).map (hitWords c)
          let own := (x.th.hits.filter fun e => e.func = c.who).length + (x.pendingHits.filter fun k => k.1 = c.who).length
          let all := (x.th.hits.filter fun e => !e.world).length + x.pendingHits.length
          let room := if c.world then 256 - own else min (1024 - own) (3840 - all)
          let taken := match (x.newRecs c.who h rs)[room]? with
            | some i => i
            | none => k
          let run := x.on HDn_STAT_RUN h && !c.world
          let y := if taken = 0 then x else x.regionDo c.who h (.hitWrite (rs.take taken))
          if taken < k then y.done opHitRegionWrite c stPartial [taken]
          else if run then y.deferred opHitRegionWrite c [k]
          else y.ok opHitRegionWrite c [k]

/-- HIT_REGION_CLEAR: on one head or, with 0xFF, on every head. -/
def hitRegionClear (c : Call) (x : Chip) : Chip :=
  x.perform opHitRegionClear c fun x =>
    let hs := if c.w 0 = 0xFF then List.range 16 else [c.w 0]
    let reg := if c.w 1 = 0xFFFFFFFF then none else some (c.w 1)
    if 16 ≤ c.w 0 && c.w 0 != 0xFF then x.bad opHitRegionClear c 0
    else if c.w 1 != 0xFFFFFFFF && decide (0xFFFF ≤ c.w 1) then x.bad opHitRegionClear c 1
    else if !c.world && hs.any fun h => x.on HDn_STAT_RUN h && decide (8 ≤ x.regionCmds h) then x.done opHitRegionClear c stNoResource [1]
    else
      let n := (x.th.hits.filter fun e => e.func = c.who && (hs.contains e.head && (match reg with
        | some r => e.region = r
        | none => true))).length
      let run := !c.world && hs.any fun h => x.on HDn_STAT_RUN h
      let y := hs.foldl (fun (y : Chip) h => y.regionDo c.who h (.hitClear reg)) x
      if run then y.deferred opHitRegionClear c [n] else y.ok opHitRegionClear c [n]

/-! ### The commands -/

/-- TOUCH_TRIGGER. -/
def execTouchTrigger (port : Fin 16) (s : State) : Host.Outcome State Fault Refusal := s.onChip (touchTrigger port.val)
/-- END_OF_REPORT. -/
def execEndOfReport (port : Fin 16) (data : List Byte) (s : State) : Host.Outcome State Fault Refusal :=
  s.onChip (endOfReport port.val (data.map (·.toNat)))
/-- TOUCH_READ_FAIL: cause 1, NAK or lost arbitration. -/
def execTouchReadFail (port : Fin 16) (s : State) : Host.Outcome State Fault Refusal := s.onChip (touchFail port.val 1)
/-- TOUCH_RETRY_TIMER. -/
def execTouchRetryTimer (port : Fin 16) (s : State) : Host.Outcome State Fault Refusal := s.onChip (touchRetryTimer port.val)
/-- CLOCK_STRETCH_TIMEOUT: cause 2. -/
def execClockStretchTimeout (port : Fin 16) (s : State) : Host.Outcome State Fault Refusal := s.onChip (touchFail port.val 2)
/-- STOP_TOUCH. -/
def execStopTouch (c : Call) (s : State) : Host.Outcome State Fault Refusal := s.onChip (stopTouch c)
/-- START_TOUCH. -/
def execStartTouch (c : Call) (s : State) : Host.Outcome State Fault Refusal := s.onChip (startTouch c)
/-- HIT_REGION_WRITE. -/
def execHitRegionWrite (c : Call) (s : State) : Host.Outcome State Fault Refusal := s.onChip (hitRegionWrite c)
/-- HIT_REGION_CLEAR. -/
def execHitRegionClear (c : Call) (s : State) : Host.Outcome State Fault Refusal := s.onChip (hitRegionClear c)

end Sys2Proof.Machine
end

