-- ==== Sys2Proof/Machine/Composer.lean ====
section
/-!
DEFINITION. The commands of class 0x4 (R231): their checks (R207 to R210, R230), and the changes they queue.
-/
namespace Sys2Proof.Machine

/-! ### Layer checks (R187, R208 to R210) -/

/-- Half-bytes of a chroma row for each luma pixel. -/
def fmtChroma2 (f : Nat) : Nat :=
  match f with
  | 0x10 => 2
  | 0x11 => 1
  | 0x12 => 2
  | 0x13 => 4
  | _ => 0

/-- Byte past the last one a layer reads, counted from its allocation's start. Assumption log, row 45. -/
def lyEnd (ws : List Nat) (a : Nat) : Nat :=
  let off := hOffset a
  let f := lyFmt ws
  let rows := lySy ws + lySh ws
  if bits (ws.getD 2 0) 8 2 = 2 then off + ceilDiv rows 32 * (ceilDiv (lySx ws + lySw ws) 64 * 2048 * fmtPlane0 f)
  else
    let e := off + rows * ws.getD 3 0
    if fmtPlanes f = 1 then e
    else max e (off + max (ws.getD 4 0) (ws.getD 5 0) + ceilDiv rows (if fmt420 f then 2 else 1) * ws.getD 6 0)

/-- The first wrong word of 1 to 7, for a layer at plane 0 address `a` read from an allocation of class `cls` that
`own` answers; word 3 is judged apart. Assumption log, row 45. -/
def lyExtent (own : Option MapEntry) (cls : Nat) (ws : List Nat) (a : Nat) : Option Nat :=
  let f := lyFmt ws
  let tiled := bits (ws.getD 2 0) 8 2 = 2
  let wide := lySx ws + lySw ws
  match own with
  | none => some 1
  | some e =>
    if e.cls != cls || (hOffset a % (if tiled then 4096 else 256) != 0 || decide (e.size * 65536 < lyEnd ws a)) then some 1
    else if !tiled && (ws.getD 3 0 % 256 != 0 || decide (ws.getD 3 0 < wide * fmtPlane0 f)) then some 4
    else if 1 < fmtPlanes f && ws.getD 4 0 % 256 != 0 then some 5
    else if (if fmtPlanes f = 3 then ws.getD 5 0 % 256 != 0 else ws.getD 5 0 != 0) then some 6
    else if 1 < fmtPlanes f && (ws.getD 6 0 % 256 != 0 || decide (2 * ws.getD 6 0 < wide * fmtChroma2 f)) then some 7
    else none

/-- Word 3 is wrong: a format, layout, transfer, matrix or zero field outside the table. -/
def lyConvWrong (ws : List Nat) : Bool :=
  let c := ws.getD 2 0
  fmtBytes2 (lyFmt ws) = 0 || ((bits c 8 2 != 0 && !(bits c 8 2 = 2 && fmtTiled (lyFmt ws))) || (decide (4 < bits c 10 3) ||
    (bits c 14 2 = 3 || bits c 18 6 != 0)))

/-- The first wrong word of 8 to 11 (R209, R210). -/
def lyRectWrong (ws : List Nat) : Option Nat :=
  let f := lyFmt ws
  if (fmtYuv f && lySx ws % 2 = 1) || (fmt420 f && lySy ws % 2 = 1) then some 8
  else if lySw ws = 0 || (lySh ws = 0 || ((fmtYuv f && lySw ws % 2 = 1) || (fmt420 f && lySh ws % 2 = 1))) then some 9
  else if 4 * lyDw ws < lySw ws || (8 * lySw ws < lyDw ws || (4 * lyDh ws < lySh ws || 8 * lySh ws < lyDh ws)) then some 11
  else none

/-- Word 3 names no format or no layout, so that the extent of the layer cannot be told. -/
def lyUnread (ws : List Nat) : Bool := fmtBytes2 (lyFmt ws) = 0 || bits (ws.getD 2 0) 8 1 != 0

/-- The first wrong word of a LAYER_SET. Assumption log, row 18. -/
def Chip.layerWrong (x : Chip) (fn : Nat) (ws : List Nat) : Option Nat :=
  let own := x.ownEntry fn (lyAddr ws)
  let e := lyExtent own 3 ws (lyAddr ws)
  if lyUnread ws then some (if hOffset (lyAddr ws) % 256 = 0 && own.any (·.cls = 3) then 3 else 1)
  else if e = some 1 || e = some 2 then e
  else if lyConvWrong ws then some 3
  else if e.isSome then e
  else lyRectWrong ws

/-! ### Admission (R230) -/

/-- Fetch of the layers a function is admitted for on every head, one unit left out, bytes a second times 2^32. A
layer held from a withdrawn generation counts against no quota. Assumption log, row 45. -/
def Chip.fnFetch32 (x : Chip) (f skip : Nat) : Nat :=
  ((List.range 96).map fun u =>
    if u != skip && (x.ownsUnit f u && !(x.on CP_Ln_STAT_HELD u && x.unitQueue u = [])) then
      x.unitRate32 (x.get CP_Ln_OWNER_HEAD u) (x.unitBytes2 u) else 0).sum

/-- Fetch of a head's layers, one unit left out. Assumption log, row 45. -/
def Chip.headFetch32 (x : Chip) (h skip : Nat) : Nat :=
  ((x.headUnits h).map fun u => if u = skip then 0 else x.unitRate32 h (x.unitBytes2 u)).sum

/-- MB/s by which a head's layers would pass its fetch budget. Assumption log, row 45. -/
def Chip.missing (x : Chip) (h skip bytes2 : Nat) : Nat :=
  ceilDiv (x.headFetch32 h skip + x.unitRate32 h bytes2 - x.budget32 h) (2 ^ 32 * 1000000)

/-! ### Queueing -/

/-- A change of a unit is queued; forward composition starts on what it makes expected (R214, R224). -/
def Chip.queueUnit (x : Chip) (mem : List Host.Cell) (u fn : Nat) (k : ChangeKind) : Chip :=
  let h := x.get CP_Ln_OWNER_HEAD u
  let y := x.drawChange
  (y.queue h [⟨y.get CP_CHANGE_NUM, h, some u, fn, k, false, false, 0⟩]).forwardCompose mem h

/-- A change of a protected unit is queued, or waits for a place in the unit's queue (R216). Assumption log, row 140.
-/
def Chip.queueProt (x : Chip) (mem : List Host.Cell) (u : Nat) (k : ChangeKind) : Chip :=
  if (x.unitQueue u).length < 4 then x.queueUnit mem u 128 k
  else { x with cp := { x.cp with protWait := x.cp.protWait ++ [(u, k)] } }

/-- The protected changes that waited for a place are queued. Assumption log, row 140. -/
def Chip.queueWaiting (x : Chip) (mem : List Host.Cell) (h : Nat) : Chip :=
  let mine := x.cp.protWait.filter fun p => x.protUnit h = some p.1
  let y := { x with cp := { x.cp with protWait := x.cp.protWait.filter fun p => !mine.contains p } }
  mine.foldl (fun (z : Chip) p => z.queueProt mem p.1 p.2) y

/-- LAYER_SET. -/
def layerSet (c : Call) (mem : List Host.Cell) (x : Chip) : Chip :=
  x.perform opLayerSet c fun x =>
    let u := c.w 0
    let h := x.get CP_Ln_OWNER_HEAD u
    let ws := (List.range 11).map fun i => c.w (i + 1)
    if !x.ownsUnit c.fn u then x.bad opLayerSet c 0
    else
      match x.layerWrong c.fn ws with
      | some i => x.bad opLayerSet c i
      | none =>
        if 4 ≤ (x.unitQueue u).length then x.done opLayerSet c stNoResource [1]
        else if x.get FNf_FETCH_QUOTA_MBPS c.fn * 1000000 * 2 ^ 32 < x.fnFetch32 c.fn u + x.unitRate32 h (lyBytes2 ws) then
          (x.sat FNf_QUOTA_REF_COUNT c.fn).done opLayerSet c stQuota [2]
        else if 0 < x.missing h u (lyBytes2 ws) then
          (x.raise 165).done opLayerSet c stNoResource [x.missing h u (lyBytes2 ws)]
        else
          let y := (x.endHold u).queueUnit mem u c.fn (.layerSet ws)
          y.deferred opLayerSet c [y.get CP_CHANGE_NUM]

/-- LAYER_REMOVE. -/
def layerRemove (c : Call) (mem : List Host.Cell) (x : Chip) : Chip :=
  x.perform opLayerRemove c fun x =>
    let u := c.w 0
    if !x.ownsUnit c.fn u then x.bad opLayerRemove c 0
    else if 4 ≤ (x.unitQueue u).length then x.done opLayerRemove c stNoResource [1]
    else
      let y := (x.endHold u).queueUnit mem u c.fn .layerRemove
      y.deferred opLayerRemove c [y.get CP_CHANGE_NUM]

/-! ### Flips (R216, R217, R231) -/

/-- The words of the layer a flip of the unit acts on: the last LAYER_SET queued, else the layer its owner's current
generation set; none for a held layer. -/
def Chip.flipLayer (x : Chip) (u : Nat) : Option (List Nat) :=
  match (x.unitQueue u).reverse.findSome? fun c => match c.kind with
    | .layerSet ws => some ws
    | _ => none with
  | some ws => some ws
  | none => match x.layer u with
    | some l => if l.fw || x.on CP_Ln_STAT_HELD u || l.gen != x.genOf l.fn then none else some l.words
    | none => none

/-- The first wrong word of the FLIP record at word `i`. -/
def Chip.flipWrong (x : Chip) (c : Call) (i : Nat) : Option Nat :=
  let w := c.w (i + 3)
  if !x.ownsUnit c.fn (c.w i) then some i
  else match x.flipLayer (c.w i) with
    | none => some i
    | some ws =>
      if (lyExtent (x.ownEntry c.fn (c.q (i + 1))) 3 ws (c.q (i + 1))).isSome then some (i + 1)
      else if bits w 12 4 != 0 || (bits w 19 13 != 0 || (!bitAt w 16 && !x.mayWait c.fn (bits w 0 12))) then some (i + 3)
      else none

/-- The change of the FLIP record at word `i`. -/
def flipChange (c : Call) (i num head : Nat) (notice group : Bool) : Change :=
  let w := c.w (i + 3)
  ⟨num, head, some (c.w i), c.fn, .flip (c.q (i + 1)) (if bitAt w 16 then none else some (bits w 0 12, c.q (i + 4))),
    notice, group, 0⟩

/-- Places left in a unit's queue for a flip: REPLACE makes room by the flips it drops. -/
def Chip.flipRoom (x : Chip) (u w : Nat) : Bool :=
  decide (((x.unitQueue u).filter fun d => !(bitAt w 17 && d.isFlip)).length < 4)

/-- REPLACE drops every earlier flip of its unit (R216). Assumption log, row 46. -/
def Chip.replace (x : Chip) (u w : Nat) : Chip :=
  if bitAt w 17 then ((x.unitQueue u).filter Change.isFlip).foldl (fun (y : Chip) d => y.dropChange 2 d) x else x

/-- The records at the words listed are queued under one number. Assumption log, row 46. -/
def Chip.queueFlips (x : Chip) (mem : List Host.Cell) (c : Call) (is : List Nat) (group : Bool) : Chip :=
  let notice := bitAt (c.w (is.getD 0 0 + 3)) 18
  let h := x.get CP_Ln_OWNER_HEAD (c.w (is.getD 0 0))
  let y := (is.foldl (fun (y : Chip) i => y.replace (c.w i) (c.w (i + 3))) x).drawChange
  (y.queue h (is.map fun i => flipChange c i (y.get CP_CHANGE_NUM) h notice group)).forwardCompose mem h

/-- FLIP. -/
def flip (c : Call) (mem : List Host.Cell) (x : Chip) : Chip :=
  x.perform opFlip c fun x =>
    match x.flipWrong c 0 with
    | some i => x.bad opFlip c i
    | none =>
      if !x.flipRoom (c.w 0) (c.w 3) then x.done opFlip c stNoResource [1]
      else
        let y := x.queueFlips mem c [0] false
        y.deferred opFlip c [y.get CP_CHANGE_NUM]

/-- FLIP_GROUP. -/
def flipGroup (c : Call) (mem : List Host.Cell) (x : Chip) : Chip :=
  x.perform opFlipGroup c fun x =>
    let is := (List.range (c.w 0)).map fun j => 1 + 6 * j
    let us := is.map c.w
    if c.w 0 < 2 || 8 < c.w 0 then x.bad opFlipGroup c 0
    else if c.words.length != 1 + 6 * c.w 0 then x.badLength opFlipGroup c
    else
      let hs := (us.filter fun u => x.on CP_Ln_OWNER_BOUND u && decide (u < 96)).map fun u => x.get CP_Ln_OWNER_HEAD u
      let held := us.any fun u => x.ownsUnit c.fn u && x.on CP_Ln_STAT_HELD u
      if !us.Nodup || (hs.any (fun h => h != hs.headD 0) || held) then x.bad opFlipGroup c 0
      else
        match is.findSome? fun i => x.flipWrong c i with
        | some i => x.bad opFlipGroup c i
        | none =>
          if is.any fun i => !x.flipRoom (c.w i) (c.w (i + 3)) then x.done opFlipGroup c stNoResource [1]
          else
            let y := x.queueFlips mem c is true
            y.deferred opFlipGroup c [y.get CP_CHANGE_NUM]

/-- FLIP_QUERY. -/
def flipQuery (c : Call) (x : Chip) : Chip :=
  x.perform opFlipQuery c fun x =>
    let u := c.w 0
    if !x.ownsUnit c.fn u then x.bad opFlipQuery c 0
    else x.ok opFlipQuery c [(x.unitQueue u).length, x.get CP_Ln_TAG_NUM u, sparseGet x.cp.seqs u 0,
      x.get CP_Ln_STAT_HELD u + 2 * x.get CP_Ln_STAT_CLIPPED u]

/-! ### Changes of a head's own, and LAYER_ASSIGN -/

/-- A change of the head's own is queued; on a head that does not run it applies at once (R214). -/
def Chip.headChange (x : Chip) (mem : List Host.Cell) (o : Op) (c : Call) (h : Nat) (k : ChangeKind) : Chip :=
  let y := x.drawChange
  let d : Change := ⟨y.get CP_CHANGE_NUM, h, none, c.fn, k, false, false, 0⟩
  if x.on HDn_STAT_RUN h then ((y.queue h [d]).forwardCompose mem h).deferred o c [d.num] else (y.applyOwn d).ok o c [d.num]

/-- The first wrong word of TONE_MAP_SET. -/
def Chip.toneWrong (x : Chip) (c : Call) : Option Nat :=
  if 16 ≤ c.w 0 then some 0
  else if bitAt (c.w 1) 2 && (x.ownRange c.fn (c.q 2) 6144 (List.range 16)).isNone then some 2
  else none

/-- TONE_MAP_SET. -/
def toneMapSet (c : Call) (mem : List Host.Cell) (x : Chip) : Chip :=
  x.perform opToneMapSet c fun x =>
    match x.toneWrong c with
    | some i => x.bad opToneMapSet c i
    | none =>
      let curve := if bitAt (c.w 1) 2 then readBytes mem x (c.q 2) 6144 else []
      x.headChange mem opToneMapSet c (c.w 0) (.tone (c.w 1) ((List.range 9).map fun i => c.w (4 + i) % 65536) curve)

/-- BACKGROUND_SET. -/
def backgroundSet (c : Call) (mem : List Host.Cell) (x : Chip) : Chip :=
  x.perform opBackgroundSet c fun x =>
    if 16 ≤ c.w 0 then x.bad opBackgroundSet c 0
    else x.headChange mem opBackgroundSet c (c.w 0) (.background (c.w 1) (c.w 2 % 65536))

/-- LAYER_ASSIGN. -/
def layerAssign (c : Call) (x : Chip) : Chip :=
  x.perform opLayerAssign c fun x =>
    let h := bits (c.w 0) 0 4
    match (x.headUnits h)[bits (c.w 0) 4 3]? with
    | none => x.bad opLayerAssign c 0
    | some u =>
      if !x.on HDn_STAT_RUN h || (x.on CP_Ln_OWNER_WORLD u || (x.layer u).isSome) then
        x.bad opLayerAssign c 0
      else if c.w 1 != 127 && (64 < c.w 1 || x.get FNf_STAT_STATE (c.w 1) = 0) then x.bad opLayerAssign c 1
      else (x.assignUnit u (if c.w 1 = 127 then none else some (c.w 1))).ok opLayerAssign c [u]

/-! ### The commands -/

/-- LAYER_SET. -/
def execLayerSet (c : Call) (s : State) : Host.Outcome State Fault Refusal := s.onChipM (layerSet c)
/-- LAYER_REMOVE. -/
def execLayerRemove (c : Call) (s : State) : Host.Outcome State Fault Refusal := s.onChipM (layerRemove c)
/-- FLIP. -/
def execFlip (c : Call) (s : State) : Host.Outcome State Fault Refusal := s.onChipM (flip c)
/-- FLIP_GROUP. -/
def execFlipGroup (c : Call) (s : State) : Host.Outcome State Fault Refusal := s.onChipM (flipGroup c)
/-- FLIP_QUERY. -/
def execFlipQuery (c : Call) (s : State) : Host.Outcome State Fault Refusal := s.onChip (flipQuery c)
/-- TONE_MAP_SET. -/
def execToneMapSet (c : Call) (s : State) : Host.Outcome State Fault Refusal := s.onChipM (toneMapSet c)
/-- BACKGROUND_SET. -/
def execBackgroundSet (c : Call) (s : State) : Host.Outcome State Fault Refusal := s.onChipM (backgroundSet c)
/-- LAYER_ASSIGN. -/
def execLayerAssign (c : Call) (s : State) : Host.Outcome State Fault Refusal := s.onChip (layerAssign c)

end Sys2Proof.Machine
end

