-- ==== Sys2Proof/Machine/Commit.lean ====
section
/-!
DEFINITION. The commit line (R214 to R218, R241 to R246, R459): arms, shadows, queued changes, flips that wait or time
out, and the marking of a stale protected layer.
-/
namespace Sys2Proof.Machine

/-! ### Shadows and arms (R242 to R246) -/

/-- Normal shadow values: HDn_VFP.NEXT, HDn_OUT.DITHER, HDn_OUT.BLANK. -/
def Chip.shadowOf (x : Chip) (h : Nat) : Nat × Nat × Nat := (x.get HDn_VFP_NEXT h, x.get HDn_OUT_DITHER h, x.get HDn_OUT_BLANK h)

/-- Window shadow values: XY0, XY1 and EXP of the four windows, then EN and CMP. -/
def Chip.winShadow (x : Chip) (h : Nat) : List Nat :=
  ((List.range 4).flatMap fun k =>
    [x.get HDn_CHKk_XY0_XY (h * 4 + k), x.get HDn_CHKk_XY1_XY (h * 4 + k), x.get HDn_CHKk_EXP_EXP (h * 4 + k)]) ++
  [x.get HDn_CHKCTL_EN h, x.get HDn_CHKCTL_CMP h]

/-- HDn_ARM is written 1: the shadow values as they stand are what the commit applies (R244). -/
def hdArm (h : Nat) (x : Chip) : Chip :=
  if x.on HDn_ARM_ARM h then x else (x.flag HDn_ARM_ARM true h).setHead h fun s => { s with armed := x.shadowOf h }

/-- HDn_SARM is written 1. -/
def hdSarm (h : Nat) (x : Chip) : Chip :=
  if x.on HDn_SARM_ARM h then x else (x.flag HDn_SARM_ARM true h).setHead h fun s => { s with sarmed := x.winShadow h }

/-- The line of the frame at which the head commits. -/
def Chip.commitAt (x : Chip) (h : Nat) : Nat :=
  if x.get HDn_COMMIT_LINE h = 0xFFFF then x.get HDn_VTIME0_VACTIVE h else x.get HDn_COMMIT_LINE h

/-- VRR_PORCH_SET takes its turn: NEXT is written, the arm raised, and the command answered (R246, R258). -/
def Chip.porchGo (x : Chip) (h v : Nat) (c : Call) : Chip :=
  (hdArm h (x.set HDn_VFP_NEXT v h)).deferred opVrrPorchSet c [x.get HDn_COMMIT_SEQ_SEQ h]

/-- The normal arm is taken: the front porch, clamped, applies at the next line VACTIVE. -/
def Chip.takeArm (x : Chip) (h : Nat) : Chip :=
  let a := (x.head h).armed
  let p := clampN a.1 (x.get HDn_VRR_VFP_MIN h) (x.get HDn_VRR_VFP_MAX h)
  let y := (x.flag HDn_ARM_ARM false h).setHead h fun s => { s with out := a.2 }
  if x.commitAt h ≤ x.get HDn_VTIME0_VACTIVE h then y.set HDn_VFP_ACT p h
  else y.setHead h fun s => { s with porchNext := some p }

/-- The first VRR_PORCH_SET that waited for the arm just taken has its turn (R246). -/
def Chip.porchTurn (x : Chip) (h : Nat) : Chip :=
  match (x.head h).porch with
  | [] => x
  | w :: r => (x.setHead h fun s => { s with porch := r }).porchGo h w.1 w.2

/-- The secure arm is taken; where that changes a window setting, the next frame is not compared (R252). -/
def Chip.takeSarm (x : Chip) (h : Nat) : Chip :=
  (x.flag HDn_SARM_ARM false h).setHead h fun s =>
    { s with windows := s.sarmed, noCompare := s.noCompare || decide (s.windows.rightpad 14 0 ≠ s.sarmed) }

/-! ### Changes at a commit line (R214 to R218) -/

/-- A commit line under way: the blocks, whether a change applied, units that took their flip, units that wait, and
change numbers counted as deferred. -/
structure Line where
  /-- The blocks. -/
  x : Chip
  /-- A change applied. -/
  applied : Bool
  /-- Units that took their one flip. -/
  flipped : List Nat
  /-- Units that wait for the next line. -/
  stop : List Nat
  /-- Deferred change numbers. -/
  deferred : List Nat

/-- Changes apply together; a flip or group raises source 160 once and reports FLIP_DONE where asked (R217, R232). A
LAYER_REMOVE drops the flips queued behind it, up to the next LAYER_SET, with reason 3 (R218). -/
def Line.apply (w : Line) (seq : Nat) (cs : List Change) : Line :=
  let y := cs.foldl (fun (y : Chip) c =>
    let y := y.applyChange seq c
    match c.kind, c.unit with
    | .layerRemove, some u =>
      ((y.unitQueue u).takeWhile fun d => match d.kind with
        | .layerSet _ => false
        | _ => true).foldl (fun (z : Chip) d => if d.isFlip then z.dropChange 3 d else z) y
    | _, _ => y) w.x
  let y := match cs with
    | c :: _ =>
      if c.isFlip then
        let z := y.raise 160
        if c.notice && c.fn ≤ 64 then
          z.notice c.fn 0x4800 [c.num, c.unit.getD 0, seq, z.get TB_SEC_SEC, z.get TB_TICK_TICK] else z
      else y
    | [] => y
  { w with x := y, applied := true, flipped := w.flipped ++ (if cs.any Change.isFlip then cs.filterMap (·.unit) else []) }

/-- A flip or group that waits: counted and raised once (R215). Assumption log, row 48. -/
def Line.defer (w : Line) (cs : List Change) : Line :=
  match cs with
  | [] => w
  | c :: _ =>
    let w := { w with stop := w.stop ++ cs.filterMap (·.unit) }
    if w.deferred.contains c.num then w
    else { w with x := (w.x.sat CP_HEADn_DEFER_COUNT c.head).raise 161, deferred := w.deferred ++ [c.num] }

/-- One look at a unit's oldest change; the flag says that something applied. -/
def Line.visit (w : Line) (seq : Nat) (late : List Nat) (u : Nat) : Line × Bool :=
  match w.x.unitQueue u with
  | [] => (w, false)
  | c :: _ =>
    if w.stop.contains u then (w, false)
    else if late.contains c.num then ({ w with stop := w.stop ++ [u] }, false)
    else if !c.isFlip then (w.apply seq [c], true)
    else if w.flipped.contains u then ({ w with stop := w.stop ++ [u] }, false)
    else
      let ms := w.x.members c
      let oldest := ms.all fun d => match d.unit with
        | some v => (w.x.unitQueue v).head? = some d && !w.flipped.contains v
        | none => false
      if !oldest then (w, false)
      else if ms.all w.x.flipReady then (w.apply seq ms, true)
      else (w.defer ms, false)

/-- The groups at the front of a unit's queue that have not applied are deferred, each as one (R215). -/
def Line.deferGroups (w : Line) (late us : List Nat) : Line :=
  us.foldl (fun (w : Line) u => match w.x.unitQueue u with
    | c :: _ => if c.isFlip && (c.group && !late.contains c.num) then w.defer (w.x.members c) else w
    | [] => w) w

/-- The units are examined until nothing more applies (R215). Assumption log, row 47. -/
def Line.walk (w : Line) (seq : Nat) (late us : List Nat) (fuel : Nat) : Line :=
  match fuel with
  | 0 => w
  | k + 1 =>
    let r := us.foldl (fun (a : Line × Bool) u =>
      let v := a.1.visit seq late u
      (v.1, a.2 || v.2)) (w, false)
    if r.2 then r.1.walk seq late us k else r.1.deferGroups late us

/-- CP_FLIP_TMO, 0 taken as 1. -/
def Chip.flipTmo (x : Chip) : Nat := max 1 (x.get CP_FLIP_TMO_FRAMES)

/-- The flip to drop next: timed out, and nearest the front of its unit's queue (R218). Assumption log, row 55. -/
def Chip.timedOut (x : Chip) (us : List Nat) : Option Change :=
  ((List.range 4).findSome? fun i => us.findSome? fun u => match (x.unitQueue u)[i]? with
    | some c => if c.isFlip && decide (x.flipTmo ≤ c.count) then some c else none
    | none => none)

/-- Flips that timed out are dropped one at a time, and the next changes of their units examined (R218). Assumption
log, row 55. -/
def Line.expire (w : Line) (seq : Nat) (late us : List Nat) (fuel : Nat) : Line :=
  match fuel with
  | 0 => w
  | k + 1 =>
    match w.x.timedOut us with
    | none => w
    | some c => (({ w with x := w.x.dropChange 1 c, stop := [] }).walk seq late us (w.x.cp.changes.length + 1)).expire seq late us k

/-- A flip names an orphaned fence (R93). -/
def Chip.orphanFlip (x : Chip) (c : Change) : Bool :=
  match c.kind with
  | .flip _ (some f) => x.fenceOrphan f.1
  | _ => false

/-- The queued changes of a head at a commit line: orphaned flips drop, the head's own changes apply, the units are
examined, and what has waited too long is dropped. -/
def Chip.commitChanges (x : Chip) (h seq : Nat) (late : List Nat) : Line :=
  let us := x.headUnits h
  let y := (x.cp.changes.filter fun c => c.head = h && x.orphanFlip c).foldl (fun (y : Chip) c => y.dropChange 4 c) x
  let own := (y.cp.changes.filter fun c => c.head = h && c.unit.isNone).takeWhile fun c => !late.contains c.num
  let w := own.foldl (fun (w : Line) c => w.apply seq [c]) ⟨y, false, [], [], []⟩
  let fuel := x.cp.changes.length + 1
  let w := w.walk seq late us fuel
  let cs := w.x.cp.changes.map fun c =>
    if c.head = h && (c.isFlip && !late.contains c.num) then { c with count := c.count + 1 } else c
  (({ w with x := { w.x with cp := { w.x.cp with changes := cs } } }).expire seq late us fuel)

/-- Held layers whose hold has passed are removed (R94). Assumption log, row 55. -/
def Chip.dropExpired (x : Chip) (h : Nat) : Chip :=
  (x.headUnits h).foldl (fun (y : Chip) u => match y.layer u with
    | some l => if l.expired && y.on CP_Ln_STAT_HELD u then ((y.dropLayer u).updFetch h).updProt h else y
    | none => y) x

/-- The protected layer becomes stale where its time has come (R459). -/
def Chip.markStale (x : Chip) (h : Nat) : Chip :=
  match (x.protUnit h).bind x.layer, x.sw.staleFrom with
  | some _, some t => if !x.secUp && decide (t ≤ x.up) then x.setStale h true else x
  | _, _ => x

/-- A changed forward decision applies (R136). -/
def Chip.applyForward (x : Chip) (h : Nat) : Chip :=
  let b := bitAt x.hb.fwdNext h
  if x.bit HB_FWD_STAT_HEAD h = b then x
  else ((x.setBit HB_FWD_STAT_HEAD h b).flag CP_HEADn_STAT_FWD b h).raise 73

/-- The composer's arm stays raised while a change of the head is queued (R214). -/
def Chip.updArm (x : Chip) (h : Nat) : Chip :=
  let b := x.cp.changes.any fun c => c.head = h
  { x with cp := { x.cp with arms := (x.cp.arms.filter fun a => a != h) ++ (if b then [h] else []) } }

/-- The head counts lines: Starting, Running or Stopping. Assumption log, row 52. -/
def Chip.scanning (x : Chip) (h : Nat) : Bool := [1, 2, 3].contains (x.get HDn_STAT_STATE h)

/-- The lines of a selective update (R249): those whose committed key differs from the key of the line last sent, rounded
out to whole multiples of 4 lines, or of SLICE_H with DSC on. -/
def Chip.updateLines (x : Chip) (h : Nat) (v : Scene) : List Nat :=
  let sent := (x.head h).sent
  let lines := List.range (x.get HDn_VTIME0_VACTIVE h)
  let step := if x.on HDn_DSC_EN h then max 1 (x.get HDn_DSC_SLICE_H h) else 4
  let blocks := ((lines.filter fun n => !sent.any fun p => p.1 = n && p.2 = x.keyOf h n v).map (· / step)).dedup
  lines.filter fun n => blocks.contains (n / step)

/-- The inputs of the next frame's lines are fixed (R222); in self-refresh, a commit that applied something calls for a
selective update (R249). -/
def Chip.fixFrame (x : Chip) (h : Nat) (applied : Bool) : Chip :=
  let v := x.view h
  let up := if applied && x.get HDn_STAT_SR h = 2 then x.updateLines h v else []
  x.setHead h fun s => { s with committed := true, next := { scene := v, update := up, blank := s.out.2 = 1 } }

/-- COMMIT_LINE of a head; `late` lists the arms that reach it after the sample (R243). -/
def commitLine (h : Nat) (late : LateArms) (mem : List Host.Cell) (x : Chip) : Chip :=
  if !x.scanning h then x
  else
    let y := (((x.forwardCompose mem h).raise (192 + 4 * h)).set HDn_SCANPOS_LINE (x.commitAt h) h).set HDn_SCANPOS_PIXEL 0 h
    let y := y.dropExpired h
    let arm := y.on HDn_ARM_ARM h && !late.normal
    let sarm := y.on HDn_SARM_ARM h && !late.secure
    let y := y.onlyIf arm (·.takeArm h)
    let y := y.onlyIf sarm (·.takeSarm h)
    let seq := (y.get HDn_COMMIT_SEQ_SEQ h + 1) % 2 ^ 32
    let w := y.commitChanges h seq (late.changes.map (·.toNat))
    let y := (w.x.updArm h).updFetch h
    let y := if arm || (sarm || w.applied) then
        (y.set HDn_COMMIT_SEQ_SEQ seq h).set HDn_COMMIT_FRAME_FRAME (y.get HDn_FRAME_FRAME h + 1) h
      else y
    let y := (y.onlyIf arm (·.porchTurn h)).raiseIf (arm || sarm) (192 + 4 * h + 1)
    let y := ((y.applyForward h).remap fun e => y.shownOn e.idx = some h).markStale h
    ((y.queueWaiting mem h).fixFrame h w.applied).forwardCompose mem h

/-- FLIP_TIMEOUT: the head's flips that have failed at CP_FLIP_TMO commit lines are dropped, and the next change of
each unit is examined at the same commit line (R218). Assumption log, row 55. -/
def flipTimeout (h : Nat) (x : Chip) : Chip :=
  let done := x.get HDn_COMMIT_FRAME_FRAME h = (x.get HDn_FRAME_FRAME h + 1) % 2 ^ 32
  let seq := if done then x.get HDn_COMMIT_SEQ_SEQ h else (x.get HDn_COMMIT_SEQ_SEQ h + 1) % 2 ^ 32
  let w := (Line.mk x false [] [] []).expire seq [] (x.headUnits h) (x.cp.changes.length + 1)
  let y := (w.x.updArm h).updFetch h
  if w.applied then (y.set HDn_COMMIT_SEQ_SEQ seq h).set HDn_COMMIT_FRAME_FRAME (x.get HDn_FRAME_FRAME h + 1) h else y

/-- HD_ARM. -/
def execHdArm (head : Fin 16) (s : State) : Host.Outcome State Fault Refusal := s.onChip (hdArm head.val)
/-- HD_SARM. -/
def execHdSarm (head : Fin 16) (s : State) : Host.Outcome State Fault Refusal := s.onChip (hdSarm head.val)
/-- FLIP_TIMEOUT. -/
def execFlipTimeout (head : Fin 16) (s : State) : Host.Outcome State Fault Refusal := s.onChip (flipTimeout head.val)

end Sys2Proof.Machine
end

