-- ==== Sys2Proof/Machine/Epoch.lean ====
section
/-!
DEFINITION. The epoch boundary (R105): shares that apply, counts that halve, migrations that remap, balancing, forward
decisions and preemption requests.
-/
namespace Sys2Proof.Machine

/-- Items of a share taken from `b` where the mask has their bit, else from `a`. -/
def Share.merge (a b : Share) (mask : Nat) : Share :=
  ⟨if bitAt mask 0 then b.weight else a.weight, if bitAt mask 1 then b.fetch else a.fetch,
   if bitAt mask 2 then b.mem else a.mem, if bitAt mask 3 then b.skein else a.skein,
   if bitAt mask 4 then b.audio else a.audio, if bitAt mask 5 then b.depth else a.depth⟩

/-- The share in force of a function, as its record shows it (R102). -/
def Chip.share (x : Chip) (f : Nat) : Share :=
  ⟨x.get FNf_WEIGHT_WEIGHT f, x.get FNf_FETCH_QUOTA_MBPS f, x.get FNf_MEM_QUOTA_MIB f, x.get FNf_SKEIN_QUOTA_MBPS f,
   x.get FNf_AUDIO_QUOTA f, x.get FNf_QDEPTH_DEPTH f⟩

/-- A share takes force (R105). -/
def Chip.setShare (x : Chip) (f : Nat) (s : Share) : Chip :=
  (((((x.set FNf_WEIGHT_WEIGHT s.weight f).set FNf_FETCH_QUOTA_MBPS s.fetch f).set FNf_MEM_QUOTA_MIB s.mem f).set
    FNf_SKEIN_QUOTA_MBPS s.skein f).set FNf_AUDIO_QUOTA s.audio f).set FNf_QDEPTH_DEPTH s.depth f

/-- A pending change applies, and FNf_SHARE_EPOCH shows the boundary. -/
def Chip.applyShare (x : Chip) (p : PendShare) : Chip :=
  (x.setShare p.fn ((x.share p.fn).merge p.items p.mask)).set FNf_SHARE_EPOCH_EPOCH (x.get FN_EPOCH_NUM_EPOCH) p.fn

/-- Every change bound to the boundary now reached applies, in order of acceptance (R105). -/
def Chip.applyShares (x : Chip) : Chip :=
  let n := x.get FN_EPOCH_NUM_EPOCH
  let due := x.fn.pend.filter fun p => p.epoch = n
  let rest := x.fn.pend.filter fun p => p.epoch != n
  let y := due.foldl Chip.applyShare { x with fn := { x.fn with pend := rest } }
  due.foldl (fun (z : Chip) p => z.flag FNf_STAT_SHARE_PEND (rest.any fun q => q.fn = p.fn) p.fn) y

/-- The epoch number a change accepted now is bound to: the first boundary at least 50 µs off (R105). -/
def Chip.bindEpoch (x : Chip) : Nat :=
  let left := tpms - x.get TB_TICK_TICK % tpms
  (x.get FN_EPOCH_NUM_EPOCH + (if 61440 ≤ left then 1 else 2)) % 2 ^ 32

/-- FNf_FETCH_USE and FNf_SKEIN_USE show the bytes of the epoch just ended, in MB/s (R102). -/
def Chip.measureUse (x : Chip) : Chip :=
  let y := (List.range 65).foldl (fun (z : Chip) f =>
    (z.set FNf_FETCH_USE_MBPS (sparseGet x.hb.use (2 * f) 0 / 1000) f).set FNf_SKEIN_USE_MBPS
      (sparseGet x.hb.use (2 * f + 1) 0 / 1000) f) x
  { y with hb := { y.hb with use := [], load := [] } }

/-- Service and access weights halve (R112, R131). -/
def Chip.halve (x : Chip) : Chip :=
  let y := (x.gx.jobs.filter fun j => j.cores != []).foldl Chip.accrue x
  { y with hb := { y.hb with
      service := (y.hb.service.map fun p => (p.1, p.2 / 2)).filter fun p => p.2 != 0,
      map := y.hb.map.map fun e => { e with act := e.act / 2 } } }

/-- The channels of an entry are being evacuated: an evacuation of it is under way, or one of its channels still has
entries named for evacuation (R136, R388). -/
def Chip.evacuating (x : Chip) (e : MapEntry) : Bool :=
  (e.mig != 0 && e.kind = 1) || ((List.range 16).any fun c => bitAt e.chanset c && (x.mc.chan.getD c {}).named != [])

/-- Forward composition may be allowed on head `h` (R136). -/
def Chip.forwardOk (x : Chip) (h : Nat) : Bool :=
  x.on HDn_STAT_RUN h && (x.on CP_CTL_FWD_EN && (!bitAt (x.get HB_FWD_DENY_HEAD) h && (x.on CP_HEADn_STAT_STORE h &&
    !(x.cp.rings.any fun r => r.1 = h && x.hb.map.any fun e => (e.idx = r.2.1 || e.idx = r.2.2) && x.evacuating e))))


/-- The forward decisions of the boundary (R136); each changed one waits for its head's commit line. -/
def Chip.forwardDecide (x : Chip) : Chip :=
  { x with hb := { x.hb with fwdNext := ((List.range 16).map fun h => if x.forwardOk h then 2 ^ h else 0).sum } }

/-- Preemption requests of the boundary (R167): for a ready secure-world job with no core free, the job that stands
last in the order of R131; and every job whose function's ratio of service to weight is more than twice that of a
ready function. Assumption log, row 29. -/
def Chip.epochPreempt (x : Chip) : Chip :=
  let x := x.readyJobs
  let ready := x.gx.jobs.filter Job.isReady
  let holding := x.gx.jobs.filter fun j => j.cores != [] && !j.world
  let last := holding.foldl (fun b j => match b with
    | none => some j
    | some k => if x.jobBefore k j then some j else some k) none
  let y := match last with
    | some k => if ready.any (·.world) && x.freeCores = [] then x.requestPreempt fun j => j.is k.fn k.num else x
    | none => x
  y.requestPreempt fun j => ready.any fun r =>
    decide (2 * sparseGet x.hb.service r.fn 0 * x.weightOf j.fn < sparseGet x.hb.service j.fn 0 * x.weightOf r.fn)

/-- An epoch boundary (R105); a change of the real-time cache partition takes effect (R20). -/
def Chip.epoch (x : Chip) : Chip :=
  let y := (x.inc FN_EPOCH_NUM_EPOCH).applyShares
  let y := y.balance.hintMoves
  let y := (y.measureUse.halve).remap fun e => (y.migOk || e.kind = 2) && (y.shownOn e.idx).isNone
  let y := { y with hb := { y.hb with rtcache := clampN (y.get HB_RTCACHE_MIB) 2 8 } }
  (y.forwardDecide).epochPreempt

end Sys2Proof.Machine
end

