-- ==== Sys2Proof/Machine/Link.lean ====
section
/-!
DEFINITION. What the Skein ports and Bowline have in common as links: sequence numbers, acknowledgement, replay and training
(R325 to R329, R348). Links 0 and 1 are the Skein ports, link 2 is Bowline.
-/
namespace Sys2Proof.Machine

/-- LINK codes (R328). -/
def lkDown : Nat := 0
/-- Train. -/
def lkTrain : Nat := 1
/-- Up. -/
def lkUp : Nat := 2
/-- Retrain. -/
def lkRetrain : Nat := 3
/-- Stopping; a Skein port's alone. -/
def lkStopping : Nat := 4

/-- The register field of a link: a Skein port's, or Bowline's. -/
def lkFld (l : Nat) (sk bl : Fld) : Fld := if l = 2 then bl else sk

/-- The instance of that field. -/
def lkIx (l : Nat) : Nat := if l = 2 then 0 else l

/-- A link's own state. -/
def Chip.lk (x : Chip) (l : Nat) : LinkSt := if l = 2 then x.bl.link else (x.sk.port.getD l {}).link

/-- A link's own state changes. -/
def Chip.setLk (x : Chip) (l : Nat) (f : LinkSt → LinkSt) : Chip :=
  if l = 2 then { x with bl := { x.bl with link := f x.bl.link } }
  else { x with sk := { x.sk with port := updAt x.sk.port l fun p => { p with link := f p.link } } }

/-- LINK as the register shows it. -/
def Chip.lkState (x : Chip) (l : Nat) : Nat := x.get (lkFld l SKn_STAT_LINK BL_STAT_LINK) (lkIx l)

/-- An event of a link: 0 up, 1 down, 2 Retrain, 3 replay, 4 CRC error, 5 violation (R345, R375). -/
def Chip.lkRaise (x : Chip) (l k : Nat) : Chip :=
  if l = 2 then (if k ≤ 2 then x.raise (416 + k) else x.raiseIf (k ≤ 4) 419) else x.raise (384 + 16 * l + k)

/-- Lanes a link runs: Bowline always 8 (R346). Assumption log, row 71. -/
def Chip.lkLanes (x : Chip) (l : Nat) : Nat := if l = 2 || x.on SKn_CTL_LANES l then 8 else 4

/-! ### Lanes (R321) -/

/-- `n` bits, least significant first, through the scrambler x^58 + x^39 + 1: its state after, and the bits sent with
`acc` below them. -/
def scramble (n st data k acc : Nat) : Nat × Nat :=
  match n with
  | 0 => (st, acc)
  | n + 1 =>
    let b := (data + bits st 38 1 + bits st 57 1) % 2
    scramble n ((2 * st + b) % 2 ^ 58) (data / 2) (k + 1) (acc + b * 2 ^ k)

/-- One block time: every lane in use sends a block, given by its number as a sync header and 64 bits; lane reversal and
lane polarity act on what goes out. -/
def Chip.blockTime_ (x : Chip) (l : Nat) (block : Nat → Nat × Nat) : Chip :=
  let n := x.lkLanes l
  let inv := x.get (lkFld l SKn_POL_TX_INV BL_POL_TX_INV) (lkIx l)
  let rev := l != 2 && x.on SKn_CTL_LANE_REV l
  let sent := (List.range n).map fun i =>
    let b := block (if rev then n - 1 - i else i)
    let r := scramble 64 ((x.lk l).lanes.getD i 0) b.2 0 0
    (r.1, (i, if bitAt inv i then (3 - b.1, 2 ^ 64 - 1 - r.2) else (b.1, r.2)))
  (x.emit (.lanes l (sent.map (·.2)))).setLk l fun s => { s with lanes := sent.map (·.1) ++ s.lanes.drop n, blk := s.blk + 1 }

/-- The alignment marker of a lane: a control block. -/
def marker (lane : Nat) : Nat × Nat := (2, 0x4B + 256 * lane)

/-- A flit's eight data blocks go out: one to each of eight lanes, or two to each of four; markers go out on all lanes
together once in 1,025 block times. Assumption log, row 73. -/
def Chip.laneSend (x : Chip) (l : Nat) (flit : List Nat) : Chip :=
  let n := x.lkLanes l
  (List.range (8 / n)).foldl (fun (y : Chip) r =>
    let y := if 1024 ≤ (y.lk l).blk then (y.blockTime_ l marker).setLk l fun s => { s with blk := 0 } else y
    y.blockTime_ l fun lane => (1, leNat ((flit.drop (8 * (lane + n * r))).take 8))) x

/-! ### Flits (R322 to R324, R347) -/

/-- A TYPE is sequenced. -/
def sequenced (type : Nat) : Bool := 1 ≤ type && type ≤ 3

/-- The 64 bytes of a flit: the header with the current ACK, the payload, and the CRC-32C over both. -/
def Chip.flitBytes (x : Chip) (l type stream seq : Nat) (payload : List Nat) : List Nat :=
  let s := x.lk l
  let hdr := type + 8 * stream + 512 * (if sequenced type then seq else 0) +
    (if s.ackV then 2 ^ 19 * ((s.rxSeq + 1023) % 1024) + 2 ^ 29 else 0)
  let body := wordBytes hdr ++ (payload.take 56 ++ List.replicate (56 - payload.length) 0)
  body ++ wordBytes (crcOf 0 body)

/-- A flit is sent on a link. Assumption log, row 73. -/
def Chip.lkEmit (x : Chip) (l type stream seq : Nat) (payload : List Nat) : Chip :=
  let f := x.flitBytes l type stream seq payload
  (x.emit (.link l type f)).laneSend l f

/-- An ERR flit is sent: 1 NAK, 2 credit violation, 3 unbound stream, 4 CLOSE; with its SEQ or stream (R324). -/
def Chip.lkErr (x : Chip) (l code v : Nat) : Chip := x.lkEmit l 5 0 0 [code, 0, v % 256, v / 256]

/-- A TRAIN flit is sent in the phase reached: version, phase, lanes, RESUME, next SEQ expected, next SEQ to send (R324). -/
def Chip.sendTrain (x : Chip) (l : Nat) : Chip :=
  let s := x.lk l
  x.lkEmit l 4 0 0 [1, s.phase, x.lkLanes l, b2n s.resume, s.rxSeq % 256, s.rxSeq / 256, s.txSeq % 256, s.txSeq / 256]

/-- The replay buffer has room (R325). -/
def Chip.lkRoom (x : Chip) (l : Nat) : Bool := (x.lk l).replay.length < 256

/-- A sequenced flit is sent with the next SEQ and kept until it is acknowledged (R325). -/
def Chip.lkSend (x : Chip) (l type stream : Nat) (payload : List Nat) : Chip :=
  let s := x.lk l
  (x.lkEmit l type stream s.txSeq payload).setLk l fun t => { t with
    txSeq := (t.txSeq + 1) % 1024, replay := t.replay ++ [(t.txSeq, type, stream, payload)] }

/-- LINK changes; a Skein port's lanes in use and its notice to F0 follow (R341, R344). Assumption log, row 71. -/
def Chip.lkEnter (x : Chip) (l v : Nat) (reset : Bool) : Chip :=
  let y := x.set (lkFld l SKn_STAT_LINK BL_STAT_LINK) v (lkIx l)
  if l = 2 then y
  else
    let y := if v = lkDown then y.set SKn_STAT_LANES_ACT 0 l
      else if v = lkUp then y.set SKn_STAT_LANES_ACT (y.lkLanes l) l else y
    y.notice 0 0x8800 [l, v, y.get SKn_STAT_LANES_ACT l, b2n reset]

/-- Training begins: every lane has to gain block lock (R329). -/
def Chip.lkBegin (x : Chip) (l v : Nat) (resume : Bool) : Chip :=
  (x.lkEnter l v false).setLk l fun s => { s with lock := 0, phase := 0, resume := resume }

/-- Entry into Retrain (R327). -/
def Chip.lkToRetrain (x : Chip) (l : Nat) : Chip :=
  if x.lkState l = lkUp then
    let y := x.sat (lkFld l SKn_REPLAY_RETRAINS BL_REPLAY_RETRAINS) (lkIx l)
    (y.lkRaise l 2).lkBegin l lkRetrain true
  else x

/-- An ACK frees the flits it covers; the SEQs freed are answered (R325). -/
def Chip.lkAck (x : Chip) (l : Nat) (h : FlitHdr) : Chip × List Nat :=
  let r := (x.lk l).replay
  let n := match r.findIdx? fun e => e.1 = h.ack.val with
    | some i => i + 1
    | none => 0
  if !h.ackV || n = 0 then (x, [])
  else (x.setLk l fun s => { s with replay := r.drop n, tries := (0, 0) }, (r.take n).map (·.1))

/-- A NAK goes out for the SEQ expected, unless one went out within 2 µs (R326). Assumption log, row 71. -/
def Chip.lkNak (x : Chip) (l : Nat) : Chip :=
  let s := x.lk l
  let wait := match s.nakAt with
    | some t => decide (x.up < t + 2458)
    | none => false
  if wait then x else (x.lkErr l 1 s.rxSeq).setLk l fun s => { s with nakAt := some x.up }

/-- A sequenced flit with a good CRC: whether it is the one expected. A later one is answered with a NAK, a replayed
copy is discarded silently (R326). Assumption log, row 73. -/
def Chip.lkTake (x : Chip) (l seq : Nat) : Chip × Bool :=
  let s := x.lk l
  if seq = s.rxSeq then
    (x.setLk l fun s => { s with rxSeq := (s.rxSeq + 1) % 1024, ackV := true, nakAt := none }, true)
  else if (seq + 1024 - s.rxSeq) % 1024 < 512 then (x.lkNak l, false)
  else (x, false)

/-- A flit that is not accepted (R323, R326). -/
def lkBad (l : Nat) (b : BadFlit) (x : Chip) : Chip :=
  if x.lkState l != lkUp && x.lkState l != lkStopping then x
  else
    match b with
    | .crc => ((x.sat (lkFld l SKn_CRC_ERR_COUNT BL_CRC_ERR_COUNT) (lkIx l)).lkRaise l 4).lkNak l
    | .order seq => if seq.val = (x.lk l).rxSeq then x else (x.lkTake l seq.val).1
    | .reserved => x.sat (lkFld l SKn_VIOL_COUNT BL_VIOL_COUNT) (lkIx l)

/-- A replay starts from a SEQ held; the fourth from one SEQ without the ACK advancing means Retrain (R327). -/
def Chip.lkReplay (x : Chip) (l seq : Nat) : Chip :=
  let s := x.lk l
  let n := if s.tries.1 = seq && s.tries.2 != 0 then s.tries.2 + 1 else 1
  let y := (x.sat (lkFld l SKn_REPLAY_REPLAYS BL_REPLAY_REPLAYS) (lkIx l)).lkRaise l 3
  let y := y.setLk l fun s => { s with tries := (seq, n) }
  if 4 ≤ n then y.lkToRetrain l
  else (s.replay.dropWhile fun e => e.1 != seq).foldl (fun (y : Chip) e => y.lkEmit l e.2.1 e.2.2.1 e.1 e.2.2.2) y

/-- An ERR NAK arrives: a replay, or Retrain for an SEQ the buffer does not hold. -/
def lkNakIn (l seq : Nat) (x : Chip) : Chip :=
  if x.lkState l != lkUp && x.lkState l != lkStopping then x
  else if (x.lk l).replay.any fun e => e.1 = seq then x.lkReplay l seq
  else x.lkToRetrain l

/-- The oldest unacknowledged flit has waited too long. Assumption log, row 111. -/
def lkTimeout (l : Nat) (x : Chip) : Chip :=
  if x.lkState l != lkUp && x.lkState l != lkStopping then x
  else match (x.lk l).replay with
    | [] => x
    | e :: _ => x.lkReplay l e.1

/-- A lane loses block lock. -/
def lkLockLoss (l lane : Nat) (x : Chip) : Chip :=
  if lane < x.lkLanes l then
    (x.setLk l fun s => { s with lock := putBit s.lock lane false, phase := 0 }).lkToRetrain l
  else x

/-- Every lane in use has block lock. -/
def Chip.lkLocked (x : Chip) (l : Nat) : Bool := (x.lk l).lock % 2 ^ x.lkLanes l = 2 ^ x.lkLanes l - 1

/-- The link trains. -/
def Chip.lkTraining (x : Chip) (l : Nat) : Bool := x.lkState l = lkTrain || x.lkState l = lkRetrain

/-- A lane gains block lock; with the last one, the TRAIN exchange starts in phase 0 (R329). -/
def lkLock (l lane : Nat) (x : Chip) : Chip :=
  if !x.lkTraining l || x.lkLanes l ≤ lane then x
  else
    let y := x.setLk l fun s => { s with lock := putBit s.lock lane true }
    if y.lkLocked l && !x.lkLocked l then y.sendTrain l else y

/-- A TRAIN flit in Train or Retrain (R329): the end moves to phase 1 on its own lane count, and is Up with phase 1
received and 16 flits of it sent. Answers whether the link comes up, and whether resumed. -/
def Chip.lkTrainIn (x : Chip) (l : Nat) (t : Train) : Chip × Option Bool :=
  if !x.lkTraining l || !x.lkLocked l then (x, none)
  else if t.lanes.toNat != x.lkLanes l then ((if l = 2 then x else x.flag SKn_STAT_MISMATCH true l).sendTrain l, none)
  else
    let y := x.setLk l fun s => { s with phase := 1 }
    if t.phase then ((List.range 16).foldl (fun (y : Chip) _ => y.sendTrain l) y, some ((x.lk l).resume && t.resume))
    else (y.sendTrain l, none)

/-- The link comes up resumed: flits the far end does not expect any more are freed, their SEQs answered, and the rest are
sent again (R329). -/
def Chip.lkResumed (x : Chip) (l expected : Nat) : Chip × List Nat :=
  let r := (x.lk l).replay
  let n := match r.findIdx? fun e => e.1 = expected with
    | some i => i
    | none => r.length
  let y := x.setLk l fun s => { s with replay := r.drop n, tries := (0, 0), nakAt := none }
  ((r.drop n).foldl (fun (y : Chip) e => y.lkEmit l e.2.1 e.2.2.1 e.1 e.2.2.2) y, (r.take n).map (·.1))

/-- The link's sequence numbers restart and its replay buffer empties (R329). -/
def Chip.lkClear (x : Chip) (l : Nat) : Chip :=
  x.setLk l fun s => { s with
    rxSeq := 0, ackV := false, txSeq := 0, replay := [], tries := (0, 0), nakAt := none, farClose := false }

end Sys2Proof.Machine
end

