-- ==== Sys2Proof/Machine/Skein.lean ====
section
/-!
DEFINITION. The Skein streaming ports (12_skein_ports.md): credits and the share, frame rings, audio bindings, start, stop
and bindings.
-/
namespace Sys2Proof.Machine

/-! ### Work that also writes memory -/

/-- The blocks, memory, and the writes made so far. -/
structure Work where
  /-- The blocks. -/
  x : Chip
  /-- Memory as it stands. -/
  mem : List Host.Cell
  /-- Writes, oldest first. -/
  ws : List (Nat × Byte)

/-- A change of the blocks alone. -/
def Work.on (w : Work) (f : Chip → Chip) : Work := { w with x := f w.x }

/-- Writes are made. -/
def Work.put (w : Work) (p : Chip × List (Nat × Byte)) : Work := ⟨p.1, writeCells w.mem p.2, w.ws ++ p.2⟩

/-- Bytes are stored from a device address on. -/
def Work.store (w : Work) (a : Nat) (bs : List Nat) : Work := w.put (w.x, storeBytes w.x a bs)

/-- Work done from a state of the blocks and memory: the blocks, and the writes. -/
def runWork (f : Work → Work) (mem : List Host.Cell) (x : Chip) : Chip × List (Nat × Byte) :=
  let w := f ⟨x, mem, []⟩
  (w.x, w.ws)

/-! ### A port's streams -/

/-- Register instance of a port's stream. -/
def stIx (p s : Nat) : Nat := p * 64 + s

/-- A port's own state. -/
def Chip.sp (x : Chip) (p : Nat) : SkPort := x.sk.port.getD p {}

/-- A port's own state changes. -/
def Chip.setSp (x : Chip) (p : Nat) (f : SkPort → SkPort) : Chip :=
  { x with sk := { x.sk with port := updAt x.sk.port p f } }

/-- A bound stream's own state. -/
def Chip.strm (x : Chip) (p s : Nat) : SkStream := ((x.sp p).streams.find? fun t => t.st = s).getD { st := s }

/-- A bound stream's own state changes. -/
def Chip.setStrm (x : Chip) (p s : Nat) (f : SkStream → SkStream) : Chip :=
  x.setSp p fun q => { q with streams := updFirst q.streams (fun t => t.st = s) f }

/-- Every stream's own state changes. -/
def Chip.setStrms (x : Chip) (p : Nat) (f : SkStream → SkStream) : Chip :=
  x.setSp p fun q => { q with streams := q.streams.map f }

/-- Kind of a stream (R333). -/
def Chip.skKind (x : Chip) (p s : Nat) : Nat := x.get SKn_STs_CFG_KIND (stIx p s)

/-- A kind is ingress. -/
def skIn (k : Nat) : Bool := k = 1 || k = 2

/-- Function a stream is bound to. -/
def Chip.skFn (x : Chip) (p s : Nat) : Nat := x.get SKn_STs_BIND_FUNC (stIx p s)

/-- Bound handle. -/
def Chip.skHandle (x : Chip) (p s : Nat) : Nat :=
  x.get SKn_STs_HANDLE_LO_HANDLE (stIx p s) + 2 ^ 32 * x.get SKn_STs_HANDLE_HI_HANDLE (stIx p s)

/-- Bytes of a slot (R334). -/
def Chip.skSlot (x : Chip) (p s : Nat) : Nat := x.get SKn_STs_RING_SLOT (stIx p s) * 4096

/-- Slots of a ring. -/
def Chip.skSlots (x : Chip) (p s : Nat) : Nat := x.get SKn_STs_RING_NSLOT (stIx p s) + 1

/-- Device address of slot `i`'s record. -/
def Chip.skRecAt (x : Chip) (p s i : Nat) : Nat := x.skHandle p s + 64 + 32 * i

/-- Device address of slot `i`'s data. -/
def Chip.skDataAt (x : Chip) (p s i : Nat) : Nat := x.skHandle p s + 4096 + x.skSlot p s * i

/-- Bytes a function may still move in this epoch (R332). -/
def Chip.skLeft (x : Chip) (f : Nat) : Nat :=
  x.get FNf_SKEIN_QUOTA_MBPS f * 1000 - sparseGet x.hb.use (2 * f + 1) 0

/-- Bytes have been moved for a function. -/
def Chip.skUse (x : Chip) (f n : Nat) : Chip :=
  { x with hb := { x.hb with use := sparseSet x.hb.use (2 * f + 1) (sparseGet x.hb.use (2 * f + 1) 0 + n) 0 } }

/-- Bytes counted that turned out to lie beyond LENGTH. -/
def Chip.skUnuse (x : Chip) (f n : Nat) : Chip :=
  { x with hb := { x.hb with use := sparseSet x.hb.use (2 * f + 1) (sparseGet x.hb.use (2 * f + 1) 0 - n) 0 } }

/-- SKEIN_STREAM for the first frame of a run with this cause, to the bound function and F0 (R344). -/
def Chip.skTell (x : Chip) (p s cause : Nat) : Chip :=
  let t := x.strm p s
  let n := stIx p s
  let y := x.setStrm p s fun t => { t with causes := if t.causes.contains cause then t.causes else t.causes ++ [cause] }
  if t.told.contains cause || t.causes.contains cause then y
  else
    let ws := [p * 256 + s, cause, x.get SKn_STs_FRAMES_COUNT n]
    let f := x.skFn p s
    let y := if f != 0 && !x.on SKn_STs_BIND_ORPHAN n then y.notice f 0x8801 ws else y
    y.notice 0 0x8801 ws

/-- A frame has ended, completed or dropped: its causes are those of the frame before from now on. -/
def Chip.skFrameOver (x : Chip) (p s : Nat) : Chip :=
  x.setStrm p s fun t => { t with told := t.causes, causes := [], frame := none }

/-! ### Credit (R331) -/

/-- Credit of a stream in 64-byte quarters. -/
def Chip.skCredit (x : Chip) (p s : Nat) : Nat :=
  4 * x.get SKn_STs_CREDIT_UNITS (stIx p s) + (x.strm p s).quarter

/-- Credit becomes `q` quarters. -/
def Chip.setCredit (x : Chip) (p s q : Nat) : Chip :=
  (x.set SKn_STs_CREDIT_UNITS (min (q / 4) 65535) (stIx p s)).setStrm p s fun t => { t with quarter := q % 4 }

/-- Units for flits drained are granted, unless the port stops or the binding is withdrawn. -/
def Chip.skGrant (x : Chip) (p s : Nat) : Chip :=
  let n := (x.strm p s).drained / 4
  if x.lkState p != lkUp || (n = 0 || (!skIn (x.skKind p s) || (x.on SKn_STs_BIND_ORPHAN (stIx p s) || !x.lkRoom p))) then x
  else
    let y := (x.setStrm p s fun t => { t with drained := t.drained % 4 }).setCredit p s (x.skCredit p s + 4 * n)
    y.lkSend p 2 0 (wordBytes (s + 128 + 256 * n))

/-- Every stream of a port is granted what it is due. -/
def Chip.skGrants (x : Chip) (p : Nat) : Chip :=
  (x.sp p).streams.foldl (fun (y : Chip) t => y.skGrant p t.st) x

/-! ### Check-value units on a stream (R401, R404, R405) -/

/-- Units on the taps of a stream, in a mode. -/
def Chip.skUnits (x : Chip) (p s mode : Nat) : List Nat :=
  (List.range 24).filter fun u => x.on CVn_CFG_BOUND u && (tapIsStream (x.get CVn_CFG_TAP u) &&
    (tapPort (x.get CVn_CFG_TAP u) = p && (x.get CVn_SEL_STREAM u = s && x.get CVn_CFG_MODE u = mode)))

/-- Bytes pass the taps of a stream. -/
def Chip.skFeed (x : Chip) (p s mode : Nat) (bs : List Nat) : Chip :=
  if bs = [] then x
  else ((x.skUnits p s mode).filter fun u => !(x.cvUnit u).inReset).foldl (fun (y : Chip) u => y.cvFeed u bs) x

/-- A data unit begins at the units of a mode on a stream (R400). Assumption log, row 115. -/
def Chip.skBegin (x : Chip) (p s mode : Nat) : Chip :=
  ((x.skUnits p s mode).filter fun u => !(x.cvUnit u).inReset).foldl (fun (y : Chip) u =>
    (y.setCv u fun t => { t with running := false }).cvFeed u []) x

/-- Bytes of a unit's check value. -/
def Chip.cvBytes (x : Chip) (u : Nat) : Nat := (x.cvPoly u).width / 8

/-- The data unit of every unit of a mode on a stream ends with these bytes. Assumption log, row 69. -/
def Work.skUnitEnd (w : Work) (p s mode : Nat) (bs : List Nat) : Work :=
  (w.x.skUnits p s mode).foldl (fun (w : Work) u => w.put (cvUnitEnd u bs w.x)) w

/-! ### Ingress frames (R334, R335, R338) -/

/-- Bytes that may not be written before the frame's length is known: those of one flit, and the check value. -/
def Chip.skHold (x : Chip) (p s : Nat) : Nat :=
  56 + (match x.skUnits p s 2 with
    | u :: _ => x.cvBytes u
    | [] => 0)

/-- A request of the port for the stream's buffer, with the attributes of the binding (R15, R19). Assumption log, row 127. -/
def Chip.skAsk (x : Chip) (p s a len : Nat) (write : Bool) : Chip × Bool :=
  x.ask ⟨0x50 + p, x.skFn p s, x.get SKn_STs_BIND_GEN (stIx p s), false, a, len, write⟩

/-- The port writes to the stream's buffer; a write that the walker refuses is dropped. Assumption log, row 127. -/
def Work.ringStore (w : Work) (p s a : Nat) (bs : List Nat) : Work :=
  if bs = [] then w
  else
    let r := w.x.skAsk p s a bs.length true
    if r.2 then { w with x := r.1 }.store a bs else { w with x := r.1 }

/-- The port reads from the stream's buffer; a read that the walker refuses returns zero. -/
def Work.ringRead (w : Work) (p s a n : Nat) : Work × List Nat :=
  if n = 0 then (w, [])
  else
    let r := w.x.skAsk p s a n false
    ({ w with x := r.1 }, if r.2 then readBytes w.mem r.1 a n else List.replicate n 0)

/-- Bytes of a frame go to its slot from byte `pos` on; those beyond the slot are discarded. Assumption log, row 69.
-/
def Work.slotWrite (w : Work) (p s slot pos : Nat) (bs : List Nat) : Work :=
  w.ringStore p s (w.x.skDataAt p s slot + pos) (bs.take (w.x.skSlot p s - pos))

/-- An open frame is completed: at its MARK END with LENGTH, or with TRUNC at another MARK START or a link reset.
Assumption log, row 69. -/
def Work.closeFrame (w : Work) (p s : Nat) (length : Option Nat) : Work :=
  match (w.x.strm p s).frame with
  | none => w
  | some f =>
    if f.drop then w.on fun y => y.skFrameOver p s
    else
      let n := stIx p s
      let size := w.x.skSlot p s
      let r := match length with
        | some l => max (f.got - 56) (min f.got l)
        | none => f.got
      let tail := f.last.take (f.last.length - (f.got - r))
      let unit := (w.x.skUnits p s 2).head?
      let cw := match unit with
        | some u => min (w.x.cvBytes u) r
        | none => 0
      let body := tail.take (tail.length - cw)
      let check := tail.drop (tail.length - cw)
      let pos := f.got - f.last.length
      let blind := match unit with
        | some u => (w.x.cvUnit u).inReset || (w.x.cvUnit u).spoiled
        | none => false
      let w := (w.slotWrite p s f.slot pos body).on fun y => y.skUnuse (y.skFn p s) (f.got - r)
      let w := (w.skUnitEnd p s 0 tail).skUnitEnd p s 2 body
      let bad := match unit with
        | some u => blind || (length.isNone || (decide (r < w.x.cvBytes u) || w.x.get CVn_FINAL_VALUE u != leNat check))
        | none => false
      let w := match unit with
        | some u => if bad then w.on fun y => (y.sat CVn_FAIL_COUNT u).raise 464 else w
        | none => w
      let trunc := length.isNone || decide (size < r - cw)
      let mism := match length with
        | some l => l != r
        | none => false
      let st := b2n trunc + (2 * b2n mism + 4 * b2n bad)
      let wr := readLe w.mem w.x (w.x.skHandle p s) 4
      let w := (w.ringStore p s (w.x.skRecAt p s f.slot) ([min (r - cw) size, st, f.tag, f.sec, f.tick].flatMap wordBytes)).ringStore p s
        (w.x.skHandle p s) (wordBytes (wr + 1))
      w.on fun y =>
        let y := (y.inc SKn_STs_FRAMES_COUNT n).setStrm p s fun t => { t with done := t.done + 1 }
        let y := if trunc then (((y.sat SKn_STs_DROP_TRUNC n).raise (384 + 16 * p + 7)).skTell p s 2) else y
        let y := if bad then (y.raise (384 + 16 * p + 9)).skTell p s 4 else y
        let i := y.get SKn_STs_RING_FENCE n
        let y := if y.on SKn_STs_CFG_FENCE_EN n && (!y.on SKn_STs_BIND_ORPHAN n && y.ownsFence (y.skFn p s) i) then
            y.signalFence i (max (y.strm p s).done (y.fenceValue i))
          else y
        y.skFrameOver p s

/-- A frame opens in the next slot, or is discarded where the ring is full under DROP. Assumption log, row 69. -/
def Work.openFrame (w : Work) (p s tag sec tick : Nat) (full : Bool) : Work :=
  let x := w.x
  let n := stIx p s
  let slot := readLe w.mem x (x.skHandle p s) 4 % x.skSlots p s
  let y := x.setStrm p s fun t => { t with frame := some ⟨slot, tag, sec, tick, 0, full, []⟩ }
  let y := if full then ((y.sat SKn_STs_DROP_DROP n).raise (384 + 16 * p + 6)).skTell p s 1
    else (y.skBegin p s 0).skBegin p s 2
  { w with x := y }

/-- WR − RD equals NSLOT. Assumption log, row 69. -/
def Work.ringFull (w : Work) (p s : Nat) : Bool :=
  let h := w.x.skHandle p s
  (readLe w.mem w.x h 4 + 2 ^ 32 - readLe w.mem w.x (h + 4) 4) % 2 ^ 32 = w.x.skSlots p s

/-- Data of an ingress frame ring is drained; `last` with the end of its flit, where a stray one counts. Assumption
log, row 69. -/
def Work.ringData (w : Work) (p s : Nat) (last : Bool) (bs : List Nat) : Work :=
  match (w.x.strm p s).frame with
  | none => w.on fun y => y.onlyIf last (·.sat SKn_STs_DROP_DROP (stIx p s))
  | some f =>
    if f.drop then w
    else
      let buf := f.last ++ bs
      let k := buf.length - w.x.skHold p s
      let now := buf.take k
      let w := (w.slotWrite p s f.slot (f.got - f.last.length) now).on fun y =>
        ((y.skFeed p s 0 now).skFeed p s 2 now).setStrm p s fun t => { t with
          frame := some { f with got := f.got + bs.length, last := buf.drop k } }
      w

/-! ### Audio bindings (R337) -/

/-- Endpoint of an audio binding. -/
def Chip.skEp (x : Chip) (p s : Nat) : Nat := x.get SKn_STs_BIND_ENDPOINT (stIx p s)

/-- Bytes of the endpoint's frames are appended; APPL is written with every whole frame. Assumption log, row 70. -/
def Work.audioData (w : Work) (p s : Nat) (bs : List Nat) : Work :=
  match w.x.stream (w.x.skEp p s) with
  | none => w
  | some a =>
    let fb := w.x.frameBytes a.ep
    let buf := a.part ++ bs
    let k := buf.length / fb
    let w := (List.range k).foldl (fun (w : Work) i =>
      w.ringStore p s (a.buf + 64 + ((a.appl + i) % 2 ^ 32) % (16 * 2 ^ a.k) * fb) ((buf.drop (i * fb)).take fb)) w
    let appl := (a.appl + k) % 2 ^ 32
    let w := if k = 0 then w else w.ringStore p s a.buf (wordBytes appl)
    w.on fun y => y.setStream { a with appl := appl, part := buf.drop (k * fb) }

/-- At least 16 audio frames are free in the endpoint's buffer. Assumption log, row 70. -/
def Chip.audioRoom (x : Chip) (p s : Nat) : Bool :=
  match x.stream (x.skEp p s) with
  | none => false
  | some a => (a.appl + 2 ^ 32 - a.hw) % 2 ^ 32 + 16 ≤ 16 * 2 ^ a.k

/-! ### Draining and sending (R331, R332, R336) -/

/-- One flit's worth, or what the epoch still allows of it, is drained from a stream's receive buffer; `none` where
nothing moves. Assumption log, row 69. -/
def Work.drainOne (w : Work) (p s : Nat) : Option Work :=
  let x := w.x
  let f := x.skFn p s
  let left := x.skLeft f
  let pop := fun (w : Work) => w.on fun y => y.setStrm p s fun t => { t with fifo := t.fifo.drop 1, drained := t.drained + 1 }
  if left = 0 then none
  else match (x.strm p s).fifo with
    | [] => none
    | .data bs :: _ =>
      let n := min left bs.length
      if x.skKind p s = 2 && !x.audioRoom p s then none
      else
        let w := w.on fun y => y.skUse f n
        let w := if x.skKind p s = 2 then w.audioData p s (bs.take n) else w.ringData p s (n = bs.length) (bs.take n)
        if n = bs.length then some (pop w)
        else some (w.on fun y => y.setStrm p s fun t => { t with fifo := .data (bs.drop n) :: t.fifo.drop 1 })
    | .start tag sec tick :: _ =>
      if x.skKind p s = 2 then some (pop w)
      else
        let w := w.closeFrame p s none
        let full := w.ringFull p s
        if full && !x.on SKn_STs_CFG_DROP (stIx p s) then (if (x.strm p s).frame.isSome then some w else none)
        else some (pop (w.openFrame p s tag sec tick full))
    | .fin len :: _ => some (pop (if x.skKind p s = 2 then w else w.closeFrame p s (some len)))

/-- A flit of a stream is sent for a quarter unit of credit. -/
def Chip.skSend (x : Chip) (p s type : Nat) (payload : List Nat) : Chip :=
  (x.setCredit p s (x.skCredit p s - 1)).lkSend p type s payload

/-- The frame in progress of an egress ring sends its next flit (R336, R404). -/
def Work.sendFrame (w : Work) (p s : Nat) (o : OutFrame) : Option Work :=
  let x := w.x
  let set := fun (y : Chip) (o : OutFrame) => y.setStrm p s fun t => { t with eg := some o }
  let slot := readLe w.mem x (x.skHandle p s + 4) 4 % x.skSlots p s
  let unit := (x.skUnits p s 1).head?
  let extra := match unit with
    | some u => x.cvBytes u
    | none => 0
  let total := o.len + extra
  match o.begun with
  | none =>
    let y := ((x.skSend p s 3 ([1, 0, 0, 0] ++ wordBytes o.tag)).skBegin p s 0).skBegin p s 1
    some { w with x := set y { o with begun := some (x.get TB_SEC_SEC, x.get TB_TICK_TICK) } }
  | some t =>
    if o.endSeq.isSome then none
    else if o.pos < total then
      let n := min 56 (total - o.pos)
      if x.skLeft (x.skFn p s) < n then none
      else
        let q := w.ringRead p s (x.skDataAt p s slot + o.pos) (min n (o.len - o.pos))
        let own := q.2
        let x := q.1.x.skFeed p s 1 own
        let w := { w with x := x }
        let w := match unit, o.check with
          | some u, none => if o.len ≤ o.pos + n then
              (w.put (cvUnitEnd u [] w.x)).on fun y => y.onlyIf (x.cvUnit u).spoiled Chip.took else w
          | _, _ => w
        let check := match unit, o.check with
          | some u, none => if o.len ≤ o.pos + n then
              some ((wordBytes (if (x.cvUnit u).spoiled then x.free 32 else w.x.get CVn_FINAL_VALUE u)).take extra) else none
          | _, c => c
        let bs := own ++ (((check.getD []).drop (o.pos - o.len)).take (n - own.length))
        let y := ((w.x.skFeed p s 0 bs).skUse (w.x.skFn p s) n).skSend p s 1 (bs ++ List.replicate (56 - n) 0)
        some { w with x := set y { o with pos := o.pos + n, check := check } }
    else
      let y := x.skSend p s 3 ([2, 0, 0, 0] ++ wordBytes total)
      let w := { w with x := set y { o with endSeq := some (x.lk p).txSeq } }
      let w := w.skUnitEnd p s 0 []
      let w := (w.ringStore p s (x.skRecAt p s slot + 4) (wordBytes (b2n o.trunc))).ringStore p s (x.skRecAt p s slot + 12)
        (wordBytes t.1 ++ wordBytes t.2)
      if o.trunc then some (w.on fun y => ((y.sat SKn_STs_DROP_TRUNC (stIx p s)).raise (384 + 16 * p + 7)).skTell p s 2)
      else some w

/-- Captured bytes not sent yet go out 56 at a time; APPL advances with every whole frame sent. Assumption log, row
70. -/
def Work.sendAudio (w : Work) (p s : Nat) : Option Work :=
  let x := w.x
  match x.stream (x.skEp p s) with
  | none => none
  | some a =>
    let fb := x.frameBytes a.ep
    let ready := (a.hw + 2 ^ 32 - a.appl) % 2 ^ 32 * fb - a.part.length
    if ready < 56 || x.skLeft (x.skFn p s) < 56 then none
    else
      let ring := 16 * 2 ^ a.k * fb
      let at_ := a.appl % (16 * 2 ^ a.k) * fb + a.part.length
      let n := min 56 (ring - at_)
      let q := w.ringRead p s (a.buf + 64 + at_) n
      let r := q.1.ringRead p s (a.buf + 64) (56 - n)
      let w := r.1
      let x := w.x
      let bs := q.2 ++ r.2
      let sent := a.part ++ bs
      let k := sent.length / fb
      let appl := (a.appl + k) % 2 ^ 32
      let y := ((x.setStream { a with appl := appl, part := sent.drop (k * fb) }).skUse (x.skFn p s) 56).skSend p s 1 bs
      let w := { w with x := y }
      some (if k = 0 then w else w.ringStore p s a.buf (wordBytes appl))

/-- A stream may send a DATA or MARK flit now. -/
def Chip.skMaySend (x : Chip) (p s : Nat) : Bool :=
  x.lkState p = lkUp && (!(x.lk p).farClose && (x.lkRoom p && (decide (0 < x.skCredit p s) &&
    (!x.on SKn_STs_BIND_ORPHAN (stIx p s) && decide (0 < x.skLeft (x.skFn p s))))))

/-- One flit of a stream moves, if one may. -/
def Work.moveOne (w : Work) (p s : Nat) : Option Work :=
  let k := w.x.skKind p s
  if skIn k then w.drainOne p s
  else if !w.x.skMaySend p s then none
  else if k = 4 then w.sendAudio p s
  else match (w.x.strm p s).eg with
    | none => none
    | some o => if (w.x.skUnits p s 1).any fun u => (w.x.cvUnit u).inReset then none else w.sendFrame p s o

/-- Streams of both ports take turns, one flit each (R332), until none can move. Assumption log, row 114. -/
def Work.rounds (n : Nat) (w : Work) : Work :=
  match n with
  | 0 => w
  | n + 1 =>
    let all := [0, 1].flatMap fun p => (w.x.sp p).streams.map fun t => (p, t.st)
    let r := all.foldl (fun (a : Work × Bool) q => match a.1.moveOne q.1 q.2 with
      | some v => (v, true)
      | none => a) (w, false)
    if r.2 then r.1.rounds n else r.1

/-- Everything that can move does, and units are granted for what was drained. Assumption log, row 73. -/
def Work.pump (w : Work) : Work :=
  let n := ([0, 1].map fun p => ((w.x.sp p).streams.map fun t => t.fifo.length).sum).sum
  (w.rounds (2 * n + 1024)).on fun y => (y.skGrants 0).skGrants 1

/-! ### The link's acknowledgements and states (R325 to R329, R336, R339) -/

/-- Acknowledged SEQs: RD advances past an egress frame whose MARK END is among them. -/
def Work.acked (w : Work) (p : Nat) (seqs : List Nat) : Work :=
  (w.x.sp p).streams.foldl (fun (w : Work) t =>
    match t.eg with
    | some o =>
      if (match o.endSeq with
          | some q => seqs.contains q
          | none => false) then
        let h := w.x.skHandle p t.st
        let rd := readLe w.mem w.x (h + 4) 4
        let w := w.ringStore p t.st (h + 4) (wordBytes (rd + 1))
        w.on fun y => (y.inc SKn_STs_FRAMES_COUNT (stIx p t.st)).setStrm p t.st fun t => { t with
          eg := none, done := t.done + 1, told := t.causes, causes := [] }
      else w
    | none => w) w

/-- The link is reset: open ingress frames close with TRUNC, credit is void, egress frames start again (R329).
Assumption log, row 71. -/
def Work.linkReset (w : Work) (p : Nat) : Work :=
  let w := (w.x.sp p).streams.foldl (fun (w : Work) t => w.closeFrame p t.st none) w
  w.on fun y =>
    let y := (y.sp p).streams.foldl (fun (y : Chip) t =>
      let y := (y.setCredit p t.st 0)
      if t.eg.isSome then (y.skUnits p t.st 0 ++ y.skUnits p t.st 1).foldl (fun (y : Chip) u =>
        y.setCv u fun c => { c with running := false, spoiled := false }) y
      else y) y
    (y.setStrms p fun t => { t with
      fifo := [], drained := 0, eg := t.eg.map fun o => { o with check := none, pos := 0, begun := none, endSeq := none } }).lkClear p

/-- The link is Up; after a reset every bound ingress stream is granted its CREDIT_MAX anew (R329). -/
def Work.linkUp (w : Work) (p : Nat) (resumed : Bool) (expected : Nat) : Work :=
  if resumed then
    let r := w.x.lkResumed p expected
    (({ w with x := (r.1.lkRaise p 0).lkEnter p lkUp false }).acked p r.2).pump
  else
    let w := w.linkReset p
    let y := (w.x.lkRaise p 0).lkEnter p lkUp true
    let y := y.setStrms p fun t => if skIn (y.skKind p t.st) then
      { t with drained := 4 * y.get SKn_STs_CFG_CREDIT_MAX (stIx p t.st) } else t
    ({ w with x := y }).pump

/-- The link goes Down and is reset; a stop that waited for it is answered, forced or not (R339). -/
def Work.linkDown (w : Work) (p : Nat) (forced : Bool) : Work :=
  let s := w.x.lk p
  let w := (w.on fun y => if y.lkState p = lkDown then y else (y.lkEnter p lkDown false).lkRaise p 1).linkReset p
  w.on fun y =>
    let y := y.setLk p fun t => { t with stops := [], lock := 0 }
    if s.stops = [] then y
    else s.stops.foldl (fun (y : Chip) c => y.ok opStopSkein c [b2n forced]) ((y.flag SKn_STAT_RUN false p).raise (384 + 16 * p + 8))

/-- The safe point of a stopping port: nothing unacknowledged and the far end has closed. -/
def Work.safePoint (w : Work) (p : Nat) : Work :=
  if w.x.lkState p = lkStopping && ((w.x.lk p).farClose && (w.x.lk p).replay = []) then w.linkDown p false else w

/-- A port that has to close down: Stopping from Up with ERR CLOSE, else Down at once. Assumption log, row 71. -/
def Work.beginStop (w : Work) (p : Nat) : Work :=
  if w.x.lkState p = lkUp then
    (w.on fun y => (y.lkEnter p lkStopping false).lkErr p 4 0).safePoint p
  else if w.x.lkState p = lkStopping then w
  else w.linkDown p ((w.x.lk p).replay != [])

/-- What a flit with a good CRC brings beside its payload: its ACK. -/
def Work.header (w : Work) (p : Nat) (h : FlitHdr) : Work :=
  let r := w.x.lkAck p h
  ({ w with x := r.1 }).acked p r.2

/-- The port receives flits. -/
def Chip.skHears (x : Chip) (p : Nat) : Bool := x.lkState p = lkUp || x.lkState p = lkStopping

/-- After a flit: what can move does, and a stop may reach its safe point. -/
def Work.after (w : Work) (p : Nat) : Work := w.pump.safePoint p

/-- A DATA or MARK flit (R326, R331, R335): accepted in order, within credit, for a stream bound as ingress.
Assumption log, row 73. -/
def flitIn (p : Nat) (h : FlitHdr) (item : Chip → SkItem) (w : Work) : Work :=
  if !w.x.skHears p then w
  else
    let w := w.header p h
    let t := w.x.lkTake p h.seq.val
    let w := { w with x := t.1 }
    let s := h.stream.val
    let viol := fun (code : Nat) (y : Chip) => (((y.sat SKn_VIOL_COUNT p).lkErr p code s).lkRaise p 5)
    if !t.2 then w.after p
    else if !skIn (w.x.skKind p s) then (w.on (viol 3)).after p
    else if w.x.skCredit p s = 0 then (w.on fun y => (viol 2 y).skTell p s 3).after p
    else
      let y := w.x.setCredit p s (w.x.skCredit p s - 1)
      let y := if y.on SKn_STs_BIND_ORPHAN (stIx p s) then y else y.setStrm p s fun t => { t with fifo := t.fifo ++ [item y] }
      ({ w with x := y }).after p

/-- SKEIN_CREDIT: egress credit is added. -/
def creditIn (p : Nat) (h : FlitHdr) (gs : List Grant) (w : Work) : Work :=
  if !w.x.skHears p then w
  else
    let w := w.header p h
    let t := w.x.lkTake p h.seq.val
    let y := if !t.2 || (t.1.lk p).farClose then t.1
      else (gs.take 14).foldl (fun (y : Chip) g =>
        let k := y.skKind p g.stream.val
        if k = 3 || k = 4 then y.setCredit p g.stream.val (y.skCredit p g.stream.val + 4 * g.units.toNat) else y) t.1
    ({ w with x := y }).after p

/-- SKEIN_TRAIN. -/
def trainIn (p : Nat) (h : FlitHdr) (t : Train) (w : Work) : Work :=
  let w := if w.x.lkState p = lkRetrain then w.header p h else w
  let r := w.x.lkTrainIn p t
  let w := { w with x := r.1 }
  match r.2 with
  | some resumed => w.linkUp p resumed t.expected.val
  | none => w

/-- SKEIN_NAK. -/
def nakIn (p : Nat) (h : FlitHdr) (seq : Nat) (w : Work) : Work :=
  if !w.x.skHears p then w else ((w.header p h).on (lkNakIn p seq)).after p

/-- SKEIN_CLOSE: no more DATA or MARK is sent, the credit held is given up, and the port answers with its own CLOSE
unless it has sent it already; egress frames start again after the next link up. Assumption log, row 71. -/
def closeIn (p : Nat) (h : FlitHdr) (w : Work) : Work :=
  if !w.x.skHears p then w
  else
    let w := w.header p h
    let first := !(w.x.lk p).farClose
    let y := w.x.setLk p fun s => { s with farClose := true }
    let y := (y.sp p).streams.foldl (fun (y : Chip) t => if skIn (y.skKind p t.st) then y else y.setCredit p t.st 0) y
    let y := if first && y.lkState p = lkUp then y.lkErr p 4 0 else y
    ({ w with x := y }).after p

/-- SKEIN_IDLE. -/
def idleIn (p : Nat) (h : FlitHdr) (w : Work) : Work := if !w.x.skHears p then w else (w.header p h).after p

/-- SKEIN_LINK_TIMEOUT. -/
def linkTimeout (p : Nat) (w : Work) : Work := if w.x.lkTraining p then w.linkDown p false else w

/-- SKEIN_DOWN_RETRY: RUN keeps a port trying, but for Hold and Park. -/
def downRetry (p : Nat) (x : Chip) : Chip :=
  if x.lkState p = lkDown && (x.on SKn_STAT_RUN p && !(x.lk p).suspend) then x.lkBegin p lkTrain false else x

/-- SKEIN_STOP_TIMEOUT. -/
def stopTimeout (p : Nat) (w : Work) : Work := if w.x.lkState p = lkStopping then w.linkDown p true else w

/-- SKEIN_EGRESS_FRAME: the frame in slot RD starts, and as much of it goes out as credit, the replay buffer and the share
allow; the rest follows as they do. -/
def egressFrame (p s : Nat) (w : Work) : Work :=
  let x := w.x
  let h := x.skHandle p s
  if x.skKind p s != 3 || (x.lkState p != lkUp || ((x.lk p).farClose || ((x.strm p s).eg.isSome ||
      x.on SKn_STs_BIND_ORPHAN (stIx p s)))) then w.pump
  else
    let r := w.ringRead p s h 8
    let rd := leNat (r.2.drop 4)
    if leNat (r.2.take 4) = rd then r.1.pump
    else
    let q := r.1.ringRead p s (x.skRecAt p s (rd % x.skSlots p s)) 12
    let w := q.1
    let len := leNat (q.2.take 4)
    let o : OutFrame := ⟨min len (x.skSlot p s), leNat (q.2.drop 8), decide (x.skSlot p s < len), none,
      0, none, none⟩
    (w.on fun y => y.setStrm p s fun t => { t with eg := some o }).pump

/-! ### Commands (R343) -/

/-- Units the ingress bindings of a port add up to. Assumption log, row 72. -/
def Chip.skUnitSum (x : Chip) (p : Nat) : Nat :=
  ((List.range 64).map fun s => if skIn (x.skKind p s) then x.get SKn_STs_CFG_CREDIT_MAX (stIx p s) else 0).sum

/-- SKn_RXBUF follows the bindings. Assumption log, row 72. -/
def Chip.updRxbuf (x : Chip) (p : Nat) : Chip := x.set SKn_RXBUF_UNITS (min (x.skUnitSum p) 4095) p

/-- Port and stream of word 0. -/
def skArgs (c : Call) : Nat × Nat := (bits (c.w 0) 0 1, bits (c.w 0) 8 6)

/-- Bits of word 0 that neither port, stream nor `more` define are set. -/
def skStray (c : Call) (more : Nat) : Bool := ((c.w 0).land (2 ^ 32 - 1 - (0x3F01 + more))) != 0

/-- START_SKEIN's refusal by its bindings, or none. Assumption log, row 72. -/
def Chip.skRefusal (x : Chip) (p : Nat) : Option (Nat × List Nat) :=
  match (List.range 64).find? fun s => skIn (x.skKind p s) &&
      (x.get SKn_STs_CFG_CREDIT_MAX (stIx p s) = 0 || decide (2048 < x.get SKn_STs_CFG_CREDIT_MAX (stIx p s))) with
  | some s => some (stBadParam, [0, 0x800 + 0x20 * s])
  | none => if 2048 < x.skUnitSum p then some (stNoResource, [x.skUnitSum p - 2048]) else none

/-- The port runs and its link trains. -/
def Chip.enterSkein (x : Chip) (p : Nat) : Chip :=
  let y := ((x.flag SKn_STAT_RUN true p).setPend SKn_STAT_PEND_RESTART p false).raise (384 + 16 * p + 8)
  (y.setLk p fun s => { s with suspend := false }).lkBegin p lkTrain false

/-- START_SKEIN. Assumption log, row 72. -/
def startSkein (c : Call) (x : Chip) : Chip :=
  x.perform opStartSkein c fun x =>
    let p := bits (c.w 0) 0 1
    if c.words.length != 1 then x.badLength opStartSkein c
    else if 2 ≤ c.w 0 then x.bad opStartSkein c 0
    else if x.on SKn_STAT_RUN p then x.done opStartSkein c stNotStopped [x.skStat p]
    else if x.heldSub (4 + p) then x.heldRefusal opStartSkein c
    else match x.skRefusal p with
      | some r => x.done opStartSkein c r.1 r.2
      | none => (x.enterSkein p).ok opStartSkein c []

/-- STOP_SKEIN: OK at the safe point, or after 1 ms. -/
def stopSkein (c : Call) (mem : List Host.Cell) (x : Chip) : Chip × List (Nat × Byte) :=
  x.performM opStopSkein c fun x =>
    let p := bits (c.w 0) 0 1
    if c.words.length != 1 then (x.badLength opStopSkein c, [])
    else if 2 ≤ c.w 0 then (x.bad opStopSkein c 0, [])
    else if !x.on SKn_STAT_RUN p then (x.ok opStopSkein c [], [])
    else
      runWork (fun w => (w.on fun y => y.setLk p fun s => { s with stops := s.stops ++ [c] }).beginStop p) mem x

/-- SKEIN_STREAM_BIND. Assumption log, row 72. -/
def skeinStreamBind (c : Call) (x : Chip) : Chip :=
  x.perform opSkeinStreamBind c fun x =>
    let p := (skArgs c).1
    let s := (skArgs c).2
    let n := stIx p s
    let kind := bits (c.w 0) 16 3
    let f := c.w 1
    let h := c.q 2
    let ring := kind = 1 || kind = 3
    let nslot := bits (c.w 4) 0 6 + 1
    let slot := bits (c.w 4) 16 14
    let e := bits (c.w 4) 0 6
    let ch := bits (c.w 4) 9 3
    let fmt := bits (c.w 4) 12 2
    let k := bits (c.w 4) 16 4
    let fence := bits (c.w 5) 16 12
    let need := if ring then 4096 + nslot * slot * 4096 else streamBytes (clampN k 2 10) ch fmt
    let wrongDir := match x.epNamed e with
      | some q => q.2 != (if kind = 2 then 0 else 1)
      | none => true
    if c.words.length != 6 then x.badLength opSkeinStreamBind c
    else if x.on SKn_STAT_RUN p then x.done opSkeinStreamBind c stNotStopped [x.skStat p]
    else if skStray c 0x1F0000 || (x.skKind p s != 0 || (kind = 0 || 4 < kind)) then x.bad opSkeinStreamBind c 0
    else if 64 < f || x.get FNf_STAT_STATE f = 0 then x.bad opSkeinStreamBind c 1
    else if hOffset h != 0 || (x.ownRange f h need (if ring then [1, 3, 5] else [6])).isNone then x.bad opSkeinStreamBind c 2
    else if ring && slot = 0 then x.bad opSkeinStreamBind c 4
    else if !ring && (x.get AU_EPe_OWNER_FUNC e != f || ((x.stream e).isSome || (wrongDir || (fmt = 3 || (k < 2 || 10 < k))))) then
      x.bad opSkeinStreamBind c 4
    else if bitAt (c.w 0) 20 && !x.ownsFence f fence then x.bad opSkeinStreamBind c 5
    else if !ring && x.get FNf_AUDIO_QUOTA f ≤ x.get FNf_AUDIO_USE f then
      (x.sat FNf_QUOTA_REF_COUNT f).done opSkeinStreamBind c stQuota [4]
    else
      let y := ((x.set SKn_STs_CFG_KIND kind n).flag SKn_STs_CFG_DROP (bitAt (c.w 0) 19) n).flag SKn_STs_CFG_FENCE_EN
        (bitAt (c.w 0) 20) n
      let y := ((y.set SKn_STs_CFG_CREDIT_MAX (bits (c.w 5) 0 12) n).set SKn_STs_BIND_FUNC f n).set SKn_STs_BIND_ENDPOINT
        (if ring then 0 else e) n
      let y := ((y.set SKn_STs_BIND_GEN (x.genOf f) n).flag SKn_STs_BIND_ORPHAN false n).set SKn_STs_HANDLE_LO_HANDLE (c.w 2) n
      let y := ((y.set SKn_STs_HANDLE_HI_HANDLE (c.w 3) n).set SKn_STs_RING_NSLOT (if ring then nslot - 1 else 0) n).set
        SKn_STs_RING_SLOT (if ring then slot else 0) n
      let y := (y.set SKn_STs_RING_FENCE fence n).resetFields [SKn_STs_CREDIT_UNITS, SKn_STs_FRAMES_COUNT,
        SKn_STs_DROP_DROP, SKn_STs_DROP_TRUNC] n
      let y := (y.setSp p fun q => { q with streams := q.streams ++ [{ st := s }] }).updRxbuf p
      let y := if ring then y
        else y.openStream ⟨e, f, x.genOf f, h, k, 0, 0, 0, 0, false, [], Ramp.at 1, [], false⟩ (if kind = 2 then 0 else 1) ch fmt
          (x.get AU_EPe_GAIN_GAIN e) true
      y.ok opSkeinStreamBind c []

/-- The RO fields, which SKEIN_STREAM_UNBIND clears (R342). -/
def skBindFields : List Fld :=
  [SKn_STs_CFG_KIND, SKn_STs_CFG_FENCE_EN, SKn_STs_BIND_FUNC] ++
  [SKn_STs_BIND_ENDPOINT, SKn_STs_BIND_GEN, SKn_STs_BIND_ORPHAN, SKn_STs_HANDLE_LO_HANDLE, SKn_STs_HANDLE_HI_HANDLE] ++
  [SKn_STs_RING_NSLOT, SKn_STs_RING_SLOT, SKn_STs_RING_FENCE, SKn_STs_CREDIT_UNITS, SKn_STs_FRAMES_COUNT, SKn_STs_DROP_DROP,
    SKn_STs_DROP_TRUNC]

/-- A binding ends: its registers clear, its APPEND or CHECK unit is released, its audio stream closes (R337, R406). -/
def Chip.skUnbind (x : Chip) (p s : Nat) : Chip :=
  let y := (x.skUnits p s 1 ++ x.skUnits p s 2).foldl (fun (y : Chip) u => y.cvReleaseUnit u) x
  let y := if x.skKind p s = 2 || x.skKind p s = 4 then y.closeStream (x.skEp p s) else y
  ((y.resetFields skBindFields (stIx p s)).setSp p fun q => { q with streams := q.streams.filter fun t => t.st != s }).updRxbuf p

/-- SKEIN_STREAM_UNBIND. -/
def skeinStreamUnbind (c : Call) (x : Chip) : Chip :=
  x.perform opSkeinStreamUnbind c fun x =>
    let p := (skArgs c).1
    let s := (skArgs c).2
    if c.words.length != 1 then x.badLength opSkeinStreamUnbind c
    else if x.on SKn_STAT_RUN p then x.done opSkeinStreamUnbind c stNotStopped [x.skStat p]
    else if skStray c 0 || x.skKind p s = 0 then x.bad opSkeinStreamUnbind c 0
    else (((x.skUnbind p s).reapFences).reapFrees).ok opSkeinStreamUnbind c []

/-- SKEIN_QUERY. -/
def skeinQuery (c : Call) (x : Chip) : Chip :=
  x.perform opSkeinQuery c fun x =>
    let p := (skArgs c).1
    let s := (skArgs c).2
    let n := stIx p s
    let only := bitAt (c.w 0) 31
    if c.words.length != 1 then x.badLength opSkeinQuery c
    else if skStray c (2 ^ 31) || (c.fn != 0 && (!only && (x.skKind p s = 0 || x.skFn p s != c.fn))) then x.bad opSkeinQuery c 0
    else
      x.ok opSkeinQuery c ([x.skStat p, x.get SKn_RXBUF_UNITS p] ++ (if only then [] else
        [x.word [SKn_STs_CFG_KIND, SKn_STs_CFG_DROP, SKn_STs_CFG_FENCE_EN, SKn_STs_CFG_CREDIT_MAX] n,
         x.get SKn_STs_CREDIT_UNITS n, x.get SKn_STs_FRAMES_COUNT n, x.word [SKn_STs_DROP_DROP, SKn_STs_DROP_TRUNC] n]))

/-! ### Withdrawal, power and reset (R340) -/

/-- A function's generation is withdrawn: its bindings are orphaned, buffered data is discarded. -/
def Chip.skWithdraw (x : Chip) (f : Nat) : Chip :=
  ((List.range 128).filter fun n => x.get SKn_STs_CFG_KIND n != 0 && x.get SKn_STs_BIND_FUNC n = f).foldl (fun (y : Chip) n =>
    (y.flag SKn_STs_BIND_ORPHAN true n).setStrm (n / 64) (n % 64) fun t => { t with fifo := [] }) x

/-- Hold or Park entry: every running port stops its link; RUN stays. -/
def Work.skSuspend (w : Work) : Work :=
  ([0, 1].filter fun p => w.x.on SKn_STAT_RUN p).foldl (fun (w : Work) p =>
    (w.on fun y => y.setLk p fun s => { s with suspend := true }).beginStop p) w

/-- Every link is Down, as Hold and Park entry need. -/
def Chip.skSuspended (x : Chip) : Bool := [0, 1].all fun p => x.lkState p = lkDown

/-- Return from Hold or Park: running ports train again. -/
def Chip.skResume (x : Chip) : Chip :=
  [0, 1].foldl (fun (y : Chip) p =>
    let y := y.setLk p fun s => { s with suspend := false }
    if y.on SKn_STAT_RUN p && y.lkState p = lkDown then y.lkBegin p lkTrain false else y) x

/-- Subsystem reset of a port, or a wider one: stopped, Down, every binding cleared. Assumption log, row 71. -/
def Chip.skReset (x : Chip) (p : Nat) : Chip :=
  let stops := (x.lk p).stops
  let y := (List.range 64).foldl (fun (y : Chip) s => if y.skKind p s = 0 then y else y.skUnbind p s) x
  let y := if y.lkState p = lkDown then y else (y.lkEnter p lkDown false).lkRaise p 1
  let y := (y.resetFields [SKn_STAT_RUN, SKn_STAT_MISMATCH, SKn_CRC_ERR_COUNT, SKn_REPLAY_REPLAYS, SKn_REPLAY_RETRAINS,
    SKn_VIOL_COUNT] p).setPend SKn_STAT_PEND_RESTART p false
  let y := (y.setSp p fun _ => {}).raiseIf (x.on SKn_STAT_RUN p) (384 + 16 * p + 8)
  stops.foldl (fun (y : Chip) c => y.ok opStopSkein c [1]) (y.reapFences.reapFrees)

/-! ### The commands -/

/-- The same work for a command that acts in Park too. -/
def State.onAonWork (s : State) (f : Work → Work) : Host.Outcome State Fault Refusal := s.onAonBoth (runWork f)

/-- A command that moves Skein data. -/
def State.onSkein (s : State) (f : Work → Work) : Host.Outcome State Fault Refusal := s.onBoth (runWork f)

/-- SKEIN_DATA. -/
def execSkeinData (port : Fin 2) (h : FlitHdr) (data : List Byte) (s : State) : Host.Outcome State Fault Refusal :=
  s.onSkein (flitIn port.val h fun _ => .data ((data.take 56).map (·.toNat)))
/-- SKEIN_CREDIT. -/
def execSkeinCredit (port : Fin 2) (h : FlitHdr) (grants : List Grant) (s : State) : Host.Outcome State Fault Refusal :=
  s.onSkein (creditIn port.val h grants)
/-- SKEIN_MARK_START. -/
def execSkeinMarkStart (port : Fin 2) (h : FlitHdr) (tag : Word) (s : State) : Host.Outcome State Fault Refusal :=
  s.onSkein (flitIn port.val h fun x => .start tag.toNat (x.get TB_SEC_SEC) (x.get TB_TICK_TICK))
/-- SKEIN_MARK_END. -/
def execSkeinMarkEnd (port : Fin 2) (h : FlitHdr) (length : Word) (s : State) : Host.Outcome State Fault Refusal :=
  s.onSkein (flitIn port.val h fun _ => .fin length.toNat)
/-- SKEIN_TRAIN. -/
def execSkeinTrain (port : Fin 2) (h : FlitHdr) (t : Train) (s : State) : Host.Outcome State Fault Refusal :=
  s.onSkein (trainIn port.val h t)
/-- SKEIN_NAK. -/
def execSkeinNak (port : Fin 2) (h : FlitHdr) (seq : Fin 1024) (s : State) : Host.Outcome State Fault Refusal :=
  s.onSkein (nakIn port.val h seq.val)
/-- SKEIN_CLOSE. -/
def execSkeinClose (port : Fin 2) (h : FlitHdr) (s : State) : Host.Outcome State Fault Refusal :=
  s.onSkein (closeIn port.val h)
/-- SKEIN_IDLE. -/
def execSkeinIdle (port : Fin 2) (h : FlitHdr) (s : State) : Host.Outcome State Fault Refusal :=
  s.onSkein (idleIn port.val h)
/-- SKEIN_BAD_FLIT. -/
def execSkeinBadFlit (port : Fin 2) (bad : BadFlit) (s : State) : Host.Outcome State Fault Refusal :=
  s.onChip (lkBad port.val bad)
/-- SKEIN_REPLAY_TIMEOUT. -/
def execSkeinReplayTimeout (port : Fin 2) (s : State) : Host.Outcome State Fault Refusal := s.onChip (lkTimeout port.val)
/-- SKEIN_BLOCK_LOCK_LOSS. -/
def execSkeinBlockLockLoss (port : Fin 2) (lane : Fin 8) (s : State) : Host.Outcome State Fault Refusal :=
  s.onChip (lkLockLoss port.val lane.val)
/-- SKEIN_BLOCK_LOCK. -/
def execSkeinBlockLock (port : Fin 2) (lane : Fin 8) (s : State) : Host.Outcome State Fault Refusal :=
  s.onChip (lkLock port.val lane.val)
/-- SKEIN_LINK_TIMEOUT. -/
def execSkeinLinkTimeout (port : Fin 2) (s : State) : Host.Outcome State Fault Refusal := s.onSkein (linkTimeout port.val)
/-- SKEIN_DOWN_RETRY. -/
def execSkeinDownRetry (port : Fin 2) (s : State) : Host.Outcome State Fault Refusal := s.onChip (downRetry port.val)
/-- SKEIN_STOP_TIMEOUT. -/
def execSkeinStopTimeout (port : Fin 2) (s : State) : Host.Outcome State Fault Refusal := s.onSkein (stopTimeout port.val)
/-- SKEIN_EGRESS_FRAME. -/
def execSkeinEgressFrame (port : Fin 2) (stream : Fin 64) (s : State) : Host.Outcome State Fault Refusal :=
  s.onSkein (egressFrame port.val stream.val)
/-- START_SKEIN. -/
def execStartSkein (c : Call) (s : State) : Host.Outcome State Fault Refusal := s.onChip (startSkein c)
/-- STOP_SKEIN. -/
def execStopSkein (c : Call) (s : State) : Host.Outcome State Fault Refusal := s.onBoth (stopSkein c)
/-- SKEIN_STREAM_BIND. -/
def execSkeinStreamBind (c : Call) (s : State) : Host.Outcome State Fault Refusal := s.onChip (skeinStreamBind c)
/-- SKEIN_STREAM_UNBIND. -/
def execSkeinStreamUnbind (c : Call) (s : State) : Host.Outcome State Fault Refusal := s.onChip (skeinStreamUnbind c)
/-- SKEIN_QUERY. -/
def execSkeinQuery (c : Call) (s : State) : Host.Outcome State Fault Refusal := s.onChip (skeinQuery c)
/-- AUDIO_BLOCK_BOUNDARY: the domain's block, and what the Skein bindings of its endpoints move (R337). -/
def execAudioBlockBoundary (dom : Fin 3) (s : State) : Host.Outcome State Fault Refusal :=
  s.onSkein fun w => (w.put (audioBlock dom.val w.mem w.x)).pump

end Sys2Proof.Machine
end

