-- ==== Sys2Proof/Machine/Functions.lean ====
section
/-!
DEFINITION. Functions and shares (04_functions_and_shares.md): the life cycle, withdrawal and its drain, share changes.
-/
namespace Sys2Proof.Machine

/-! ### Session close (R473) -/

/-- A session ends with a cause: the lock is set, ACCESS returns to Operate, event 508 and a record of kind 3. -/
def Chip.endSession (x : Chip) (cause : Nat) : Chip :=
  if x.get RJ_SESSION_ROLE = 0 then x
  else
    let y := if cause ≤ 2 then x.journalRec 3 (x.get RJ_SESSION_ROLE) 0 0 0 cause [] else x.journal 3 cause
    let y := ((y.set RJ_SESSION_ROLE 0).flag RJ_SESSION_LOCK true).set RJ_SESSION_IDLE_LEFT 0
    (y.setMode GL_MODE_ACCESS 0).raise 508

/-! ### Pieces of old-generation work (R97, R101, R108) -/

/-- The block that holds an abandoned packet, by its class, as a bit of FN_DRAIN_SLOW word 1. -/
def classBit (cls : Nat) : Option Nat :=
  match cls with
  | 2 => some 6
  | 3 => some 0
  | 4 => some 1
  | 5 => some 1
  | 6 => some 4
  | 7 => some 2
  | 8 => some 3
  | 10 => some 5
  | _ => none

/-- Old-generation packets of a function that a block still holds. -/
def Chip.oldPkts (x : Chip) (f : Nat) : List Pkt := x.ce.pkts.filter fun p => p.call.fn.val = f && p.isAbandoned

/-- Old-generation jobs. -/
def Chip.oldJobs (x : Chip) (f : Nat) : Nat := (x.gx.jobs.filter fun j => j.fn = f && j.old).length

/-- Migrations of a withdrawn function's entries, which its drain waits for (R126). -/
def Chip.oldMigs (x : Chip) (f : Nat) : Nat :=
  (x.hb.map.filter fun e => e.valid && (e.mig != 0 && ((e.func = f && e.wdrawn) || (e.charge = f && e.held)))).length

/-- How many pieces of old-generation work are left. Assumption log, row 23. -/
def Chip.pieces (x : Chip) (f : Nat) : Nat :=
  (x.oldPkts f).length + x.oldJobs f + x.auOld f + x.hpOld f + x.oldMigs f

/-- The blocks that hold them, as FN_DRAIN_SLOW word 1 names them. Assumption log, row 23. -/
def Chip.holders (x : Chip) (f : Nat) : Nat :=
  let has := fun (b : Nat) => (x.oldPkts f).any fun p => classBit p.cls = some b
  ((List.range 7).map fun b => 2 ^ b * b2n (has b || ((b = 0 && decide (0 < x.oldJobs f)) ||
    ((b = 2 && decide (0 < x.auOld f)) || ((b = 4 && decide (0 < x.hpOld f)) || (b = 6 && decide (0 < x.oldMigs f))))))).sum

/-! ### Withdrawal (R91 to R96) -/

/-- Why a generation is withdrawn. -/
inductive Cause where
  /-- FN_DISABLE. -/
  | disable
  /-- Function level reset of a virtual function. -/
  | flr
  /-- Removal, or function level reset of F0. -/
  | removal
deriving DecidableEq, Repr

/-- The registers of a function's rings that return to their reset values. -/
def ringFields : List Fld :=
  [RINGk_BASE_LO_ADDR, RINGk_BASE_HI_ADDR, RINGk_CTL_SIZE_LOG2, RINGk_CTL_EN, RINGk_CTL_WB_EN, RINGk_HEAD_PTR] ++
  [RINGk_TAIL_PTR, RINGk_STAT_BAD_DB, RINGk_STAT_MALFORMED, RINGk_STAT_PARTIAL, RINGk_STAT_FENCE_WAIT, RINGk_STAT_FULL] ++
  [RINGk_STAT_NOTICE_LOST, RINGk_STAT_CFG_ERR, RINGk_STAT_NOTICES_LOST, RINGk_WB_LO_ADDR, RINGk_WB_HI_ADDR]

/-- A function's rings at reset, and its MSI-X state as PCI Express leaves it: disabled, every vector masked (R548). -/
def Chip.resetRings (x : Chip) (f : Nat) : Chip :=
  let y := (List.range 5).foldl (fun (y : Chip) k => y.resetFields ringFields (ringIx f k)) x
  let need := (List.range 5).foldl (fun (m : List (Nat × Nat)) k => sparseSet m (ringIx f k) 0 0) y.ce.need
  { y with
    ce := { y.ce with need := need }
    ev := { y.ev with
      pba := y.ev.pba.filter fun p => p.1 != f
      table := y.ev.table.filter fun p => p.1 / 4 / 128 != f
      enabled := y.ev.enabled.filter fun g => g != f
      fmask := y.ev.fmask.filter fun g => g != f } }

/-- Rings disabled by FN_DISABLE. -/
def Chip.stopRings (x : Chip) (f : Nat) : Chip :=
  let y := (List.range 5).foldl (fun (y : Chip) k =>
    ((y.flag RINGk_CTL_EN false (ringIx f k)).flag RINGk_STAT_PARTIAL false (ringIx f k)).flag RINGk_STAT_FENCE_WAIT false (ringIx f k)) x
  let need := (List.range 5).foldl (fun (m : List (Nat × Nat)) k => sparseSet m (ringIx f k) 0 0) y.ce.need
  { y with ce := { y.ce with need := need } }

/-- A cancelled packet's reply: CANCELLED with the old generation, or counted as a lost notice (R91). -/
def Chip.cancelReply (x : Chip) (f : Nat) (p : Pkt) : Chip :=
  if !p.call.reply then x
  else if x.replyRoom f 1 then x.writeReply f p.opcode stCancelled p.call.gen.toNat p.call.seq.toNat p.call.tag.toNat [0]
  else x.lostNotice f

/-- Layers of a function are held: their allocations pass to firmware; with a hold time of 0 they are due at once (R94,
R114). -/
def Chip.holdLayers (x : Chip) (f : Nat) : Chip :=
  let mine := x.cp.layers.filter fun l => l.fn = f && !x.on CP_Ln_STAT_HELD l.unit
  let y := mine.foldl (fun (y : Chip) l =>
    let own := match y.entry (hIndex (lyAddr l.words)) with
      | some e => e.valid && (e.func = f && !e.wdrawn)
      | none => false
    let y := if own then match y.entry (hIndex (lyAddr l.words)) with
        | some e => y.setEntry { e with func := 127, held := true }
        | none => y
      else y
    let fw := match y.entry (hIndex (lyAddr l.words)) with
      | some e => e.held
      | none => false
    { (y.flag CP_Ln_STAT_HELD true l.unit).onlyIf fw (fun z => z.set CP_Ln_OWNER_FUNC 127 l.unit) with
      cp := { y.cp with layers := updAll y.cp.layers (fun m => m.unit = l.unit) fun m =>
        { m with fw := fw, expired := y.get FN_HOLD_MS_MS = 0 } } }) x
  y.updHolding f

/-- Entries of a function that no held layer shows are withdrawn; balancing migrations of them are aborted (R114, R126). -/
def Chip.withdrawMap (x : Chip) (f : Nat) : Chip :=
  (x.hb.map.filter fun e => e.valid && (e.charge = f && (e.func = f || e.held))).foldl (fun (y : Chip) e =>
    let y := if e.kind = 0 then y.abortMig e else y
    match y.entry e.idx with
    | some d => if d.func = f then y.setEntry { d with wdrawn := true } else y
    | none => y) x

/-- Queued changes of a function are dropped without notice; flips among them are counted, each member of a FLIP_GROUP
as one (R92). Assumption log, row 118. -/
def Chip.dropChanges (x : Chip) (f : Nat) : Chip :=
  let mine := x.cp.changes.filter fun c => c.fn = f
  let y := { x with cp := { x.cp with changes := x.cp.changes.filter fun c => c.fn != f } }
  let y := y.sat FNf_CANCEL_CNT_COUNT f (mine.filter Change.isFlip).length
  ((List.range 16).foldl (fun (y : Chip) h => if mine.any fun c => c.head = h then y.updFetch h else y) y).reapFences

/-- OFFLOAD_CANCEL of every job of a function that is at the twin; what it has returned is discarded (R370). -/
def Chip.cancelOffload (x : Chip) (f : Nat) : Chip :=
  (x.bl.offOut.filter fun o => o.fn = f).foldl (fun (y : Chip) o =>
    (y.blSend 3 6 (wordBytes o.ref)).setBl fun b => { b with
      offOut := b.offOut.filter fun p => p.ref != o.ref, stage := b.stage.filter fun p => p.ref != o.ref }) x

/-- Jobs of a function: those without cores, and those at the twin, are Abandoned at once, the others at their next
preemption point (R92, R370). -/
def Chip.withdrawJobs (x : Chip) (f : Nat) : Chip :=
  let y := x.cancelOffload f
  let y := { y with gx := { y.gx with jobs := updAll y.gx.jobs (fun j => j.fn = f) fun j => { j with old := true } } }
  let y := y.requestPreempt fun j => j.fn = f
  (y.gx.jobs.filter fun j => j.fn = f && j.cores = []).foldl (fun (y : Chip) j => y.abandonJob j false) y

/-- A function's generation increments and its old generation's work is withdrawn. Answers how many packets were
cancelled. Assumption log, rows 24, 26. -/
def Chip.withdraw (x : Chip) (f : Nat) (cause : Cause) : Chip × Nat :=
  let waiting := x.ce.pkts.filter fun p => p.call.fn.val = f && p.isWaiting
  let ended := x.ce.pkts.filter fun p => p.call.fn.val = f && p.isOver
  let n := waiting.length
  let keep := (x.ce.pkts.filter fun p => !(p.call.fn.val = f && (p.isWaiting || p.isOver))).map fun p =>
    if p.call.fn.val = f && p.isDispatched then { p with stage := .abandoned } else p
  let y := { x with ce := { x.ce with pkts := keep, starve := x.ce.starve.filter fun p => p.1 / 2 != f } }
  let y := if cause = .disable then waiting.foldl (fun (y : Chip) p => y.cancelReply f p) y else y
  let y := (y.sat FNf_CANCEL_CNT_COUNT f n).inc FNf_GEN_GEN f
  let y := if cause = .disable then y.sat FNf_WDRAW_CNT_DISABLE f else if cause = .flr || f = 0 then y.sat FNf_WDRAW_CNT_FLR f else y
  let ds := if y.fn.drains.any fun d => d.fn = f then
      updAll y.fn.drains (fun d => d.fn = f) fun d => { d with incs := d.incs + 1, cancelled := d.cancelled + n }
    else y.fn.drains ++ [⟨f, 1, n, 0, false⟩]
  let y := { y.flag FNf_STAT_DRAINING true f with fn := { y.fn with drains := ds } }
  let y := ended.foldl (fun (y : Chip) _ => y.countDiscard f) y
  let y := ((y.dropChanges f).holdLayers f).withdrawMap f
  let y := (y.setHits (y.th.hits.filter fun e => e.world || e.func != f)).withdrawJobs f
  let y := ((y.hpWithdraw f).auWithdraw f).skWithdraw f
  let y := ((List.range 24).filter fun u => y.on CVn_CFG_BOUND u && (y.get CVn_CFG_MODE u = 0 && (!y.on CVn_CFG_WORLD u &&
    y.get CVn_CFG_FUNC u = f))).foldl Chip.cvWithdraw y
  let y := (y.ce.fences.filter fun g => g.owner = f && !g.orphan).foldl (fun (y : Chip) g => y.orphanFence g true) y
  let fences := y.ce.fences.map fun g => { g with grants := g.grants.filter fun h => h != f }
  let y := { y with
    ce := { y.ce with fences := fences }
    hb := { y.hb with copies := y.hb.copies.filter fun c => c.fn != f }
    ev := { y.ev with counts := y.ev.counts.filter fun v => v.fn != f } }
  let y := match cause with
    | .disable => (y.stopRings f).set FNf_STAT_STATE 1 f
    | .flr => y.resetRings f
    | .removal => if f = 0 then y.resetRings f else (y.resetRings f).set FNf_STAT_STATE 0 f
  ((y.countPkts f).release, n)

/-- A virtual function leaves the bus: withdrawn, its share and units gone (R84, R95). Assumption log, rows 6, 26. -/
def Chip.removeFn (x : Chip) (f : Nat) : Chip :=
  if x.get FNf_STAT_STATE f = 0 then x
  else
    let y := (x.withdraw f .removal).1
    let y := (y.setShare f ⟨0, 0, 0, 0, 0, 0⟩).flag FNf_STAT_SHARE_PEND false f
    let y := (y.cp.assign.filter fun p => p.2 = f).foldl (fun (y : Chip) p => y.assignUnit p.1 none) y
    { y with
      ce := { y.ce with nseq := sparseSet y.ce.nseq f 0 0 }
      fn := { y.fn with pend := y.fn.pend.filter fun p => p.fn != f } }

/-- Every virtual function leaves the bus. -/
def Chip.removeAll (x : Chip) : Chip := (List.range 64).foldl (fun (y : Chip) i => y.removeFn (i + 1)) x

/-- A virtual function becomes present with the default share (R85). Assumption log, row 125. -/
def Chip.addFn (x : Chip) (f : Nat) : Chip :=
  if x.get FNf_STAT_STATE f = 0 then
    ((x.set FNf_STAT_STATE 1 f).setShare f x.fn.dflt).set FNf_SHARE_EPOCH_EPOCH (x.get FN_EPOCH_NUM_EPOCH) f
  else x

/-! ### Host acts on the functions (R85, R99) -/

/-- The host sets VF Enable with NumVFs. -/
def vfEnableSet (n : Nat) (x : Chip) : Chip := (List.range n).foldl (fun (y : Chip) i => y.addFn (i + 1)) x

/-- Function level reset of a virtual function. Assumption log, row 25. -/
def flrVf (f : Nat) (x : Chip) : Chip := if x.get FNf_STAT_STATE f = 0 then x else (x.withdraw f .flr).1

/-- Function level reset of F0: F0 withdrawn, every virtual function removed, any session closed. Assumption log, row
25. -/
def flrF0 (x : Chip) : Chip := ((x.endSession 5).withdraw 0 .removal).1.removeAll

/-! ### The drain (R97, R98, R101) -/

/-- DRAIN_END: nothing of the old generation is left: withdrawn handles and fences go back, and F0 is told. -/
def drainEnd (f : Nat) (x : Chip) : Chip :=
  match x.fn.drains.find? fun d => d.fn = f with
  | none => x
  | some d =>
    if x.pieces f != 0 then x
    else
      let y := (x.hb.map.filter fun e => e.valid && (e.func = f && e.wdrawn)).foldl (fun (y : Chip) e => y.freeEntry e) x
      let fences := updAll y.ce.fences (fun g => g.owner = f) fun g => { g with drain := false }
      let y := { y.flag FNf_STAT_DRAINING false f with
        ce := { y.ce with fences := fences }
        fn := { y.fn with drains := y.fn.drains.filter fun d => d.fn != f } }
      ((y.reapFences.reapFrees).notice 0 0x1800 [f, d.incs, d.cancelled, d.discarded]).raise 35

/-- DRAIN_SLOW_TIMEOUT: F0 is told once, and the drain goes on. Assumption log, row 23. -/
def drainSlow (f : Nat) (x : Chip) : Chip :=
  match x.fn.drains.find? fun d => d.fn = f with
  | none => x
  | some d =>
    if d.slow then x
    else
      let ds := updAll x.fn.drains (fun d => d.fn = f) fun d => { d with slow := true }
      (({ x with fn := { x.fn with drains := ds } }).notice 0 0x1801 [f, x.holders f]).raise 36

/-- HOLD_EXPIRY: the layers the oldest withdrawal of the function holds are removed at their head's next commit line.
Assumption log, row 27. -/
def holdExpiry (f : Nat) (x : Chip) : Chip :=
  let due := fun (l : Layer) => l.fn = f && (!l.expired && x.on CP_Ln_STAT_HELD l.unit)
  match x.cp.layers.find? due with
  | none => x
  | some l =>
    { x with cp := { x.cp with layers := updAll x.cp.layers (fun m => due m && m.gen = l.gen) fun m => { m with expired := true } } }

/-! ### Commands (R108) -/

/-- Word 0 names a function that is present, from `lo` on. -/
def Chip.fnNamed (x : Chip) (c : Call) (lo : Nat) : Bool := lo ≤ c.w 0 && (c.w 0 ≤ 64 && x.get FNf_STAT_STATE (c.w 0) != 0)

/-- FN_ENABLE. -/
def fnEnable (c : Call) (x : Chip) : Chip :=
  x.perform opFnEnable c fun x =>
    if c.words.length != 1 then x.badLength opFnEnable c
    else if !x.fnNamed c 1 then x.bad opFnEnable c 0
    else (x.set FNf_STAT_STATE 2 (c.w 0)).ok opFnEnable c []

/-- FN_DISABLE. -/
def fnDisable (c : Call) (x : Chip) : Chip :=
  x.perform opFnDisable c fun x =>
    if c.words.length != 1 then x.badLength opFnDisable c
    else if !x.fnNamed c 1 then x.bad opFnDisable c 0
    else if x.get FNf_STAT_STATE (c.w 0) = 1 then x.ok opFnDisable c []
    else
      let r := x.withdraw (c.w 0) .disable
      r.1.deferred opFnDisable c [r.1.get FNf_GEN_GEN (c.w 0), r.2]

/-- Six words as the items of a share. -/
def shareOf (w : Nat → Nat) : Share := ⟨w 0, w 1, w 2, w 3, w 4, w 5⟩

/-- The first item out of range (R104), of those the mask names. -/
def shareWrong (s : Share) (mask : Nat) : Option Nat :=
  ([(0, s.weight = 0 || decide (255 < s.weight)), (1, decide (120000 < s.fetch)), (2, decide (65536 < s.mem)),
    (3, decide (48800 < s.skein)), (4, decide (64 < s.audio)), (5, s.depth = 0 || decide (4096 < s.depth))].find?
      fun p => bitAt mask p.1 && p.2).map (·.1)

/-- SHARE_SET. -/
def shareSet (c : Call) (x : Chip) : Chip :=
  x.perform opShareSet c fun x =>
    let f := c.w 0
    let s := shareOf fun i => c.w (i + 2)
    if c.words.length != 8 then x.badLength opShareSet c
    else if !x.fnNamed c 0 then x.bad opShareSet c 0
    else if 64 ≤ c.w 1 then x.bad opShareSet c 1
    else match shareWrong s (c.w 1) with
      | some i => x.bad opShareSet c (i + 2)
      | none =>
        let n := x.bindEpoch
        let y := { x with fn := { x.fn with pend := x.fn.pend ++ [({ fn := f, epoch := n, mask := c.w 1, items := s } : PendShare)] } }
        (y.flag FNf_STAT_SHARE_PEND true f).deferred opShareSet c [n, x.get FNf_QUSE_USE f]

/-- The items of a share as words. -/
def Share.words (s : Share) : List Nat := [s.weight, s.fetch, s.mem, s.skein, s.audio, s.depth]

/-- SHARE_QUERY. Assumption log, row 124. -/
def shareQuery (c : Call) (x : Chip) : Chip :=
  x.perform opShareQuery c fun x =>
    let f := c.w 0
    let mine := x.fn.pend.filter fun p => p.fn = f
    if c.words.length != 1 then x.badLength opShareQuery c
    else if 64 < f then x.bad opShareQuery c 0
    else
      let mask := mine.foldl (fun m p => m.lor p.mask) 0
      let next := mine.foldl (fun (s : Share) p => s.merge p.items p.mask) (x.share f)
      x.ok opShareQuery c ([mask] ++ ((x.share f).words ++ next.words))

/-- FN_QUERY. Assumption log, rows 23, 124. -/
def fnQuery (c : Call) (x : Chip) : Chip :=
  x.perform opFnQuery c fun x =>
    let f := c.w 0
    if c.words.length != 1 then x.badLength opFnQuery c
    else if 64 < f then x.bad opFnQuery c 0
    else
      let left := if x.on FNf_STAT_DRAINING f then max 1 (x.pieces f) else 0
      x.ok opFnQuery c [x.word [FNf_STAT_STATE, FNf_STAT_DRAINING, FNf_STAT_SHARE_PEND, FNf_STAT_HOLDING] f,
        x.get FNf_GEN_GEN f, (x.ce.pkts.filter fun p => p.call.fn.val = f && !p.isAbandoned).length, left]

/-- DEFAULT_SHARE_SET. -/
def defaultShareSet (c : Call) (x : Chip) : Chip :=
  x.perform opDefaultShareSet c fun x =>
    let s := shareOf c.w
    if c.words.length != 6 then x.badLength opDefaultShareSet c
    else match shareWrong s 63 with
      | some i => x.bad opDefaultShareSet c i
      | none => ({ x with fn := { x.fn with dflt := s } }).ok opDefaultShareSet c []

/-- HOLD_TIME_SET. -/
def holdTimeSet (c : Call) (x : Chip) : Chip :=
  x.perform opHoldTimeSet c fun x =>
    if c.words.length != 1 then x.badLength opHoldTimeSet c
    else if 500 < c.w 0 then x.bad opHoldTimeSet c 0
    else (x.set FN_HOLD_MS_MS (c.w 0)).ok opHoldTimeSet c []

/-- FN_ENABLE. -/
def execFnEnable (c : Call) (s : State) : Host.Outcome State Fault Refusal := s.onChip (fnEnable c)
/-- FN_DISABLE. -/
def execFnDisable (c : Call) (s : State) : Host.Outcome State Fault Refusal := s.onChip (fnDisable c)
/-- SHARE_SET. -/
def execShareSet (c : Call) (s : State) : Host.Outcome State Fault Refusal := s.onChip (shareSet c)
/-- SHARE_QUERY. -/
def execShareQuery (c : Call) (s : State) : Host.Outcome State Fault Refusal := s.onChip (shareQuery c)
/-- FN_QUERY. -/
def execFnQuery (c : Call) (s : State) : Host.Outcome State Fault Refusal := s.onChip (fnQuery c)
/-- DEFAULT_SHARE_SET. -/
def execDefaultShareSet (c : Call) (s : State) : Host.Outcome State Fault Refusal := s.onChip (defaultShareSet c)
/-- HOLD_TIME_SET. -/
def execHoldTimeSet (c : Call) (s : State) : Host.Outcome State Fault Refusal := s.onChip (holdTimeSet c)
/-- VF_ENABLE_SET. -/
def execVfEnableSet (numVFs : Fin 65) (s : State) : Host.Outcome State Fault Refusal := s.onChip (vfEnableSet numVFs.val)
/-- VF_ENABLE_CLEAR. -/
def execVfEnableClear (s : State) : Host.Outcome State Fault Refusal := s.onChip Chip.removeAll
/-- FLR_VF: virtual function `vf` + 1. -/
def execFlrVf (vf : Fin 64) (s : State) : Host.Outcome State Fault Refusal := s.onChip (flrVf (vf.val + 1))
/-- FLR_F0. -/
def execFlrF0 (s : State) : Host.Outcome State Fault Refusal := s.onChip flrF0
/-- DRAIN_END. -/
def execDrainEnd (fn : Fin 65) (s : State) : Host.Outcome State Fault Refusal := s.onChip (drainEnd fn.val)
/-- DRAIN_SLOW_TIMEOUT. -/
def execDrainSlowTimeout (fn : Fin 65) (s : State) : Host.Outcome State Fault Refusal := s.onChip (drainSlow fn.val)
/-- HOLD_EXPIRY. -/
def execHoldExpiry (fn : Fin 65) (s : State) : Host.Outcome State Fault Refusal := s.onChip (holdExpiry fn.val)

end Sys2Proof.Machine
end

