-- ==== Sys2Proof/Machine/Herder.lean ====
section
/-!
DEFINITION. The class 0x2 opcodes (R137) and a migration's copy end (R123).
-/
namespace Sys2Proof.Machine

/-- A hint word is well formed: no reserved bit, no reserved pattern (R119). -/
def hintOk (w : Nat) : Bool := w < 16 && bits w 0 3 < 3

/-- Entries a function holds; a limit of 1,024 each and 7,680 for the guests' classes together, 512 being kept for the
firmware's own (R115). -/
def Chip.entryRoom (x : Chip) (f : Nat) : Bool :=
  decide ((x.hb.map.filter fun e => e.valid && e.func = f).length < 1024) &&
  decide ((x.hb.map.filter fun e => e.valid && e.cls < 12).length < 7680)

/-- Units of 64 KiB that PARKED allocations may still take: the retained region less 16 MiB (R118). -/
def Chip.parkedLeft (x : Chip) : Nat :=
  x.retainMib * 16 - 256 - ((x.hb.map.filter fun e => e.valid && e.cls = 7).map (·.size)).sum

/-- The new entry of an allocation (R110, R112, R116). Its base is the Herder's choice, which software may not rely
on: a free value (R115). Assumption log, rows 28, 64. -/
def Chip.newEntry (x : Chip) (i f cls size hint : Nat) (mirror : Bool) : MapEntry :=
  { idx := i, valid := true, world := false, order := orderOf cls, cls := cls, func := f, mig := 0, kind := 0,
    mirror := mirror, wdrawn := false, tag := x.nextTag i, pin := 0, pattern := bits hint 0 3, latency := bitAt hint 3,
    chanset := x.chanSet (orderOf cls) [] (loadKind cls (bitAt hint 3)), bgrp := 0, charge := f, pbase := x.free 20, size := size, tchanset := 0,
    torder := 0, tbgrp := 0, tpbase := 0, act := 0, migs := 0, held := false, lost := 0, freeing := false }

/-- ALLOC; a PARKED allocation that finds no room outside the retained region takes the room R118 keeps for it inside.
The secure world allocates for itself, PROTECTED memory too, under no quota (R116). Assumption log, rows 28, 131. -/
def allocMeaning (c : Call) (x : Chip) : Chip :=
  x.perform opAlloc c fun x =>
    let bytes := c.q 0
    let cls := bits (c.w 2) 0 4
    let units := ceilDiv bytes 65536
    let mib := ceilDiv bytes 1048576
    if bytes = 0 || 17179869184 < bytes then x.bad opAlloc c 0
    else if (8 ≤ cls && !(c.world && cls = 14)) || c.w 2 != cls + (if bitAt (c.w 2) 8 then 256 else 0) then x.bad opAlloc c 2
    else if !hintOk (c.w 3) then x.bad opAlloc c 3
    else if !c.world && decide (x.get FNf_MEM_QUOTA_MIB c.fn < x.get FNf_MEM_USE_MIB c.fn + mib) then
      (x.sat FNf_QUOTA_REF_COUNT c.fn).done opAlloc c stQuota [1]
    else if cls = 7 && x.parkedLeft < units then x.done opAlloc c stNoResource [ceilDiv (units - x.parkedLeft) 16]
    else if x.roomUnits < units && (cls != 7 || (x.retainSet []).isNone) then
      x.done opAlloc c stNoResource [ceilDiv (units - x.roomUnits) 16]
    else if !c.world && !x.entryRoom c.fn then x.done opAlloc c stNoResource [1]
    else match x.freeIndex with
      | none => x.done opAlloc c stNoResource [1]
      | some i =>
        let e := { x.newEntry i c.who cls units (c.w 3) (bitAt (c.w 2) 8) with world := c.world }
        let e := if cls = 7 && x.roomUnits < units then { e with order := 2, chanset := (x.retainSet []).getD 0 } else e
        (((x.setEntry e).took).onlyIf (x.bl.mirroring && e.mirror) (·.mirrorTold e)).ok opAlloc c [lo32 (handleOf e), hi32 (handleOf e), units]

/-- The own handle that words `i` and `i + 1` name, with OFFSET zero (R137). -/
def Chip.ownHandle (x : Chip) (c : Call) (i : Nat) : Option MapEntry :=
  if hOffset (c.q i) != 0 then none else x.ownEntry c.who (c.q i)

/-- A Skein stream is bound to entry `i`. -/
def Chip.skeinBound (x : Chip) (i : Nat) : Bool :=
  (List.range 128).any fun n => x.get SKn_STs_CFG_KIND n != 0 &&
    hIndex (x.get SKn_STs_HANDLE_LO_HANDLE n + 2 ^ 32 * x.get SKn_STs_HANDLE_HI_HANDLE n) = i

/-- FREE: at once, or when the last work that names the handle is done; a migration of it is aborted (R126). -/
def freeMeaning (c : Call) (x : Chip) : Chip :=
  x.perform opFreeHandle c fun x =>
    match x.ownHandle c 0 with
    | none => x.bad opFreeHandle c 0
    | some e =>
      if x.layerShows e.idx || (x.changeNames e.idx || x.skeinBound e.idx) then x.bad opFreeHandle c 0
      else
        let y := x.abortMig e
        match y.entry e.idx with
        | none => y.ok opFreeHandle c []
        | some e =>
          if y.freeWaits e then
            { y.setEntry { e with freeing := true } with hb := { (y.setEntry { e with freeing := true }).hb with frees := y.hb.frees ++ [(e.idx, c)] } }
          else (y.freeEntry e).ok opFreeHandle c []

/-- HANDLE_QUERY. -/
def handleQuery (c : Call) (x : Chip) : Chip :=
  x.perform opHandleQuery c fun x =>
    match x.ownHandle c 0 with
    | none => x.bad opHandleQuery c 0
    | some e => x.ok opHandleQuery c [e.cls + 256 * b2n e.mirror + 65536 * e.pin, e.size, e.pattern + 8 * b2n e.latency]

/-- PLACE_HINT: the hint is recorded; where it leads to another order, a balancing migration starts (R119). -/
def placeHint (c : Call) (x : Chip) : Chip :=
  x.perform opPlaceHint c fun x =>
    match x.ownHandle c 0 with
    | none => x.bad opPlaceHint c 0
    | some e =>
      if !hintOk (c.w 2) then x.bad opPlaceHint c 2
      else
        let e := { e with pattern := bits (c.w 2) 0 3, latency := bitAt (c.w 2) 3 }
        let y := x.setEntry e
        let o := hintOrder e e.pattern
        let y := if o != e.order && (e.pin = 0 && (y.on HB_CTL_BAL_EN && y.migOk)) then y.startMig e 0 o (y.chanSet o [] (loadKind e.cls e.latency)) else y
        y.ok opPlaceHint c []

/-- PLACE_PIN: at most 64 pinned handles a function; a balancing migration is aborted first (R126). -/
def placePin (c : Call) (x : Chip) : Chip :=
  x.perform opPlacePin c fun x =>
    match x.ownHandle c 0 with
    | none => x.bad opPlacePin c 0
    | some e =>
      if e.pin = 255 then x.bad opPlacePin c 0
      else if e.pin = 0 && 64 ≤ (x.hb.map.filter fun m => m.valid && (m.func = c.fn.val && m.pin != 0)).length then
        x.done opPlacePin c stNoResource [1]
      else
        let y := if e.kind = 0 then x.abortMig e else x
        match y.entry e.idx with
        | some m => (y.setEntry { m with pin := e.pin + 1 }).ok opPlacePin c [e.pin + 1]
        | none => y.bad opPlacePin c 0

/-- PLACE_UNPIN. -/
def placeUnpin (c : Call) (x : Chip) : Chip :=
  x.perform opPlaceUnpin c fun x =>
    match x.ownHandle c 0 with
    | none => x.bad opPlaceUnpin c 0
    | some e =>
      if e.pin = 0 then x.bad opPlaceUnpin c 0
      else (x.setEntry { e with pin := e.pin - 1 }).ok opPlaceUnpin c [e.pin - 1]

/-- The bytes of a copy pass the copy taps bound for the function, as one data unit (R401, R402). Assumption log, row
115. -/
def Chip.feedCopy (x : Chip) (fn : Nat) (bs : List Nat) : Chip × List (Nat × Byte) :=
  ((List.range 24).filter fun u => x.on CVn_CFG_BOUND u && (60 ≤ x.get CVn_CFG_TAP u && x.get CVn_SEL_COPYFN u = fn)).foldl
    (fun (a : Chip × List (Nat × Byte)) u => ((cvUnitEnd u bs a.1).1, a.2 ++ (cvUnitEnd u bs a.1).2)) (x, [])

/-- A copy is made: the bytes written, in ascending destination address (R402). -/
def Chip.copyNow (x : Chip) (mem : List Host.Cell) (fn src dst len : Nat) : Chip × List (Nat × Byte) :=
  let bs := readBytes mem x src len
  ((x.feedCopy fn bs).1, storeBytes x dst bs ++ (x.feedCopy fn bs).2)

/-- COPY_HANDLE: made at dispatch, or put off by Hold (R137). Assumption log, row 30. -/
def copyHandle (c : Call) (mem : List Host.Cell) (x : Chip) : Chip × List (Nat × Byte) :=
  x.performM opCopyHandle c fun x =>
    let src := c.q 0
    let dst := c.q 2
    let len := c.q 4
    if (x.ownRange c.fn src len guestClasses).isNone then (x.bad opCopyHandle c 0, [])
    else if (x.ownRange c.fn dst len guestClasses).isNone then (x.bad opCopyHandle c 2, [])
    else if len = 0 || (src < dst + len && dst < src + len) then (x.bad opCopyHandle c 4, [])
    else if x.inHold then
      let hc : HeldCopy := ⟨c.fn, c.ring, src, dst, len⟩
      (({ x with hb := { x.hb with copies := x.hb.copies ++ [hc] } }).deferred opCopyHandle c [], [])
    else ((x.copyNow mem c.fn src dst len).1.ok opCopyHandle c [], (x.copyNow mem c.fn src dst len).2)

/-- On return to Run or Dim the copies put off are made, oldest first, before later packets of their rings (R137).
Assumption log, row 30. -/
def heldCopies (mem : List Host.Cell) (x : Chip) : Chip × List (Nat × Byte) :=
  let r := x.hb.copies.foldl (fun (a : (Chip × List Host.Cell) × List (Nat × Byte)) c =>
    let n := a.1.1.copyNow a.1.2 c.fn c.src c.dst c.len
    ((n.1, writeCells a.1.2 n.2), a.2 ++ n.2)) ((x, mem), [])
  (({ r.1.1 with hb := { r.1.1.hb with copies := [] } }).reapFrees, r.2)

/-- MEM_SIZE_SET: recorded in the configuration for the next power-on or Cold reach start (R137, R574). -/
def memSizeSet (c : Call) (x : Chip) : Chip :=
  x.perform opMemSizeSet c fun x =>
    if [512, 1024, 2048, 4096].contains (c.w 0) then
      ({ x with hb := { x.hb with memSize := c.w 0 } }).deferred opMemSizeSet c []
    else x.bad opMemSizeSet c 0

/-- MIGRATION_COPY_DONE: a copying entry becomes Armed (R123 step 4); a paused copy does not end (R126). Assumption
log, row 86. -/
def migrationCopyDone (i : Nat) (x : Chip) : Chip :=
  match x.entry i with
  | some e => if e.mig = 1 && (e.kind = 2 || x.migOk) then x.setEntry { e with mig := 2 } else x
  | none => x

/-- ALLOC. -/
def execAlloc (c : Call) (s : State) : Host.Outcome State Fault Refusal := s.onChip (allocMeaning c)
/-- FREE. -/
def execFreeHandle (c : Call) (s : State) : Host.Outcome State Fault Refusal := s.onChip (freeMeaning c)
/-- HANDLE_QUERY. -/
def execHandleQuery (c : Call) (s : State) : Host.Outcome State Fault Refusal := s.onChip (handleQuery c)
/-- PLACE_HINT. -/
def execPlaceHint (c : Call) (s : State) : Host.Outcome State Fault Refusal := s.onChip (placeHint c)
/-- PLACE_PIN. -/
def execPlacePin (c : Call) (s : State) : Host.Outcome State Fault Refusal := s.onChip (placePin c)
/-- PLACE_UNPIN. -/
def execPlaceUnpin (c : Call) (s : State) : Host.Outcome State Fault Refusal := s.onChip (placeUnpin c)
/-- COPY_HANDLE. -/
def execCopyHandle (c : Call) (s : State) : Host.Outcome State Fault Refusal := s.onBoth (copyHandle c)
/-- MEM_SIZE_SET. -/
def execMemSizeSet (c : Call) (s : State) : Host.Outcome State Fault Refusal := s.onChip (memSizeSet c)
/-- MIGRATION_COPY_DONE. -/
def execMigrationCopyDone (i : Fin 8192) (s : State) : Host.Outcome State Fault Refusal := s.onChip (migrationCopyDone i)

end Sys2Proof.Machine
end

