-- ==== Sys2Proof/Machine/Ports.lean ====
section
/-!
DEFINITION. Output ports (R253 to R259): what a link carries, what the mapped heads need, and the states of a link.
-/
namespace Sys2Proof.Machine

/-- A port's own state. -/
def Chip.port (x : Chip) (p : Nat) : PortSt := x.dx.getD p {}

/-- A port's own state changes. -/
def Chip.setPort (x : Chip) (p : Nat) (f : PortSt → PortSt) : Chip := { x with dx := updAt x.dx p f }

/-! ### Payload and need (R253, R254) -/

/-- A DisplayPort or eDP port. -/
def Chip.isDp (x : Chip) (p : Nat) : Bool := x.get DXn_CTL_TYPE p ≤ 1

/-- A DP port that carries streams 0 to 3. -/
def Chip.isMst (x : Chip) (p : Nat) : Bool := x.get DXn_CTL_TYPE p = 0 && x.on DXn_CTL_MST p

/-- Types a port has: 0 DP, 1 eDP, 2 DSI D-PHY, 3 DSI C-PHY, 4 LVDS. -/
def portHas (p t : Nat) : Bool := if p < 4 then t < 2 else if p < 8 then t = 2 || t = 3 else t = 4

/-- Link rate of a code, in 10 kb/s. Assumption log, row 51. -/
def rate10k (code : Nat) : Nat :=
  match code with
  | 0 => 162000
  | 1 => 270000
  | 2 => 540000
  | 3 => 810000
  | 4 => 1000000
  | 5 => 1350000
  | 6 => 216000
  | 7 => 243000
  | 8 => 324000
  | 9 => 432000
  | _ => 0

/-- Payload of a link in Mb/s times 462,000 (rates in 10 kb/s): 8b/10b at 0.8, 128b/132b at 32/33, D-PHY at 0.95, C-PHY at 16/7 of 0.95. -/
def Chip.payload (x : Chip) (p lanes rate : Nat) : Nat :=
  match x.get DXn_CTL_TYPE p with
  | 2 => lanes * x.get DXn_DSIRATE_RATE p * 438900
  | 3 => lanes * x.get DXn_DSIRATE_RATE p * 1003200
  | 4 => 0
  | _ => lanes * rate10k rate * (if rate = 4 || rate = 5 then 4480 else 3696)

/-- Bits a second a head needs of its port, times 2^32. -/
def Chip.need32 (x : Chip) (h : Nat) : Nat :=
  if x.on HDn_DSC_EN h then x.pixel32 h * x.get HDn_DSC_BPP h / 16 else x.pixel32 h * 3 * (6 + 2 * x.get HDn_CTL_BPC h)

/-- Heads mapped to a port, stream 0 first. -/
def Chip.mapped (x : Chip) (p : Nat) : List Nat :=
  ((List.range (if x.isMst p then 4 else 1)).filter fun s => x.on DXn_MAP_VALID (p * 4 + s)).map fun s =>
    x.get DXn_MAP_HEAD (p * 4 + s)

/-- A link with these lanes and this rate carries these heads. -/
def Chip.carries (x : Chip) (p lanes rate : Nat) (hs : List Nat) : Bool :=
  if x.get DXn_CTL_TYPE p = 4 then hs.all fun h => decide (x.pixel32 h ≤ 112000000 * lanes * 2 ^ 32)
  else
    let need := (hs.map x.need32).sum * 462000
    let have_ := x.payload p lanes rate * 1000000 * 2 ^ 32
    if x.isMst p then decide (64 * need ≤ 63 * have_) else decide (need ≤ have_)

/-- Port and stream a head is mapped to, running ports first. -/
def Chip.portOf (x : Chip) (h : Nat) : Option (Nat × Nat) :=
  let ps := (List.range 10).flatMap fun p => (List.range (if x.isMst p then 4 else 1)).map fun s => (p, s)
  let hit := fun (q : Nat × Nat) => x.on DXn_MAP_VALID (q.1 * 4 + q.2) && x.get DXn_MAP_HEAD (q.1 * 4 + q.2) = h
  match ps.find? fun q => x.on DXn_STAT_RUN q.1 && hit q with
  | some q => some q
  | none => ps.find? hit

/-- BPC and DSC of a head suit a port (R253). -/
def Chip.bpcSuits (x : Chip) (p h : Nat) : Bool :=
  x.get HDn_CTL_BPC h < 3 && (x.get DXn_CTL_TYPE p != 4 || (x.get HDn_CTL_BPC h < 2 && !x.on HDn_DSC_EN h))

/-! ### Link state (R256, R259) -/

/-- LINK_CHANGE to F0: 0 down, 1 up, 2 training failed. -/
def Chip.linkNotice (x : Chip) (p st : Nat) : Chip :=
  x.notice 0 0x5800 [p, st, x.get DXn_STAT_RATE_ACT p, x.get DXn_STAT_LANES_ACT p]

/-- The link is up with these lanes and this rate; output resumes at the heads' next line 0. Assumption log, row 56.
-/
def Chip.linkUp (x : Chip) (p lanes rate : Nat) (sr : Bool) : Chip :=
  let was := x.on DXn_STAT_LINK_UP p
  let y := (((x.flag DXn_STAT_LINK_UP true p).set DXn_STAT_LANES_ACT lanes p).set DXn_STAT_RATE_ACT rate p).setPort p
    fun s => { s with training := false, srSink := sr, resume := !was || s.resume }
  if was then y else (y.raise (256 + 3 * p)).linkNotice p 1

/-- The link is down. -/
def Chip.linkDown (x : Chip) (p : Nat) : Chip :=
  let was := x.on DXn_STAT_LINK_UP p
  let y := (((x.flag DXn_STAT_LINK_UP false p).set DXn_STAT_LANES_ACT 0 p).set DXn_STAT_RATE_ACT 0 p).setPort p
    fun s => { s with training := false, srSink := false, resume := false }
  if was then (y.raise (257 + 3 * p)).linkNotice p 0 else y

/-- The port begins to train or initialise its link. Assumption log, row 56. -/
def Chip.trainPort (x : Chip) (p : Nat) : Chip :=
  (x.setPort p fun s => { s with training := true }).emit (.pin 4 [p, x.get DXn_CTL_LANES p, x.get DXn_CTL_RATE p])

/-- A running port that is on starts its link: DP and eDP with hot-plug high and DSI train; LVDS is up at once.
Assumption log, row 56. -/
def Chip.startLink (x : Chip) (p : Nat) : Chip :=
  if x.get DXn_CTL_TYPE p = 4 then (x.linkUp p (x.get DXn_CTL_LANES p) 0 false)
  else if x.isDp p && !x.on DXn_STAT_HPD p then x
  else x.trainPort p

/-- LINK_TRAIN_DONE (R256). Assumption log, row 56. -/
def linkTrainDone (p : Nat) (trained : Bool) (lanes rate : Nat) (sr : Bool) (x : Chip) : Chip :=
  if !x.on DXn_STAT_RUN p || !(x.port p).training then x
  else if trained && x.carries p lanes rate (x.mapped p) then x.linkUp p lanes rate sr
  else
    let was := x.on DXn_STAT_LINK_UP p
    let y := ((x.linkDown p).flag DXn_STAT_TRAIN_FAIL true p).sat DXn_LINKERR_COUNT p
    (y.raiseIf (!was) (257 + 3 * p)).linkNotice p 2

/-- LINK_LOSS: the heads' timing, commits and checks go on. -/
def linkLoss (p : Nat) (x : Chip) : Chip :=
  if x.on DXn_STAT_RUN p && x.on DXn_STAT_LINK_UP p then (x.sat DXn_LINKERR_COUNT p).linkDown p else x

/-- LINK_RETRY_TIMER: a second has passed with hot-plug high and the link down. -/
def linkRetryTimer (p : Nat) (x : Chip) : Chip :=
  if x.on DXn_STAT_RUN p && (x.isDp p && (x.on DXn_STAT_HPD p && (!x.on DXn_STAT_LINK_UP p && (!(x.port p).training &&
    !(x.port p).off)))) then x.trainPort p else x

/-- HPD_CHANGE: the level changes, or the sink raises an interrupt at the same level; a rise on a running port trains.
Assumption log, row 56. -/
def hpdChange (p : Nat) (level : Bool) (x : Chip) : Chip :=
  if !x.isDp p then x
  else
    let rise := level && !x.on DXn_STAT_HPD p
    let y := (x.flag DXn_STAT_HPD level p).raise (258 + 3 * p)
    let y := if level then y else y.setPort p fun s => { s with training := false }
    if rise && (x.on DXn_STAT_RUN p && !(x.port p).off) then y.trainPort p else y

/-! ### The commands -/

/-- DXn_MAP as it reads. -/
def Chip.dxMap (x : Chip) (p : Nat) : Nat :=
  ((List.range 4).map fun s =>
    (x.get DXn_MAP_HEAD (p * 4 + s) + 128 * x.get DXn_MAP_VALID (p * 4 + s)) * 256 ^ s).sum

/-- The port's link settings are wrong (R253). -/
def Chip.portCtlWrong (x : Chip) (p : Nat) : Bool :=
  let t := x.get DXn_CTL_TYPE p
  let l := x.get DXn_CTL_LANES p
  let r := x.get DXn_CTL_RATE p
  !portHas p t || (match t with
    | 0 => !([1, 2, 4].contains l) || decide (5 < r)
    | 1 => !([1, 2, 4].contains l) || !([0, 1, 2, 3, 6, 7, 8, 9].contains r)
    | 2 => l = 0 || decide (4 < l)
    | 3 => l = 0 || decide (3 < l)
    | _ => l = 0 || decide (2 < l))

/-- The DSI rate is outside its range. -/
def Chip.portRateWrong (x : Chip) (p : Nat) : Bool :=
  let r := x.get DXn_DSIRATE_RATE p
  match x.get DXn_CTL_TYPE p with
  | 2 => decide (r < 80) || decide (4500 < r)
  | 3 => decide (r < 80) || decide (6000 < r)
  | _ => false

/-- The first mapped head that breaks R254: named before, on this port or on another running one, on a stream the port
cannot carry, with a BPC or DSC it does not allow, or the one with which the payload is passed. Assumption log, row
51. -/
def Chip.portHeadWrong (x : Chip) (p : Nat) : Option Nat :=
  let ss := (List.range 4).filter fun s => x.on DXn_MAP_VALID (p * 4 + s)
  let hs := ss.map fun s => x.get DXn_MAP_HEAD (p * 4 + s)
  let others := ((List.range 10).filter fun q => q != p && x.on DXn_STAT_RUN q).flatMap x.mapped
  ((List.range hs.length).find? fun i =>
    let h := hs.getD i 0
    (hs.take i).contains h || (others.contains h || ((ss.getD i 0 != 0 && !x.isMst p) || (!x.bpcSuits p h ||
      !x.carries p (x.get DXn_CTL_LANES p) (x.get DXn_CTL_RATE p) (hs.take (i + 1)))))).map fun i => hs.getD i 0

/-- Result words of START_PORT's BAD_PARAM, or none. -/
def Chip.portRefusal (x : Chip) (p : Nat) : Option (List Nat) :=
  if x.portCtlWrong p then some [0, 0]
  else if x.portRateWrong p then some [0, 0xC]
  else (x.portHeadWrong p).map fun h => [0, 0x1000 + h]

/-- The port runs and starts its link. -/
def Chip.enterPort (x : Chip) (p : Nat) : Chip :=
  ((x.setPend DXn_STAT_PEND_RESTART p false).flag DXn_STAT_RUN true p).startLink p

/-- START_PORT. -/
def startPort (c : Call) (x : Chip) : Chip :=
  x.perform opStartPort c fun x =>
    let p := c.w 0
    if 10 ≤ p then x.bad opStartPort c 0
    else if x.on DXn_STAT_RUN p then x.done opStartPort c stNotStopped [x.dxStat p]
    else if x.heldBlock 4 p then x.heldRefusal opStartPort c
    else
      match x.portRefusal p with
      | some ws => x.done opStartPort c stBadParam ws
      | none => (x.enterPort p).ok opStartPort c []

/-- STOP_PORT: at once, since its link is taken down (R45). -/
def stopPort (c : Call) (x : Chip) : Chip :=
  x.perform opStopPort c fun x =>
    let p := c.w 0
    if 10 ≤ p then x.bad opStopPort c 0
    else if !x.on DXn_STAT_RUN p then x.ok opStopPort c []
    else (((x.linkDown p).flag DXn_STAT_RUN false p).setPort p fun s => { s with off := false }).ok opStopPort c []

/-- PORT_QUERY; an LVDS link has no payload figure, so that word is a free value while such a link is up. -/
def portQuery (c : Call) (x : Chip) : Chip :=
  x.perform opPortQuery c fun x =>
    let p := c.w 0
    if 10 ≤ p then x.bad opPortQuery c 0
    else
      let lvds := x.get DXn_CTL_TYPE p = 4 && x.on DXn_STAT_LINK_UP p
      let pay := if lvds then x.free 32 else x.payload p (x.get DXn_STAT_LANES_ACT p) (x.get DXn_STAT_RATE_ACT p) / 462000
      let need := (((x.mapped p).filter fun h => x.on HDn_STAT_RUN h).map x.need32).sum / (1000000 * 2 ^ 32)
      (x.onlyIf lvds (·.took)).ok opPortQuery c [x.dxStat p, x.dxMap p, pay, need]

/-- START_PORT. -/
def execStartPort (c : Call) (s : State) : Host.Outcome State Fault Refusal := s.onChip (startPort c)
/-- STOP_PORT. -/
def execStopPort (c : Call) (s : State) : Host.Outcome State Fault Refusal := s.onChip (stopPort c)
/-- PORT_QUERY. -/
def execPortQuery (c : Call) (s : State) : Host.Outcome State Fault Refusal := s.onChip (portQuery c)
/-- LINK_LOSS. -/
def execLinkLoss (port : Fin 10) (s : State) : Host.Outcome State Fault Refusal := s.onChip (linkLoss port.val)
/-- LINK_RETRY_TIMER. -/
def execLinkRetryTimer (port : Fin 10) (s : State) : Host.Outcome State Fault Refusal := s.onChip (linkRetryTimer port.val)

end Sys2Proof.Machine
end

