-- ==== Sys2Proof/Machine/Heads.lean ====
section
/-!
DEFINITION. Heads (R237 to R252, R258): configuration checks, starting and stopping, line 0, the safe point, confirmed
lines, check windows and self-refresh.
-/
namespace Sys2Proof.Machine

/-! ### Configuration checks (R239, R255) -/

/-- The DSC settings break R255. -/
def Chip.dscWrong (x : Chip) (h : Nat) : Bool :=
  let n := 2 ^ x.get HDn_DSC_SLICES h
  let w := x.get HDn_HTIME0_HACTIVE h
  let sh := x.get HDn_DSC_SLICE_H h
  let bpp := x.get HDn_DSC_BPP h
  x.on HDn_DSC_EN h && (x.get HDn_CTL_BPC h = 0 || (decide (8 < n) || (w % n != 0 || (decide (2560 < w / n) || (decide (sh < 8) ||
    (x.get HDn_VTIME0_VACTIVE h % sh != 0 || (decide (bpp < 128) || (decide (384 < bpp) ||
    ((x.on HDn_DSC_PAIR h && x.get HDn_DSC_ENC h % 2 != 0) ||
    (decide (1200000000 * 2 ^ 32 < x.pixel32 h) && (!x.on HDn_DSC_PAIR h || n = 1)))))))))))

/-- The first wrong register of the head's timing, in the order of R239, and of its unit settings. Assumption log, row
51. -/
def Chip.headWrong (x : Chip) (h : Nat) : Option Nat :=
  let ppc := x.get HDn_CTL_PPC h
  let ha := x.get HDn_HTIME0_HACTIVE h
  let ht := x.get HDn_HTIME0_HTOTAL h
  let hfp := x.get HDn_HTIME1_HFP h
  let hsw := x.get HDn_HTIME1_HSW h
  let va := x.get HDn_VTIME0_VACTIVE h
  let vsw := x.get HDn_VTIME0_VSW h
  let vbp := x.get HDn_VTIME1_VBP h
  let lo := x.get HDn_VRR_VFP_MIN h
  let hi := x.get HDn_VRR_VFP_MAX h
  let line := x.get HDn_COMMIT_LINE h
  let lvds := match x.portOf h with
    | some q => !x.bpcSuits q.1 h
    | none => false
  let units := x.get CP_HEADn_CFG_UNITS h
  let depth := x.get CP_HEADn_CFG_FETCH_DEPTH h
  if 2 < ppc then some 0x00
  else if ha % 2 ^ ppc != 0 || ht % 2 ^ ppc != 0 then some 0x0C
  else if x.get HDn_PIXINC_INC h = 0 then some 0x08
  else if ha < 64 || 7680 < ha then some 0x0C
  else if hfp < 8 || (hsw < 8 || ht < ha + hfp + hsw + 8) then some 0x10
  else if 16384 < ht then some 0x0C
  else if va < 32 || (4320 < va || vsw < 1) then some 0x14
  else if vbp < 1 then some 0x18
  else if lo < 1 || (hi < lo || 16384 < va + hi + vsw + vbp) then some 0x1C
  else if x.get HDn_VFP_NEXT h < lo || hi < x.get HDn_VFP_NEXT h then some 0x40
  else if line != 0xFFFF && va + lo + vsw + vbp ≤ line then some 0x20
  else if 2 < x.get HDn_CTL_BPC h || (lvds && (1 < x.get HDn_CTL_BPC h)) then some 0x00
  else if lvds || x.dscWrong h then some 0x60
  else if units < 2 || (8 < units || (depth < 4 || 32 < depth)) then some 0x80000000
  else none

/-- The running port a head is mapped to cannot carry it (R254): the register reported. Assumption log, row 51. -/
def Chip.headPortWrong (x : Chip) (h : Nat) : Option Nat :=
  match x.portOf h with
  | some q =>
    let hs := x.mapped q.1
    if x.on DXn_STAT_RUN q.1 && !x.carries q.1 (x.get DXn_CTL_LANES q.1) (x.get DXn_CTL_RATE q.1) hs then
      some (if x.on HDn_DSC_EN h then 0x60 else 0x08)
    else none
  | none => none

/-- Encoders a head uses. -/
def Chip.encoders (x : Chip) (h : Nat) : List Nat :=
  if x.on HDn_DSC_EN h then
    (if x.on HDn_DSC_PAIR h then [x.get HDn_DSC_ENC h, x.get HDn_DSC_ENC h + 1] else [x.get HDn_DSC_ENC h])
  else []

/-- Heads that run. -/
def Chip.runningHeads (x : Chip) : List Nat := (List.range 16).filter fun h => x.on HDn_STAT_RUN h

/-- The pool or sum that cannot supply the head: items missing and reason (R23, R258). Assumption log, row 51. -/
def Chip.headShort (x : Chip) (h : Nat) : Option (Nat × Nat) :=
  let rs := x.runningHeads
  let free := x.get CP_POOL_FREE
  let units := x.get CP_HEADn_CFG_UNITS h
  let held := rs.flatMap x.encoders
  let miss := (x.encoders h).filter held.contains
  if 12000000000 * 2 ^ 32 < ((rs.map x.pixel32).sum + x.pixel32 h) then some (0, 2)
  else if 120000000000 * 2 ^ 32 < ((rs.map x.budget32).sum + x.budget32 h) then some (0, 3)
  else if free < units then some (units - free, 1)
  else if miss != [] then some (miss.length, 4)
  else none

/-! ### Starting (R205, R223, R239, R241) -/

/-- CP_POOL.FREE and CP_BUDGET_SUM follow the heads. -/
def Chip.updPool (x : Chip) : Chip :=
  (x.set CP_POOL_FREE (((List.range 96).filter fun u => !x.on CP_Ln_OWNER_BOUND u).length)).set CP_BUDGET_SUM_MBPS
    (mbps32 ((x.runningHeads.map x.budget32).sum))

/-- The head takes its units, lowest-numbered free ones first, as slots 0 up; with PROT the highest is the secure
world's. -/
def Chip.takeUnits (x : Chip) (h : Nat) : Chip :=
  let us := ((List.range 96).filter fun u => !x.on CP_Ln_OWNER_BOUND u).take (x.get CP_HEADn_CFG_UNITS h)
  us.zipIdx.foldl (fun (y : Chip) p =>
    (((y.set CP_Ln_OWNER_HEAD h p.1).set CP_Ln_OWNER_SLOT p.2 p.1).flag CP_Ln_OWNER_BOUND true p.1).flag CP_Ln_OWNER_WORLD
      (x.on CP_HEADn_CFG_PROT h && p.2 + 1 = us.length) p.1) x

/-- One FORWARD allocation of the firmware's, in the given entry. -/
def Chip.putForward (x : Chip) (i units : Nat) : Chip :=
  (x.setEntry (x.newEntry i 127 13 units 0 false)).took

/-- The line store is made, ring and companion together, or not at all (R136, R223). -/
def Chip.makeStore (x : Chip) (h : Nat) : Chip :=
  let units := ceilDiv (x.get HDn_HTIME0_HACTIVE h * x.get HDn_VTIME0_VACTIVE h * 4) 65536
  let no := (x.flag CP_HEADn_STAT_STORE false h).raise 166
  if x.roomUnits < 2 * units then no
  else
    match x.freeIndex with
    | none => no
    | some i =>
      let y := x.putForward i units
      match y.freeIndex with
      | none => (no)
      | some j =>
        let z := y.putForward j units
        ({ z with cp := { z.cp with rings := z.cp.rings ++ [(h, i, j)] } }).flag CP_HEADn_STAT_STORE true h

/-- The decision on forward composition at a head's start, to apply at its first commit line (R136). -/
def Chip.forwardStart (x : Chip) (h : Nat) : Chip :=
  let ok := x.on CP_CTL_FWD_EN && (!bitAt (x.get HB_FWD_DENY_HEAD) h && x.on CP_HEADn_STAT_STORE h)
  { x with hb := { x.hb with fwdNext := putBit x.hb.fwdNext h ok } }

/-- A mapped running port trains its link again, or gives the stream its time slots, during the black frame (R256). -/
def Chip.startPortLink (x : Chip) (h : Nat) : Chip :=
  match x.portOf h with
  | some q => if x.on DXn_STAT_RUN q.1 && (x.isDp q.1 && (!x.isMst q.1 && x.on DXn_STAT_HPD q.1)) then x.trainPort q.1 else x
  | none => x

/-- The head enters Starting. Assumption log, row 50. -/
def Chip.enterStart (x : Chip) (h : Nat) : Chip :=
  let y := (x.takeUnits h).makeStore h
  let y := (y.setPend HDn_STAT_PEND_RESTART h false).setHead h fun s =>
    { s with porch := [], porchNext := none, wantSr := false, suspend := false, underNow := false, committed := false,
             now := { scene := y.view h, blank := true }, next := {}, sent := [], requeued := 0, noCompare := false, noCompareNow := true, cmpLeft := 0, allMatch := true }
  let y := (((y.flag HDn_STAT_RUN true h).set HDn_STAT_STATE 1 h).set HDn_STAT_SR 0 h).set HDn_VFP_ACT (x.get HDn_VFP_NEXT h) h
  let y := ((y.set HDn_COMMIT_SEQ_SEQ 0 h).set HDn_COMMIT_FRAME_FRAME 0 h).set HDn_FRAME_FRAME 0 h
  let y := ((y.set HDn_SCANPOS_LINE 0 h).set HDn_SCANPOS_PIXEL 0 h).set CP_HEADn_BUDGET_MBPS (mbps32 (x.budget32 h)) h
  ((y.forwardStart h).startPortLink h).updPool

/-- START_HEAD's refusal, or none. Assumption log, row 51. -/
def Chip.startHeadRefusal (x : Chip) (h : Nat) : Option (Nat × List Nat) :=
  let stat := x.word [HDn_STAT_RUN, HDn_STAT_PEND_RESTART, HDn_STAT_STATE, HDn_STAT_SR] h
  if x.on HDn_STAT_RUN h then some (stNotStopped, [stat])
  else if x.heldBlock 3 h then some (stNoResource, [0, 5])
  else
    match x.headWrong h, x.headPortWrong h with
    | some o, _ => some (stBadParam, [0, o])
    | none, some o => some (stBadParam, [0, o])
    | none, none =>
      if 2400000000 * 2 ^ 32 < x.pixel32 h then some (stBadParam, [0, 8])
      else (x.headShort h).map fun r => (stNoResource, [r.1, r.2])

/-- START_HEAD. -/
def startHead (c : Call) (x : Chip) : Chip :=
  x.perform opStartHead c fun x =>
    if 16 ≤ c.w 0 then x.bad opStartHead c 0
    else
      match x.startHeadRefusal (c.w 0) with
      | some r => x.done opStartHead c r.1 r.2
      | none => (x.enterStart (c.w 0)).ok opStartHead c [x.get CP_HEADn_CFG_UNITS (c.w 0), mbps32 (x.budget32 (c.w 0))]

/-! ### Stopping (R45, R205) -/

/-- The head's units go back to the pool: queued changes drop with reason 5, layers go, assignments end; the head's own
changes apply. -/
def Chip.freeUnits (x : Chip) (h : Nat) : Chip :=
  let us := x.headUnits h
  let own := x.cp.changes.filter fun c => c.head = h && c.unit.isNone
  let y := own.foldl (fun (y : Chip) c => y.applyChange 0 c) x
  let y := us.foldl (fun (y : Chip) u => (y.unitQueue u).foldl (fun (z : Chip) c => z.dropChange 5 c) y) y
  let y := us.foldl (fun (y : Chip) u => y.dropLayer u) y
  let y := (y.updProt h).updFetch h
  let y := us.foldl (fun (y : Chip) u => (y.assignUnit u none).resetFields
    [CP_Ln_OWNER_HEAD, CP_Ln_OWNER_SLOT, CP_Ln_OWNER_BOUND, CP_Ln_OWNER_FUNC, CP_Ln_OWNER_WORLD, CP_Ln_OWNER_ASSIGNED,
     CP_Ln_STAT_SET, CP_Ln_STAT_HELD, CP_Ln_STAT_CLIPPED, CP_Ln_STAT_QUEUED, CP_Ln_TAG_NUM, CP_Ln_FETCH_MBPS] u) y
  let seqs := y.cp.seqs.filter fun p => !us.contains p.1
  let wait := y.cp.protWait.filter fun p => !us.contains p.1
  { y with cp := { y.cp with seqs := seqs, protWait := wait } }

/-- The line store goes: slots emptied before use are counted, and its two allocations are freed (R223). -/
def Chip.freeStore (x : Chip) (h : Nat) : Chip :=
  let mine := fun (l : LineSlots) => l.line / 8192 = h
  let missed := (x.cp.store.filter fun l => mine l && l.fresh).length
  let y := x.set CP_HEADn_SPEC_MISS_COUNT (x.get CP_HEADn_SPEC_MISS_COUNT h + missed) h
  let y := (y.cp.rings.filter fun r => r.1 = h).foldl (fun (z : Chip) r =>
    [r.2.1, r.2.2].foldl (fun (w : Chip) i => match w.entry i with
      | some e => w.freeEntry e
      | none => w) z) y
  let cp := { y.cp with store := y.cp.store.filter (fun l => !mine l), rings := y.cp.rings.filter (fun r => r.1 != h),
                        spent := y.cp.spent.filter (fun p => p.1 != h), sent := y.cp.sent.filter (fun p => p.1 != h),
                        arms := y.cp.arms.filter (fun a => a != h) }
  ({ y with cp := cp }).flag CP_HEADn_STAT_STORE false h

/-- The head is stopped at its safe point or by a reset: everything of R205, and the waiting commands are answered. -/
def Chip.headStopped (x : Chip) (h : Nat) : Chip :=
  let s := x.head h
  let y := ((x.freeUnits h).freeStore h).setStale h false
  let y := (((y.flag HDn_STAT_RUN false h).set HDn_STAT_STATE 0 h).set HDn_STAT_SR 0 h).set CP_HEADn_BUDGET_MBPS 0 h
  let y := (y.flag CP_HEADn_STAT_FWD false h).setBit HB_FWD_STAT_HEAD h false
  let y := y.setHead h fun s =>
    { s with porch := [], porchNext := none, stops := [], suspend := false, wantSr := false, committed := false, now := {},
             next := {}, sent := [] }
  let y := s.stops.foldl (fun (z : Chip) c => z.ok opStopHead c []) y.updPool
  s.porch.foldl (fun (z : Chip) p => z.bad opVrrPorchSet p.2 0) y

/-- STOP_HEAD. Assumption log, row 50. -/
def stopHead (c : Call) (x : Chip) : Chip :=
  x.perform opStopHead c fun x =>
    let h := c.w 0
    let st := x.get HDn_STAT_STATE h
    if 16 ≤ h then x.bad opStopHead c 0
    else if st = 0 then x.ok opStopHead c []
    else
      let y := x.setHead h fun s => { s with stops := s.stops ++ [c] }
      if st = 4 then y.headStopped h else y.set HDn_STAT_STATE 3 h

/-- HEAD_SAFE_POINT: the end of line VTOTAL − 1. Assumption log, row 50. -/
def headSafePoint (h : Nat) (x : Chip) : Chip :=
  if x.get HDn_STAT_STATE h = 3 then x.headStopped h
  else if x.get HDn_STAT_STATE h = 2 && (x.head h).suspend then
    (x.set HDn_STAT_STATE 4 h).setHead h fun s => { s with suspend := false }
  else x

/-! ### Line 0 (R241, R246, R249, R252) -/

/-- Window `k` in force has pixels inside the active area (R251). -/
def Chip.windowLive (x : Chip) (h k : Nat) : Bool :=
  let ws := (x.head h).windows
  let a := ws.getD (3 * k) 0
  let b := ws.getD (3 * k + 1) 0
  bitAt (ws.getD 12 0) k && (decide (bits a 0 16 < min (bits b 0 16) (x.get HDn_HTIME0_HACTIVE h)) &&
    decide (bits a 16 16 < min (bits b 16 16) (x.get HDn_VTIME0_VACTIVE h)))

/-- Windows in force that are compared and not empty. -/
def Chip.comparing (x : Chip) (h : Nat) : List Nat :=
  (List.range 4).filter fun k => x.windowLive h k && bitAt ((x.head h).windows.getD 13 0) k

/-- HEAD_LINE0: the frame count advances, Starting becomes Running after the black frame, and per-frame marks clear.
Assumption log, rows 50, 52. -/
def headLine0 (h : Nat) (mem : List Host.Cell) (x : Chip) : Chip :=
  if !x.scanning h then x
  else
    let y := ((x.inc HDn_FRAME_FRAME h).set HDn_SCANPOS_LINE 0 h).set HDn_SCANPOS_PIXEL 0 h
    let y := if x.get HDn_STAT_STATE h = 1 then y.set HDn_STAT_STATE 2 h else y
    let s := x.head h
    let y := match s.porchNext with
      | some p => y.set HDn_VFP_ACT p h
      | none => y
    let quiet := s.noCompare
    let left := if quiet then 0 else (x.comparing h).length
    let y := y.setHead h fun s =>
      { s with porchNext := none, noCompare := false, noCompareNow := quiet, underNow := false, committed := false,
               now := if s.committed then s.next else { scene := s.now.scene, blank := s.out.2 = 1 }, next := {},
               requeued := if s.requeued = 1 then 2 else s.requeued, cmpLeft := left, allMatch := true }
    let y := if x.get HDn_STAT_SR h = 1 then y.set HDn_STAT_SR 2 h else if x.get HDn_STAT_SR h = 3 then y.set HDn_STAT_SR 0 h else y
    let y := match x.portOf h with
      | some q => if x.on DXn_STAT_LINK_UP q.1 then y.setPort q.1 fun p => { p with resume := false } else y
      | none => y
    let cp := { y.cp with spent := y.cp.spent.filter (fun p => p.1 != h) }
    ({ y with cp := cp }).forwardCompose mem h

/-! ### Lines (R225 to R227, R247) -/

/-- Line `n`, confirmed now, belongs to the frame after the one that scans: the commit line that fixes that frame has
passed, and the line's confirmation point in this frame had come by then (R225). Assumption log, row 53. -/
def Chip.ahead (x : Chip) (h n : Nat) : Bool :=
  (x.head h).committed && (decide (n < x.commitAt h + 32) || decide (x.get HDn_VTIME0_VACTIVE h ≤ x.commitAt h + 32))

/-- The frame that scans, or the one after it. -/
def HeadSt.frame (s : HeadSt) (ahead : Bool) : Frame := if ahead then s.next else s.now

/-- That frame changes. -/
def HeadSt.setFrame (s : HeadSt) (ahead : Bool) (f : Frame → Frame) : HeadSt :=
  if ahead then { s with next := f s.next } else { s with now := f s.now }

/-- A line of that frame goes out with these pixels. -/
def HeadSt.addRow (s : HeadSt) (ahead : Bool) (n : Nat) (row : List Nat) : HeadSt :=
  s.setFrame ahead fun f => { f with rows := (f.rows.filter fun p => p.1 != n) ++ [(n, row)] }

/-- The key of the line last sent at a place; none for the background. -/
def HeadSt.noteKey (s : HeadSt) (n : Nat) (key : Option LineKey) : HeadSt :=
  { s with sent := (s.sent.filter fun p => p.1 != n) ++ (key.map fun k => (n, k)).toList }

/-- The head sends line `n` of a frame: frames go out while it is live, up to the one in progress when self-refresh is
entered and from the next line 0 on when it is left; in self-refresh only the lines of a selective update do (R249).
The black frame of Starting has no composed lines (R241). Assumption log, row 53. -/
def Chip.sends (x : Chip) (h n : Nat) (ahead : Bool) : Bool :=
  let sr := x.get HDn_STAT_SR h
  (ahead || x.get HDn_STAT_STATE h != 1) &&
    (sr = 0 || (sr = (if ahead then 3 else 1) || ((x.head h).frame ahead).update.contains n))

/-- A line goes out: its pixels, and how it came, with its key where it shows a composed line (R225, R249). -/
def Chip.sendLine (x : Chip) (h n : Nat) (ahead : Bool) (o : LineOut) (key : Option LineKey) (row : List Nat) : Chip :=
  let sent := (x.cp.sent.filter fun p => p.1 != h) ++ [(h, n, o)]
  let out := x.outLine h n ((x.head h).frame ahead) row
  ({ x with cp := { x.cp with sent := sent } }).setHead h fun s => (s.addRow ahead n out).noteKey n key

/-- A direct line is stored into the spare slot, which becomes current, where the head has a store and its allowance
lasts (R225, R227). -/
def Chip.storeDirect (x : Chip) (h n : Nat) (k : LineSlot) : Chip :=
  let s := x.slots h n
  if x.on CP_HEADn_STAT_STORE h && x.affords h (x.slotBytes h) then
    let y := if s.fresh then x.inc CP_HEADn_SPEC_MISS_COUNT h else x
    (y.charge h (x.slotBytes h)).setSlots { s with cur := some k, spare := s.cur, fresh := false }
  else x

/-- A forward line goes out of a slot, whose read is charged (R225, R227). -/
def Chip.sendForward (x : Chip) (h n : Nat) (ahead : Bool) (k : LineSlot) : Chip :=
  ((x.inc CP_HEADn_FWD_LINES_COUNT h).charge h (x.slotBytes h)).sendLine h n ahead .forward (some k.1) k.2

/-- A direct line goes out: counted, and raised once a frame; its layer fetch is always made (R226, R227). -/
def Chip.sendDirect (x : Chip) (h n : Nat) (ahead : Bool) (k : LineSlot) (v : Scene) : Chip :=
  let y := (x.inc CP_HEADn_DIRECT_LINES_COUNT h).charge h (x.lineFetch h n v)
  let y := y.raiseIf (!((x.head h).frame ahead).direct) 164
  let y := y.setHead h fun s => s.setFrame ahead fun f => { f with direct := true }
  (y.storeDirect h n k).sendLine h n ahead .direct (some k.1) k.2

/-- A held line goes out: the current slot's content, whose read is charged, or the background where there is none;
counted, and raised once a frame (R225 to R227). -/
def Chip.sendHeld (x : Chip) (h n : Nat) (ahead : Bool) (cur : Option LineSlot) (v : Scene) : Chip :=
  let y := (x.sat CP_HEADn_HELD_LINES_COUNT h).raiseIf (!((x.head h).frame ahead).held) 163
  let y := y.setHead h fun s => s.setFrame ahead fun f => { f with held := true }
  match cur with
  | some k => (y.charge h (x.slotBytes h)).sendLine h n ahead .held (some k.1) k.2
  | none => y.sendLine h n ahead .held none (x.groundLine h v)

/-- LINE_CONFIRM: the line goes out as a forward, direct or held line of its frame; `inTime` says that the direct path
finishes by the start of its scan. Assumption log, row 53. -/
def lineConfirm (h n : Nat) (inTime : Bool) (mem : List Host.Cell) (x : Chip) : Chip :=
  let ahead := x.ahead h n
  if !x.scanning h || (decide (x.get HDn_VTIME0_VACTIVE h ≤ n) || !x.sends h n ahead) then x
  else
    let v := ((x.head h).frame ahead).scene
    let k := x.keyOf h n v
    let s := x.slots h n
    let y := match s.cur.filter fun p => x.forwards h && p.1 = k, s.spare.filter fun p => x.forwards h && p.1 = k with
      | some c, _ => x.sendForward h n ahead c
      | none, some c => (x.setSlots { s with cur := s.spare, spare := s.cur, fresh := false }).sendForward h n ahead c
      | none, none =>
        if inTime then x.sendDirect h n ahead (k, composeLine mem x h n v) v else x.sendHeld h n ahead s.cur v
    y.forwardCompose mem h

/-- What the head sends in a line of the frame that scans; a line that was not confirmed shows the background.
Assumption log, row 139. -/
def Chip.rowOut (x : Chip) (h n : Nat) : List Nat :=
  match (x.head h).now.rows.find? fun p => p.1 = n with
  | some p => p.2
  | none => x.outLine h n (x.head h).now (x.groundLine h (x.head h).now.scene)

/-- LINE_UNDERRUN at a pixel of an active line: the background goes out for the rest of it; counted, and raised once a
frame (R247). Assumption log, row 53. -/
def lineUnderrun (h n px : Nat) (x : Chip) : Chip :=
  if !x.scanning h || decide (x.get HDn_VTIME0_VACTIVE h ≤ n) then x
  else
    let ground := x.outLine h n (x.head h).now (x.groundLine h (x.head h).now.scene)
    let row := (x.rowOut h n).take px ++ ground.drop px
    let y := x.sat HDn_UNDERRUN_COUNT h
    (y.raiseIf (!(x.head h).underNow) (192 + 4 * h + 2)).setHead h fun s => { s.addRow false n row with underNow := true }

/-! ### Check windows (R251, R252, R460) -/

/-- HDn_CHKCTL.LIMIT, 0 taken as 1. -/
def Chip.checkLimit (x : Chip) (h : Nat) : Nat := max 1 (x.get HDn_CHKCTL_LIMIT h)

/-- A window's run of mismatching frames stands at LIMIT: FAULT does not clear (R252). -/
def Chip.atLimit (x : Chip) (h : Nat) : Bool := (x.head h).runs.any fun r => decide (x.checkLimit h ≤ r)

/-- A compared window's value meets its expected value: runs, MISM, STREAK and FAULT follow. -/
def Chip.compareWindow (x : Chip) (h k : Nat) (ok : Bool) : Chip :=
  let runs := updAt (x.head h).runs k fun r => if ok then 0 else r + 1
  let y := x.setHead h fun s => { s with runs := runs }
  let y := y.set HDn_CHKSTAT_STREAK (min 255 (runs.foldl max 0)) h
  if ok then y
  else
    let y := (y.setBit HDn_CHKSTAT_MISM k true h).raise (192 + 4 * h + 3)
    if x.checkLimit h ≤ runs.getD k 0 then (y.flag HDn_CHKSTAT_FAULT true h).updSafe else y

/-- The 32-bit pixel words of a window of the frame that scans, row by row, each little-endian; the window's corners are
two words of X in bits 15:0 and Y in bits 31:16, the second exclusive (R251, R401). -/
def Chip.windowBytes (x : Chip) (h a b : Nat) : List Nat :=
  let rows := (List.range (min (bits b 16 16) (x.get HDn_VTIME0_VACTIVE h))).drop (bits a 16 16)
  rows.flatMap fun n =>
    ((x.rowOut h n).take (min (bits b 0 16) (x.get HDn_HTIME0_HACTIVE h))).drop (bits a 0 16) |>.flatMap wordBytes

/-- Bytes of a pixel path as they arrive where some came wrong. Assumption log, row 144. -/
def arrived (errs : List PathErr) (bs : List Nat) : List Nat :=
  errs.foldl (fun bs e => updAt bs e.place fun b => b.xor e.flips.toNat) bs

/-- The check value of window `k` over the frame that scans: CRC-32C over its pixels within the active area, as they
arrive (R251). Assumption log, row 144. -/
def Chip.windowCrc (x : Chip) (h k : Nat) (errs : List PathErr) : Nat :=
  let ws := (x.head h).windows
  crcOf 0 (arrived errs (x.windowBytes h (ws.getD (3 * k) 0) (ws.getD (3 * k + 1) 0)))

/-- CV_DATA_UNIT_END: a frame ends at a head tap, whose unit takes the window of its binding (R401). The data units of
the other taps end with what passes there. Assumption log, rows 115, 144. -/
def cvDataUnitEnd (u : Nat) (errs : List PathErr) (x : Chip) : Chip × List (Nat × Byte) :=
  let tap := x.get CVn_CFG_TAP u
  if 16 ≤ tap || !x.scanning tap then (x, [])
  else cvUnitEnd u (arrived errs (x.windowBytes tap (x.get CVn_WIN0_XY u) (x.get CVn_WIN1_XY u))) x

/-- CHECK_WINDOW_END: the value is stored and, where it is due, compared; after the frame's last compared window a
stale mark clears if every one matched in the first frame of a requeued layer. Assumption log, rows 53, 144. -/
def checkWindowEnd (h k : Nat) (errs : List PathErr) (x : Chip) : Chip :=
  if !x.scanning h || !x.windowLive h k then x
  else
    let crc := x.windowCrc h k errs
    let y := x.set HDn_CHKk_VAL_VAL crc (h * 4 + k)
    let s := x.head h
    if s.noCompareNow || !bitAt (s.windows.getD 13 0) k then y
    else
      let ok := crc = s.windows.getD (3 * k + 2) 0
      let y := (y.compareWindow h k ok).setHead h fun s => { s with cmpLeft := s.cmpLeft - 1, allMatch := s.allMatch && ok }
      if s.cmpLeft = 1 && ((s.allMatch && ok) && (s.requeued = 2 && x.bit GL_SEC_STALE h)) then y.setStale h false else y

/-! ### Other commands (R246, R249, R258) -/

/-- HEAD_QUERY. -/
def headQuery (c : Call) (x : Chip) : Chip :=
  x.perform opHeadQuery c fun x =>
    let h := c.w 0
    if 16 ≤ h then x.bad opHeadQuery c 0
    else
      let port := match x.portOf h with
        | some q => q.1 + 256 * q.2
        | none => 0xFFFF
      x.ok opHeadQuery c [x.word [HDn_STAT_RUN, HDn_STAT_PEND_RESTART, HDn_STAT_STATE, HDn_STAT_SR] h,
        x.get HDn_FRAME_FRAME h, x.get HDn_COMMIT_SEQ_SEQ h, x.get HDn_COMMIT_FRAME_FRAME h, x.get HDn_VFP_ACT h,
        x.pixel32 h / (2 ^ 32 * 1000), port]

/-- VRR_PORCH_SET: at once while no arm is pending, else after the pending arm is taken. -/
def vrrPorchSet (c : Call) (x : Chip) : Chip :=
  x.perform opVrrPorchSet c fun x =>
    let h := c.w 0
    if 16 ≤ h || !x.on HDn_STAT_RUN h then x.bad opVrrPorchSet c 0
    else if c.w 1 < x.get HDn_VRR_VFP_MIN h || x.get HDn_VRR_VFP_MAX h < c.w 1 then x.bad opVrrPorchSet c 1
    else if x.on HDn_ARM_ARM h then x.setHead h fun s => { s with porch := s.porch ++ [(c.w 1, c)] }
    else x.porchGo h (c.w 1) c

/-- The link supports self-refresh (R249, R253). Assumption log, row 54. -/
def Chip.srSupport (x : Chip) (p : Nat) : Bool :=
  (x.port p).srSink && (x.isDp p || (x.get DXn_CTL_TYPE p < 4 && x.on DXn_CTL_CMD p))

/-- The head carries protected pixels or compared windows, which bars self-refresh (R249). Assumption log, row 54. -/
def Chip.srBarred (x : Chip) (h : Nat) : Bool :=
  x.on CP_HEADn_CFG_PROT h || (x.get HDn_CHKCTL_CMP h != 0 || (x.head h).windows.getD 13 0 != 0)

/-- SELF_REFRESH_SET. Assumption log, row 54. -/
def selfRefreshSet (c : Call) (x : Chip) : Chip :=
  x.perform opSelfRefreshSet c fun x =>
    let h := c.w 0
    let sr := x.get HDn_STAT_SR h
    let want := c.w 1 = 1
    match (if h < 16 && x.on HDn_STAT_RUN h then x.portOf h else none) with
    | none => x.bad opSelfRefreshSet c 0
    | some q =>
      if !x.on DXn_STAT_RUN q.1 || (want && x.srBarred h) then x.bad opSelfRefreshSet c 0
      else if 1 < c.w 1 || (want && !x.srSupport q.1) then x.bad opSelfRefreshSet c 1
      else if (if want then sr = 1 || sr = 2 else sr = 0 || sr = 3) then x.ok opSelfRefreshSet c []
      else ((x.set HDn_STAT_SR (if want then 1 else 3) h).setHead h fun s => { s with wantSr := want }).deferred
        opSelfRefreshSet c []

/-- START_HEAD. -/
def execStartHead (c : Call) (s : State) : Host.Outcome State Fault Refusal := s.onChip (startHead c)
/-- STOP_HEAD. -/
def execStopHead (c : Call) (s : State) : Host.Outcome State Fault Refusal := s.onChip (stopHead c)
/-- LINE_CONFIRM. -/
def execLineConfirm (head : Fin 16) (line : Fin 4320) (inTime : Bool) (s : State) : Host.Outcome State Fault Refusal :=
  s.onChipM (lineConfirm head.val line.val inTime)
/-- LINE_UNDERRUN. -/
def execLineUnderrun (p : LinePixel) (s : State) : Host.Outcome State Fault Refusal :=
  s.onChip (lineUnderrun p.head.val p.line.val p.pixel.val)
/-- CHECK_WINDOW_END. -/
def execCheckWindowEnd (head : Fin 16) (k : Fin 4) (errs : List PathErr) (s : State) : Host.Outcome State Fault Refusal :=
  s.onChip (checkWindowEnd head.val k.val errs)
/-- HEAD_QUERY. -/
def execHeadQuery (c : Call) (s : State) : Host.Outcome State Fault Refusal := s.onChip (headQuery c)
/-- VRR_PORCH_SET. -/
def execVrrPorchSet (c : Call) (s : State) : Host.Outcome State Fault Refusal := s.onChip (vrrPorchSet c)
/-- SELF_REFRESH_SET. -/
def execSelfRefreshSet (c : Call) (s : State) : Host.Outcome State Fault Refusal := s.onChip (selfRefreshSet c)
/-- CV_DATA_UNIT_END. -/
def execCvDataUnitEnd (u : Fin 24) (errs : List PathErr) (s : State) : Host.Outcome State Fault Refusal :=
  s.onBoth fun _ x => cvDataUnitEnd u errs x

end Sys2Proof.Machine
end

