-- ==== Sys2Proof/Machine/TimeBase.lean ====
section
/-!
DEFINITION. The time base (17_time_base.md): counting, the trim, PPS_IN, steps, TIME_SET and the class 0xB opcodes.
-/
namespace Sys2Proof.Machine

/-- Largest trim, ticks per second (R430). Assumption log, row 20. -/
def trimMax : Int := 245760

/-- The counter stands at `t` ticks in all. -/
def Chip.setNow (x : Chip) (t : Nat) : Chip := (x.set TB_SEC_SEC (t / tps)).set TB_TICK_TICK (t % tps)

/-- A new trim takes effect and starts a new pattern (R430). Assumption log, row 20. -/
def Chip.setTrim (x : Chip) (t : Int) : Chip :=
  { x.set TB_TRIM_TPS (ofS 32 t) with tb := { x.tb with adj := 0 } }

/-- The counter is set to `t` ticks in all, which is no tick (R436): STEPPED is set, source 484 is raised, and an epoch
boundary falls at once where the ticks move (R105). -/
def Chip.stepClock (x : Chip) (t : Nat) : Chip :=
  let moved := t % tps != x.get TB_TICK_TICK
  (((x.setNow t).flag TB_STAT_STEPPED true).raise 484).onlyIf moved Chip.epoch

/-- TB_STAT.SOURCE (R441): 2 a Follow under supervision, 1 PPS_IN in Snap or Slew with PPS_OK, else 0. -/
def Chip.tbSource (x : Chip) : Chip :=
  x.set TB_STAT_SOURCE
    (if x.follow && x.bl.supervised then 2
     else if !x.follow && (2 ≤ x.get TB_PPS_CFG_MODE && x.on TB_STAT_PPS_OK) then 1 else 0)

/-- CLK_FAB stands still: in Park, and until the main PLL has locked outside bypass (R416, R429). -/
def Chip.fabStopped (x : Chip) : Bool := x.get GL_MODE_POWER = 3 || !(x.on CK_STAT_PLL_LOCK || x.rs.bypass)

/-- Ticks of a cycle of the counter: 1 of CLK_FAB, or 32 of the always-on clock (R429). Assumption log, row 9. -/
def Chip.cycle (x : Chip) : Nat := if x.fabStopped then 32 else 1

/-- Slew corrects the phase error `e` over `len` cycles (R434). Assumption log, row 20. -/
def Chip.slewPhase (x : Chip) (e : Int) (len : Nat) : Chip :=
  let y := x.setTrim (clampI ((x.tb.f - 8 * e).tdiv 8) (-trimMax) trimMax)
  { y with tb := { y.tb with slewEnd := some (y.tb.up + len), parkErr := none } }

/-- Slew corrects the frequency alone (R434, R435). Assumption log, row 20. -/
def Chip.slewFreq (x : Chip) : Chip :=
  let y := x.setTrim (x.tb.f.tdiv 8)
  { y with tb := { y.tb with slewEnd := none } }

/-- The last LEASH is `n` ticks old, and BL_LEASH.AGE shows it in microseconds (R351). -/
def Chip.leashAge (x : Chip) (n : Nat) : Chip :=
  { x.set BL_LEASH_AGE (min 65535 (n * 1000000 / tps)) with bl := { x.bl with age := n } }

/-- Time has passed: what shows time left follows it, the minutes to the idle close (R484) and the milliseconds of the
secure watchdog (R467), the age of the leash too, and a phase correction ends (R434). Assumption log, row 9. -/
def Chip.pass (x : Chip) : Chip :=
  let y := { x with tb := { x.tb with up := x.tb.up + x.cycle } }
  let y := if y.get RJ_SESSION_ROLE = 0 then y
    else y.set RJ_SESSION_IDLE_LEFT (max 1 (y.get RJ_IDLE_MIN) - (y.up - y.rj.idleAt) / (60 * tps))
  let y := match y.sw.wdog with
    | some t => y.set SW_WDOG_REMAIN (50 - (y.up - t) / tpms)
    | none => y
  let y := y.onlyIf y.bl.supervised fun z => z.leashAge (z.bl.age + z.cycle)
  match y.tb.slewEnd with
  | some t => y.onlyIf (decide (t ≤ y.up)) Chip.slewFreq
  | none => y

/-- One cycle of the counter (R429): a tick, or 32 in Park. A REFCLK loss stops it. Assumption log, row 9. -/
def Chip.tick (x : Chip) : Chip :=
  if x.tb.stopped then x else (x.setNow (x.now + x.cycle)).pass

/-- TRIM_ADJUST: the cycle on which an adjustment falls counts one tick more or fewer (R430). -/
def trimAdjust (x : Chip) : Chip :=
  let t := toS 32 (x.get TB_TRIM_TPS)
  let n := x.cycle
  if x.tb.stopped || t = 0 then x
  else
    let y := x.setNow (x.now + (if 0 < t then n + 1 else n - 1))
    { y with tb := { y.tb with adj := y.tb.adj + 1 } }.pass

/-- Half a second, in ticks. -/
def halfSec : Int := 614400000

/-- The run of edges within 2 ticks and ALIGNED (R435); a Follow's ALIGNED is the twin's (R441). -/
def Chip.alignEdge (x : Chip) (e : Int) : Chip :=
  if x.follow then x
  else if e.natAbs ≤ 2 then
    let y := { x with tb := { x.tb with streak := x.tb.streak + 1 } }
    if 4 ≤ y.tb.streak && !y.on TB_STAT_ALIGNED then (y.flag TB_STAT_ALIGNED true).raise 483 else y
  else { x.flag TB_STAT_ALIGNED false with tb := { x.tb with streak := 0 } }

/-- Snap: the counter is set so that the edge, at `at` ticks, falls at tick 0 of second `s` (R434). -/
def Chip.snap (x : Chip) (edge : Int) (s : Nat) : Chip :=
  x.stepClock (((x.now : Int) - edge + ((s * tps : Nat) : Int)).toNat)

/-- The slew loop of R434 with an error of e: f takes off an eighth of it, and the trim corrects it as well for `len`
cycles; in Park the frequency alone, and the phase after wake (R435). Assumption log, row 20. -/
def Chip.slew (x : Chip) (e : Int) (len : Nat) : Chip :=
  let y := { x with tb := { x.tb with f := clampI (x.tb.f - e) (-8 * trimMax) (8 * trimMax) } }
  if x.get GL_MODE_POWER = 3 then
    let y := y.slewFreq
    { y with tb := { y.tb with parkErr := some e } }
  else y.slewPhase e len

/-- After a wake the phase error found in Park is corrected (R435). Assumption log, row 20. -/
def Chip.wakeSlew (x : Chip) : Chip :=
  match x.tb.parkErr with
  | some e => x.onlyIf (!x.follow && x.get TB_PPS_CFG_MODE = 3) fun y => y.slewPhase e tps
  | none => x

/-- PPS_IN_EDGE: an active edge is accepted or a glitch (R433), and the mode decides its effect (R434, R437).
Assumption log, rows 20, 21, 22. -/
def ppsInEdge (rising : Bool) (x : Chip) : Chip :=
  let mode := x.get TB_PPS_CFG_MODE
  let edge : Int := (x.now : Int) - 2
  if rising = x.on TB_PPS_CFG_EDGE || mode = 0 then x
  else if (match x.tb.lastEdge with
      | some l => decide (((x.up - l : Nat) : Int) < halfSec)
      | none => false) then (x.sat TB_PPS_GLITCH_COUNT).raise 481
  else
    let sec := (edge / (tps : Int)) % (2 ^ 32 : Int)
    let tick := edge % (tps : Int)
    let e : Int := if tick < halfSec then tick else tick - (tps : Int)
    let y := (((x.set TB_PPS_SEC_SEC sec.toNat).set TB_PPS_TICK_TICK tick.toNat).set TB_PPS_ERR_E (ofS 32 e)).inc
      TB_PPS_CNT_COUNT
    let y := ({ y with tb := { y.tb with lastEdge := some x.up } }.flag TB_STAT_PPS_OK true).raise 480
    let y := (y.alignEdge e).tbSource
    let y := if y.tb.notice then y.notice 0 0xB800 [sec.toNat, tick.toNat, ofS 32 e] else y
    if y.follow then y
    else match y.tb.armed with
      | some s =>
        let z := { y with tb := { y.tb with armed := none } }
        ((z.flag TB_STAT_ARMED false).flag TB_STAT_VALID true).snap edge s
      | none =>
        if mode = 2 then (if e.natAbs ≤ 2 then y else y.snap edge (if e < 0 then sec.toNat + 1 else sec.toNat))
        else if mode = 3 then y.slew e tps
        else y

/-- PPS_TIMEOUT: PPS_OK clears with ALIGNED, source 482 is raised, and Slew keeps f as the trim (R435). -/
def ppsTimeout (x : Chip) : Chip :=
  if x.on TB_STAT_PPS_OK then
    let y := (x.flag TB_STAT_PPS_OK false).raise 482
    let y := if y.follow then y else { y.flag TB_STAT_ALIGNED false with tb := { y.tb with streak := 0 } }
    (if !y.follow && y.get TB_PPS_CFG_MODE = 3 then { y with tb := { y.tb with parkErr := none } }.slewFreq else y).tbSource
  else x

/-- TB_STAT as the register reads. -/
def Chip.tbStat (x : Chip) : Nat :=
  x.word [TB_STAT_VALID, TB_STAT_PPS_OK, TB_STAT_ALIGNED, TB_STAT_REF_LOST, TB_STAT_STEPPED, TB_STAT_SOURCE, TB_STAT_ARMED]

/-- TIME_QUERY (R442). -/
def timeQuery (c : Call) (x : Chip) : Chip :=
  x.perform opTimeQuery c fun x =>
    x.ok opTimeQuery c [x.get TB_SEC_SEC, x.get TB_TICK_TICK, x.tbStat, x.get TB_TRIM_TPS]

/-- PPS_MODE_SET (R434, R442): f, the streak and any armed value are cleared; off a Follow the trim becomes zero.
Assumption log, row 21. -/
def ppsModeSet (c : Call) (x : Chip) : Chip :=
  x.perform opPpsModeSet c fun x =>
    if 8 ≤ c.w 0 then x.bad opPpsModeSet c 0
    else
      let tb := { x.tb with f := 0, armed := none, streak := 0, lastEdge := none, parkErr := none, notice := bitAt (c.w 0) 2 }
      let y := (({ x with tb := tb }).set TB_PPS_CFG_MODE (c.w 0)).flag TB_STAT_ARMED false
      ((if y.follow then y else y.slewFreq).tbSource).ok opPpsModeSet c []

/-- TIME_SET (R437, R442): applied at once, or armed for the next accepted edge; DENIED_MODE on a Follow. Assumption
log, row 21. -/
def timeSet (c : Call) (x : Chip) : Chip :=
  x.perform opTimeSet c fun x =>
    let atPps := bitAt (c.w 2) 0
    let keep := bitAt (c.w 2) 1
    if x.follow then x.deniedMode opTimeSet c
    else if !atPps && (!keep && tps ≤ c.w 1) then x.bad opTimeSet c 1
    else if 4 ≤ c.w 2 then x.bad opTimeSet c 2
    else if atPps then
      (({ x with tb := { x.tb with armed := some (c.w 0) } }).flag TB_STAT_ARMED true).deferred opTimeSet c []
    else
      let t := c.w 0 * tps + (if keep then x.get TB_TICK_TICK else c.w 1)
      let y := { x with tb := { x.tb with armed := none } }
      (((y.flag TB_STAT_ARMED false).flag TB_STAT_VALID true).stepClock t).ok opTimeSet c []

/-- TIME_QUERY. -/
def execTimeQuery (c : Call) (s : State) : Host.Outcome State Fault Refusal := s.onChip (timeQuery c)
/-- PPS_MODE_SET. -/
def execPpsModeSet (c : Call) (s : State) : Host.Outcome State Fault Refusal := s.onChip (ppsModeSet c)
/-- TIME_SET. -/
def execTimeSet (c : Call) (s : State) : Host.Outcome State Fault Refusal := s.onChip (timeSet c)
/-- PPS_IN_EDGE. -/
def execPpsInEdge (rising : Bool) (s : State) : Host.Outcome State Fault Refusal := s.onAon (ppsInEdge rising)
/-- PPS_TIMEOUT. -/
def execPpsTimeout (s : State) : Host.Outcome State Fault Refusal := s.onAon ppsTimeout
/-- TRIM_ADJUST. -/
def execTrimAdjust (s : State) : Host.Outcome State Fault Refusal := s.onAon trimAdjust

end Sys2Proof.Machine
end

