-- ==== Sys2Proof/Machine/Twin.lean ====
section
/-!
DEFINITION. Bowline and the twin pair (13_bowline_twin.md): messages, leash, attach, mirroring, signatures, groups,
takeover, detach. The offload of jobs is in `Passes`, the agreed power modes in `Power`.
-/
namespace Sys2Proof.Machine

/-! ### Messages (R349) -/

/-- Bytes a class may hold at the receiver, for the classes that take credit. -/
def blSpace (cls : Nat) : Nat :=
  match cls with
  | 1 => 131072
  | 2 => 24576
  | 3 => 98304
  | 5 => 8192
  | _ => 0

/-- A class takes credit. -/
def blCredited (cls : Nat) : Bool := blSpace cls != 0

/-- Flits of a message with a body of `n` bytes. -/
def blFlits (n : Nat) : Nat := ceilDiv (8 + n) 56

/-- Payload bytes of a message: its header and body. -/
def BlMsg.bytes (m : BlMsg) : List Nat := [m.code, 0] ++ (halfBytes m.body.length ++ (wordBytes m.id ++ m.body))

/-- The flits of a message go out, first MSG, then CONT. -/
def Chip.blPut (x : Chip) (m : BlMsg) : Chip :=
  let bs := m.bytes
  let n := blFlits m.body.length
  let y := (List.range n).foldl (fun (y : Chip) i =>
    let part := (bs.drop (56 * i)).take 56
    y.lkSend 2 (if i = 0 then 1 else 2) m.cls (part ++ List.replicate (56 - part.length) 0)) x
  y.setBl fun b => { b with
    txq := dropFirst b.txq fun q => q = m,
    sent := b.sent ++ [((b.link.txSeq + 1023) % 1024, m)],
    txCredit := if blCredited m.cls then sparseSet b.txCredit m.cls (sparseGet b.txCredit m.cls 0 - n) 0 else b.txCredit,
    turn := if m.cls = 1 then true else if m.cls = 3 then false else b.turn }

/-- A message can go now: room in the replay buffer, and credit. -/
def Chip.blCan (x : Chip) (m : BlMsg) : Bool :=
  let n := blFlits m.body.length
  decide ((x.lk 2).replay.length + n ≤ 256) && (!blCredited m.cls || decide (n ≤ sparseGet x.bl.txCredit m.cls 0))

/-- The message that goes next: by class precedence, mirror and offload in turn, each class in its own order. -/
def Chip.blNext (x : Chip) : Option BlMsg :=
  ([0, 4, 5, 2] ++ (if x.bl.turn then [3, 1] else [1, 3])).findSome? fun c =>
    match x.bl.txq.find? fun (m : BlMsg) => m.cls = c with
    | some m => if x.blCan m then some m else none
    | none => none

/-- Credit for flits processed is granted, a unit for every four (R331, R349). Assumption log, row 74. -/
def Chip.blGrants (x : Chip) : Chip :=
  [1, 2, 3, 5].foldl (fun (y : Chip) c =>
    let n := sparseGet y.bl.owe c 0 / 4
    if n = 0 || !y.lkRoom 2 then y
    else
      (y.setBl fun b => { b with
        owe := sparseSet b.owe c (sparseGet b.owe c 0 % 4) 0,
        rxCredit := sparseSet b.rxCredit c (sparseGet b.rxCredit c 0 + 4 * n) 0 }).lkSend 2 3 c (wordBytes (c + 128 + 256 * n))) x

/-! ### Mirroring (R357) -/

/-- The next MIRROR_WRITE of the sync, or of a write made since: at most 4,096 bytes. -/
def Work.mirrorNext (w : Work) : Option Work :=
  let send := fun (y : Chip) (a : Nat) (bs : List Nat) =>
    match y.entry (hIndex a) with
    | some e =>
      let id := sparseGet y.bl.txId 1 0
      (y.blSend 1 2 (halfBytes e.idx ++ (halfBytes e.tag ++ (wordBytes (hOffset a) ++ (wordBytes (hOffset a / 2 ^ 32) ++
        (wordBytes bs.length ++ bs)))))).setBl fun b => { b with lastWrite := id }
    | none => y
  match w.x.bl.mw with
  | r :: rest => some (w.on fun y => send (y.setBl fun b => { b with mw := rest }) r.1 r.2)
  | [] =>
    match w.x.bl.sync with
    | [] => none
    | (i, off) :: rest =>
      match w.x.entry i with
      | none => some (w.on fun y => y.setBl fun b => { b with sync := rest })
      | some e =>
        if !e.valid || e.size * 65536 ≤ off then some (w.on fun y => y.setBl fun b => { b with sync := rest })
        else
          let a := handleOf e + off
          let bs := readBytes w.mem w.x a 4096
          some (w.on fun y => send (y.setBl fun b => { b with sync := (i, off + 4096) :: rest }) a bs)

/-- This chip's sync is done when everything opened has been copied: SYNC_DONE (R353). -/
def Chip.syncEnd (x : Chip) : Chip :=
  if x.get BL_STAT_ATTACH = 5 && (!x.bl.syncSent && (x.bl.sync = [] && x.bl.mw = [])) then
    (x.blSend 1 5 (wordBytes x.bl.lastWrite)).setBl fun b => { b with syncSent := true }
  else x

/-- GL_MODE bits 23:0. -/
def Chip.modeWord (x : Chip) : Nat := x.glMode % 2 ^ 24

/-- The units bound to a tap take a data unit whole: `bs` are its bytes (R400, R401). Assumption log, row 115. -/
def Work.cvTap (w : Work) (tap : Nat) (bs : List Nat) : Work :=
  (w.x.tapUnits tap).foldl (fun (w : Work) u => w.put (cvUnitEnd u bs w.x)) w

/-- A message leaves; the egress tap of its class, mirror or offload, sees its body (R401). -/
def Work.blPut (w : Work) (m : BlMsg) : Work :=
  let w := w.on fun y => y.blPut m
  if m.cls = 1 then w.cvTap 48 m.body else if m.cls = 3 then w.cvTap 50 m.body else w

/-- Everything that can be sent is: a change of mode first, then queued messages; the mirror's writes as class 1
empties. Assumption log, row 114. -/
def Work.blRounds (n : Nat) (w : Work) : Work :=
  match n with
  | 0 => w
  | n + 1 =>
    match w.x.blNext with
    | some m => (w.blPut m).blRounds n
    | none =>
      if w.x.bl.txq.any fun m => m.cls = 1 then w
      else
        match w.mirrorNext with
        | some v => v.blRounds n
        | none => if w.x.syncEnd.bl.txq = w.x.bl.txq then w else (w.on Chip.syncEnd).blRounds n

/-- The link sends what it can. Assumption log, row 73. -/
def Work.blPump (w : Work) : Work :=
  if w.x.lkState 2 != lkUp then w
  else
    let w := w.on Chip.blGrants
    let w := if w.x.bl.supervised && w.x.modeWord != w.x.bl.modeSent then
        w.on fun y => (y.blSend 5 6 (wordBytes y.modeWord)).setBl fun b => { b with modeSent := y.modeWord }
      else w
    w.blRounds 1024

/-! ### Receiving (R326, R349) -/

/-- Acknowledged flits: messages sent whole are done with. -/
def Chip.blAck (x : Chip) (seqs : List Nat) : Chip :=
  x.setBl fun b => { b with sent := b.sent.filter fun p => !seqs.contains p.1 }

/-- A message of a class with a body of `n` bytes has arrived whole: whether it is to be acted on. A replayed copy,
one beyond credit and one already completed are not. Assumption log, row 74. -/
def Chip.blTake (x : Chip) (h : MsgHdr) (cls n : Nat) (fresh : Bool) : Chip × Bool :=
  if x.lkState 2 != lkUp then (x, false)
  else
    let r := x.lkAck 2 ⟨0, 0, h.ack, h.ackV⟩
    let y := r.1.blAck r.2
    let ahead := (h.last.val + 1024 - (y.lk 2).rxSeq) % 1024
    if 512 ≤ ahead then (y, false)
    else
      let y := y.setLk 2 fun s => { s with rxSeq := (h.last.val + 1) % 1024, ackV := true, nakAt := none }
      let k := blFlits n
      let have_ := sparseGet y.bl.rxCredit cls 0
      if blCredited cls && have_ < k then ((y.sat BL_VIOL_COUNT).lkErr 2 2 cls, false)
      else
        let y := if blCredited cls then y.setBl fun b => { b with
            rxCredit := sparseSet b.rxCredit cls (have_ - k) 0, owe := sparseSet b.owe cls (sparseGet b.owe cls 0 + k) 0 } else y
        let y := if fresh then y.setBl fun b => { b with rxId := [] } else y
        let old := (h.id.toNat + 2 ^ 32 - sparseGet y.bl.rxId cls 0) % 2 ^ 32
        if 2 ^ 31 ≤ old then (y, false)
        else (y.setBl fun b => { b with rxId := sparseSet b.rxId cls ((h.id.toNat + 1) % 2 ^ 32) 0 }, true)

/-- A message and what it does; what can be sent follows. Assumption log, row 74. -/
def blMsg (h : MsgHdr) (cls n : Nat) (f : Work → Work) (w : Work) : Work :=
  let r := w.x.blTake h cls n false
  (if r.2 then f { w with x := r.1 } else { w with x := r.1 }).blPump

/-- A mirror or offload message: the ingress tap of its class sees the body of each message that is acted on (R401). -/
def blTapped (h : MsgHdr) (cls : Nat) (body : List Nat) (f : Work → Work) (w : Work) : Work :=
  blMsg h cls body.length (fun w => f (w.cvTap (if cls = 1 then 49 else 51) body)) w

/-- A 64-bit field of a message. -/
def longBytes (n : Nat) : List Nat := wordBytes n ++ wordBytes (n / 2 ^ 32)

/-! ### Groups, standby and the relay (R355, R363) -/

/-- BL_CFG and BL_GROUPk take effect at the next attach (R372): their values as it finds them. Assumption log, row 81.
-/
def Chip.takeBlCfg (x : Chip) : Chip :=
  let ids := [BL_CFG_TWIN_EN.id, BL_CFG_COLD_ACCEPT.id, BL_CFG_OFFLOAD_IN.id, BL_CFG_CRIT.id, BL_GROUPk_HEADS.id]
  { x with bl := { x.bl with cfg := x.regs.filter fun e => ids.contains (e.1 / 2048) } }

/-- A field of BL_CFG or BL_GROUPk in effect. Assumption log, row 81. -/
def Chip.blCfg (x : Chip) (f : Fld) (n : Nat := 0) : Nat := sparseGet x.bl.cfg (f.key n) (f.resetAt n)

/-- Heads of group `k`. -/
def Chip.groupHeads (x : Chip) (k : Nat) : Nat := x.blCfg BL_GROUPk_HEADS k

/-- A head is critical. -/
def Chip.critical (x : Chip) (h : Nat) : Bool := bitAt (x.blCfg BL_CFG_CRIT) h

/-- Every port carrying a critical head is in standby while the chip does not hold its group. Assumption log, row 80.
-/
def Chip.updStandby (x : Chip) : Chip :=
  (List.range 10).foldl (fun (y : Chip) p =>
    let b := (y.mapped p).any fun h => y.critical h && ((List.range 4).any fun k => bitAt (y.groupHeads k) h) &&
      !((List.range 4).any fun k => bitAt (y.groupHeads k) h && bitAt (y.get BL_STAT_HOLD) k)
    if (y.port p).standby = b then y
    else (y.setPort p fun s => { s with standby := b, resume := s.resume || !b }).emit (.pin 6 [p, b2n b])) x

/-- HOLD changes: RELAY_SEL follows it, low in Kennel. Assumption log, row 80. -/
def Chip.setHold (x : Chip) (v : Nat) : Chip :=
  let y := x.set BL_STAT_HOLD v
  let y := if x.get BL_STAT_HOLD = v then y else y.emit (.pin 7 [if y.kennel then 0 else v])
  y.updStandby

/-! ### The twin configuration (R356) -/

/-- The word a register reads, whatever its fields: `f` is any field of it, `n` its instance. -/
def Chip.regWord (x : Chip) (f : Fld) (n : Nat) : Nat :=
  x.word ((fieldsA ++ (fieldsB ++ fieldsC)).filter fun g => g.base = f.base && (g.off = f.off && (g.istride = f.istride))) n

/-- The twin configuration's bytes. Assumption log, row 81. -/
def Chip.twinConfig (x : Chip) : List Nat :=
  let heads := (List.range 16).filter x.critical
  let regs := [HDn_CTL_PPC, HDn_PIXINC_INC, HDn_HTIME0_HACTIVE, HDn_HTIME1_HFP, HDn_VTIME0_VACTIVE, HDn_VTIME1_VBP,
    HDn_VRR_VFP_MIN, HDn_COMMIT_LINE, HDn_DSC_EN, CP_HEADn_CFG_UNITS]
  let words := [x.get BL_CFG_CRIT] ++ (((List.range 4).map fun k => x.regWord BL_GROUPk_HEADS k) ++
    heads.flatMap fun h => (regs.map fun f => x.regWord f h) ++ (match x.portOf h with
      | some q => [q.1 + 256 * q.2, x.regWord DXn_CTL_TYPE q.1]
      | none => [0xFFFF, 0]))
  "DQ6416-TWIN1".toUTF8.toList.map (·.toNat) ++ words.flatMap wordBytes

/-! ### Integrity (R28, R39) -/

/-- A cause of Degraded is recorded; a Whole chip becomes Degraded, and the journal says so. -/
def Chip.degrade (x : Chip) (f : Fld) : Chip :=
  let y := x.flag f true
  if y.get GL_MODE_INTEG = 0 then y.setMode GL_MODE_INTEG 1 else y

/-! ### The link (R348) -/

/-- The link is wanted: TWIN_EN, or an image is to come from the twin (R509); not in Park, and no proof tile of this chip
has failed (R348, R362). -/
def Chip.blWanted (x : Chip) : Bool := (x.blCfg BL_CFG_TWIN_EN != 0 || (x.ld.boot && x.get RB_STRAP_BOOT_SRC = 3)) && (x.get GL_MODE_POWER != 3 && !x.on GL_DEG_CAUSE_PROOF_FAIL)

/-- The link goes Down. -/
def Chip.blDown (x : Chip) : Chip :=
  if x.lkState 2 = lkDown then x
  else ((x.lkEnter 2 lkDown false).lkRaise 2 1).lkClear 2

/-- BOWLINE_RETRY: training starts again. -/
def blRetry (x : Chip) : Chip :=
  if x.lkState 2 = lkDown && x.blWanted then x.lkBegin 2 lkTrain false else x

/-- BOWLINE_LINK_TIMEOUT. -/
def blLinkTimeout (x : Chip) : Chip := if x.lkTraining 2 then x.blDown else x

/-- The link is up reset: credit is given anew, and messages not acknowledged whole are sent again. Assumption log,
row 74. -/
def Chip.blUpReset (x : Chip) : Chip :=
  x.setBl fun b => { b with
    txq := b.sent.map (·.2) ++ b.txq, sent := [], txCredit := [], rxCredit := [],
    owe := [1, 2, 3, 5].map fun c => (c, blSpace c / 64) }

/-! ### Attach (R353, R354) -/

/-- Copies held for the twin are freed. -/
def Chip.freeCopies (x : Chip) : Chip :=
  let y := x.bl.copies.foldl (fun (y : Chip) c => match y.entry c.entry with
    | some e => y.freeEntry e
    | none => y) x
  (y.setBl fun b => { b with copies := [], inputs := [], mine := [], theirs := [], heads := [] }).set BL_MIRROR_IN_MIB 0

/-- TWIN_CHANGE to F0 and the journal's record of it (R374, R478). -/
def Chip.twinChange (x : Chip) (cause : Nat) : Chip :=
  (x.notice 0 0x9800 [x.get GL_MODE_PAIR, cause, x.get BL_ATTACH_RES_CODE, x.get BL_TWIN_MODE_MODE]).journal 10 cause

/-- A phase of the attach ends. -/
def Chip.phaseEnd (x : Chip) (phase : Nat) : Chip := x.journal 11 phase

/-- The attach is over, well or ill. -/
def Chip.attachOver (x : Chip) (code : Nat) : Chip :=
  ((x.set BL_ATTACH_RES_CODE code).setBit GL_MODE_BUSY 0 false).modesDue [3]

/-- Supervision ends. -/
def Chip.unsupervise (x : Chip) : Chip :=
  (x.setBl fun b => { b with
    supervised := false, mirroring := false, mw := [], sync := [], hello := none, lead := none, txq := [], sent := [],
    detachIn := false, detachGo := false, agreed := none, shipped := [], pipes := [] }).tbSource

/-- An attach fails: the copies its sync made are freed, while those kept since an earlier loss stay (R354, R357).
Assumption log, row 77. -/
def Chip.attachFail (x : Chip) (code : Nat) : Chip :=
  if x.get BL_STAT_ATTACH = 0 || x.get BL_STAT_ATTACH = 6 then x
  else
    let y := ((x.set BL_STAT_ATTACH 0).attachOver code).unsupervise
    ((y.onlyIf (x.get BL_STAT_ATTACH = 5) Chip.freeCopies).raise 423).twinChange 2

/-- HELLO's body (R350). -/
def Chip.helloBody (x : Chip) : List Nat :=
  (wordBytes (Config.serial % 2 ^ 32) ++ wordBytes (Config.serial / 2 ^ 32)) ++
  ([x.get RB_STRAP_TWIN_ID, x.get GL_MODE_INTEG, x.get GL_MODE_ACCESS, x.get GL_ID_STEP % 256] ++
  (wordBytes (x.get GL_FWVER_VERSION) ++ (x.bl.twinHash ++ (wordBytes (x.regWord BL_CFG_TWIN_EN 0) ++ List.replicate 12 0))))

/-- MIRROR_STATE of a critical head: background, tone map and the protected layer's geometry (R357). -/
def Chip.sendState (x : Chip) (h item num : Nat) (bs : List Nat) : Chip :=
  x.blSend 1 4 ([h, item] ++ (halfBytes bs.length ++ (wordBytes num ++ bs)))

/-- Background in force, as BACKGROUND_SET gives it. Assumption log, row 76. -/
def Chip.bgBytes (x : Chip) (h : Nat) : List Nat :=
  wordBytes (x.get CP_HEADn_BG_LO_RG h) ++ wordBytes (x.get CP_HEADn_BG_HI_B h)

/-- Tone map in force: control, matrix, curve. Assumption log, row 76. -/
def Chip.toneBytes (x : Chip) (h : Nat) : List Nat :=
  wordBytes (x.word [CP_HEADn_TONE_OUT_TF, CP_HEADn_TONE_CURVE_EN, CP_HEADn_TONE_MATRIX_EN] h) ++
  (((sparseGet x.cp.matrix h []).flatMap wordBytes) ++ sparseGet x.cp.curves h [])

/-- Geometry of the protected layer in force: its LAYER_SET words; nothing where none is set. Assumption log, row 76.
-/
def Chip.protBytes (x : Chip) (h : Nat) : List Nat :=
  match x.protUnit h with
  | some u => match x.layer u with
    | some l => l.words.flatMap wordBytes
    | none => []
  | none => []

/-- The state of a critical head, as the Lead sends it: what differs from `old`, or all of it. Assumption log, row 76.
-/
def Chip.sendHead (x : Chip) (h : Nat) (old : Option Chip) : Chip :=
  let num := sparseGet x.cp.headTag h 0
  let diff := fun (f : Chip → List Nat) => match old with
    | some o => f o != f x
    | none => true
  let y := if diff fun z => z.bgBytes h then x.sendState h 1 num (x.bgBytes h) else x
  let y := if diff fun z => z.toneBytes h then y.sendState h 2 num (x.toneBytes h) else y
  if diff fun z => z.protBytes h then y.sendState h 4 num (x.protBytes h) else y

/-- Phase 5 begins: every mirror allocation is opened and copied; the Lead adds the state of the critical heads. It is
skipped when the Follow is in Kennel. -/
def Chip.startSync (x : Chip) (sync : Bool) : Chip :=
  let y := (x.phaseEnd 4).set BL_STAT_ATTACH 5
  if !sync then y.setBl fun b => { b with syncSent := true, syncGot := true }
  else
    let y := y.freeCopies
    let own := y.hb.map.filter fun e => e.valid && (e.mirror && e.func != 127)
    let y := own.foldl Chip.mirrorTold y
    let y := y.setBl fun b => { b with mirroring := true, syncSent := false, syncGot := false, sync := own.map fun e => (e.idx, 0) }
    if y.bl.lead = some true then ((List.range 16).filter y.critical).foldl (fun (y : Chip) h => y.sendHead h none) y else y

/-- Phases 3 and 4: compatibility, then the election (R34). -/
def Chip.compat (x : Chip) (m : Hello) : Chip :=
  let twinKennel := m.integ.toNat = 2
  let own := x.get RB_STRAP_TWIN_ID
  let plain := !x.kennel && !twinKennel
  let hash := m.hash.map (·.toNat)
  if x.kennel && twinKennel then x.attachFail 7
  else if plain && m.version.toNat != x.get GL_FWVER_VERSION then x.attachFail 4
  else if plain && (hash != x.bl.twinHash || sha256 x.twinConfig != x.bl.twinHash) then x.attachFail 5
  else if own = m.twinId.toNat && !x.kennel then x.attachFail 6
  else
    let y := ((x.phaseEnd 2).phaseEnd 3).set BL_STAT_ATTACH 4
    let mine := x.get GL_MODE_INTEG
    let lead := if mine = m.integ.toNat then own = 0 else decide (mine < m.integ.toNat)
    let y := y.setBl fun b => { b with lead := some lead }
    if lead then y.blSend 5 2 [own, b2n !twinKennel, 0, 0] else y

/-- Phase 2 begins with the link up: HELLO goes out and supervision starts. -/
def Chip.identity (x : Chip) : Chip :=
  let y := ((x.phaseEnd 1).set BL_STAT_ATTACH 2).setBl fun b => { b with
    supervised := true, timed := false, near := 0, modeSent := x.modeWord, hung := false }
  let y := ((y.leashAge 0).set BL_LEASH_MISSED 0).tbSource
  let y := y.blSend 5 1 y.helloBody
  match y.bl.hello with
  | some m => y.compat m
  | none => y

/-- An attach begins (R353). -/
def Chip.beginAttach (x : Chip) : Chip :=
  let y := (x.takeBlCfg.set BL_STAT_ATTACH 1).setBit GL_MODE_BUSY 0 true
  let y := y.setBl fun b => { b with txId := [], syncSent := false, syncGot := false, lead := none }
  if y.lkState 2 = lkUp then y.identity else if y.lkState 2 = lkDown && y.blWanted then y.lkBegin 2 lkTrain false else y

/-- ATTACH. Assumption log, row 77. -/
def attachCmd (c : Call) (mem : List Host.Cell) (x : Chip) : Chip × List (Nat × Byte) :=
  x.performM opAttach c fun x =>
    if c.words.length != 0 then (x.badLength opAttach c, [])
    else if !x.on BL_CFG_TWIN_EN || (x.paired || (x.get BL_STAT_ATTACH != 0 || x.on GL_DEG_CAUSE_PROOF_FAIL)) then
      (x.deniedMode opAttach c, [])
    else runWork (fun w => (w.on fun y => (y.deferred opAttach c []).beginAttach).blPump) mem x

/-- AUTO_ATTACH_TIMER. Assumption log, rows 77, 81. -/
def autoAttach (w : Work) : Work :=
  let x := w.x
  if (x.on BL_CFG_TWIN_EN && (x.get GL_MODE_POWER != 3 && !x.on GL_DEG_CAUSE_PROOF_FAIL)) && ((x.on BL_CFG_AUTO || x.kennel) && (!x.paired && x.get BL_STAT_ATTACH = 0)) then (w.on Chip.beginAttach).blPump else w

/-- HELLO. Assumption log, row 74. -/
def helloIn (h : MsgHdr) (m : Hello) (w : Work) : Work :=
  let r := w.x.blTake h 5 64 true
  let y := if r.2 then r.1.setBl fun b => { b with hello := some m } else r.1
  let y := if r.2 && y.get BL_STAT_ATTACH = 2 then y.compat m else y
  ({ w with x := y }).blPump

/-- HELLO_TIMEOUT. -/
def helloTimeout (x : Chip) : Chip :=
  if x.get BL_STAT_ATTACH = 2 && x.bl.hello.isNone then x.attachFail 3 else x

/-- ELECT: the Follow confirms it and both go on to the sync. -/
def electIn (h : MsgHdr) (lead : Nat) (sync : Bool) (w : Work) : Work :=
  blMsg h 5 4 (fun w => w.on fun y =>
    if y.get BL_STAT_ATTACH != 4 then y
    else
      let own := y.get RB_STRAP_TWIN_ID
      if y.bl.lead = some true then (if lead = own then y.startSync sync else y.attachFail 6)
      else if lead = own then y.attachFail 6
      else (y.blSend 5 2 [lead, b2n sync, 0, 0]).startSync sync) w

/-- SYNC_DONE: the twin's copy is whole; source 431. -/
def syncDone (h : MsgHdr) (last : Nat) (w : Work) : Work :=
  blTapped h 1 (wordBytes last) (fun w => w.on fun y =>
    if y.get BL_STAT_ATTACH = 5 then (y.setBl fun b => { b with syncGot := true }).raise 431 else y) w

/-- ATTACH_TIMEOUT. Assumption log, row 77. -/
def attachTimeout (x : Chip) : Chip :=
  let p := x.get BL_STAT_ATTACH
  x.attachFail (if p = 1 then 2 else if p = 2 then 3 else 8)

/-- Phase 6: PAIR is set (R353). -/
def Chip.pairUp (x : Chip) : Chip :=
  let lead := x.bl.lead = some true
  let y := (((x.phaseEnd 5).set BL_STAT_ATTACH 6).attachOver 1).setMode GL_MODE_PAIR (if lead then 1 else 2)
  let y := (y.setHold (if lead then 15 else 0)).tbSource
  let twin := fun (p : Hello → Bool) => y.bl.hello.any p
  let y := (y.flag GL_MODE_TWIN_KENNEL (twin fun m => m.integ.toNat = 2)).flag GL_MODE_TWIN_SERVICE (twin fun m => m.access.toNat = 2)
  (y.raise 422).twinChange 1

/-! ### Work that ends with the pair (R367) -/

/-- Each job offered to or run on the twin returns to Ready here, its results discarded; each job run for the twin is
abandoned. -/
def Chip.endOffload (x : Chip) : Chip :=
  let y := x.bl.offOut.foldl (fun (y : Chip) o => match y.job o.fn o.num with
    | some j => if j.old then y.abandonJob j false else (y.setJob { j with onTwin := false, st := .ready }).countJobs
    | none => y) x
  let y := y.bl.offIn.foldl (fun (y : Chip) o => match y.job 127 o.num with
    | some j => if j.cores = [] then y.abandonJob j false else
        (y.setJob { j with old := true }).requestPreempt fun k => k.is 127 o.num
    | none => y) y
  (y.setBl fun b => { b with offOut := [], offIn := [], stage := [] })

/-- The hot shadow is ready only on a Follow whose secure world is up, with every critical head compared clean twice (R358). -/
def Chip.updShadow (x : Chip) : Chip :=
  let heads := (List.range 16).filter x.critical
  let good := heads.all fun h => x.bl.heads.any fun s => s.head = h && (decide (2 ≤ s.clean) && decide (s.missed < 8))
  x.flag BL_STAT_SHADOW_RDY (x.follow && (x.secUp && good))

/-- Protected layers of heads become stale at once. -/
def Chip.staleNow (x : Chip) (hs : List Nat) : Chip :=
  hs.foldl (fun (y : Chip) h => match y.protUnit h with
    | some u => if (y.layer u).isSome then y.setStale h true else y
    | none => y) x

/-- The twin is lost, and a Follow takes over (R351, R365, R371). Assumption log, row 79. -/
def Chip.loseTwin (x : Chip) : Chip :=
  let y := (x.sat BL_DETACH_LOST).raise 421
  if y.get BL_STAT_ATTACH != 6 then
    let hung := y.lkState 2 = lkUp
    ((y.attachFail (if hung then 10 else 9)).blDown).setBl fun b => { b with hung := hung }
  else
    let hung := y.lkState 2 = lkUp
    let takes := y.follow && !y.kennel
    let ready := y.on BL_STAT_SHADOW_RDY
    let y := (y.set BL_STAT_ATTACH 0).unsupervise
    let y := (((y.setMode GL_MODE_PAIR (if takes then 1 else 0)).flag GL_MODE_TWIN_SERVICE false).flag GL_MODE_TWIN_KENNEL false)
    let y := if takes then (y.setHold 15).raise 425 else y
    let y := if takes && !ready then y.staleNow ((List.range 16).filter y.critical) else y
    let y := ((y.updShadow).twinChange (if takes then 5 else 4)).blDown
    (y.endOffload.setBl fun b => { b with hung := hung }).tbSource

/-- TWIN_LOST: 750 µs without a LEASH. Assumption log, row 79. -/
def twinLost (x : Chip) : Chip :=
  if !x.bl.supervised then x else ((x.leashAge (max x.bl.age (750 * tps / 1000000))).set BL_LEASH_MISSED 3).loseTwin

/-- HUNG_TWIN: COLD_REQ goes out once (R352). -/
def hungTwin (w : Work) : Work :=
  if w.x.bl.hung && w.x.lkState 2 = lkUp then
    (w.on fun y => (y.blSend 5 10 []).setBl fun b => { b with hung := false }).blPump
  else w

/-- This chip's proof tile failed: it leaves the pair (R361, R362). -/
def Chip.leavePair (x : Chip) (w : Work) : Work :=
  let w := { w with x := x }
  let follow := w.x.follow
  let w := w.on fun y =>
    let y := (y.degrade GL_DEG_CAUSE_PROOF_FAIL).staleNow (List.range 16)
    y.setHold 0
  let w := if follow then (w.on fun y => y.blSend 5 5 [1, 0, 0, 0]).blPump else w
  w.on fun y =>
    let was := y.paired
    let y := if y.get BL_STAT_ATTACH = 6 then (y.set BL_STAT_ATTACH 0).unsupervise else y.attachFail 10
    let y := ((y.setMode GL_MODE_PAIR 0).flag GL_MODE_TWIN_SERVICE false).flag GL_MODE_TWIN_KENNEL false
    let y := y.updShadow.endOffload.blDown
    (if was then y.twinChange 7 else y).tbSource

/-- LEAVE: the twin has left (R360). -/
def leaveIn (h : MsgHdr) (w : Work) : Work :=
  blMsg h 5 4 (fun w => w.on fun y =>
    if !y.paired then y
    else
      let y := (y.set BL_STAT_ATTACH 0).unsupervise
      let y := ((y.setMode GL_MODE_PAIR 0).flag GL_MODE_TWIN_SERVICE false).flag GL_MODE_TWIN_KENNEL false
      (y.updShadow.endOffload).twinChange 6) w

/-! ### The leash (R351) -/

/-- LEASH STATE (R350). -/
def Chip.leashState (x : Chip) : Nat :=
  x.get RB_STRAP_TWIN_ID + (2 * b2n x.kennel + (4 * b2n x.secUp + (8 * b2n (x.on BL_STAT_SHADOW_RDY) +
    (16 * b2n (x.get BL_STAT_HOLD != 0) + 32 * b2n (x.on GL_DEG_CAUSE_PROOF_FAIL)))))

/-- The twin's mode is as reported (R27, R38): a Commission session closes when the twin enters Service. While the attach
is under way it stands beside the twin's HELLO, for phase 6. -/
def Chip.twinMode (x : Chip) (m : Nat) : Chip :=
  let y := x.set BL_TWIN_MODE_MODE m
  if !y.paired then y.setBl fun b => { b with hello := b.hello.map fun h =>
    { h with access := BitVec.ofNat 8 (bits m 4 2), integ := BitVec.ofNat 8 (bits m 6 2) } }
  else
    let service := bits m 4 2 = 2
    let y := (y.flag GL_MODE_TWIN_SERVICE service).flag GL_MODE_TWIN_KENNEL (bits m 6 2 = 2)
    if service && y.get GL_MODE_ACCESS = 1 then y.endSession 6 else y

/-- LEASH received. -/
def leashIn (h : MsgHdr) (count mode : Nat) (w : Work) : Work :=
  blMsg h 0 24 (fun w => w.on fun y =>
    let y := (y.setBl fun b => { b with hung := false }).set BL_LEASH_RX_COUNT count
    if y.bl.supervised then ((y.leashAge 0).set BL_LEASH_MISSED 0).twinMode mode else y) w

/-- LEASH_MISSED. Assumption log, row 79. -/
def leashMissed (x : Chip) : Chip :=
  if !x.bl.supervised then x
  else
    let n := x.get BL_LEASH_MISSED + 1
    ((x.leashAge (max x.bl.age (n * 250 * tps / 1000000))).set BL_LEASH_MISSED (min n 3)).raise 420

/-- An orderly detach happens at this chip's LEASH (R367). -/
def Chip.detachNow (x : Chip) : Chip :=
  let call := x.bl.detach
  let follow := x.follow
  let y := ((x.set BL_STAT_ATTACH 0).unsupervise.freeCopies).setMode GL_MODE_PAIR 0
  let y := (y.flag GL_MODE_TWIN_SERVICE false).flag GL_MODE_TWIN_KENNEL false
  let y := if follow then y.setHold 0 else y
  let y := ((((y.updShadow).endOffload).sat BL_DETACH_ORDERLY).raise 424).twinChange 3
  match call with
  | some c => (y.setBl fun b => { b with detach := none }).ok opDetach c []
  | none => y

/-- LEASH_SEND: every 250 µs; an attach or a detach that waits for it happens with it. -/
def leashSend (w : Work) : Work :=
  if !w.x.bl.supervised then w.blPump
  else
    let w := w.on fun y => y.setBl fun b => { b with count := (b.count + 1) % 2 ^ 32 }
    let x := w.x
    let body := wordBytes x.bl.count ++ (wordBytes x.modeWord ++ (wordBytes (x.get TB_SEC_SEC) ++ (wordBytes (x.get TB_TICK_TICK) ++
      ([x.leashState] ++ List.replicate 7 0))))
    let w := (w.on fun y => y.blSend 0 1 body).blPump
    w.on fun y =>
      if y.bl.detachGo then y.detachNow
      else if y.get BL_STAT_ATTACH = 5 && (y.bl.syncSent && y.bl.syncGot) then y.pairUp else y

/-- MODE. -/
def modeIn (h : MsgHdr) (mode : Nat) (w : Work) : Work := blMsg h 5 4 (fun w => w.on fun y => y.twinMode mode) w

/-! ### Detach (R367) -/

/-- DETACH. Assumption log, row 77. -/
def detachCmd (c : Call) (mem : List Host.Cell) (x : Chip) : Chip × List (Nat × Byte) :=
  x.performM opDetach c fun x =>
    if c.words.length != 0 then (x.badLength opDetach c, [])
    else if !x.paired then
      (if x.get BL_STAT_ATTACH = 0 then (x.deniedMode opDetach c, [])
       else runWork (fun w => (w.on fun y => 
         ((y.attachFail 11).onlyIf (y.lkState 2 = lkUp) (·.blSend 5 3 [])).ok opDetach c []).blPump) mem x)
    else if !x.bl.supervised then
      ((x.setMode GL_MODE_PAIR 0).twinChange 3 |>.ok opDetach c [], [])
    else
      let y := x.setBl fun b => { b with detach := some c }
      runWork (fun w => (w.on fun y =>
        if y.bl.detachIn then (y.blSend 5 4 []).setBl fun b => { b with detachGo := true } else y.blSend 5 3 []).blPump) mem y

/-- A DETACH of this chip still waits: it has not timed out. -/
def Chip.detachWaits (x : Chip) : Bool :=
  match x.bl.detach with
  | some c => x.dispatchedCall opDetach c
  | none => false

/-- DETACH_REQ; during an attach it says that the twin has cancelled it (R354). Assumption log, row 77. -/
def detachReq (h : MsgHdr) (w : Work) : Work :=
  blMsg h 5 0 (fun w => w.on fun y =>
    if !y.paired then y.attachFail 11 else
    let y := y.setBl fun b => { b with detachIn := true }
    if y.detachWaits then (y.blSend 5 4 []).setBl fun b => { b with detachGo := true } else y) w

/-- DETACH_ACK. -/
def detachAck (h : MsgHdr) (w : Work) : Work :=
  blMsg h 5 0 (fun w => w.on fun y => if y.paired && y.detachWaits then y.setBl fun b => { b with detachGo := true } else y) w

/-- TWIN_QUERY. -/
def twinQuery (c : Call) (x : Chip) : Chip :=
  x.perform opTwinQuery c fun x =>
    if c.words.length != 0 then x.badLength opTwinQuery c
    else x.ok opTwinQuery c [x.regWord BL_STAT_LINK 0, x.get BL_TWIN_MODE_MODE, x.get BL_ATTACH_RES_CODE,
      x.get BL_LEASH_AGE + 65536 * x.get BL_LEASH_MISSED, x.get BL_TIME_OFS_TICKS]

/-! ### Mirror messages received (R357) -/

/-- The copy of a twin's allocation. -/
def Chip.copyOf (x : Chip) (idx tag : Nat) : Option MCopy := x.bl.copies.find? fun c => c.idx = idx && c.tag = tag

/-- BL_MIRROR_IN follows the copies. -/
def Chip.updMirrorIn (x : Chip) : Chip :=
  let units := (x.bl.copies.map fun c => match x.entry c.entry with
    | some e => e.size
    | none => 0).sum
  x.set BL_MIRROR_IN_MIB (ceilDiv units 16)

/-- MIRROR_OPEN: a firmware entry of the same class takes the copy, charged to no function. -/
def mirrorOpen (h : MsgHdr) (idx tag cls size : Nat) (w : Work) : Work :=
  let body := halfBytes idx ++ (halfBytes tag ++ ([cls, 0, 0, 0] ++ (wordBytes size ++ [0, 0, 0, 0])))
  blTapped h 1 body (fun w => w.on fun y =>
    if y.get BL_STAT_ATTACH < 5 || (y.copyOf idx tag).isSome then y
    else
      match y.freeIndex with
      | none => y
      | some i =>
        if y.roomUnits < size then y
        else
          let e := y.newEntry i 127 (cls % 16) size 0 false
          ((y.took.setEntry e).setBl fun b => { b with copies := b.copies ++ [⟨idx, tag, i⟩] }).updMirrorIn) w

/-- MIRROR_WRITE: bytes of a copy, applied in order. -/
def mirrorWrite (h : MsgHdr) (idx tag off : Nat) (bs : List Nat) (w : Work) : Work :=
  if bs = [] || 4096 < bs.length then w.on fun y => y.sat BL_VIOL_COUNT
  else
    blTapped h 1 (halfBytes idx ++ (halfBytes tag ++ (longBytes off ++ (wordBytes bs.length ++ bs)))) (fun w =>
      let w := w.on fun y => y.setBl fun b => { b with applied := h.id.toNat + 1 }
      match w.x.copyOf idx tag with
      | none => w
      | some c => match w.x.entry c.entry with
        | some e => if off + bs.length ≤ e.size * 65536 then w.store (handleOf e + off) bs else w
        | none => w) w

/-- MIRROR_CLOSE. -/
def mirrorClose (h : MsgHdr) (idx tag : Nat) (w : Work) : Work :=
  blTapped h 1 (halfBytes idx ++ halfBytes tag) (fun w => w.on fun y =>
    match y.copyOf idx tag with
    | none => y
    | some c =>
      let y := match y.entry c.entry with
        | some e => y.freeEntry e
        | none => y
      (y.setBl fun b => { b with copies := b.copies.filter fun d => d != c }).updMirrorIn) w

/-! ### Signatures and proof tiles (R358 to R361) -/

/-- What is known of a critical head's comparisons. Assumption log, row 79. -/
def Chip.sigHead (x : Chip) (h : Nat) : SigHead := (x.bl.heads.find? fun s => s.head = h).getD { head := h }

/-- It changes. -/
def Chip.setSigHead (x : Chip) (s : SigHead) : Chip :=
  x.setBl fun b => { b with heads := (b.heads.filter fun t => t.head != s.head) ++ [s] }

/-- SIG_TILES and SIG_END of one set; the signature of a core that failed its proof tile is free (R350). Assumption
log, row 75. -/
def Chip.sendSigs (x : Chip) (s : SigSet) : Chip :=
  let n := s.sigs.length
  let y := (List.range (ceilDiv n 2045)).foldl (fun (y : Chip) i =>
    let part := (s.sigs.drop (2045 * i)).take 2045
    y.blSend 2 1 ([s.head, 0] ++ (halfBytes (2045 * i) ++ (wordBytes s.pfn ++ (halfBytes part.length ++ ([0, 0] ++
      part.flatMap wordBytes)))))) x
  y.blSend 2 2 ([s.head, 0] ++ (halfBytes n ++ (wordBytes s.pfn ++ ([b2n s.failed, 0, 0, 0] ++
    wordBytes (if s.failed then y.free 32 else y.get BL_PROOF_EXP_EXP)))))

/-- The critical head whose protected layer a secure render job draws: one of its signed colour targets lies in a
PROTECTED allocation of the head (R357, R359). Assumption log, row 75. -/
def Chip.protJob (x : Chip) (j : Job) : Option Nat :=
  if !j.world || !x.paired then none
  else ((x.sw.alloc.find? fun a => x.critical a.1 && j.targets.any fun t => t.sigOn && hIndex t.addr = a.2)).map (·.1)

/-- A protected render is accepted: the Lead numbers it and sends its inputs, the descriptor and the draw records,
before the job is dispatched (R357); the Follow renders the PFN of the inputs it holds (R358). Assumption log, rows
75, 76. -/
def Chip.protSubmit (x : Chip) (j : Job) (bytes : List Nat) : Chip × Option (Nat × Nat) :=
  match x.protJob j with
  | none => (x, none)
  | some h =>
    if x.follow then (x, ((x.bl.inputs.find? fun p => p.1 = h).map fun p => (h, p.2.1)))
    else
      let n := (sparseGet x.bl.pfn h 0 + 1) % 2 ^ 32
      ((x.setBl fun b => { b with pfn := sparseSet b.pfn h n 0 }).sendState h 3 n (bytes.take 8184), some (h, n))

/-- SIG_TILES. Assumption log, row 75. -/
def sigTiles (h : MsgHdr) (head first pfn : Nat) (sigs : List Nat) (w : Work) : Work :=
  if sigs = [] || 2045 < sigs.length then w.on fun y => y.sat BL_VIOL_COUNT
  else
    blMsg h 2 (12 + 4 * sigs.length) (fun w => w.on fun y =>
      let old := match y.bl.theirs.find? fun s => s.head = head && s.pfn = pfn with
        | some s => s.sigs
        | none => []
      let all := (old.take first) ++ (List.replicate (first - old.length) 0 ++ (sigs ++ old.drop (first + sigs.length)))
      y.setBl fun b => { b with theirs := (b.theirs.filter fun s => !(s.head = head && s.pfn = pfn)) ++
        [(⟨head, pfn, all, false, none⟩ : SigSet)] }) w

/-- Two complete sets are compared, tile by tile; a disagreement is a mismatch of one tile in two consecutive PFNs
(R359). Assumption log, row 75. -/
def Chip.compareSigs (x : Chip) (h pfn tiles : Nat) (twinFailed : Bool) : Chip :=
  match x.bl.mine.find? fun s => s.head = h && s.pfn = pfn with
  | none => x
  | some m =>
    let t := match x.bl.theirs.find? fun s => s.head = h && s.pfn = pfn with
      | some t => t.sigs
      | none => []
    let bad := (List.range (min tiles m.sigs.length)).filter fun i => m.sigs.getD i 0 != t.getD i 0
    let y := x.sat BL_SIG_MISM_COUNT 0 bad.length
    let y := bad.foldl (fun (y : Chip) _ => y.raise 426) y
    let s := y.sigHead h
    let both := match s.prev with
      | some p => if (p.1 + 1) % 2 ^ 32 = pfn then bad.filter fun i => p.2.contains i else []
      | none => []
    let y := y.setBl fun b => { b with theirs := b.theirs.filter fun s => !(s.head = h && s.pfn = pfn) }
    let clean := bad = [] && (!m.failed && !twinFailed)
    let y := (y.setSigHead { s with
      prev := some (pfn, bad), proofs := (m.failed, twinFailed), clean := if clean then s.clean + 1 else 0, missed := 0 }).updShadow
    match both with
    | [] => y
    | i :: _ =>
      let proof := b2n (m.failed || s.proofs.1) + 2 * b2n (twinFailed || s.proofs.2)
      (((y.degrade GL_DEG_CAUSE_SIG_DISAGREE).raise 427).notice 0 0x9801 [h, pfn, i, proof]).journal 10 0

/-- SIG_END: the twin's set is whole, and is compared where this chip has its own; else it waits. Assumption log, rows
75, 77. -/
def sigEnd (h : MsgHdr) (head tiles pfn : Nat) (failed : Bool) (w : Work) : Work :=
  blMsg h 2 16 (fun w => w.on fun y =>
    if !y.paired || !y.critical head then y
    else if y.bl.mine.any fun s => s.head = head && s.pfn = pfn then y.compareSigs head pfn tiles failed
    else y.setBl fun b => { b with
      theirs := updAll b.theirs (fun s => s.head = head && s.pfn = pfn) fun s => { s with ended := some (tiles, failed) } }) w

/-- A protected render is done: its signatures are sent, a proof tile that failed ends the pair, and the twin's set is
compared where it has arrived (R359 to R361). Assumption log, row 75. -/
def Work.protDone (w : Work) (h pfn : Nat) (sigs : List Nat) : Work :=
  if !w.x.paired || !w.x.critical h then w
  else
    let failed := w.x.free 1 = 1
    let s : SigSet := ⟨h, pfn, sigs, failed, none⟩
    let w := w.on fun y => (y.took.setBl fun b => { b with
      mine := (b.mine.filter fun t => t.head != h || t.pfn + 1 = pfn) ++ [s] }).sendSigs s
    if failed then ((w.x.sat BL_PROOF_FAIL_COUNT).raise 428).leavePair w
    else match w.x.bl.theirs.find? fun s => s.head = h && s.pfn = pfn with
      | some t => match t.ended with
        | some e => w.on fun y => y.compareSigs h pfn e.1 e.2
        | none => w
      | none => w

/-- SIG_LATE: the twin's set missed its bound after this chip's own, and is not compared. Assumption log, row 75. -/
def sigLate (head pfn : Nat) (x : Chip) : Chip :=
  let s := x.sigHead head
  if !(x.bl.mine.any fun m => m.head = head && m.pfn = pfn) || s.prev.any fun p => p.1 = pfn then x
  else
    let y := ((x.sat BL_SIG_LATE_COUNT).raise 429).setBl fun b => { b with
      theirs := b.theirs.filter fun t => !(t.head = head && t.pfn = pfn) }
    (y.setSigHead { s with prev := none, clean := 0, missed := s.missed + 1 }).updShadow

/-- MIRROR_STATE: items 1, 2 and 4 are queued for the head's commit line; item 3 brings the inputs of a PFN, which the
Follow's secure world renders (R357, R358). Assumption log, row 76. -/
def mirrorState (h : MsgHdr) (head item num : Nat) (bs : List Nat) (w : Work) : Work :=
  if 8184 < bs.length then w.on fun y => y.sat BL_VIOL_COUNT
  else
    blTapped h 1 ([head, item] ++ (halfBytes bs.length ++ (wordBytes num ++ bs))) (fun w =>
      let ws := bytesWords bs
      let change := fun (u : Option Nat) (k : ChangeKind) (y : Chip) =>
        y.queue head [⟨num, head, u, 128, k, false, false, 0⟩]
      match item with
      | 1 => w.on (change none (.background (ws.getD 0 0) (ws.getD 1 0)))
      | 2 => w.on (change none (.tone (ws.getD 0 0) ((ws.drop 1).take 9) (bs.drop 40)))
      | 4 => match w.x.protUnit head with
        | some u => w.on (change (some u) (if bs = [] then .protRemove else .prot ws))
        | none => w
      | 3 =>
        w.on fun y => y.setBl fun b => { b with inputs := (b.inputs.filter fun p => p.1 != head) ++ [(head, num, bs)] }
      | _ => w.on fun y => y.sat BL_VIOL_COUNT) w

/-! ### Time (R351, R439) -/

/-- The counter as a stamp's bytes. -/
def Chip.stamp (x : Chip) : List Nat := wordBytes (x.get TB_SEC_SEC) ++ wordBytes (x.get TB_TICK_TICK)

/-- A stamp's bytes. -/
def stampBytes (t : Stamp) : List Nat := wordBytes t.sec.toNat ++ wordBytes t.tick.toNat

/-- A stamp as a count of ticks. Assumption log, row 78. -/
def stampTicks (t : Stamp) : Int := (t.sec.toNat : Int) * tps + t.tick.toNat

/-- TIME_PROBE: answered with its own time, its arrival and the echo's transmit. Assumption log, row 78. -/
def timeProbe (h : MsgHdr) (t1 : Stamp) (w : Work) : Work :=
  blMsg h 4 8 (fun w => w.on fun y => y.blSend 4 2 (stampBytes t1 ++ (y.stamp ++ y.stamp))) w

/-- TIME_PROBE_SEND. -/
def timeProbeSend (w : Work) : Work :=
  if w.x.bl.supervised then (w.on fun y => y.blSend 4 1 y.stamp).blPump else w

/-- θ of an exchange takes effect: the Follow steps on its first exchange and beyond 10 µs, else its loop runs (R439).
Assumption log, row 78. -/
def Chip.theta (x : Chip) (e : Int) : Chip :=
  let y := x.set BL_TIME_OFS_TICKS (ofS 16 (clampI e (-32768) 32767))
  let big := decide (12288 < e.natAbs)
  let far := decide (24 < e.natAbs)
  let held := decide (8 ≤ x.bl.near)
  let near := if far then 0 else min (x.bl.near + 1) 8
  let y := y.raiseIf (held && far) 485
  let first := !x.bl.timed
  let y := y.setBl fun b => { b with timed := true, near := near }
  if !y.follow then y
  else
    let y := y.flag TB_STAT_ALIGNED (decide (8 ≤ near))
    if first || big then (y.flag TB_STAT_VALID true).stepClock (((x.now : Int) - e).toNat)
    else y.slew (1000 * e) tpms

/-- TIME_ECHO completes an exchange. Assumption log, row 78. -/
def timeEcho (h : MsgHdr) (t1 t2 t3 : Stamp) (w : Work) : Work :=
  blMsg h 4 24 (fun w => w.on fun y =>
    if !y.bl.supervised then y
    else
      let t4 : Int := y.now
      let d := (stampTicks t1 - stampTicks t2) + (t4 - stampTicks t3)
      y.theta (if y.follow then d / 2 else -d / 2)) w

/-! ### Flits (R347, R348) -/

/-- BOWLINE_TRAIN. -/
def blTrain (h : FlitHdr) (t : Train) (w : Work) : Work :=
  let w := w.on fun y => y.flag BL_STAT_TWIN_SEEN true
  let w := if w.x.lkState 2 = lkRetrain then
      let r := w.x.lkAck 2 h
      { w with x := r.1.blAck r.2 }
    else w
  let r := w.x.lkTrainIn 2 t
  let w := { w with x := r.1 }
  match r.2 with
  | none => w
  | some resumed =>
    let w := if resumed then
        let q := w.x.lkResumed 2 t.expected.val
        { w with x := (q.1.blAck q.2).lkEnter 2 lkUp false }
      else w.on fun y => ((y.lkClear 2).blUpReset).lkEnter 2 lkUp true
    let w := w.on fun y => y.lkRaise 2 0
    (if w.x.get BL_STAT_ATTACH = 1 then w.on Chip.identity else w).blPump

/-- The ACK of a flit that brings no message. -/
def Work.blHeader (w : Work) (h : FlitHdr) : Work :=
  let r := w.x.lkAck 2 h
  { w with x := r.1.blAck r.2 }

/-- BOWLINE_IDLE. -/
def blIdle (h : FlitHdr) (w : Work) : Work := if w.x.lkState 2 = lkUp then (w.blHeader h).blPump else w

/-- BOWLINE_CREDIT. -/
def blCredit (h : FlitHdr) (gs : List Grant) (w : Work) : Work :=
  if w.x.lkState 2 != lkUp then w
  else
    let w := w.blHeader h
    let t := w.x.lkTake 2 h.seq.val
    let y := if t.2 then t.1.setBl fun b => { b with
        txCredit := (gs.take 14).foldl (fun (m : List (Nat × Nat)) g => if blCredited (g.stream.val % 8) then
          sparseSet m (g.stream.val % 8) (sparseGet m (g.stream.val % 8) 0 + 4 * g.units.toNat) 0 else m) b.txCredit } else t.1
    ({ w with x := y }).blPump

/-- BOWLINE_NAK. -/
def blNak (h : FlitHdr) (seq : Nat) (w : Work) : Work :=
  if w.x.lkState 2 != lkUp then w else ((w.blHeader h).on (lkNakIn 2 seq)).blPump

/-! ### Chip B's hold at start (R363) -/

/-- TWIN_B_HOLD_TIMER: 3 s after start-confirm. Assumption log, row 80. -/
def twinBHold (x : Chip) : Chip :=
  if x.on BL_CFG_TWIN_EN && (x.get RB_STRAP_TWIN_ID = 1 && (!x.on BL_STAT_TWIN_SEEN && !x.kennel)) then x.setHold 15 else x

/-- COMMIT_LINE; on a Lead, what changed on a critical head is mirrored (R357). -/
def commitLineAll (h : Nat) (late : LateArms) (w : Work) : Work :=
  let y := commitLine h late w.mem w.x
  if y.get GL_MODE_PAIR = 1 && (y.bl.mirroring && y.critical h) then ({ w with x := y.sendHead h (some w.x) }).blPump
  else { w with x := y }

/-! ### The commands -/

/-- ATTACH. -/
def execAttach (c : Call) (s : State) : Host.Outcome State Fault Refusal := s.onBoth (attachCmd c)
/-- DETACH. -/
def execDetach (c : Call) (s : State) : Host.Outcome State Fault Refusal := s.onBoth (detachCmd c)
/-- TWIN_QUERY. -/
def execTwinQuery (c : Call) (s : State) : Host.Outcome State Fault Refusal := s.onChip (twinQuery c)
/-- LEASH. -/
def execLeash (h : MsgHdr) (count : Word) (mode : BitVec 24) (_at : Stamp) (_state : BitVec 8) (s : State) :
    Host.Outcome State Fault Refusal := s.onSkein (leashIn h count.toNat mode.toNat)
/-- LEASH_SEND. -/
def execLeashSend (s : State) : Host.Outcome State Fault Refusal := s.onSkein leashSend
/-- LEASH_MISSED. -/
def execLeashMissed (s : State) : Host.Outcome State Fault Refusal := s.onChip leashMissed
/-- TWIN_LOST. -/
def execTwinLost (s : State) : Host.Outcome State Fault Refusal := s.onChip twinLost
/-- HUNG_TWIN. -/
def execHungTwin (s : State) : Host.Outcome State Fault Refusal := s.onSkein hungTwin
/-- HELLO. -/
def execHello (h : MsgHdr) (m : Hello) (s : State) : Host.Outcome State Fault Refusal := s.onSkein (helloIn h m)
/-- ELECT. -/
def execElectMsg (h : MsgHdr) (lead : BitVec 8) (sync : Bool) (s : State) : Host.Outcome State Fault Refusal :=
  s.onSkein (electIn h lead.toNat sync)
/-- HELLO_TIMEOUT. -/
def execHelloTimeout (s : State) : Host.Outcome State Fault Refusal := s.onChip helloTimeout
/-- ATTACH_TIMEOUT. -/
def execAttachTimeout (s : State) : Host.Outcome State Fault Refusal := s.onChip attachTimeout
/-- MIRROR_OPEN. -/
def execMirrorOpen (h : MsgHdr) (idx : Fin 8192) (tag : BitVec 16) (cls : BitVec 8) (size : Word) (s : State) :
    Host.Outcome State Fault Refusal := s.onSkein (mirrorOpen h idx.val tag.toNat cls.toNat size.toNat)
/-- MIRROR_WRITE. -/
def execMirrorWrite (h : MsgHdr) (idx : Fin 8192) (tag : BitVec 16) (offset : BitVec 64) (data : List Byte) (s : State) :
    Host.Outcome State Fault Refusal := s.onSkein (mirrorWrite h idx.val tag.toNat offset.toNat (data.map (·.toNat)))
/-- MIRROR_CLOSE. -/
def execMirrorClose (h : MsgHdr) (idx : Fin 8192) (tag : BitVec 16) (s : State) : Host.Outcome State Fault Refusal :=
  s.onSkein (mirrorClose h idx.val tag.toNat)
/-- MIRROR_STATE. -/
def execMirrorState (h : MsgHdr) (head : Fin 16) (item : BitVec 8) (num : Word) (data : List Byte) (s : State) :
    Host.Outcome State Fault Refusal := s.onSkein (mirrorState h head.val item.toNat num.toNat (data.map (·.toNat)))
/-- SYNC_DONE. -/
def execSyncDone (h : MsgHdr) (last : Word) (s : State) : Host.Outcome State Fault Refusal := s.onSkein (syncDone h last.toNat)
/-- SIG_TILES. -/
def execSigTiles (h : MsgHdr) (head : Fin 16) (first : BitVec 16) (pfn : Word) (sigs : List Word) (s : State) :
    Host.Outcome State Fault Refusal := s.onSkein (sigTiles h head.val first.toNat pfn.toNat (sigs.map (·.toNat)))
/-- SIG_END. -/
def execSigEnd (h : MsgHdr) (head : Fin 16) (tiles : BitVec 16) (pfn : Word) (failed : Bool) (_sig : Word) (s : State) :
    Host.Outcome State Fault Refusal := s.onSkein (sigEnd h head.val tiles.toNat pfn.toNat failed)
/-- SIG_LATE. -/
def execSigLate (head : Fin 16) (pfn : Word) (s : State) : Host.Outcome State Fault Refusal := s.onChip (sigLate head.val pfn.toNat)
/-- TIME_PROBE. -/
def execTimeProbe (h : MsgHdr) (t1 : Stamp) (s : State) : Host.Outcome State Fault Refusal := s.onSkein (timeProbe h t1)
/-- TIME_PROBE_SEND. -/
def execTimeProbeSend (s : State) : Host.Outcome State Fault Refusal := s.onSkein timeProbeSend
/-- TIME_ECHO. -/
def execTimeEcho (h : MsgHdr) (t1 t2 t3 : Stamp) (s : State) : Host.Outcome State Fault Refusal :=
  s.onSkein (timeEcho h t1 t2 t3)
/-- DETACH_REQ. -/
def execDetachReq (h : MsgHdr) (s : State) : Host.Outcome State Fault Refusal := s.onSkein (detachReq h)
/-- DETACH_ACK. -/
def execDetachAck (h : MsgHdr) (s : State) : Host.Outcome State Fault Refusal := s.onSkein (detachAck h)
/-- LEAVE. -/
def execLeaveMsg (h : MsgHdr) (_reason : BitVec 8) (s : State) : Host.Outcome State Fault Refusal := s.onSkein (leaveIn h)
/-- MODE. -/
def execModeMsg (h : MsgHdr) (mode : BitVec 24) (s : State) : Host.Outcome State Fault Refusal := s.onSkein (modeIn h mode.toNat)
/-- BOWLINE_BAD_FLIT. -/
def execBowlineBadFlit (bad : BadFlit) (s : State) : Host.Outcome State Fault Refusal := s.onChip (lkBad 2 bad)
/-- BOWLINE_NAK. -/
def execBowlineNak (h : FlitHdr) (seq : Fin 1024) (s : State) : Host.Outcome State Fault Refusal := s.onSkein (blNak h seq.val)
/-- BOWLINE_TRAIN. -/
def execBowlineTrain (h : FlitHdr) (t : Train) (s : State) : Host.Outcome State Fault Refusal := s.onSkein (blTrain h t)
/-- BOWLINE_CREDIT. -/
def execBowlineCredit (h : FlitHdr) (grants : List Grant) (s : State) : Host.Outcome State Fault Refusal :=
  s.onSkein (blCredit h grants)
/-- BOWLINE_REPLAY_TIMEOUT. -/
def execBowlineReplayTimeout (s : State) : Host.Outcome State Fault Refusal := s.onChip (lkTimeout 2)
/-- BOWLINE_LINK_TIMEOUT. -/
def execBowlineLinkTimeout (s : State) : Host.Outcome State Fault Refusal := s.onChip blLinkTimeout
/-- BOWLINE_RETRY. -/
def execBowlineRetry (s : State) : Host.Outcome State Fault Refusal := s.onChip blRetry
/-- BOWLINE_BLOCK_LOCK. -/
def execBowlineBlockLock (lane : Fin 8) (s : State) : Host.Outcome State Fault Refusal := s.onChip (lkLock 2 lane.val)
/-- BOWLINE_BLOCK_LOCK_LOSS. -/
def execBowlineBlockLockLoss (lane : Fin 8) (s : State) : Host.Outcome State Fault Refusal := s.onChip (lkLockLoss 2 lane.val)
/-- BOWLINE_IDLE. -/
def execBowlineIdle (h : FlitHdr) (s : State) : Host.Outcome State Fault Refusal := s.onSkein (blIdle h)
/-- TWIN_B_HOLD_TIMER. -/
def execTwinBHoldTimer (s : State) : Host.Outcome State Fault Refusal := s.onAon twinBHold
/-- AUTO_ATTACH_TIMER. -/
def execAutoAttachTimer (s : State) : Host.Outcome State Fault Refusal := s.onSkein autoAttach
/-- COMMIT_LINE. -/
def execCommitLine (head : Fin 16) (late : LateArms) (s : State) : Host.Outcome State Fault Refusal :=
  s.onSkein (commitLineAll head.val late)
/-- HPD_CHANGE. -/
def execHpdChange (port : Fin 10) (level : Bool) (s : State) : Host.Outcome State Fault Refusal :=
  s.onChip (hpdChange port.val level)
/-- HEAD_LINE0. -/
def execHeadLine0 (head : Fin 16) (s : State) : Host.Outcome State Fault Refusal := s.onChipM (headLine0 head.val)

end Sys2Proof.Machine
end

