-- ==== Sys2Proof/Machine/Memory.lean ====
section
/-!
DEFINITION. The memory controllers and the map walker (14_memory_controller.md, R19, R113, R121 to R128): how a request is
checked and lands on channels, refresh, row disturbance, errors, channel states, training, and the evacuations they start.
-/
namespace Sys2Proof.Machine

/-! ### Channels -/

/-- A channel's own state. -/
def Chip.ch (x : Chip) (c : Nat) : McChan := x.mc.chan.getD c {}

/-- It changes. -/
def Chip.setCh (x : Chip) (c : Nat) (f : McChan → McChan) : Chip :=
  { x with mc := { x.mc with chan := updAt x.mc.chan c f } }

/-- States of a channel (R388). -/
def chInService : Nat := 0
/-- Disturbed. -/
def chDisturbed : Nat := 1
/-- Retraining. -/
def chRetraining : Nat := 2
/-- Retired. -/
def chRetired : Nat := 3

/-- A channel takes a state; the Herder and MC_STAT see it, and source 71 tells of a disturbed or retired one. -/
def Chip.chanState (x : Chip) (c v : Nat) : Chip :=
  let old := x.get MCn_CHk_STAT_STATE c
  let w := x.get HB_CHAN_STAT_CH
  let y := (x.set MCn_CHk_STAT_STATE v c).set HB_CHAN_STAT_CH (w - bits w (2 * c) 2 * 4 ^ c + v * 4 ^ c)
  (y.setBit MC_STAT_INSVC c (v = 0)).raiseIf (old != v && (v = 1 || v = 3)) 71

/-- The channel was retired by training that failed, and serves nothing (R389). -/
def Chip.dead (x : Chip) (c : Nat) : Bool :=
  x.get MCn_CHk_STAT_STATE c = 3 && x.get MCn_CHk_STAT_RETIRE_CAUSE c != 3

/-! ### Addresses (R378, R379) -/

/-- Channel numbers of a set, ascending. -/
def chanList (mask : Nat) : List Nat := (List.range 16).filter fun c => bitAt mask c

/-- Channel and local address of a byte of an allocation placed by order, channel set and base. -/
def chanLocal (order chanset pbase off : Nat) : Nat × Nat :=
  let cs := chanList chanset
  if order < 2 then
    let g := if order = 0 then 256 else 4096
    let k := max 1 cs.length
    let i := off / g
    (cs.getD (i % k) 0, pbase * 65536 + i / k * g + off % g)
  else (cs.getD 0 0, pbase * 65536 + off)

/-- Bytes of a rank of a channel. Assumption log, row 83. -/
def Chip.rankBytes (x : Chip) (c : Nat) : Nat :=
  let mib := x.get MCn_CHk_SIZE_MIB c
  (if mib = 0 then x.get HB_MEM_CFG_MIB else mib) * 1048576 / (if x.mc.ranks2 then 2 else 1)

/-- The row a local address lies in; ORDER_D's addresses lie within one bank group. -/
def Chip.rowOf (x : Chip) (c order bgrp a : Nat) : McRow :=
  let size := if order = 3 then x.rankBytes c / 4 else x.rankBytes c
  let rank := if x.mc.ranks2 && size ≤ a then 1 else 0
  let a := a - rank * size
  if order = 0 then ⟨rank, bits a 6 2, bits a 13 2, a / 32768⟩
  else if order = 3 then ⟨rank, bgrp, bits a 11 2, a / 8192⟩
  else ⟨rank, bits a 11 2, bits a 13 2, a / 32768⟩

/-- Local bytes an allocation takes on each of its channels. -/
def MapEntry.span (e : MapEntry) : Nat :=
  if e.order < 2 then ceilDiv (e.size * 65536) (max 1 (chanList e.chanset).length) else e.size * 65536

/-- The allocation covers a row of channel `c`: the row lies between those of its first and last local bytes, in its
bank group for ORDER_D. -/
def Chip.mcCovers (x : Chip) (c : Nat) (e : MapEntry) (r : McRow) : Bool :=
  let lo := x.rowOf c e.order e.bgrp (e.pbase * 65536)
  let hi := x.rowOf c e.order e.bgrp (e.pbase * 65536 + (e.span - 1))
  let key := fun (q : McRow) => q.rank * 1048576 + q.row
  bitAt e.chanset c && (decide (key lo ≤ key r) && (decide (key r ≤ key hi) && (e.order != 3 || r.bgrp = e.bgrp)))

/-! ### Evacuation (R121, R126, R388) -/

/-- The order in which the allocations of a channel move: PROTECTED, DISPLAY, FORWARD, PARKED, the rest. -/
def evacRank (e : MapEntry) : Nat :=
  if e.cls = 14 then 0 else if e.cls = 3 then 1 else if e.cls = 13 then 2 else if e.cls = 7 then 3 else 4

/-- Valid entries of a list, in evacuation order. -/
def Chip.evacOrder (x : Chip) (ids : List Nat) : List MapEntry :=
  let es := x.hb.map.filter fun e => e.valid && ids.contains e.idx
  (List.range 5).flatMap fun r => es.filter fun e => evacRank e = r

/-- An evacuation off channel `c` starts for an entry. Assumption log, rows 86, 128. -/
def Chip.evacOne (x : Chip) (c : Nat) (e : MapEntry) : Chip :=
  if e.mig != 0 then x else x.moveOff e 1 c

/-- What each channel has named: entries that have left it are struck out, and the next evacuations start. A drift channel
with none left enters Retraining (R388, R392). -/
def Chip.evacChan (x : Chip) (c : Nat) : Chip :=
  let left := (x.ch c).named.filter fun i => match x.entry i with
    | some e => e.valid && bitAt e.chanset c
    | none => false
  let y := x.setCh c fun h => { h with named := left }
  if !x.migOk then y
  else
    let y := (y.evacOrder left).foldl (fun (z : Chip) e => z.evacOne c e) y
    if left = [] && ((y.ch c).drift && y.get MCn_CHk_STAT_STATE c = 1) then
      (((y.chanState c chRetraining).sat MCn_CHk_RETRAIN_COUNT c).raise 456).setCh c fun h => { h with drift := false, tries := 1 }
    else y

/-- Every channel's evacuations. Assumption log, row 86. -/
def Chip.evacuate (x : Chip) : Chip := (List.range 16).foldl Chip.evacChan x

/-- A channel marked disturbed or retired aborts the migrations towards it; the named ones start again elsewhere (R126). -/
def Chip.abortTo (x : Chip) (c : Nat) : Chip :=
  (x.hb.map.filter fun e => e.valid && ((e.mig = 1 || e.mig = 2) && bitAt e.tchanset c)).foldl Chip.abortMig x

/-- Entries named join those of the channel. -/
def Chip.nameFor (x : Chip) (c : Nat) (p : MapEntry → Bool) : Chip :=
  let more := (x.hb.map.filter fun e => e.valid && (bitAt e.chanset c && p e)).map (·.idx)
  x.setCh c fun h => { h with named := h.named ++ more.filter fun i => !h.named.contains i }

/-- The channel is Disturbed, by errors or for drift. Assumption log, row 84. -/
def Chip.disturb (x : Chip) (c : Nat) (drift : Bool) : Chip :=
  let s := x.get MCn_CHk_STAT_STATE c
  if 2 ≤ s then x
  else
    let y := if s = 0 then ((x.chanState c chDisturbed).raise 451).abortTo c else x
    let y := y.setCh c fun h => { h with calm := 0, drift := h.drift || drift }
    let rows := (y.ch c).rows
    let y := if drift then y.nameFor c fun e => [3, 13, 14, 6].contains e.cls
      else y.nameFor c fun e => rows.any fun r => y.mcCovers c e r
    y.evacuate

/-- The channel is Retired (R388, R389): cause 1 training at start, 2 retrain or PLL, 3 errors. Assumption log, row
85. -/
def Chip.retireChan (x : Chip) (c cause : Nat) : Chip :=
  if x.get MCn_CHk_STAT_STATE c = 3 then x
  else
    let y := (((x.chanState c chRetired).set MCn_CHk_STAT_RETIRE_CAUSE cause c).raise 449).degrade GL_DEG_CAUSE_CHAN_RETIRED
    let y := (y.abortTo c).nameFor c fun _ => true
    let m := updAll y.hb.map (fun e => e.mig != 0 && (e.kind = 0 && bitAt e.chanset c)) fun e => { e with kind := 1 }
    let turned := (y.hb.map.filter fun e => e.mig != 0 && (e.kind = 0 && bitAt e.chanset c)).length
    let y := (List.range turned).foldl (fun (y : Chip) _ => y.raise 68) (({ y with hb := { y.hb with map := m } }).migStat)
    let y := y.evacuate
    y.set HB_FREE_MIB_MIB y.freeMib

/-- The channel returns to service. -/
def Chip.chanBack (x : Chip) (c : Nat) : Chip := (x.chanState c chInService).raise 458

/-- An epoch passes for the channels Disturbed by errors: back in service after 1,000 with nothing left to evacuate. -/
def Chip.mcEpoch (x : Chip) : Chip :=
  let y := (List.range 16).foldl (fun (y : Chip) c =>
    if y.get MCn_CHk_STAT_STATE c != 1 || (y.ch c).drift then y
    else
      let z := y.setCh c fun h => { h with calm := h.calm + 1 }
      if 1000 ≤ (z.ch c).calm && (z.ch c).named = [] then z.chanBack c else z) x
  y.evacuate

/-! ### Row disturbance (R384 to R386) -/

/-- BASE_NS and MAX_NS in force. -/
def Chip.throttleNs (x : Chip) : Nat × Nat :=
  let base := clampN (x.get MC_THROTTLE_BASE_NS) 50 3200
  (base, clampN (x.get MC_THROTTLE_MAX_NS) base 3200)

/-- One more activation by a pair. Assumption log, row 84. -/
def bumpPair (ps : List ActBy) (req fn : Nat) (tc0 : Bool) : List ActBy :=
  if ps.any fun p => p.req = req && p.fn = fn then
    updAll ps (fun p => p.req = req && p.fn = fn) fun p => { p with n := p.n + 1, tc0 := tc0 }
  else ps ++ [⟨req, fn, tc0, 1⟩]

/-- The pair with the most activations, the first of equals. Assumption log, row 84. -/
def topPair (ps : List ActBy) : Option ActBy :=
  ps.foldl (fun b p => match b with
    | none => some p
    | some q => if q.n < p.n then some p else some q) none

/-- The pair of a crossing is throttled on its bank, or its wait doubles; a ninth throttle replaces the oldest.
Assumption log, row 84. -/
def Chip.throttle (x : Chip) (c : Nat) (r : McRow) (p : ActBy) : Chip :=
  let bank := (r.rank, r.bgrp, r.bank)
  let mine := fun (t : Throttle) => decide (t.bank = bank) && (t.req = p.req && t.fn = p.fn)
  let ts := (x.ch c).throttles
  let lim := x.throttleNs
  if ts.any mine then
    x.setCh c fun h => { h with throttles := updAll ts mine fun t => { t with wait := min (2 * t.wait) lim.2 } }
  else
    let kept := if ts.length < 8 then ts else ts.drop 1
    let y := (x.raiseIf (8 ≤ ts.length) 455).setCh c fun h => { h with throttles := kept ++ [⟨bank, p.req, p.fn, lim.1⟩] }
    (y.sat MCn_CHk_THR_CNT_COUNT c).raise 454

/-- The rows beside a row in its bank, and those two away under BLAST, nearest first (R384). Assumption log, row 83.
-/
def Chip.neighbours (x : Chip) (c : Nat) (r : McRow) : List McRow :=
  let rows := x.rankBytes c / 32768
  (if x.on MC_DIST_THR_BLAST then [1, 2] else [1]).flatMap fun k =>
    (if k ≤ r.row then [{ r with row := r.row - k }] else []) ++ (if r.row + k < rows then [{ r with row := r.row + k }] else [])

/-- A row crosses the threshold: its neighbours are refreshed, the crossing recorded, and the pair behind it throttled
unless it is in TC0. Assumption log, row 84. -/
def Chip.crossing (x : Chip) (c : Nat) (r : McRow) (ps : List ActBy) : Chip :=
  let y := (((x.set MCn_CHk_DIST_ROW r.row c).set MCn_CHk_DIST_BGRP r.bgrp c).set MCn_CHk_DIST_BANK r.bank c).set
    MCn_CHk_DIST_RANK r.rank c
  let y := (x.neighbours c r).foldl (fun (z : Chip) q => z.emit (.rowRefresh c q)) ((y.sat MCn_CHk_NREF_COUNT c).raise 453)
  match topPair ps with
  | none => y
  | some p =>
    let y := ((y.set MCn_CHk_DISTREQ_REQ p.req c).set MCn_CHk_DISTREQ_FUNC p.fn c).flag MCn_CHk_DISTREQ_THROTTLED (!p.tc0) c
    if p.tc0 then y else y.throttle c r p

/-- A row of channel `c` is activated. Assumption log, row 84. -/
def Chip.activate (x : Chip) (c : Nat) (r : McRow) (req fn tc : Nat) : Chip :=
  let same := fun (k : RowCount) => k.chan = c && decide (k.row = r)
  let k := (x.mc.counts.find? same).getD ⟨c, r, 0, []⟩
  let k := { k with n := k.n + 1, pairs := bumpPair k.pairs req fn (tc = 0) }
  let hot := decide (clampN (x.get MC_DIST_THR_THR) 256 32768 < k.n)
  let k := if hot then { k with n := 0 } else k
  let y := { x with mc := { x.mc with counts := (x.mc.counts.filter fun q => !same q) ++ [k] } }
  if hot then y.crossing c r k.pairs else y

/-- DIST_WINDOW_END: the counts return to zero and the throttles are released; so does the count of corrected errors
(R384, R385, R388). Assumption log, row 84. -/
def distWindowEnd (x : Chip) : Chip :=
  { x with mc := { x.mc with counts := [], chan := x.mc.chan.map fun h => { h with throttles := [], corr := 0 } } }

/-! ### Errors (R387, R388) -/

/-- A corrected error. -/
def Chip.eccCorr (x : Chip) (c : Nat) : Chip :=
  let y := (x.sat MCn_CHk_ECC_CORR c).setCh c fun h => { h with corr := h.corr + 1 }
  if max 1 (x.get MC_ERR_CFG_CORR_THR) ≤ (y.ch c).corr then y.disturb c false else y

/-- An error it cannot correct, at a local address. Assumption log, row 85. -/
def Chip.eccBad (x : Chip) (c a : Nat) (r : McRow) : Chip :=
  let y := ((x.sat MCn_CHk_ECC_UNCORR c).set MCn_CHk_ERRADDR_ADDR (a / 64) c).raise 450
  let y := y.setCh c fun h => { h with rows := (h.rows ++ [r]).drop (h.rows.length + 1 - 16) }
  let y := y.disturb c false
  if max 1 (x.get MC_ERR_CFG_RETIRE_THR) ≤ y.get MCn_CHk_ECC_UNCORR c then y.retireChan c 3 else y

/-! ### The walker (R19, R113) -/

/-- What the walker sees of a request. -/
def askOf (r : MemReq) : Ask :=
  ⟨r.req.toNat, r.fn.val, r.gen.toNat, r.world, r.addr.toNat, r.len, r.data.isSome⟩

/-- The reason the walker refuses a request, by steps 2 to 7. Assumption log, row 87. -/
def Chip.walkFault (x : Chip) (r : MemReq) : Option Nat := x.askFault (askOf r)

/-- The generation of a request is not its function's current one (step 1). -/
def Chip.staleReq (x : Chip) (r : MemReq) : Bool := x.askStale (askOf r)

/-- The job a render core's request serves: the one of its function that holds the core, or, where none does, the
function's compute job that runs in fill cycles (R192, R573). Assumption log, row 87. -/
def Chip.jobAsking (x : Chip) (r : MemReq) (j : Job) : Bool :=
  let holds := fun (k : Job) => k.fn = r.fn.val && k.cores.contains r.req.toNat
  holds j || (decide (r.req.toNat < 24) && (j.fn = r.fn.val && (j.compute && (j.st = .running && (j.cores = [] &&
    !(x.gx.jobs.any holds))))))

/-- A refused request is recorded and told to F0; a render core's job remembers it. Assumption log, row 87. -/
def Chip.walkRefuse (x : Chip) (r : MemReq) (reason : Nat) : Chip :=
  let mine := x.jobAsking r
  let js := updAll x.gx.jobs mine fun j => { j with faulted := true }
  let z := { x with gx := { x.gx with jobs := js } }.askRefuse (askOf r) reason
  (z.raiseIf (x.gx.jobs.any fun j => mine j && !j.compute) 100).raiseIf (x.gx.jobs.any fun j => mine j && j.compute) 123

/-! ### A request on its channels -/

/-- Access `i` of a request to entry `e`, bytes `lo` to `lo + n` of it by offset: the blocks after it, whether the
data goes through, and whether a write's bytes are left undefined. A write to a copying or armed entry is counted on
both copies' channels (R123). Assumption log, row 86. -/
def Chip.memAccess (x : Chip) (r : MemReq) (e : MapEntry) (off n : Nat) (a : Access) : Chip × Bool × Bool :=
  let p := if e.mig = 3 then chanLocal e.torder e.tchanset e.tpbase off else chanLocal e.order e.chanset e.pbase off
  let order := if e.mig = 3 then e.torder else e.order
  let row := x.rowOf p.1 order (if e.mig = 3 then e.tbgrp else e.bgrp) p.2
  if x.dead p.1 then (x.raise 450, false, false)
  else
    let both := r.data.isSome && (e.mig = 1 || e.mig = 2)
    let chans := if both then [p.1, (chanLocal e.torder e.tchanset e.tpbase off).1] else [p.1]
    let y := if r.tc.val = 0 || r.tc.val = 3 then chans.foldl (fun (y : Chip) c =>
        let k := 2 * c + b2n (r.tc.val = 3)
        { y with hb := { y.hb with load := sparseSet y.hb.load k (sparseGet y.hb.load k 0 + n) 0 } }) x else x
    let y := if a.act then y.activate p.1 row r.req.toNat r.fn.val r.tc.val else y
    match a.ecc with
    | .clean => (y, true, false)
    | .corrected => (y.eccCorr p.1, true, false)
    | .uncorrectable => (y.eccBad p.1 p.2 row, r.data.isSome, true)

/-- The accesses of a request: byte ranges of 64-byte blocks, by offset. -/
def accessRanges (off len : Nat) : List (Nat × Nat) :=
  if len = 0 then []
  else (List.range ((off + len - 1) / 64 - off / 64 + 1)).map fun i =>
    let lo := max off ((off / 64 + i) * 64)
    (lo, min (off + len) ((off / 64 + i + 1) * 64) - lo)

/-- One access in turn: blocks, bytes read so far, writes so far. Assumption log, rows 82, 85. -/
def memStep (mem : List Host.Cell) (r : MemReq) (e : MapEntry) (acc : Chip × List Nat × List (Nat × Byte))
    (q : (Nat × Nat) × Access) : Chip × List Nat × List (Nat × Byte) :=
  let lo := q.1.1
  let n := q.1.2
  let at0 := r.addr.toNat - hOffset r.addr.toNat
  let s := acc.1.memAccess r e lo n q.2
  match r.data with
  | none =>
    (s.1, acc.2.1 ++ (if s.2.1 && !s.2.2 then readBytes mem s.1 (at0 + lo) n else List.replicate n 0), acc.2.2)
  | some bs =>
    let part := ((bs.drop (lo - hOffset r.addr.toNat)).take n).map (·.toNat)
    if !s.2.1 then (s.1, acc.2.1, acc.2.2)
    else if s.2.2 then
      (s.1.took, acc.2.1, acc.2.2 ++ (List.range n).map (fun i => (at0 + lo + i, Config.freeByte s.1.freeCtr (at0 + lo + i))))
    else (s.1, acc.2.1, acc.2.2 ++ storeBytes s.1 (at0 + lo) part)

/-- What a read returns leaves the walker. Assumption log, row 87. -/
def Chip.answer (x : Chip) (r : MemReq) (bs : List Nat) : Chip :=
  if r.data.isSome then x else x.emit (.readBack r.req.toNat r.fn.val bs)

/-- A read of the texture unit passes the core's texture L1 (R188): a line that it may still hold answers with what it
held or is fetched again, which of the two is free; any other is fetched and held. Assumption log, row 136. -/
def Chip.texRead (mem : List Host.Cell) (x : Chip) (r : MemReq) (bs : List Nat) : Chip × List Nat :=
  let core := r.req.toNat
  let a := r.addr.toNat
  if !r.sampled || (r.data.isSome || decide (24 ≤ core)) then (x, bs)
  else
    ((List.range bs.length).map fun i => (a + i) / 128).eraseDups.foldl (fun (acc : Chip × List Nat) line =>
      let y := acc.1
      let fill := { y with gx := { y.gx with
        l1 := (y.gx.l1.filter fun l => !(l.core = core && l.line = line)) ++ [⟨core, line, readBytes mem y (128 * line) 128⟩] } }
      match y.gx.l1.find? fun l => l.core = core && l.line = line with
      | none => (fill, acc.2)
      | some h =>
        if y.free 1 = 0 then (fill.took, acc.2)
        else (y.took, acc.2.zipIdx.map fun p => if (a + p.2) / 128 = line then h.bytes.getD ((a + p.2) % 128) 0 else p.1)) (x, bs)

/-- A request with the attributes that its issuing block gives it (R15, R16, R573): the class of its requester; for a
render core, function, generation and world of the job that holds it or fills its cycles; for a check-value unit,
those of its configuration. None for a reserved code or a core without a job. Assumption log, row 126. -/
def Chip.attributed (x : Chip) (r : MemReq) : Option MemReq :=
  match requesterClass r.req.toNat with
  | none => none
  | some tc =>
    let r := { r with tc := Fin.ofNat 5 tc }
    let take := fun (f g : Nat) (w : Bool) => { r with fn := Fin.ofNat 128 f, gen := BitVec.ofNat 8 g, world := w }
    let n := r.req.toNat
    if n < 24 then
      let mine := x.gx.jobs.filter fun j => j.cores.contains n || (j.compute && (j.st = .running && j.cores = []))
      ((mine.find? fun j => j.fn = r.fn.val && j.gen = r.gen.toNat).orElse fun _ => mine.head?).map fun j => take j.fn j.gen j.world
    else if 0x34 ≤ n && n < 0x4C then
      let f := x.cvFn (n - 0x34)
      some (take f (if f ≤ 64 then x.get FNf_GEN_GEN f else 0) (x.on CVn_CFG_WORLD (n - 0x34)))
    else some r

/-- MEMORY_REQUEST: in Hold memory is in self-refresh and serves none (R22). Assumption log, rows 87, 88, 89, 126,
136. -/
def memoryRequest (q : MemReq) (mem : List Host.Cell) (x : Chip) : Chip × List (Nat × Byte) :=
  match if x.inHold then none else x.attributed q with
  | none => (x, [])
  | some r =>
  let zeros := List.replicate r.len 0
  if x.staleReq r then (((x.sat HB_STALE_CNT_COUNT).raise 65).answer r zeros, [])
  else match x.walkFault r with
    | some reason => ((x.walkRefuse r reason).answer r zeros, [])
    | none =>
      match x.entry (hIndex r.addr.toNat) with
      | none => (x, [])
      | some e =>
        let rs := accessRanges (hOffset r.addr.toNat) r.len
        let m := updAll x.hb.map (fun q => q.idx = e.idx) fun q => { q with act := min (q.act + rs.length) 65535 }
        let use := if r.tc.val = 0 then
          sparseSet x.hb.use (2 * r.fn.val) (sparseGet x.hb.use (2 * r.fn.val) 0 + r.len) 0 else x.hb.use
        let y := { x with hb := { x.hb with map := m, use := use } }
        let qs := rs.zipIdx.map fun p => (p.1, r.access.getD p.2 ⟨false, .clean⟩)
        let z := qs.foldl (memStep mem r e) (y, [], [])
        let t := z.1.texRead mem r z.2.1
        (t.1.answer r t.2, z.2.2)

/-! ### Migration ends (R122, R123, R128) -/

/-- Every PARKED entry is Settled inside the retained region. -/
def Chip.allGathered (x : Chip) : Bool :=
  x.hb.map.all fun e => !(e.valid && e.cls = 7) || (e.mig = 0 && x.inRegion e)

/-- Gathering goes on (R128): the PARKED entries outside the retained region start towards its lowest-numbered channel in
service, and source 70 is raised once all are in. A cancelled entry starts no more (R129). -/
def Chip.gather (x : Chip) : Chip :=
  if !x.hb.gathering || x.pw.gathered then x
  else
    let y := if x.pw.cancel then x
      else (x.hb.map.filter fun e => e.valid && (e.cls = 7 && !x.inRegion e)).foldl
        (fun (y : Chip) e => match x.retainSet [] with
          | some m => y.startMig e 2 2 m
          | none => y) x
    if y.allGathered then ({ y with pw := { y.pw with gathered := true } }).raise 70 else y

/-- MIGRATION_SETTLE: the target fields become the entry's own and the source is released. Assumption log, row 86. -/
def migrationSettle (i : Nat) (x : Chip) : Chip :=
  match x.entry i with
  | none => x
  | some e =>
    if e.mig != 3 then x
    else
      let y := x.setEntry { e with
        mig := 0, kind := 0, order := e.torder, chanset := e.tchanset, bgrp := e.tbgrp, pbase := e.tpbase, torder := 0,
        tchanset := 0, tbgrp := 0, tpbase := 0, migs := min (e.migs + 1) 255 }
      ((((y.migStat.sat HB_MIG_CNT_COUNT).raise 66).raiseIf (e.kind = 1) 69).reapFrees.evacuate).gather

/-! ### Refresh (R382) -/

/-- REFRESH_DUE: an all-bank refresh of channel `c` falls due. `spare` refreshes found room between accesses since the
last one: they paid debt, then ran ahead while PULLIN_EN is set. Assumption log, row 83. -/
def refreshDue (c : Nat) (tc0 hot : Bool) (spare : Nat) (x : Chip) : Chip :=
  let x := if c % 2 = 0 then x.flag MCn_REFCFG_HOT_A hot (c / 2) else x.flag MCn_REFCFG_HOT_B hot (c / 2)
  if x.on MCn_CHk_STAT_SR c then x
  else
    let debt := x.get MCn_CHk_STAT_DEBT c
    let paid := min spare debt
    let ahead := if x.on MCn_REFCFG_PULLIN_EN (c / 2) && debt ≤ spare then min 8 ((x.ch c).ahead + (spare - debt))
      else (x.ch c).ahead
    let y := (x.set MCn_CHk_STAT_DEBT (debt - paid) c).setCh c fun h => { h with ahead := ahead }
    if x.get MCn_CHk_STAT_STATE c = 2 || !tc0 then y
    else if 0 < ahead then y.setCh c fun h => { h with ahead := ahead - 1 }
    else if debt - paid + 1 < 8 then y.set MCn_CHk_STAT_DEBT (debt - paid + 1) c
    else ((y.set MCn_CHk_STAT_DEBT 7 c).sat MCn_CHk_FORCED_COUNT c).raise 452

/-! ### Drift and training (R390 to R392) -/

/-- DRIFT_CHECK: the channels whose drift lies beyond the correction range become Disturbed for drift. -/
def driftCheck (beyond : Nat) (x : Chip) : Chip :=
  (List.range 16).foldl (fun (y : Chip) c =>
    if bitAt beyond c && !y.on MCn_CHk_STAT_SR c then y.disturb c true else y) x

/-- RETRAIN_DONE: a success returns the channel to service; the third failure retires it. Assumption log, row 85. -/
def retrainDone (c : Nat) (ok : Bool) (x : Chip) : Chip :=
  if x.get MCn_CHk_STAT_STATE c != 2 then x
  else if ok then ((x.raise 457).chanBack c).setCh c fun h => { h with tries := 0 }
  else if 3 ≤ (x.ch c).tries then (x.retireChan c 2).setCh c fun h => { h with tries := 0 }
  else ((x.sat MCn_CHk_RETRAIN_COUNT c).raise 456).setCh c fun h => { h with tries := h.tries + 1 }

/-- Channels that failed are retired by training; the others leave self-refresh with every segment refreshed. -/
def Chip.trained (x : Chip) (ok : Nat) : Chip :=
  (List.range 16).foldl (fun (y : Chip) c =>
    let z := (y.flag MCn_CHk_STAT_SR false c).set MCn_CHk_STAT_PASR_MASK 0 c
    if bitAt ok c then
      (if z.get MCn_CHk_STAT_STATE c = 3 then z else z.setBit MC_STAT_INSVC c (z.get MCn_CHk_STAT_STATE c = 0))
    else z.retireChan c 1) x

/-- The retained layout in force: a named channel that is retired gives its place to the lowest-numbered one in service that
is not named (R394). -/
def Chip.retainLayout (x : Chip) : Chip :=
  let want := x.get HB_RETAIN_CHAN
  let act := (List.range 16).foldl (fun m c =>
    if bitAt want c && x.get MCn_CHk_STAT_STATE c = 3 then
      match (List.range 16).find? fun d => !bitAt m d && (!bitAt want d && x.inService d) with
      | some d => putBit (putBit m c false) d true
      | none => putBit m c false
    else m) want
  x.set HB_RETAIN_ACT_LAYOUT (act + x.get HB_RETAIN_SEG * 2 ^ 16)

/-- Channels whose training passed its last phase, one bit each. -/
def goodChannels (t : Training) : Nat := (((List.range 16).filter fun c => (t.phases.getD c 0).val = 5).map fun c => 2 ^ c).sum

/-- Memory is trained: the channels' states, sizes and the time taken (R120, R390, R391). What the last power-on or
Cold reach start began is ended, or, where it had ended, every channel is restored from its record. Without a
commissioned size the trained size is used. Assumption log, row 83. -/
def Chip.memTrained (t : Training) (x : Chip) : Chip :=
  let ok := goodChannels t
  let y := (List.range 16).foldl (fun (z : Chip) c =>
    if bitAt ok c then z.set MCn_CHk_SIZE_MIB t.mib.toNat c else z) (x.trained ok)
  let y := { y with mc := { y.mc with phases := t.phases.map (fun (p : Fin 6) => p.val), done := true } }
  if x.mc.done then
    let y := y.set MC_TRAIN_WARM_MS (min t.ms.toNat 255)
    y.set HB_FREE_MIB_MIB y.freeMib
  else
    let y := { y with mc := { y.mc with ranks2 := t.ranks2 } }
    let conf := if x.get HB_MEM_CFG_MIB = 0 then t.mib.toNat else x.get HB_MEM_CFG_MIB
    let small := decide (t.mib.toNat < conf)
    let y := ((y.set HB_MEM_CFG_MIB (min conf t.mib.toNat)).flag HB_MEM_CFG_MISMATCH small).raiseIf small 74
    let y := ((y.set MC_TRAIN_COLD_MS (min t.ms.toNat 255)).raise 448).retainLayout
    y.set HB_FREE_MIB_MIB y.freeMib

/-! ### Self-refresh (R393, R394) -/

/-- Every channel enters self-refresh, its debt paid (R393). -/
def Chip.selfRefresh (x : Chip) : Chip :=
  (List.range 16).foldl (fun (y : Chip) c =>
    ((y.flag MCn_CHk_STAT_SR true c).set MCn_CHk_STAT_DEBT 0 c).setCh c fun h => { h with ahead := 0 }) x

/-- Self-refresh for Park: segments outside the retained region are masked (R394). -/
def Chip.parkRefresh (x : Chip) : Chip :=
  let lay := x.get HB_RETAIN_ACT_LAYOUT
  let kept := 2 ^ (bits lay 16 3 + 1) - 1
  ((List.range 16).foldl (fun (y : Chip) c =>
    y.set MCn_CHk_STAT_PASR_MASK (if bitAt lay c then 255 - kept else 255) c) x.selfRefresh).raise 459

/-- Self-refresh ends on a return from Hold. -/
def Chip.leaveRefresh (x : Chip) : Chip :=
  (List.range 16).foldl (fun (y : Chip) c => y.flag MCn_CHk_STAT_SR false c) x

/-- MEMORY_REQUEST. -/
def execMemoryRequest (r : MemReq) (s : State) : Host.Outcome State Fault Refusal := s.onBoth (memoryRequest r)
/-- MIGRATION_SETTLE. -/
def execMigrationSettle (i : Fin 8192) (s : State) : Host.Outcome State Fault Refusal := s.onChip (migrationSettle i.val)
/-- REFRESH_DUE. -/
def execRefreshDue (c : Fin 16) (tc0 hot : Bool) (spare : Fin 9) (s : State) : Host.Outcome State Fault Refusal :=
  s.onChip (refreshDue c.val tc0 hot spare.val)
/-- DIST_WINDOW_END. -/
def execDistWindowEnd (s : State) : Host.Outcome State Fault Refusal := s.onChip distWindowEnd
/-- DRIFT_CHECK. -/
def execDriftCheck (beyond : BitVec 16) (s : State) : Host.Outcome State Fault Refusal := s.onChip (driftCheck beyond.toNat)
/-- RETRAIN_DONE. -/
def execRetrainDone (c : Fin 16) (ok : Bool) (s : State) : Host.Outcome State Fault Refusal := s.onChip (retrainDone c.val ok)
/-- EPOCH_BOUNDARY: shares, counts, migrations and channel states, and the Skein streams that waited for the epoch's bytes
move again (R105, R332, R388). -/
def execEpochBoundary (s : State) : Host.Outcome State Fault Refusal :=
  s.onSkein fun w => (w.on fun x => x.epoch.mcEpoch).pump

end Sys2Proof.Machine
end

