-- ==== Sys2Proof/Machine/Roles.lean ====
section
/-!
DEFINITION. Roles, sessions, the commissioned configuration and the journal (19_roles_journal.md).
-/
namespace Sys2Proof.Machine

/-! ### Keys (R470) -/

/-- `n` bytes of a value, the most significant first. -/
def beBytesN (n v : Nat) : List Nat := (List.range n).map fun i => v / 256 ^ (n - 1 - i) % 256

/-- The Maker key in force. -/
def Chip.makerKey (x : Chip) : List Nat := x.nv.maker.getD (beBytesN 32 Config.deliveryKey)

/-- The key of a role; none for an empty slot. -/
def Chip.roleKey (x : Chip) (role : Nat) : Option (List Nat) := if role = 2 then some x.makerKey else x.nv.installer

/-- The chip's serial number as HELLO carries it: 8 bytes. Assumption log, row 91. -/
def serialBytes : List Nat := wordBytes (Config.serial % 2 ^ 32) ++ wordBytes (Config.serial / 2 ^ 32)

/-- The journal key (R479). -/
def Chip.journalKey (x : Chip) : List Nat :=
  hmacSha256 x.makerKey (("journal".toUTF8.toList.map (·.toNat)) ++ serialBytes)

/-- The other copy of the key store is written and the selector names it (R456, R470). -/
def Chip.commitKeys (x : Chip) (f : Nv → Nv) : Chip := { x with nv := { f x.nv with keySel := 1 - x.nv.keySel } }

/-- Bytes of parameter words from word `k` on. -/
def callBytes (c : Call) (k n : Nat) : List Nat := ((c.words.drop k).take n).flatMap fun w => wordBytes w.toNat

/-! ### The journal (R478 to R482) -/

/-- The 64 bytes of a record (R479), with its digest and the record before it. Assumption log, row 91. -/
def recBytes (r : JRec) (digest prev key : List Nat) : List Nat :=
  let head := leBytes 4 r.seq ++ leBytes 4 r.sec ++ leBytes 4 r.tick ++ [r.kind, r.role, r.func, r.result] ++
    leBytes 2 r.opcode ++ leBytes 2 r.detail ++ digest ++ leBytes 4 (crcOf 0 prev)
  head ++ (hmacSha256 key head).take 8

/-- A record's SEQ in flash. -/
def recSeq (bs : List Nat) : Nat := leNat (bs.take 4)

/-- A record is appended to the flash ring; a wrap record erases its sector first (R481). Assumption log, row 91. -/
def Chip.flushRec (x : Chip) (r : JRec) : Chip :=
  let slot := x.rj.wpos
  let gone := if r.kind = 14 then x.rj.ring.filter fun s => s.1 / 1024 = slot / 1024 else []
  let kept := if r.kind = 14 then x.rj.ring.filter fun s => s.1 / 1024 != slot / 1024 else x.rj.ring
  let digest := if r.kind = 14 then sha256 (gone.flatMap (·.2))
    else if r.kind = 1 then sha256 r.digest else List.replicate 32 0
  let prev := if r.seq = 0 then List.replicate 64 0 else ((x.rj.ring.getLast?).map (·.2)).getD (List.replicate 64 0)
  let ring := kept ++ [(slot, recBytes r digest prev x.journalKey)]
  let y := { x with rj := { x.rj with ring := ring, wpos := (slot + 1) % 4096 } }
  let y := y.set RJ_JOLDEST_SEQ (((ring.head?).map fun s => recSeq s.2).getD 0)
  if slot = 4095 then (y.sat RJ_JWRAP_COUNT).raise 511 else y

/-- Every buffered record is appended, oldest first. -/
def Chip.drainJournal (x : Chip) : Chip :=
  let y := x.rj.jbuf.foldl Chip.flushRec x
  { y with rj := { y.rj with jbuf := [] } }.set RJ_JBUF_BUFFERED 0

/-- The secure world, or Kennel's secure stage, can flush (R464, R480). -/
def Chip.canFlush (x : Chip) : Bool := x.on GL_SEC_UP || (x.kennel && x.on GL_SEC_ROM_STAGE)

/-- JOURNAL_FLUSH: the buffered records, then a gap record for those lost. Assumption log, row 91. -/
def journalFlush (x : Chip) : Chip :=
  if !x.canFlush then x
  else
    let y := x.drainJournal
    if y.rj.gap = 0 then y
    else ({ y with rj := { y.rj with gap := 0 } }.journal 15 (min y.rj.gap 65535)).drainJournal

/-- JOURNAL_QUERY. -/
def journalQuery (c : Call) (x : Chip) : Chip :=
  x.perform opJournalQuery c fun x =>
    x.ok opJournalQuery c [x.get RJ_JOLDEST_SEQ, x.get RJ_JNEXT_SEQ, x.word [RJ_JBUF_BUFFERED, RJ_JBUF_LOST],
      x.get RJ_JWRAP_COUNT]

/-- The record after `prev` in the ring fails its CHAIN or MAC. -/
def recWrong (key : List Nat) (prev : Option (List Nat)) (bs : List Nat) : Bool :=
  (match prev with
   | some p => leNat ((bs.drop 0x34).take 4) != crcOf 0 p
   | none => recSeq bs = 0 && leNat ((bs.drop 0x34).take 4) != crcOf 0 (List.replicate 64 0)) ||
  (bs.drop 0x38).take 8 != (hmacSha256 key (bs.take 0x38)).take 8

/-- The record with a SEQ in flash. -/
def Chip.flashRec (x : Chip) (seq : Nat) : Option (List Nat) :=
  (x.rj.ring.find? fun s => recSeq s.2 = seq).map (·.2)

/-- JOURNAL_EXPORT. Assumption log, row 91. -/
def journalExport (c : Call) (x : Chip) : Chip × List (Nat × Byte) :=
  x.performM opJournalExport c fun x =>
    let n := c.w 1
    if n = 0 || 4096 < n then (x.bad opJournalExport c 1, [])
    else if (x.ownRange c.fn.val (c.q 2) (64 * n) [0]).isNone then (x.bad opJournalExport c 2, [])
    else
      let y := journalFlush x
      let first := max (c.w 0) (y.get RJ_JOLDEST_SEQ)
      let recs := (y.rj.ring.filter fun s => first ≤ recSeq s.2 && recSeq s.2 < c.w 0 + n).map (·.2)
      let bad := if bitAt (c.w 4) 0 then
        (recs.find? fun b => recWrong y.journalKey (if recSeq b = 0 then none else y.flashRec (recSeq b - 1)) b).map recSeq
        else none
      (y.ok opJournalExport c [recs.length, first, bad.getD 0xFFFFFFFF], storeBytes y (c.q 2) recs.flatten)

/-! ### Claiming a role (R471, R472) -/

/-- The modes refuse the claim (R36, R41, R43): Park is never combined with a session. -/
def Chip.claimMode (x : Chip) (role : Nat) : Bool :=
  x.get RJ_SESSION_ROLE != 0 || ((role = 1 && (x.kennel || x.on GL_MODE_TWIN_SERVICE)) ||
    (x.parked || (x.pw.target = some 3 || x.bl.agreed = some 3)))

/-- A failed claim: counted, told, journaled; the third in a row and each one after it lock claims out. Assumption
log, rows 90, 91. -/
def Chip.claimFails (x : Chip) : Chip :=
  let n := x.rj.streak + 1
  let y := ({ x with rj := { x.rj with streak := n } }.sat RJ_CLAIM_FAIL_COUNT).raise 509
  let y := y.journalRec 4 0 0 stDeniedRole opClaimRole.code (min n 65535) []
  if 3 ≤ n then (y.flag RJ_SESSION_LOCKOUT true).raise 509 else y

/-- A session opens. -/
def Chip.openSession (x : Chip) (role : Nat) : Chip :=
  let y := (({ x with rj := { x.rj with streak := 0 } }.set RJ_SESSION_ROLE role).flag RJ_SESSION_LOCK false).roleAct
  (((y.setMode GL_MODE_ACCESS role).raise 508)).journalRec 2 role 0 0 0 role []

/-- The response a role's challenge asks for. Assumption log, row 5. -/
def claimResponse (key chal : List Nat) (role : Nat) : List Nat := hmacSha256 key (chal ++ [role] ++ serialBytes)

/-- A CLAIM_ROLE whose response was right opens its session, where the modes still allow it. -/
def Chip.claimOpen (x : Chip) (c : Call) : Chip :=
  if x.claimMode (bits (c.w 0) 0 2) then x.deniedMode opClaimRole c
  else (x.openSession (bits (c.w 0) 0 2)).ok opClaimRole c []

/-- A power transition is under way, for whose end a change of the access mode waits (R32). -/
def Chip.accessWaits (x : Chip) : Bool := x.otherBusy 2

/-- A command that changes the access mode waits. Assumption log, row 116. -/
def Chip.waitAccess (x : Chip) (c : Call) : Chip := { x with pw := { x.pw with access := x.pw.access ++ [c] } }

/-- CLAIM_ROLE. Assumption log, rows 18, 90. -/
def claimRole (c : Call) (x : Chip) : Chip :=
  x.perform opClaimRole c fun x =>
    let role := bits (c.w 0) 0 2
    let second := bitAt (c.w 0) 8
    if x.claimMode role then x.deniedMode opClaimRole c
    else if role = 0 || (role = 3 || c.words.length != (if second then 9 else 1)) then x.bad opClaimRole c 0
    else if x.on RJ_SESSION_LOCKOUT then x.done opClaimRole c stDeniedRole [role]
    else if !second then
      if (x.roleKey role).isNone then x.done opClaimRole c stDeniedRole [role]
      else
        let chal := (List.range 4).flatMap fun i => beBytesN 8 (Config.freeValue (x.freeCtr + i)).toNat
        let y := { x with freeCtr := x.freeCtr + 4, rj := { x.rj with challenge := some (chal, x.up) } }
        y.ok opClaimRole c (bytesWords chal)
    else
      match x.rj.challenge with
      | none => x.bad opClaimRole c 0
      | some ch =>
        let y := { x with rj := { x.rj with challenge := none } }
        let good := match x.roleKey role with
          | some k => decide (callBytes c 1 8 = claimResponse k ch.1 role) && decide (x.up ≤ ch.2 + 30 * tps)
          | none => false
        if good then (if y.accessWaits then y.waitAccess c else y.claimOpen c)
        else y.claimFails.done opClaimRole c stDeniedRole [role]

/-- LOCKOUT_END. Assumption log, row 90. -/
def lockoutEnd (x : Chip) : Chip := x.flag RJ_SESSION_LOCKOUT false

/-! ### The commissioned configuration (R475, R477) -/

/-- Pages of the Commission lock class. -/
def commissionPage (base : Nat) : Bool :=
  (0x140000 ≤ base && base < 0x150000) || ((0x180000 ≤ base && base < 0x18A000) || ([0x1A1000, 0x101000].contains base ||
    (0x1C1000 ≤ base && base < 0x1C4000)))

/-- Every field of the register map. -/
def allFields : List Fld := fieldsA ++ fieldsB ++ fieldsC

/-- The field is kept in the commissioned configuration: RWL, or software's on a Commission-class page, or set by an
Installer opcode. -/
def Fld.commissioned (f : Fld) : Bool :=
  f.rwl || ((commissionPage f.base && (f.acc = .rw || f.acc = .rwh)) ||
    [FN_HOLD_MS_MS.id, HPn_LIMIT_AMP_MAX.id, HPn_LIMIT_ATT_GAIN.id, HPn_LIMIT_DUR_MAX.id, HPn_LIMIT_OPEN_THR.id,
     HPn_FBAND_FMIN.id, HPn_FBAND_FMAX.id, HPn_CFG_TYPE.id, HPn_CFG_PWM_KHZ.id, HPn_CFG_CAL_AUTO.id].contains f.id)

/-- Numbers of the fields kept. -/
def cfgIds : List Nat := (allFields.filter Fld.commissioned).map (·.id)

/-- Units that run, one bit each. -/
def Chip.runMask (x : Chip) (f : Fld) (n : Nat) : Nat := ((List.range n).map fun i => if x.on f i then 2 ^ i else 0).sum

/-- The configuration as it stands. -/
def Chip.cfgNow (x : Chip) : CfgCopy :=
  let graphs := (List.range 3).filterMap fun d => ((x.adom d).graph).map fun g => (d, g)
  { regs := x.regs.filter fun e => cfgIds.contains (e.1 / 2048)
    dflt := x.fn.dflt, own := x.share 0, memSize := x.hb.memSize, face := x.pw.faceRec, graphs := graphs
    marks := [x.runMask HDn_STAT_RUN 16, x.runMask DXn_STAT_RUN 10, x.runMask AU_DOMx_STAT_RUN 3, x.runMask SKn_STAT_RUN 2,
      x.runMask TPn_STAT_RUN 16] }

/-- The configuration is saved: the other copy is written, then the selector. -/
def Chip.saveCfg (x : Chip) : Chip :=
  let y := { x with nv := { x.nv with cfg := some x.cfgNow }, au := { x.au with saved := x.cfgNow.graphs } }
  ((y.set RJ_CFG_SLOT (1 - x.get RJ_CFG_SLOT)).flag RJ_CFG_VALID true).sat RJ_CFG_SAVES

/-- RELEASE_ROLE takes effect: the session ends, the configuration saved first where SAVE is set. -/
def Chip.releaseNow (x : Chip) (c : Call) : Chip :=
  if x.get RJ_SESSION_ROLE = 0 then x.ok opReleaseRole c []
  else if bitAt (c.w 0) 0 then (x.saveCfg.endSession 1).ok opReleaseRole c []
  else (x.endSession 2).ok opReleaseRole c []

/-- RELEASE_ROLE. Assumption log, row 116. -/
def releaseRole (c : Call) (x : Chip) : Chip :=
  x.perform opReleaseRole c fun x =>
    if x.get RJ_SESSION_ROLE != 0 && x.accessWaits then x.waitAccess c else x.releaseNow c

/-- SESSION_IDLE_TIMEOUT. Assumption log, row 93. -/
def sessionIdleTimeout (x : Chip) : Chip := x.endSession 3

/-! ### Keys and limits (R470, R483) -/

/-- INSTALLER_KEY_SET. -/
def installerKeySet (c : Call) (x : Chip) : Chip :=
  x.perform opInstallerKeySet c fun x =>
    if bitAt (c.w 0) 0 then
      (x.commitKeys fun n => { n with installer := none }).ok opInstallerKeySet c []
    else match keyUnwrap x.makerKey (callBytes c 1 10) with
      | some k => (x.commitKeys fun n => { n with installer := some k }).ok opInstallerKeySet c []
      | none => x.bad opInstallerKeySet c 1

/-- ROLE_KEY_SET: its own record is MACed under the old key (R479). -/
def roleKeySet (c : Call) (x : Chip) : Chip :=
  x.perform opRoleKeySet c fun x =>
    match keyUnwrap x.makerKey (callBytes c 0 10) with
    | some k => (journalFlush (x.ok opRoleKeySet c [])).commitKeys fun n => { n with maker := some k }
    | none => x.bad opRoleKeySet c 0

/-- TWIN_HASH_SET. Assumption log, row 92. -/
def twinHashSet (c : Call) (x : Chip) : Chip :=
  x.perform opTwinHashSet c fun x =>
    ({ x with bl := { x.bl with twinHash := callBytes c 0 8 } }).ok opTwinHashSet c []

/-- SAFETY_LIMIT_SET. Assumption log, row 92. -/
def safetyLimitSet (c : Call) (x : Chip) : Chip :=
  x.perform opSafetyLimitSet c fun x =>
    ({ x with nv := { x.nv with safety := bits (c.w 0) 0 16 } }).ok opSafetyLimitSet c []

/-- CLAIM_ROLE. -/
def execClaimRole (c : Call) (s : State) : Host.Outcome State Fault Refusal := s.onChip (claimRole c)
/-- RELEASE_ROLE. -/
def execReleaseRole (c : Call) (s : State) : Host.Outcome State Fault Refusal := s.onChip (releaseRole c)
/-- JOURNAL_QUERY. -/
def execJournalQuery (c : Call) (s : State) : Host.Outcome State Fault Refusal := s.onChip (journalQuery c)
/-- JOURNAL_EXPORT. -/
def execJournalExport (c : Call) (s : State) : Host.Outcome State Fault Refusal := s.onBoth fun _ => journalExport c
/-- INSTALLER_KEY_SET. -/
def execInstallerKeySet (c : Call) (s : State) : Host.Outcome State Fault Refusal := s.onChip (installerKeySet c)
/-- ROLE_KEY_SET. -/
def execRoleKeySet (c : Call) (s : State) : Host.Outcome State Fault Refusal := s.onChip (roleKeySet c)
/-- TWIN_HASH_SET. -/
def execTwinHashSet (c : Call) (s : State) : Host.Outcome State Fault Refusal := s.onChip (twinHashSet c)
/-- SAFETY_LIMIT_SET. -/
def execSafetyLimitSet (c : Call) (s : State) : Host.Outcome State Fault Refusal := s.onChip (safetyLimitSet c)
/-- SESSION_IDLE_TIMEOUT. -/
def execSessionIdleTimeout (s : State) : Host.Outcome State Fault Refusal := s.onChip sessionIdleTimeout
/-- LOCKOUT_END. -/
def execLockoutEnd (s : State) : Host.Outcome State Fault Refusal := s.onAon lockoutEnd
/-- JOURNAL_FLUSH. -/
def execJournalFlush (s : State) : Host.Outcome State Fault Refusal := s.onChip journalFlush

end Sys2Proof.Machine
end

