-- ==== Sys2Proof/Machine/Secure.lean ====
section
/-!
DEFINITION. The secure world (18_security_worlds.md): entering and leaving it, blocks it uses, protected content, and what
happens when it goes down and comes up.
-/
namespace Sys2Proof.Machine

/-! ### Gates (R444 to R447) -/

/-- The pair of a control core. -/
def pairOf (core : Nat) : Nat := core / 2

/-- A pair is in the secure world. Assumption log, row 94. -/
def Chip.pairSecure (x : Chip) (p : Nat) : Bool := (x.sw.pairs.getD p (false, 0)).1

/-- A pair takes an exception. -/
def Chip.pairTrap (x : Chip) (p kind : Nat) : Chip := { x with sw := { x.sw with trap := sparseSet x.sw.trap p kind 0 } }

/-- A GATE fault. Assumption log, row 94. -/
def Chip.gateFault (x : Chip) (p : Nat) : Chip := ((x.sat SW_GATE_FAULT_COUNT).raise 507).pairTrap p 1

/-- GATE: `marker` is the word at the entry address, `ret` the address after the instruction. Assumption log, row 94.
-/
def gate (core index marker ret : Nat) (x : Chip) : Chip :=
  let p := pairOf core
  if x.pairSecure p then x.gateFault p
  else if !x.on GL_SEC_UP then { x with sw := { x.sw with result := sparseSet x.sw.result p stSecureDown 0 } }
  else if 31 < index || (!x.on SW_CTL_ENTRY_LOCK || (!x.on SW_ENTRYe_LO_VALID index || marker != 0xA5C30E7B)) then x.gateFault p
  else x.enterSecure p index ret

/-- GATE_RET. Assumption log, row 94. -/
def gateRet (core : Nat) (x : Chip) : Chip :=
  let p := pairOf core
  if !x.pairSecure p then x.pairTrap p 2
  else
    let done := if x.sw.cleared.contains p then x.sw.cleared else x.sw.cleared ++ [p]
    let goes := sparseSet x.sw.goes p (x.sw.pairs.getD p (false, 0)).2 0
    { x with sw := { x.sw with pairs := updAt x.sw.pairs p (fun q => (false, q.2)), cleared := done, goes := goes } }

/-- SW_CTL.ENTRY_LOCK is written 1 (R447). -/
def entryLockSet (x : Chip) : Chip := x.flag SW_CTL_ENTRY_LOCK true

/-- SW_WDOG.KICK is written 1 (R457). -/
def swWdogKick (x : Chip) : Chip :=
  if x.sw.wdog.isSome then { x.set SW_WDOG_REMAIN 50 with sw := { x.sw with wdog := some x.up } } else x

/-! ### Blocks in use (R450) -/

/-- A head's protected layer is set. -/
def Chip.protSet (x : Chip) (h : Nat) : Bool :=
  match x.protUnit h with
  | some u => (x.layer u).isSome
  | none => false

/-- A head is in use by the secure world. -/
def Chip.headUsed (x : Chip) (h : Nat) : Bool := x.on CP_HEADn_CFG_PROT h && x.protSet h

/-- Heads a port carries. -/
def Chip.portHeads (x : Chip) (p : Nat) : List Nat := (List.range 16).filter fun h => match x.portOf h with
  | some q => q.1 = p
  | none => false

/-- A block is in use by the secure world. Assumption log, row 95. -/
def Chip.inUse (x : Chip) (kind inst : Nat) : Bool :=
  match kind with
  | 1 => x.on GXn_STAT_WORLD inst
  | 2 => (List.range 16).any x.protSet
  | 3 => x.headUsed inst
  | 4 => (x.portHeads inst).any x.headUsed
  | 5 => (x.th.hits.any fun e => e.world && e.head = x.get TPn_CFG_HEAD inst) ||
      ((x.tp inst).track.any fun c => match c.cap with
        | some k => k.who = 128
        | none => false)
  | 6 => (match (x.hpCh inst).cur with
      | some t => t.who = 128
      | none => false) || (match (x.hpCh inst).latch with
      | some t => t.who = 128
      | none => false)
  | 7 => x.on CVn_CFG_WORLD inst
  | _ => false

/-- Event range base of a block. -/
def evBase (kind inst : Nat) : Nat :=
  match kind with
  | 1 => 128 + inst
  | 2 => 160
  | 3 => 192 + 4 * inst
  | 4 => 256 + 3 * inst
  | 5 => 288 + 2 * inst
  | 6 => 320 + 2 * inst
  | _ => 464

/-- Instances of a kind. -/
def kindCount (kind : Nat) : Nat :=
  match kind with
  | 1 => 24
  | 2 => 1
  | 3 => 16
  | 4 => 10
  | 5 => 16
  | 6 => 16
  | 7 => 24
  | _ => 0

/-- A refusal that protects a secure block, with its journal record (R451, R452). Assumption log, row 91. -/
def Chip.denySecure (x : Chip) (o : Op) (c : Call) (kind inst : Nat) : Chip :=
  (x.journalRec 9 (x.get RJ_SESSION_ROLE) c.fn.val stSecureInUse o.code (evBase kind inst) []).done o c stSecureInUse [evBase kind inst]

/-! ### SECURE_RELEASE (R452) -/

/-- Heads that lose their protected layer when a block is released. -/
def Chip.releaseHeads (x : Chip) (kind inst : Nat) : List Nat :=
  match kind with
  | 2 => (List.range 16).filter x.protSet
  | 3 => [inst]
  | 4 => (x.portHeads inst).filter x.headUsed
  | 5 => [x.get TPn_CFG_HEAD inst]
  | _ => []

/-- A head's secure hit-region entries are removed (R452). -/
def Chip.dropSecureHits (x : Chip) (h : Nat) : Chip := x.setHits (x.th.hits.filter fun e => !(e.world && e.head = h))

/-- A head loses its protected layer at its next commit line, and its secure hit-region entries with it. -/
def Chip.loseProt (x : Chip) (mem : List Host.Cell) (h : Nat) : Chip :=
  match x.protUnit h with
  | some u => if x.protSet h && x.on HDn_STAT_RUN h then x.queueProt mem u .protRemove else x.dropSecureHits h
  | none => x.dropSecureHits h

/-- SECURE_RELEASE commands whose block is free of the secure world are answered; a head whose protected layer has
gone loses its secure entries, and PROTECTED allocations that nothing shows are freed. Assumption log, row 95. -/
def Chip.releaseCheck (x : Chip) : Chip :=
  let ended := x.sw.rel.filter fun r => r.2.1 = 5 || !x.inUse r.2.1 r.2.2
  let ended := ended.filter fun r => (x.releaseHeads r.2.1 r.2.2).all fun h => !x.protSet h
  let y := ended.foldl (fun (y : Chip) r =>
    ((y.releaseHeads r.2.1 r.2.2).foldl Chip.dropSecureHits y).ok opSecureRelease r.1 []) x
  let y := { y with sw := { y.sw with rel := y.sw.rel.filter fun r => !ended.contains r } }
  let gone := y.sw.alloc.filter fun a => !y.layerShows a.2 && !y.changeNames a.2
  let y := gone.foldl (fun (y : Chip) a => match y.entry a.2 with
    | some e => if e.valid && e.cls = 14 then y.freeEntry e else y
    | none => y) y
  { y with sw := { y.sw with alloc := y.sw.alloc.filter fun a => !gone.contains a } }

/-- SECURE_RELEASE. Assumption log, row 95. -/
def secureRelease (c : Call) (mem : List Host.Cell) (x : Chip) : Chip :=
  x.perform opSecureRelease c fun x =>
    let kind := bits (c.w 0) 0 4
    let inst := bits (c.w 0) 8 8
    if kindCount kind ≤ inst || c.w 0 != kind + 256 * inst then x.bad opSecureRelease c 0
    else if !x.inUse kind inst then x.ok opSecureRelease c []
    else
      let hs := x.releaseHeads kind inst
      if hs.any fun h => !bitAt x.nv.safety h then x.denySecure opSecureRelease c kind inst
      else
        let y := match kind with
          | 1 => x.requestPreempt fun j => j.cores.contains inst
          | 6 =>
            let y := match (x.hpCh inst).latch with
              | some t => if t.who = 128 then x.hpUnlatch inst else x
              | none => x
            (match (y.hpCh inst).cur with
             | some t => if t.who = 128 && (y.hpPhase inst = hpAttack || y.hpPhase inst = hpSustain) then
                 (y.hpToBrake inst (y.free 2)).took else y
             | none => y)
          | 7 => x.cvReleaseUnit inst
          | _ => hs.foldl (fun (y : Chip) h => y.loseProt mem h) x
        { y with sw := { y.sw with rel := y.sw.rel ++ [(c, kind, inst)] } }.releaseCheck

/-! ### Protected content (R454, R455) -/

/-- A little-endian field of a byte list. -/
def fieldLe (bs : List Nat) (o n : Nat) : Nat := leNat ((bs.drop o).take n)

/-- Format and fields of a signed content record are sound, its signature aside. Assumption log, rows 5, 96. -/
def recordOk (bs : List Nat) : Bool :=
  let f := fun o n => fieldLe bs o n
  f 0 4 = 0x50430001 && (f 4 1 < 4 && (f 5 1 ≤ 4 && (1 ≤ f 6 1 && (f 6 1 ≤ 7 && (f 7 1 = 0 && (f 0x18 4 ≤ 33177600 &&
    (bs.length = 0x80 + f 0x18 4 + 64 && ((f 0x1C 4).land 0x00FFC3FF = 0 && (((bs.drop 0x50).take 0x30).all (· = 0) &&
    (f 0x14 4 % 256 = 0 && (2 * f 0x14 4 ≥ fmtBytes2 (f 6 1) * f 0x10 2 &&
    f 0x14 4 * f 0x12 2 ≤ f 0x18 4)))))))))))

/-- The layer a record describes, as LAYER_SET words 1 to 11, its pixels at address `a`. -/
def recordLayer (bs : List Nat) (a : Nat) : List Nat :=
  let f := fun o n => fieldLe bs o n
  [lo32 a, hi32 a, f 6 1 + f 0x1C 4, f 0x14 4, 0, 0, 0, 0, f 0x10 4, f 0x0C 4, f 0x10 4]

/-- The rectangle of a record lies in the head's active area, and is not empty. Assumption log, row 96. -/
def Chip.recordFits (x : Chip) (h : Nat) (ws : List Nat) : Bool :=
  let px := bits (ws.getD 9 0) 0 16
  let py := bits (ws.getD 9 0) 16 16
  lyDw ws != 0 && (lyDh ws != 0 && (px + lyDw ws ≤ x.get HDn_HTIME0_HACTIVE h && py + lyDh ws ≤ x.get HDn_VTIME0_VACTIVE h))

/-- A PROTECTED allocation of the secure world (R116). Assumption log, rows 64, 96. -/
def Chip.protEntry (x : Chip) (i len : Nat) : MapEntry :=
  { x.newEntry i 127 14 (ceilDiv len 65536) 0 false with world := true, charge := 127, bgrp := x.free 2 }

/-- The check windows a record supplies are written, the others disabled, and the secure arm is raised (R455). -/
def Chip.recordWindows (x : Chip) (h : Nat) (bs : List Nat) : Chip :=
  let n := fieldLe bs 5 1
  let y := (List.range n).foldl (fun (y : Chip) k =>
    ((y.set HDn_CHKk_XY0_XY (fieldLe bs (0x20 + 12 * k) 4) (h * 4 + k)).set HDn_CHKk_XY1_XY (fieldLe bs (0x24 + 12 * k) 4)
      (h * 4 + k)).set HDn_CHKk_EXP_EXP (fieldLe bs (0x28 + 12 * k) 4) (h * 4 + k)) x
  hdSarm h ((y.set HDn_CHKCTL_EN (2 ^ n - 1) h).set HDn_CHKCTL_CMP (2 ^ n - 1) h)

/-- PROT_LAYER_LOAD. Assumption log, rows 96, 140. -/
def protLayerLoad (c : Call) (mem : List Host.Cell) (x : Chip) : Chip × List (Nat × Byte) :=
  x.performM opProtLayerLoad c fun x =>
    let h := c.w 0
    let len := c.w 3
    let u := if h < 16 && (x.on HDn_STAT_RUN h && x.on CP_HEADn_CFG_PROT h) then x.protUnit h else none
    match u with
    | none => (x.bad2 opProtLayerLoad c 0 0, [])
    | some u =>
      if (x.ownRange c.fn.val (c.q 1) 1 [0, 3]).isNone then (x.bad2 opProtLayerLoad c 1 0, [])
      else if len < 0x80 + 64 || (x.ownRange c.fn.val (c.q 1) len [0, 3]).isNone then (x.bad2 opProtLayerLoad c 3 0, [])
      else
        let bs := readBytes mem x (c.q 1) len
        let seq := fieldLe bs 8 4
        if !recordOk bs then (x.bad2 opProtLayerLoad c 0 1, [])
        else match x.nv.prot.find? fun k => k.1 = fieldLe bs 4 1 with
          | none => (x.bad2 opProtLayerLoad c 0 2, [])
          | some k =>
            let ws := recordLayer bs 0
            if !ecdsaOk k.2 (bs.drop (len - 64)) (bs.take (len - 64)) then (x.bad2 opProtLayerLoad c 0 2, [])
            else if seq ≤ x.get SW_PSEQn_SEQ h then (x.bad2 opProtLayerLoad c 0 3, [])
            else if !x.recordFits h ws || x.missing h u (lyBytes2 ws) != 0 then (x.bad2 opProtLayerLoad c 0 4, [])
            else if 4 ≤ (x.unitQueue u).length then (x.done opProtLayerLoad c stNoResource [1], [])
            else
              let mib := ceilDiv len 1048576
              match x.freeIndex with
              | none => (x.done opProtLayerLoad c stNoResource [mib], [])
              | some i =>
                if x.get HB_FREE_MIB_MIB < mib then (x.done opProtLayerLoad c stNoResource [mib - x.get HB_FREE_MIB_MIB], [])
                else
                  let e := x.protEntry i len
                  let a := handleOf e
                  let y := { (x.setEntry e).took with sw := { x.sw with alloc := x.sw.alloc ++ [(h, i)] } }
                  let y := (y.set SW_PSEQn_SEQ seq h).queueUnit (writeCells mem (storeBytes y a bs)) u 128 (.prot (recordLayer bs (a + 0x80)))
                  let y := (y.recordWindows h bs).deferred opProtLayerLoad c [y.get CP_CHANGE_NUM]
                  (y, storeBytes y a bs)

/-- PROT_KEY_SET. -/
def protKeySet (c : Call) (x : Chip) : Chip :=
  x.perform opProtKeySet c fun x =>
    let slot := bits (c.w 0) 0 2
    let key := callBytes c 1 16
    if c.w 0 != slot + 256 * bits (c.w 0) 8 1 then x.bad opProtKeySet c 0
    else if bitAt (c.w 0) 8 then
      (x.commitKeys fun n => { n with prot := n.prot.filter fun k => k.1 != slot }).ok opProtKeySet c []
    else if !onCurve (beWord (key.take 32)) (beWord (key.drop 32)) then x.bad opProtKeySet c 1
    else (x.commitKeys fun n => { n with prot := (n.prot.filter fun k => k.1 != slot) ++ [(slot, key)] }).ok opProtKeySet c []

/-- STALE_LIMIT_SET: in force from the next declaration. Assumption log, row 96. -/
def staleLimitSet (c : Call) (x : Chip) : Chip :=
  x.perform opStaleLimitSet c fun x =>
    if 500 < c.w 0 then x.bad opStaleLimitSet c 0
    else if 2 < c.w 1 then x.bad opStaleLimitSet c 1
    else if 65535 < c.w 3 then x.bad opStaleLimitSet c 3
    else ({ x with sw := { x.sw with next := [c.w 0, c.w 1, c.w 2, c.w 3] } }).ok opStaleLimitSet c []

/-! ### Down and up (R457 to R463) -/

/-- Fields of the SW block that a Secure reach reset returns to their reset values (R553). -/
def swReset (x : Chip) : Chip :=
  let y := x.resetFields [SW_CTL_ENTRY_LOCK, SW_CTL_FORCE_FAULT, SW_WDOG_KICK, SW_WDOG_REMAIN, SW_GATE_FAULT_COUNT,
    SW_VIOL_COUNT, SW_VIOL_INFO_KIND, SW_VIOL_INFO_INDEX, SW_VIOL_INFO_FUNC] 0
  let y := (List.range 32).foldl (fun (y : Chip) e =>
    y.resetFields [SW_ENTRYe_LO_VALID, SW_ENTRYe_LO_ADDR, SW_ENTRYe_HI_ADDR] e) y
  (y.flag GL_SAFE_FORCED false).updSafe

/-- The secure world's own work is withdrawn (R457): jobs, haptic effects and latched triggers, check-value
units. -/
def Chip.withdrawSecure (x : Chip) : Chip :=
  let js := updAll x.gx.jobs (fun j => j.world) fun j => { j with old := true }
  let y := ({ x with gx := { x.gx with jobs := js } }).requestPreempt fun j => j.world
  let y := (y.gx.jobs.filter fun j => j.world && (j.cores = [] && !j.onTwin)).foldl (fun (y : Chip) j => y.abandonJob j false) y
  let y := y.hpWithdraw 128
  ((List.range 24).filter fun u => y.on CVn_CFG_WORLD u).foldl Chip.cvWithdraw y

/-- Class 0xE and 0xF commands in progress end with SECURE_DOWN, but a SECURE_RESTART. -/
def Chip.endSecureCmds (x : Chip) : Chip :=
  (x.ce.pkts.filter fun p => p.isDispatched && ([14, 15].contains p.cls && p.opcode != opSecureRestart.code)).foldl
    (fun (y : Chip) p => match opOf p.opcode with
      | some o => y.done o p.call stSecureDown [0]
      | none => y) { x with sw := { x.sw with rel := [] } }

/-- The stale settings set since the last declaration come into force. -/
def Chip.staleForce (x : Chip) : Chip :=
  match x.sw.next with
  | [l, a, rg, b] =>
    { (((x.set SW_STALE_LIMIT_MS l).set SW_STALE_ACTION a).set SW_STALE_RG_RG rg).set SW_STALE_B_B b with
      sw := { x.sw with next := [] } }
  | _ => x

/-- The secure world is declared down (R457, R462): `cause` is its RB_CAUSE bit, `call` the SECURE_RESTART behind it. -/
def Chip.secureDown (x : Chip) (cause : Nat) (call : Option Call) : Chip :=
  let y := x.staleForce
  let y := (((y.flag GL_SEC_UP false).flag BL_STAT_SHADOW_RDY false).sat GL_SEC_DOWNS).raise 504
  let y := { y with bl := { y.bl with heads := y.bl.heads.map fun (t : SigHead) => { t with clean := 0 } } }
  let y := (y.setBit RB_CAUSE_SRC cause true).journal 5 (y.get GL_SEC_DOWNS)
  let y := (swReset (y.endSession 4)).withdrawSecure.endSecureCmds
  let y := { y with th := { y.th with secQ := [] } }
  let now := x.up
  let downs := (x.sw.downs.filter fun t => now < t + 60 * tps) ++ [now]
  let restart := match call with
    | some c => (some c, now)
    | none => x.sw.restart.getD (none, now)
  let sw := { y.sw with
    staleFrom := if x.secUp then some (now + y.get SW_STALE_LIMIT_MS * tpms) else x.sw.staleFrom
    pairs := [(false, 0), (false, 0)], cleared := [], goes := [], downs := downs, wdog := none, restart := if 3 ≤ downs.length then none else some restart }
  let y := { y with sw := sw }
  if 3 ≤ downs.length then (y.flag GL_SEC_RESTARTING false).flag GL_SEC_HALTED true else y.flag GL_SEC_RESTARTING true

/-- SECURE_WDOG_EXPIRY. Assumption log, row 111. -/
def secureWdogExpiry (x : Chip) : Chip := if x.on GL_SEC_UP && x.sw.wdog.isSome then x.secureDown 14 none else x

/-- SECURE_HALT. -/
def secureHalt (x : Chip) : Chip := if x.on GL_SEC_UP then x.secureDown 14 none else x

/-- SECURE_RESTART. -/
def secureRestart (c : Call) (x : Chip) : Chip := x.perform opSecureRestart c fun x => x.secureDown 15 (some c)

/-- SECURE_RESTART_TIMEOUT: a restart is not up within 1 s. -/
def secureRestartTimeout (x : Chip) : Chip := if x.on GL_SEC_RESTARTING then x.secureDown 14 none else x

/-- The protected layers of stale heads are verified again and queued. Assumption log, row 96. -/
def Chip.requeueProt (x : Chip) (mem : List Host.Cell) : Chip :=
  ((List.range 16).filter fun h => x.bit GL_SEC_STALE h).foldl (fun (y : Chip) h => match y.protUnit h with
    | some u => match y.layer u with
      | some l => y.queueProt mem u (.prot l.words)
      | none => y
    | none => y) x

/-- SECURE_UP: the secure world comes up, at a start or after a declaration. Assumption log, row 96. -/
def secureComesUp (mem : List Host.Cell) (x : Chip) : Chip :=
  if x.on GL_SEC_UP || (x.on GL_SEC_HALTED || x.kennel) then x
  else
    let r := x.sw.restart
    let y := (((x.flag GL_SEC_UP true).flag GL_SEC_RESTARTING false).flag GL_SAFE_START false).raise 505
    let y := { y with sw := { y.sw with wdog := some x.up, restart := none, removed := [] } }
    let y := (y.updSafe.requeueProt mem).onlyIf (y.get RB_STAT_PHASE < 5) fun z => z.set RB_STAT_PHASE 5
    let y := y.onlyIf y.secureWaits Chip.secureEnter
    match r with
    | some (some c, t) => y.ok opSecureRestart c [(x.up - t) / tpms]
    | _ => y

/-- GATE. -/
def execGate (core : Fin 4) (index marker : Word) (ret : BitVec 64) (s : State) : Host.Outcome State Fault Refusal :=
  s.onChip (gate core.val index.toNat marker.toNat ret.toNat)
/-- GATE_RET. -/
def execGateRet (core : Fin 4) (s : State) : Host.Outcome State Fault Refusal := s.onChip (gateRet core.val)
/-- ENTRY_LOCK_SET. -/
def execEntryLockSet (s : State) : Host.Outcome State Fault Refusal := s.onChip entryLockSet
/-- SW_WDOG_KICK. -/
def execSwWdogKick (s : State) : Host.Outcome State Fault Refusal := s.onChip swWdogKick
/-- SECURE_RELEASE. -/
def execSecureRelease (c : Call) (s : State) : Host.Outcome State Fault Refusal := s.onChipM (secureRelease c)
/-- PROT_LAYER_LOAD. -/
def execProtLayerLoad (c : Call) (s : State) : Host.Outcome State Fault Refusal := s.onBoth (protLayerLoad c)
/-- PROT_KEY_SET. -/
def execProtKeySet (c : Call) (s : State) : Host.Outcome State Fault Refusal := s.onChip (protKeySet c)
/-- STALE_LIMIT_SET. -/
def execStaleLimitSet (c : Call) (s : State) : Host.Outcome State Fault Refusal := s.onChip (staleLimitSet c)
/-- SECURE_WDOG_EXPIRY. -/
def execSecureWdogExpiry (s : State) : Host.Outcome State Fault Refusal := s.onChip secureWdogExpiry
/-- SECURE_HALT. -/
def execSecureHalt (s : State) : Host.Outcome State Fault Refusal := s.onChip secureHalt
/-- SECURE_RESTART. -/
def execSecureRestart (c : Call) (s : State) : Host.Outcome State Fault Refusal := s.onChip (secureRestart c)
/-- SECURE_RESTART_TIMEOUT. -/
def execSecureRestartTimeout (s : State) : Host.Outcome State Fault Refusal := s.onChip secureRestartTimeout
/-- SECURE_UP. -/
def execSecureUp (s : State) : Host.Outcome State Fault Refusal := s.onChipM secureComesUp

end Sys2Proof.Machine
end

