-- ==== Sys2Proof/Machine/Heel.lean ====
section
/-!
DEFINITION. Block and Subsystem resets, with their heel requests (R450 to R453, R503 to R505), and the gating of domains
(R520).
-/
namespace Sys2Proof.Machine

/-! ### What a reset does to a block (R51, R553) -/

/-- A render core is reset: the job it holds ends Aborted. Assumption log, row 42. -/
def Chip.coreReset (x : Chip) (n : Nat) : Chip :=
  let y := (x.gx.jobs.filter fun j => j.cores.contains n).foldl (fun (y : Chip) j => y.abortJob j 2 0) x
  let y := y.resetFields [GXn_BUSY_CYCLES, GXn_TEXELS_COUNT, GXn_L1_HIT_COUNT, GXn_L1_MISS_COUNT, GXn_PF_ISSUED_COUNT,
    GXn_PF_USED_COUNT, GXn_RESOLVED_COUNT, GXn_ELIDED_COUNT, GXn_CWAVES_COUNT, GXn_ECC_CORR, GXn_ECC_UNCORR, GXn_STAT_FUNC,
    GXn_STAT_WORLD, GXn_PASS_JOB, GXn_PASS_MEMBER, GXn_PASS_MEMBERS, GXn_TILES_LEFT] n
  (y.emptyL1 [n]).set GXn_STAT_STATE 6 n

/-- A head is reset: it is stopped, its status and counters at reset values. -/
def Chip.headReset (x : Chip) (h : Nat) : Chip :=
  let y := x.headStopped h
  let y := y.resetFields [HDn_STAT_STATE, HDn_VFP_ACT, HDn_ARM_ARM, HDn_COMMIT_SEQ_SEQ, HDn_COMMIT_FRAME_FRAME, HDn_FRAME_FRAME,
    HDn_SCANPOS_LINE, HDn_SCANPOS_PIXEL, HDn_UNDERRUN_COUNT, HDn_CHKSTAT_MISM, HDn_CHKSTAT_STREAK, HDn_CHKSTAT_FAULT,
    HDn_SARM_ARM, CP_HEADn_FWD_LINES_COUNT, CP_HEADn_DIRECT_LINES_COUNT, CP_HEADn_HELD_LINES_COUNT,
    CP_HEADn_SPEC_DONE_COUNT, CP_HEADn_SPEC_MISS_COUNT, CP_HEADn_DEFER_COUNT, CP_HEADn_DROP_COUNT] h
  let y := (List.range 4).foldl (fun (y : Chip) k => y.resetField HDn_CHKk_VAL_VAL (h * 4 + k)) y
  ((y.setPend HDn_STAT_PEND_RESTART h false).setHead h fun s =>
    { s with windows := [], sarmed := [], armed := (0, 0, 0), out := (0, 0), runs := [0, 0, 0, 0] }).updSafe

/-- A touch port is reset. -/
def Chip.touchReset (x : Chip) (n : Nat) : Chip :=
  let stops := (x.tp n).stops
  let y := (x.tpReset n).resetFields [TPn_STAT_RUN, TPn_STAT_CONTACTS, TPn_REPORTS_COUNT, TPn_ERR_BUS, TPn_ERR_PARSE,
    TPn_DROP_COUNT] n
  stops.foldl (fun (z : Chip) c => z.ok opStopTouch c []) (y.setPend TPn_STAT_PEND_RESTART n false)

/-- A check-value unit is reset (R409). -/
def Chip.cvReset (x : Chip) (u : Nat) : Chip :=
  ((x.resetFields [CVn_COUNT_COUNT, CVn_FAIL_COUNT] u).set CVn_RUN_VALUE (x.cvPoly u).init u).setCv u fun s =>
    { s with running := false, inReset := true, spoiled := true }

/-- Bowline is reset: the link goes Down and the pair is lost to this chip. Assumption log, row 98. -/
def Chip.bowlineReset (x : Chip) : Chip :=
  let y := (if x.bl.supervised then x.loseTwin else x).blDown
  y.resetFields [BL_CRC_ERR_COUNT, BL_REPLAY_REPLAYS, BL_REPLAY_RETRAINS, BL_SIG_MISM_COUNT, BL_SIG_LATE_COUNT,
    BL_PROOF_FAIL_COUNT, BL_OFFLOAD_SENT, BL_OFFLOAD_TAKEN, BL_OFFLOAD_REF_COUNT, BL_DETACH_ORDERLY, BL_DETACH_LOST,
    BL_VIOL_COUNT, BL_LEASH_AGE, BL_LEASH_MISSED, BL_LEASH_RX_COUNT, BL_TWIN_MODE_MODE, BL_TIME_OFS_TICKS] 0

/-- A block is reset. -/
def Chip.blockReset (x : Chip) (kind inst : Nat) : Chip :=
  let x := x.resetCrossings false kind inst
  match kind with
  | 1 => x.coreReset inst
  | 3 => x.headReset inst
  | 5 => x.touchReset inst
  | 6 => x.hpReset inst
  | 7 => x.cvReset inst
  | _ => x

/-- Blocks in use by the secure world that a subsystem holds. -/
def Chip.subUsed (x : Chip) (s : Nat) : List (Nat × Nat) :=
  [1, 3, 5, 6].flatMap fun k => if subOf k = some s then
    ((List.range (kindCount k)).filter fun i => x.inUse k i).map fun i => (k, i) else []

/-- A subsystem is reset. -/
def Chip.subReset (x : Chip) (s : Nat) : Chip :=
  let y := ({ x with sw := { x.sw with removed := x.sw.removed ++ x.subUsed s } }).resetCrossings true s 0
  match s with
  | 0 => ((List.range 24).foldl Chip.coreReset y).resetFields [GX_SPILL_CNT_COUNT, GX_GROW_REQ_CNT_COUNT,
      GX_GROW_LATE_CNT_COUNT, GX_PREEMPT_CNT_COUNT, GX_ABANDON_CNT_ABANDONED, GX_ABANDON_CNT_ABORTED] 0
  | 1 => (List.range 16).foldl Chip.headReset y
  | 2 => y.auReset
  | 3 => ((List.range 16).foldl (fun (z : Chip) n => (z.touchReset n).hpReset n) y).resetFields [TH_SEC_CNT_COUNT] 0
  | 4 => y.skReset 0
  | 5 => y.skReset 1
  | 6 => y.bowlineReset
  | _ => y

/-! ### Assertion and release (R503 to R505) -/

/-- RB_HELD follows the resets held. -/
def Chip.updHeld (x : Chip) : Chip :=
  let subs := ((List.range 7).map fun s => if x.heldSub s then 2 ^ s else 0).sum
  (x.set RB_HELD_SUBSYS subs).set RB_HELD_BLOCKS (min 255 (x.rs.holds.filter fun h => !h.1).length)

/-- The event range base journaled for a reset: that of a block, or of the first block in use of a subsystem, or 0. -/
def Heel.base (h : Heel) (x : Chip) : Nat :=
  if h.sub then ((x.subUsed h.kind).head?.map fun k => evBase k.1 k.2).getD 0 else evBase h.kind h.inst

/-- The heel is for this block or subsystem. -/
def Heel.is (h : Heel) (sub : Bool) (kind inst : Nat) : Bool := h.sub = sub && (h.kind = kind && h.inst = inst)

/-- The command's own opcode. -/
def Heel.op (h : Heel) : Op := if h.sub then opResetSubsystem else opResetBlock

/-- The reset of a heel asserts, answered or forced; with HOLD the command is answered here. -/
def Chip.heelAssert (x : Chip) (h : Heel) (timeout : Bool) : Chip :=
  let forced := timeout || h.forced
  let y := if forced then ((x.sat RB_FORCED_COUNT).raise 496).journal 8 (h.base x) else x
  let y := if h.sub then (y.subReset h.kind).setBit RB_CAUSE_SRC 16 true
    else (y.blockReset h.kind h.inst).setBit RB_CAUSE_SRC 17 true
  let key := (h.sub, h.kind, h.inst)
  if h.hold then
    let holds := if y.rs.holds.contains key then y.rs.holds else y.rs.holds ++ [key]
    let y := { y with rs := { y.rs with heels := y.rs.heels.filter (fun g => g != h), holds := holds } }
    (y.updHeld).ok h.op h.call []
  else
    let hs := updAll y.rs.heels (fun g => g = h) fun g => { g with asserted := true }
    { y with rs := { y.rs with heels := hs } }

/-- Blocks come out of reset, stopped (R51), but for those a HOLD still keeps there (R489, R505). Haptic channels
calibrate where they are due (R280). -/
def Chip.blockOut (x : Chip) (sub : Bool) (kind inst : Nat) : Chip :=
  let core := fun (y : Chip) n => if y.get GXn_STAT_STATE n = 6 && !y.heldBlock 1 n then
    y.set GXn_STAT_STATE (if y.groupGated (n / 4) then 5 else 0) n else y
  let y := if sub && kind = 0 then (List.range 24).foldl core x
    else if sub && kind = 3 then (List.range 16).foldl Chip.hpCalDue x.hpAuto
    else if !sub && kind = 1 then core x inst
    else if !sub && kind = 6 then x.hpCalDue inst
    else if !sub && (kind = 7 && !x.heldBlock 7 inst) then x.setCv inst fun s => { s with inReset := false, spoiled := x.cvOpen inst }
    else x
  y.raiseIf (!(if sub then x.heldSub kind else x.heldBlock kind inst)) 502

/-- The heel can be answered (R504): haptic channels rest in Idle or Fault (R284), no touch report is being read (R266), and
no data unit is in progress at a check-value unit's tap (R409). The other answer points, those of a head tap among them,
leave no mark in the state. -/
def Chip.heelReady (x : Chip) (h : Heel) : Bool :=
  let touch := fun (n : Nat) => x.tpState n != tpReading
  let haptic := fun (n : Nat) => x.hpPhase n = hpIdle || x.hpPhase n = hpFault
  if h.sub then h.kind != 3 || (List.range 16).all fun n => touch n && haptic n
  else if h.kind = 5 then touch h.inst
  else if h.kind = 6 then haptic h.inst
  else h.kind != 7 || (x.get CVn_CFG_TAP h.inst < 16 || !x.cvOpen h.inst)

/-- HEEL_ANSWER: nothing happens while the block is short of its answer point. -/
def heelAnswer (sub : Bool) (kind inst : Nat) (x : Chip) : Chip :=
  match x.rs.heels.find? fun h => h.is sub kind inst && !h.asserted with
  | some h => if x.heelReady h then x.heelAssert h false else x
  | none => x

/-- HEEL_TIMEOUT. Assumption log, row 98. -/
def heelTimeout (sub : Bool) (kind inst : Nat) (x : Chip) : Chip :=
  match x.rs.heels.find? fun h => h.is sub kind inst && !h.asserted with
  | some h => x.heelAssert h true
  | none => x

/-- BLOCK_RESET_RELEASE: the reset has been held for 1 us, and the command is answered. -/
def blockResetRelease (sub : Bool) (kind inst : Nat) (x : Chip) : Chip :=
  match x.rs.heels.find? fun h => h.is sub kind inst && h.asserted with
  | some h =>
    let y := { x with rs := { x.rs with heels := x.rs.heels.filter fun g => g != h } }
    (y.blockOut sub kind inst).ok h.op h.call []
  | none => x

/-! ### The commands (R512) -/

/-- A heel request is raised; a block already in reset answers at once. -/
def Chip.heelRaise (x : Chip) (h : Heel) : Chip :=
  let inReset := x.rs.holds.contains (h.sub, h.kind, h.inst) || (!h.sub && x.heldBlock h.kind h.inst)
  let y := { x with rs := { x.rs with heels := x.rs.heels ++ [h] } }
  let y := if h.sub then
      (if h.kind = 0 then y.requestPreempt fun _ => true else y)
    else if h.kind = 1 then y.requestPreempt fun j => j.cores.contains h.inst else y
  if inReset then y.heelAssert h false else y

/-- A held reset is released by RELEASE. -/
def Chip.unhold (x : Chip) (o : Op) (c : Call) (sub : Bool) (kind inst : Nat) : Chip :=
  let key := (sub, kind, inst)
  if !x.rs.holds.contains key then x.ok o c []
  else
    let y := { x with rs := { x.rs with holds := x.rs.holds.filter fun h => h != key } }
    (y.updHeld.blockOut sub kind inst).ok o c []

/-- RESET_BLOCK. -/
def resetBlock (c : Call) (x : Chip) : Chip :=
  x.perform opResetBlock c fun x =>
    let kind := bits (c.w 0) 0 4
    let inst := bits (c.w 0) 8 5
    let hold := bitAt (c.w 0) 16
    let rel := bitAt (c.w 0) 17
    if x.kennel then x.deniedMode opResetBlock c
    else if !([1, 3, 5, 6, 7].contains kind) || (kindCount kind ≤ inst || (hold && rel ||
      c.w 0 != kind + 256 * inst + 65536 * bits (c.w 0) 16 2)) then x.bad opResetBlock c 0
    else if rel then x.unhold opResetBlock c false kind inst
    else if x.secUp && x.inUse kind inst then x.denySecure opResetBlock c kind inst
    else x.heelRaise ⟨false, kind, inst, c, hold, false, x.inUse kind inst⟩

/-- RESET_SUBSYSTEM. -/
def resetSubsystem (c : Call) (x : Chip) : Chip :=
  x.perform opResetSubsystem c fun x =>
    let s := bits (c.w 0) 0 3
    let hold := bitAt (c.w 0) 16
    let rel := bitAt (c.w 0) 17
    if x.kennel then x.deniedMode opResetSubsystem c
    else if s = 7 || (hold && rel || c.w 0 != s + 65536 * bits (c.w 0) 16 2) then x.bad opResetSubsystem c 0
    else if rel then x.unhold opResetSubsystem c true s 0
    else x.heelRaise ⟨true, s, 0, c, hold, false, false⟩

/-! ### Gating (R520) -/

/-- A domain's PHY PLL is locked, or not (R420). Assumption log, row 98. -/
def Chip.domLock (x : Chip) (code : Nat) (b : Bool) : Chip :=
  if 6 ≤ code && code < 16 then x.setBit CK_PHY_LOCK_DX (code - 6) b
  else if 16 ≤ code then x.setBit CK_PHY_LOCK_SK (code - 16) b
  else x

/-- Cores of a group. -/
def groupCores (g : Nat) : List Nat := [4 * g, 4 * g + 1, 4 * g + 2, 4 * g + 3]

/-- The cores of a gated group that hold no job are off; the others follow at their preemption points. -/
def Chip.gateCores (x : Chip) (g : Nat) : Chip :=
  let y := (groupCores g).foldl (fun (y : Chip) n =>
    if y.gx.jobs.any (fun j => j.cores.contains n) || y.get GXn_STAT_STATE n = 6 then y else y.set GXn_STAT_STATE 5 n) x
  y.requestPreempt fun j => j.cores.any fun n => n / 4 = g

/-- GATE_BLOCK commands whose group is off are answered. Assumption log, row 98. -/
def Chip.gateCheck (x : Chip) : Chip :=
  let done := x.pw.gates.filter fun g => (groupCores g.2).all fun n => !x.gx.jobs.any fun j => j.cores.contains n
  let y := done.foldl (fun (y : Chip) g => y.ok opGateBlock g.1 []) x
  { y with pw := { y.pw with gates := y.pw.gates.filter fun g => !done.contains g } }

/-- GL_GATE shows a domain gated by command. Assumption log, row 98. -/
def Chip.gateDom (x : Chip) (code : Nat) : Chip :=
  if bitAt (x.get GL_GATE_DOM) code then x else (x.setBit GL_GATE_DOM code true).raise 21

/-- A secure block that stands in the way while the secure world is down is reset, forced (R453). Assumption log, row
98. -/
def Chip.forceOut (x : Chip) (kind inst : Nat) : Chip :=
  let y := ((x.sat RB_FORCED_COUNT).raise 496).journal 8 (evBase kind inst)
  let y := (y.setBit RB_CAUSE_SRC 17 true).blockReset kind inst
  y.blockOut false kind inst

/-- GATE_BLOCK. Assumption log, row 98. -/
def gateBlock (c : Call) (x : Chip) : Chip :=
  x.perform opGateBlock c fun x =>
    let d := c.w 0
    if 17 < d then x.bad opGateBlock c 0
    else if d < 6 then
      match (groupCores d).find? fun n => x.inUse 1 n with
      | some n =>
        if x.secUp then x.denySecure opGateBlock c 1 n
        else
          let y := ((groupCores d).filter fun n => x.inUse 1 n).foldl (fun (y : Chip) n => y.forceOut 1 n) x
          let y := (y.gateDom d).gateCores d
          { y with pw := { y.pw with gates := y.pw.gates ++ [(c, d)] } }.gateCheck
      | none =>
        let y := (x.gateDom d).gateCores d
        { y with pw := { y.pw with gates := y.pw.gates ++ [(c, d)] } }.gateCheck
    else if (if d < 16 then x.on DXn_STAT_RUN (d - 6) else x.on SKn_STAT_RUN (d - 16)) then
      x.done opGateBlock c stNotStopped [if d < 16 then x.dxStat (d - 6) else x.skStat (d - 16)]
    else if d < 16 && (x.inUse 4 (d - 6) && x.secUp) then x.denySecure opGateBlock c 4 (d - 6)
    else ((x.gateDom d).domLock d false).ok opGateBlock c []

/-- The cores of a group that is no longer gated are idle again. -/
def Chip.ungateCores (x : Chip) (g : Nat) : Chip :=
  if x.groupGated g then x
  else (groupCores g).foldl (fun (y : Chip) n =>
    if y.get GXn_STAT_STATE n = 5 then y.set GXn_STAT_STATE 0 n else y) x

/-- UNGATE_BLOCK. -/
def ungateBlock (c : Call) (x : Chip) : Chip :=
  x.perform opUngateBlock c fun x =>
    let d := c.w 0
    if 17 < d then x.bad opUngateBlock c 0
    else if d < 6 && bitAt (x.get GL_GATE_THERM) d then x.deniedMode opUngateBlock c
    else if !bitAt (x.get GL_GATE_DOM) d then x.ok opUngateBlock c []
    else
      let y := (x.setBit GL_GATE_DOM d false).raise 21
      (if d < 6 then y.ungateCores d else y.domLock d true).ok opUngateBlock c []

/-- RESET_BLOCK. -/
def execResetBlock (c : Call) (s : State) : Host.Outcome State Fault Refusal := s.onChip (resetBlock c)
/-- RESET_SUBSYSTEM. -/
def execResetSubsystem (c : Call) (s : State) : Host.Outcome State Fault Refusal := s.onChip (resetSubsystem c)
/-- HEEL_ANSWER. -/
def execHeelAnswer (h : HeelRef) (s : State) : Host.Outcome State Fault Refusal := s.onChip (heelAnswer h.sub h.kind.val h.inst.val)
/-- HEEL_TIMEOUT. -/
def execHeelTimeout (h : HeelRef) (s : State) : Host.Outcome State Fault Refusal := s.onChip (heelTimeout h.sub h.kind.val h.inst.val)
/-- BLOCK_RESET_RELEASE. -/
def execBlockResetRelease (h : HeelRef) (s : State) : Host.Outcome State Fault Refusal :=
  s.onChip (blockResetRelease h.sub h.kind.val h.inst.val)
/-- GATE_BLOCK. -/
def execGateBlock (c : Call) (s : State) : Host.Outcome State Fault Refusal := s.onChip (gateBlock c)
/-- UNGATE_BLOCK. -/
def execUngateBlock (c : Call) (s : State) : Host.Outcome State Fault Refusal := s.onChip (ungateBlock c)

end Sys2Proof.Machine
end

