-- ==== Sys2Proof/Machine/Power.lean ====
section
/-!
DEFINITION. Power modes (R21, R35 to R37, R43, R50, R149, R368), wakes, the Park clock face and the thermal rules
(R521 to R524), and the class 0xC commands beside resets.
-/
namespace Sys2Proof.Machine

/-! ### Thermal rules (R524) -/

/-- Sensor readings, signed. -/
def tempList (t : Temps) : List Int :=
  [t.t0, t.t1, t.t2, t.t3, t.t4, t.t5, t.t6, t.t7].map fun v => toS 16 v.toNat

/-- The highest reading and the lowest-numbered sensor that gives it. Assumption log, row 101. -/
def hottest (ts : List Int) : Int × Nat :=
  ts.zipIdx.foldl (fun b p => if b.1 < p.1 then p else b) (ts.headD 0, 0)

/-- The render groups are gated by the 125 degree rule. Assumption log, row 100. -/
def Chip.thermGate (x : Chip) : Chip :=
  let y := ((x.set GL_GATE_THERM 63).raise 19).raise 21
  (List.range 6).foldl Chip.gateCores y

/-- The thermal hold is released: THERM_DIM clears, and the groups gated by the rule return unless a command gates them. -/
def Chip.thermFree (x : Chip) : Chip :=
  let was := x.get GL_GATE_THERM
  let y := (x.flag GL_MODE_THERM_DIM false).raise 17
  if was = 0 then y
  else ((List.range 6).filter fun g => bitAt was g).foldl Chip.ungateCores ((y.set GL_GATE_THERM 0).raise 21)

/-- The sensors are read, and Tj acts. Assumption log, row 101. -/
def Chip.thermal (x : Chip) (ts : List Int) : Chip :=
  let old := toS 16 (x.get GL_THERM_TJ)
  let tj := (hottest ts).1
  let warn : Int := ((10 * clampN (x.get GL_THERM_CFG_WARN) 60 114 : Nat) : Int)
  let y := { x with pw := { x.pw with temps := ts.map fun t => ofS 32 t } }
  let y := (y.set GL_THERM_TJ (ofS 16 tj)).set GL_THERM_HOT (hottest ts).2
  let y := y.raiseIf (decide (old < warn) && decide (warn ≤ tj)) 18
  let y := if decide (1150 ≤ tj) && (decide (old < 1150) || !x.on GL_MODE_THERM_DIM) then
    (y.flag GL_MODE_THERM_DIM true).raise 16 else y
  if decide (1250 ≤ tj) && (!x.kennel && x.get GL_GATE_THERM != 63) then y.thermGate else y

/-! ### Suspension of the blocks (R50) -/

/-- A running head that is not suspended is to suspend at its safe point. Assumption log, row 100. -/
def Chip.headsSuspend (x : Chip) : Chip :=
  ((List.range 16).filter fun h => [1, 2].contains (x.get HDn_STAT_STATE h)).foldl
    (fun (y : Chip) h => y.setHead h fun s => { s with suspend := true }) x

/-- HEAD_SAFE_POINT; a head that suspends enters self-refresh where its port supports it (R250). -/
def headSafePointAll (h : Nat) (x : Chip) : Chip :=
  let y := headSafePoint h x
  if x.get HDn_STAT_STATE h != 4 && y.get HDn_STAT_STATE h = 4 then
    match y.portOf h with
    | some q => if y.on DXn_STAT_RUN q.1 && y.srSupport q.1 then y.set HDn_STAT_SR 2 h else y
    | none => y
  else y

/-- Suspended heads whose port's link is up again run; one with no running port runs at once (R241, R250). Assumption
log, row 100. -/
def Chip.headsResume (x : Chip) : Chip :=
  if 2 ≤ x.get GL_MODE_POWER || x.pw.target.any (2 ≤ ·) then x
  else
    ((List.range 16).filter fun h => x.get HDn_STAT_STATE h = 4).foldl (fun (y : Chip) h =>
      let waits := match y.portOf h with
        | some q => y.on DXn_STAT_RUN q.1 && !y.on DXn_STAT_LINK_UP q.1
        | none => false
      if waits then y
      else (y.set HDn_STAT_STATE 2 h).set HDn_STAT_SR (if y.get HDn_STAT_SR h = 2 then (if (y.head h).wantSr then 2 else 3) else 0) h) x

/-- A head that asked to suspend and did not need to goes on. -/
def Chip.headsKeep (x : Chip) : Chip := { x with hd := x.hd.map fun s => { s with suspend := false } }

/-- Every running port is turned off, its link down. Assumption log, row 100. -/
def Chip.portsOff (x : Chip) : Chip :=
  ((List.range 10).filter fun p => x.on DXn_STAT_RUN p && !(x.port p).off).foldl
    (fun (y : Chip) p => (y.linkDown p).setPort p fun s => { s with off := true }) x

/-- Every port turned off is on again and starts its link. -/
def Chip.portsOn (x : Chip) : Chip :=
  ((List.range 10).filter fun p => (x.port p).off).foldl
    (fun (y : Chip) p =>
      let y := y.setPort p fun s => { s with off := false }
      if y.on DXn_STAT_RUN p then y.startLink p else y) x

/-- At Park entry every haptic channel that drives enters Brake, and latched triggers are discarded (R284); the ending
reported is a free value. Assumption log, row 63. -/
def Chip.hapticsPark (x : Chip) : Chip :=
  (List.range 16).foldl (fun (y : Chip) n =>
    let y := y.hpUnlatch n
    if y.hpPhase n = hpAttack || y.hpPhase n = hpSustain then (y.hpToBrake n (y.free 2)).took else y) x

/-- Jobs end Abandoned at Park entry (R149): those without cores at once, the others once they have left theirs. -/
def Chip.jobsPark (x : Chip) : Chip :=
  (x.gx.jobs.filter fun j => j.cores = []).foldl (fun (y : Chip) j => y.abandonJob j true) x

/-- Bin-grow timers stop, or start again at their full value (R149). -/
def Chip.growTimers (x : Chip) (b : Bool) : Chip :=
  { x with gx := { x.gx with jobs := updAll x.gx.jobs (fun j => j.st = .binWait) fun j => { j with timer := b } } }

/-- The blocks that use memory are asked to suspend. Assumption log, row 99. -/
def Work.suspendAll (w : Work) : Work := ((w.on Chip.headsSuspend).on Chip.auSuspend).skSuspend

/-- No core holds a job. -/
def Chip.coresFree (x : Chip) : Bool := x.gx.jobs.all fun j => j.cores = []

/-- Heads, audio domains and Skein ports have suspended, the render array is empty and no channel retrains (R393,
R395). Assumption log, row 19. -/
def Chip.allSuspended (x : Chip) : Bool :=
  ((List.range 16).all fun h => [0, 4].contains (x.get HDn_STAT_STATE h)) && (x.auSuspended && (x.skSuspended &&
    (x.coresFree && (List.range 16).all fun c => x.get MCn_CHk_STAT_STATE c != 2)))

/-- Every suspension that has begun has come to its point (R21): heads, audio domains and Skein ports that were asked
to, and the render array. -/
def Chip.begunSuspended (x : Chip) : Bool :=
  (x.hd.all fun s => !s.suspend) && ((x.au.dom.all fun s => !s.suspend) && (x.coresFree &&
    [0, 1].all fun p => !(x.lk p).suspend || x.lkState p = lkDown))

/-- Every haptic channel is Idle or in Fault. -/
def Chip.hapticsRest (x : Chip) : Bool := (List.range 16).all fun n => x.hpPhase n = hpIdle || x.hpPhase n = hpFault

/-- The blocks resume in the reverse order of their suspension, as on a return from Hold (R21, R50); copies put off are
made (R137). -/
def Work.resumeAll (w : Work) : Work :=
  let w := w.on fun x => ((((x.growTimers true).skResume).auResume).portsOn).headsKeep.headsResume
  let w := w.put (heldCopies w.mem w.x)
  w.on fun x => (x.flag HB_STAT_PAUSED false).evacuate

/-! ### The end of a transition (R27, R32) -/

/-- A transition under way ends. -/
def Chip.powerOver (x : Chip) : Chip :=
  { x.setBit GL_MODE_BUSY 1 false with
    pw := { x.pw with target := none, calls := [], stage := 0, cancel := false, gathered := false, face := false } }

/-- A transition begins. -/
def Chip.powerBegin (x : Chip) (m : Nat) (c : Option Call) : Chip :=
  { x.setBit GL_MODE_BUSY 1 true with
    pw := { x.pw with target := some m, calls := c.toList, prior := x.get GL_MODE_POWER, stage := 1, cancel := false, gathered := false } }

/-- The commands that wait for the mode are answered. -/
def Chip.powerReplies (x : Chip) : Chip := x.pw.calls.foldl (fun (y : Chip) c => y.ok opPowerModeSet c []) x

/-- What a wake or a cancelled entry tells the twin (R368). Assumption log, row 102. -/
def Work.tellCancel (w : Work) : Work :=
  if w.x.paired && w.x.bl.supervised then (w.on fun x => x.blSend 5 9 []).blPump else w

/-- GL_WAKE_SRC takes a source: 0 a GPIO, 1 the alarm, 2 PCI Express, 3 touch. -/
def Chip.wakeRec (x : Chip) (kind gpio : Nat) : Chip := (x.set GL_WAKE_SRC_KIND kind).set GL_WAKE_SRC_GPIO gpio

/-- The twin-wake output goes low for 100 µs (R37). Assumption log, row 102. -/
def Chip.twinPulse (x : Chip) : Chip :=
  if x.on GL_WAKE_EN1_TWIN_OUT_EN then
    ({ x with pw := { x.pw with wakeLow := true } }).emit (.pin 8 [x.get GL_WAKE_EN1_TWIN_OUT, 0])
  else x

/-- Hold is left for Run or Dim (R35). Assumption log, row 30. -/
def Work.leaveHold (w : Work) (m : Nat) : Work :=
  (w.on fun x =>
    { (x.leaveRefresh).setMode GL_MODE_POWER m with fn := { x.fn with l1 := false } }).resumeAll

/-- The alarm has been reached (R521). -/
def Chip.alarmDue (x : Chip) : Bool := x.on GL_WAKE_EN1_ALARM && decide (x.get GL_WAKE_AT_SEC ≤ x.get TB_SEC_SEC)

/-- An alarm already reached at an entry cancels it, or has Hold left at once. -/
def Chip.alarmCheck (x : Chip) : Chip :=
  if x.alarmDue then { x.wakeRec 1 0 with pw := { x.pw with cancel := true } } else x

/-- What Hold and Park entry do alike at their start: an attach fails (R354), balancing migrations are aborted (R126). -/
def Chip.entryStart (x : Chip) : Chip :=
  let y := x.attachFail 11
  let y := (y.hb.map.filter fun e => e.valid && e.kind = 0).foldl Chip.abortMig y
  y.flag HB_STAT_PAUSED true

/-- Hold entry begins. -/
def Work.beginHold (w : Work) (c : Option Call) : Work :=
  let w := w.on fun x => ((x.entryStart.powerBegin 2 c).growTimers false).requestPreempt fun _ => true
  (w.on Chip.alarmCheck).suspendAll

/-- Hold is reached; where a wake came before, it is left at once. Assumption log, row 100. -/
def Work.holdReached (w : Work) : Work :=
  let cancel := w.x.pw.cancel
  let w := w.on fun x =>
    let y := ((x.headsSuspend.portsOff).selfRefresh).setMode GL_MODE_POWER 2
    let y := (y.powerReplies).powerOver
    { y with fn := { y.fn with l1 := true }, bl := { y.bl with agreed := none } }
  if cancel then
    (w.leaveHold (if w.x.on GL_MODE_THERM_DIM then 1 else 0)).on fun x =>
      (({ x with pw := { x.pw with dimCmd := false } }).raise 20).twinPulse
  else w

/-- Dim entry begins: jobs outside the permitted group leave their cores (R149). -/
def Chip.beginDim (x : Chip) (c : Option Call) : Chip :=
  let y := x.powerBegin 1 c
  let g := y.dimGroup
  y.requestPreempt fun j => j.cores.any fun n => n / 4 != g

/-- Every job that holds cores holds them in the permitted group. -/
def Chip.dimReady (x : Chip) : Bool :=
  let g := x.dimGroup
  x.gx.jobs.all fun j => j.cores.all fun n => n / 4 = g

/-! ### Park (R21, R130, R522) -/

/-- The face record in the commissioned configuration. -/
def Chip.faceHeld (x : Chip) : List Nat := (x.nv.cfg.map (·.face)).getD []

/-- The port KENNEL_PORT chooses. -/
def Chip.kennelPort (x : Chip) : Nat := if x.on RB_STRAP_KENNEL_PORT then 4 else 0

/-- FACE is allowed (R522). Assumption log, row 103. -/
def Chip.faceOk (x : Chip) : Bool :=
  let p := x.kennelPort
  x.on HDn_STAT_RUN 0 && (x.on DXn_STAT_RUN p && ((x.mapped p).contains 0 && (x.srSupport p && x.faceHeld != [])))

/-- The two digits of each cell of the face, 10 for the colon and 11 for a blank (R523). -/
def Chip.faceCells (x : Chip) (r : List Nat) : List Nat :=
  let ofs := toS 16 (x.get GL_PARK_FACE_OFS)
  let t := (((x.get TB_SEC_SEC : Nat) : Int) + 60 * ofs) % 86400
  let h24 := (t / 3600).toNat
  let m := (t / 60 % 60).toNat
  let h := if x.on GL_PARK_FACE_H24 then h24 else (if h24 % 12 = 0 then 12 else h24 % 12)
  [if h < 10 && !bitAt (fieldLe r 0x18 1) 0 then 11 else h / 10, h % 10, 10, m / 10, m % 10]

/-- The pixel of the face at `px`, `py` (R523). -/
def facePixel (r cells : List Nat) (px py : Nat) : Nat :=
  let gw := fieldLe r 0x14 1
  let gh := fieldLe r 0x16 2
  let dx := fieldLe r 0x10 2
  let dy := fieldLe r 0x12 2
  let pitch := gw + fieldLe r 0x15 1
  let bg := fieldLe r 0xC 2
  if px < dx || (py < dy || (dy + gh ≤ py || pitch = 0)) then bg
  else
    let c := (px - dx) / pitch
    let u := (px - dx) % pitch
    let g := cells.getD c 11
    if 5 ≤ c || (gw ≤ u || 10 < g) then bg
    else
      let byte := r.getD (0x20 + g * (gh * (gw / 8)) + (py - dy) * (gw / 8) + u / 8) 0
      if bitAt byte (7 - u % 8) then fieldLe r 0xE 2 else bg

/-- A rectangle of the face, in row order. -/
def faceRect (r cells : List Nat) (x0 y0 w h : Nat) : List Nat :=
  (List.range h).flatMap fun j => (List.range w).map fun i => facePixel r cells (x0 + i) (y0 + j)

/-- Step 3 of the entry: the face is drawn into safe SRAM. Assumption log, row 103. -/
def Chip.drawFace (x : Chip) : Chip :=
  if !x.pw.face then x
  else
    let r := x.faceHeld
    let img := faceRect r (x.faceCells r) 0 0 (fieldLe r 8 2) (fieldLe r 0xA 2)
    { x with pw := { x.pw with faceImg := img } }

/-- PARK_FACE_UPDATE: the five cells are drawn again and sent as a selective update. Assumption log, row 103. -/
def parkFaceUpdate (x : Chip) : Chip :=
  if x.get GL_MODE_POWER != 3 || x.pw.faceImg = [] then x
  else
    let r := x.faceHeld
    let cells := x.faceCells r
    let dx := fieldLe r 0x10 2
    let dy := fieldLe r 0x12 2
    let w := 5 * fieldLe r 0x14 1 + 4 * fieldLe r 0x15 1
    let h := fieldLe r 0x16 2
    let img := faceRect r cells 0 0 (fieldLe r 8 2) (fieldLe r 0xA 2)
    ({ x with pw := { x.pw with faceImg := img } }).emit
      (.pin 9 ([x.kennelPort, fieldLe r 4 2 + dx, fieldLe r 6 2 + dy, w, h] ++ faceRect r cells dx dy w h))

/-- Park entry begins, with gathering (R128), and every job is asked to leave its cores (R149, R167); an alarm already reached is told to the twin as any wake is (R368). -/
def Chip.beginPark (x : Chip) (c : Option Call) (face : Bool) : Chip :=
  let y := (x.entryStart.powerBegin 3 none).requestPreempt fun _ => true
  let y := if y.pw.prior = 2 then y.leaveRefresh else y
  let y := ({ y with hb := { y.hb with gathering := true }, pw := { y.pw with face := face } }).flag HB_STAT_GATHER true
  let y := if y.alarmDue then y.alarmCheck.raise 20 else y
  let y := if y.pw.cancel && (y.paired && y.bl.supervised) then y.blSend 5 9 [] else y
  let y := y.gather
  match c with
  | some c => y.deferred opPowerModeSet c []
  | none => y

/-- Registers of the event controller saved for Park (R567). -/
def evKept : List Fld :=
  [EV_CTL_EN, EV_PINp_EN, EV_ROUTEs_FUNC, EV_ROUTEs_VEC, EV_ROUTEs_MSIX_EN, EV_ROUTEs_PINS, EV_VECv_COAL_COUNT, EV_VECv_COAL_TIME,
   EV_FNf_REPLY_VEC, EV_FNf_COUNT, EV_FNf_TIME]

/-- The event controller turns off at Park entry. -/
def Chip.evOff (x : Chip) : Chip :=
  let kept := fun (e : Nat × Nat) => (evKept.map (·.id)).contains (e.1 / 2048)
  let lost := fun (e : Nat × Nat) => kept e || [EV_PENDk_SRC.id, EV_PINp_LEVEL.id].contains (e.1 / 2048)
  { x with
    regs := x.regs.filter fun e => !lost e
    ev := { x.ev with saved := x.regs.filter kept, raised := [], counts := [] } }

/-- It comes back at a wake with its settings. -/
def Chip.evOn (x : Chip) : Chip :=
  let regs := x.ev.saved.foldl (fun r e => sparseSet r e.1 e.2 (e.2 + 1)) x.regs
  ({ x with regs := regs, ev := { x.ev with saved := [] } }).updPins

/-- Park is reached: what the domains that turn off do not keep is lost. Assumption log, row 102. -/
def Chip.parkReached (x : Chip) : Chip :=
  let y := (x.jobsPark.headsSuspend.portsOff).setMode GL_MODE_POWER 3
  let face := y.pw.face
  let y := y.powerOver
  let y := { y with bl := { y.bl with agreed := none }, pw := { y.pw with faceImg := if face then y.pw.faceImg else [] } }
  y.evOff

/-- A paired chip whose link a Park entry took down is Solo, and attaches anew (R36). Assumption log, row 120. -/
def Work.attachAnew (w : Work) : Work :=
  (w.on fun x =>
    let y := ((x.setMode GL_MODE_PAIR 0).flag GL_MODE_TWIN_SERVICE false).flag GL_MODE_TWIN_KENNEL false
    let y := (y.tbSource.freeCopies).set BL_STAT_ATTACH 0
    if y.blWanted then y.beginAttach else y).blPump

/-- A cancelled Park entry is undone (R21): its completed steps and suspensions in reverse order, the memory's first,
the gathering's last. A pair whose link has gone Down at step 2 attaches anew. Assumption log, row 120. -/
def Work.parkUndo (w : Work) : Work :=
  let stage := w.x.pw.stage
  let prior := w.x.pw.prior
  let w := w.on fun x =>
    let y := { x.powerOver with pw := { x.powerOver.pw with faceImg := [] }, bl := { x.powerOver.bl with agreed := none } }
    y.onlyIf (3 ≤ stage) fun y => (y.trained 65535).raise 460
  let w := if prior = 2 then w.on Chip.selfRefresh else w.resumeAll
  let w := w.on fun x => { x.flag HB_STAT_GATHER false with hb := { x.hb with gathering := false } }
  if 3 ≤ stage && w.x.paired then w.attachAnew else w

/-- A step or suspension of Park entry completes, and the next begins; a wake seen meanwhile lets what has begun come
to its point, begins nothing more, and undoes the rest (R21). Assumption log, rows 99, 120. -/
def Work.parkStep (w : Work) : Work :=
  let x := w.x
  match x.pw.stage with
  | 1 =>
    if x.pw.cancel then
      (if x.hb.map.any fun e => e.valid && (e.kind = 2 && e.mig != 0) then w else w.parkUndo)
    else
      let w := w.on Chip.gather
      if !w.x.pw.gathered then w
      else
        let w := w.on fun x => { (x.jobsPark.hapticsPark).flag HB_STAT_GATHER false with pw := { x.pw with stage := 2 } }
        w.suspendAll
  | 2 =>
    let w := w.on Chip.jobsPark
    if x.pw.cancel then (if w.x.begunSuspended && w.x.hapticsRest then w.parkUndo else w)
    else
      let w := w.suspendAll
      if !(w.x.allSuspended && w.x.hapticsRest) then w
      else
        w.on fun x =>
          let y := (x.jobsPark.portsOff).parkRefresh
          let y := (if y.bl.supervised then y.unsupervise else y).blDown
          { y with pw := { y.pw with stage := 3 } }
  | 3 =>
    if x.pw.cancel then w.parkUndo
    else w.on fun x => { x.drawFace with pw := { x.drawFace.pw with stage := 4 } }
  | _ => if x.pw.cancel then w.parkUndo else w.on Chip.parkReached

/-- The content that Park loses (R130, R181, R409). Assumption log, rows 82, 102. -/
def Chip.parkLoss (x : Chip) : Chip :=
  let stamp := x.freeCtr + 1
  let map := updAll x.hb.map (fun e => e.valid && !x.inRegion e) fun e => { e with lost := stamp }
  let y := { x.took with
    hb := { x.hb with map := map }
    gx := { x.gx with modules := [], pipes := [], cache := [] }
    cp := { x.cp with store := x.cp.store.map fun (s : LineSlots) => { s with cur := none, spare := none, fresh := false } } }
  let y := ((y.set GX_PIPES_LIVE 0).set GX_SHC_USED_MIB 0).raise 122
  ((List.range 24).filter fun u => y.on CVn_CFG_BOUND u).foldl (fun (y : Chip) u =>
    (y.cvLose u).set CVn_RUN_VALUE (y.cvPoly u).init u) y

/-- A wake from Park. Assumption log, row 102. -/
def Work.wakePark (w : Work) (k : Wake) (kind gpio : Nat) : Work :=
  let paired := w.x.paired
  let w := w.on fun x =>
    let y := (x.wakeRec kind gpio).evOn
    let y := y.thermal (tempList k.temps)
    let cool := (hottest (tempList k.temps)).1 < 1150
    let y := if cool && y.on GL_MODE_THERM_DIM then y.thermFree else y
    let y := ((y.trained (65535 - k.failed.toNat)).set MC_TRAIN_WARM_MS (y.free 8)).took.raise 460
    let y := y.onlyIf paired (·.setMode GL_MODE_PAIR 0)
    let y := (y.setMode GL_MODE_POWER (if y.on GL_MODE_THERM_DIM then 1 else 0)).parkLoss
    { y with
      hb := { y.hb with gathering := false }, fn := { y.fn with l1 := false }
      pw := { y.pw with dimCmd := false, faceImg := [] }, sw := { y.sw with wdog := y.sw.wdog.map fun _ => y.up } }.wakeSlew.tbSource
  let w := (w.resumeAll).on fun x => (x.raise 20).twinPulse
  if paired then w.attachAnew else w

/-! ### POWER_MODE_SET (R35, R36, R43, R527) -/

/-- The modes refuse a power mode. -/
def Chip.powerDenied (x : Chip) (m : Nat) : Bool :=
  (x.kennel && m != 0) ||
  ((m = 3 && x.get RJ_SESSION_ROLE != 0) ||
  ((m = 3 && (x.get GL_MODE_PAIR = 1 && bits (x.get BL_TWIN_MODE_MODE) 4 2 != 0)) ||
  (2 ≤ m && (x.follow && x.bl.agreed != some m))))

/-- The command takes effect, no other transition being under way. Assumption log, row 99. -/
def Work.powerSet (w : Work) (c : Call) : Work :=
  let x := w.x
  let m := bits (c.w 0) 0 2
  let now := x.get GL_MODE_POWER
  let face := bitAt (c.w 0) 8
  let dim := fun (b : Bool) (w : Work) => w.on fun x => { x with pw := { x.pw with dimCmd := b } }
  if x.powerDenied m then w.on fun x => x.deniedMode opPowerModeSet c
  else if c.w 0 != m + 256 * bits (c.w 0) 8 1 || (m = 3 && (face && !x.faceOk)) then w.on fun x => x.bad opPowerModeSet c 0
  else match m with
    | 0 =>
      let w := dim false w
      if now = 0 then w.on fun x => x.ok opPowerModeSet c []
      else if w.x.on GL_MODE_THERM_DIM then
        (if now = 2 then w.leaveHold 1 else w).on fun x => x.ok opPowerModeSet c [x.glMode]
      else if now = 2 then (w.leaveHold 0).on fun x => x.ok opPowerModeSet c []
      else w.on fun x => (x.setMode GL_MODE_POWER 0).ok opPowerModeSet c []
    | 1 =>
      let w := dim true w
      if now = 1 then w.on fun x => x.ok opPowerModeSet c []
      else if now = 2 then (w.leaveHold 1).on fun x => x.ok opPowerModeSet c []
      else w.on fun x => x.beginDim (some c)
    | _ =>
      if now = m then w.on fun x => x.ok opPowerModeSet c []
      else if x.get GL_MODE_PAIR = 1 then
        (w.on fun x => (x.blSend 5 7 [m, 0, 0, 0]).setBl fun b => { b with propose := some (c, m) }).blPump
      else if m = 2 then w.beginHold (some c)
      else w.on fun x => x.beginPark (some c) face

/-! ### What follows of itself -/

/-- POWER_MODE_SET for mode `m` waits for an attach to end; Hold and Park make it fail instead (R32, R354). Assumption
log, row 116. -/
def Chip.powerWaits (x : Chip) (m : Nat) : Bool := x.bit GL_MODE_BUSY 0 && decide (m < 2)

/-- Integrity and pairing transitions that waited are made; what follows a change of the pairing is done anew (R32).
Assumption log, row 116. -/
def Chip.waitedModes (x : Chip) : Chip :=
  let pair := (x.pw.modes.any fun p => p.1 = 0) && !x.otherBusy 0
  (x.modesDue [3, 0]).onlyIf pair fun y => y.updShadow.tbSource

/-- Access transitions that waited are made, and the commands that wait to make one run, oldest first (R32).
Assumption log, row 116. -/
def Chip.accessTurn (x : Chip) : Chip :=
  let y := { x.modesDue [2] with pw := { (x.modesDue [2]).pw with access := [] } }
  x.pw.access.foldl (fun (y : Chip) c =>
    if y.dispatchedCall opClaimRole c then y.claimOpen c else y.releaseNow c) y

/-- A transition whose conditions hold ends; with none under way, axis by axis in the order of R32, the thermal rules
and waiting commands take their turn. Assumption log, rows 99, 114. -/
def Work.powerRounds (n : Nat) (w : Work) : Work :=
  match n with
  | 0 => w
  | n + 1 =>
    let x := w.x
    if x.bl.propose.isSome then w
    else match x.pw.target with
      | some 1 =>
        if x.dimReady then
          (w.on fun x => ((x.setMode GL_MODE_POWER 1).powerReplies).powerOver).powerRounds n
        else w
      | some 2 => if x.allSuspended then w.holdReached.powerRounds n else w
      | some _ => w
      | none =>
        let w := w.on Chip.waitedModes
        let x := w.x
        let attach := x.bit GL_MODE_BUSY 0
        if x.parked then w.on Chip.accessTurn
        else if !attach && (!x.kennel && (x.get GL_MODE_POWER = 0 && x.on GL_MODE_THERM_DIM)) then (w.on fun x => x.beginDim none).powerRounds n
        else if !attach && (x.get GL_MODE_POWER = 1 && (!x.on GL_MODE_THERM_DIM && !x.pw.dimCmd)) then
          (w.on fun x => x.setMode GL_MODE_POWER 0).powerRounds n
        else match x.pw.queue.find? fun c => !x.powerWaits (bits (c.w 0) 0 2) with
          | none => w.on Chip.accessTurn
          | some c => ((w.on fun x => { x with pw := { x.pw with queue := dropFirst x.pw.queue fun d => d = c } }).powerSet c).powerRounds n

/-- Transitions whose conditions hold end. Assumption log, row 19. -/
def Work.powerCheck (w : Work) : Work := w.powerRounds (2 * w.x.pw.queue.length + 8)

/-- POWER_MODE_SET: one that names the mode being entered waits with the command before it, any other for the
transition's end (R32). Assumption log, row 99. -/
def powerModeSet (c : Call) (mem : List Host.Cell) (x : Chip) : Chip × List (Nat × Byte) :=
  x.performM opPowerModeSet c fun x =>
    let m := bits (c.w 0) 0 2
    runWork (fun w =>
      if x.pw.target.isNone && (x.bl.propose.isNone && !x.powerWaits m) then (w.powerSet c).powerCheck
      else if x.pw.target = some m && (c.w 0 = m && m != 1) then
        w.on fun x => if m = 3 then x.deferred opPowerModeSet c []
          else { x with pw := { x.pw with calls := x.pw.calls ++ [c] } }
      else w.on fun x => { x with pw := { x.pw with queue := x.pw.queue ++ [c] } }) mem x

/-- PARK_ENTRY_STEP. Assumption log, row 99. -/
def parkEntryStep (w : Work) : Work :=
  (if w.x.pw.target = some 3 then w.parkStep else w).powerCheck

/-! ### Agreement of a pair (R36, R368) -/

/-- POWER_PROPOSE: the Follow answers, and enters the mode with its Lead. Assumption log, rows 99, 121. -/
def powerPropose (h : MsgHdr) (m : Nat) (w : Work) : Work :=
  blMsg h 5 4 (fun w =>
    let x := w.x
    let ok := x.follow && (!x.kennel && ([2, 3].contains m && (x.get RJ_SESSION_ROLE = 0 && (x.pw.target.isNone &&
      decide (x.get GL_MODE_POWER < m)))))
    let w := w.on fun x => x.blSend 5 8 [b2n ok, 0, 0, 0]
    if !ok then w
    else
      let w := w.on fun x => { x with bl := { x.bl with agreed := some m } }
      (if m = 2 then w.beginHold none else w.on fun x => x.beginPark none false).powerCheck) w

/-- POWER_REPLY: the Lead goes on, or its command is refused; a refusal of its own after an accept is told to the twin. -/
def powerReply (h : MsgHdr) (accept : Bool) (w : Work) : Work :=
  blMsg h 5 4 (fun w =>
    match w.x.bl.propose with
    | none => w
    | some (c, m) =>
      let w := w.on fun x => x.setBl fun b => { b with propose := none }
      if !accept then (w.on fun x => x.deniedMode opPowerModeSet c).powerCheck
      else if w.x.powerDenied m then (w.tellCancel.on fun x => x.deniedMode opPowerModeSet c).powerCheck
      else (if m = 2 then w.beginHold (some c) else w.on fun x => x.beginPark (some c) (bitAt (c.w 0) 8)).powerCheck) w

/-- POWER_REPLY_TIMEOUT. -/
def powerReplyTimeout (w : Work) : Work :=
  match w.x.bl.propose with
  | none => w
  | some (c, _) =>
    (w.on fun x => ({ x with bl := { x.bl with propose := none } }).deniedMode opPowerModeSet c).powerCheck

/-- POWER_CANCEL. -/
def powerCancel (h : MsgHdr) (w : Work) : Work :=
  blMsg h 5 0 (fun w => w.on fun x =>
    if x.pw.target.any (2 ≤ ·) then { x with pw := { x.pw with cancel := true }, bl := { x.bl with agreed := none } }
    else { x with bl := { x.bl with agreed := none } }) w

/-! ### Wakes (R35, R521) -/

/-- A wake source is seen. Assumption log, row 99. -/
def Work.wake (w : Work) (k : Wake) (kind gpio : Nat) : Work :=
  match w.x.pw.target with
  | some 3 =>
    if w.x.pw.cancel || 2 ≤ kind then w
    else ((w.on fun x => ({ x.wakeRec kind gpio with pw := { x.pw with cancel := true } }).raise 20)).tellCancel
  | some 2 =>
    if w.x.pw.cancel then w else w.on fun x => { x.wakeRec kind gpio with pw := { x.pw with cancel := true } }
  | _ =>
    if w.x.get GL_MODE_POWER = 3 then (if 2 ≤ kind then w else (w.wakePark k kind gpio).powerCheck)
    else if w.x.get GL_MODE_POWER = 2 then
      let w := w.on fun x =>
        { (x.wakeRec kind gpio).thermal (tempList k.temps) with pw := { ((x.wakeRec kind gpio).thermal (tempList k.temps)).pw with dimCmd := false } }
      ((w.leaveHold (if w.x.on GL_MODE_THERM_DIM then 1 else 0)).on fun x => (x.raise 20).twinPulse).powerCheck
    else w

/-- WAKE_GPIO: the pin is a wake input. Assumption log, row 102. -/
def wakeGpio (p : Nat) (k : Wake) (w : Work) : Work :=
  if (if p < 32 then bitAt (w.x.get GL_WAKE_EN0_GPIO) p else bitAt (w.x.get GL_WAKE_EN1_GPIO) (p - 32)) then w.wake k 0 p else w

/-- WAKE_ALARM. -/
def wakeAlarm (k : Wake) (w : Work) : Work := if w.x.alarmDue then w.wake k 1 0 else w

/-- WAKE_PCIE: the link leaves L1. -/
def wakePcie (k : Wake) (w : Work) : Work :=
  let w := w.on fun x => { x with fn := { x.fn with l1 := false } }
  if w.x.on GL_WAKE_EN1_PCIE then w.wake k 2 0 else w

/-- WAKE_TOUCH. -/
def wakeTouch (p : Nat) (k : Wake) (w : Work) : Work :=
  if w.x.on GL_WAKE_EN1_TOUCH && w.x.on TPn_STAT_RUN p then w.wake k 3 0 else w

/-- TWIN_WAKE_PULSE_END. -/
def twinWakePulseEnd (x : Chip) : Chip :=
  if x.pw.wakeLow then
    ({ x with pw := { x.pw with wakeLow := false } }).emit (.pin 8 [x.get GL_WAKE_EN1_TWIN_OUT, 1])
  else x

/-- THERMAL_SAMPLE: in Run, Dim and Hold. Assumption log, row 101. -/
def thermalSample (t : Temps) (w : Work) : Work :=
  if w.x.get GL_MODE_POWER = 3 then w else ((w.on fun x => x.thermal (tempList t)).on Chip.headsResume).powerCheck

/-- THERM_RELEASE: Tj has stayed below 105 degrees for 1 s. Assumption log, row 101. -/
def thermRelease (w : Work) : Work :=
  if w.x.get GL_MODE_POWER = 3 || (!w.x.on GL_MODE_THERM_DIM || 1050 ≤ toS 16 (w.x.get GL_THERM_TJ)) then w
  else (w.on Chip.thermFree).powerCheck

/-! ### The other commands of class 0xC -/

/-- MODE_QUERY. -/
def modeQuery (c : Call) (x : Chip) : Chip :=
  x.perform opModeQuery c fun x => x.ok opModeQuery c [x.glMode, x.regWord GL_DEG_CAUSE_SIG_DISAGREE 0]

/-- DEGRADED_CLEAR (R39, R40). -/
def degradedClear (c : Call) (x : Chip) : Chip :=
  x.perform opDegradedClear c fun x =>
    let trim := x.on GL_DEG_CAUSE_TRIM_DEFAULT && x.on RB_STAT_TRIM_DEF
    let chan := x.on GL_DEG_CAUSE_CHAN_RETIRED && (List.range 16).any fun k => x.get MCn_CHk_STAT_STATE k = 3
    if trim || chan then x.deniedMode opDegradedClear c
    else
      let y := x.clearCauses.dropModes 3
      let y := if y.get GL_MODE_INTEG = 1 then y.setMode GL_MODE_INTEG 0 else y
      y.ok opDegradedClear c []

/-- THERMAL_QUERY. -/
def thermalQuery (c : Call) (x : Chip) : Chip :=
  x.perform opThermalQuery c fun x => x.ok opThermalQuery c ([x.word [GL_THERM_TJ, GL_THERM_HOT]] ++ x.pw.temps)

/-- What is wrong with a face record: 1 magic or CRC, 2 geometry, 3 glyph size (R523). Assumption log, row 103. -/
def Chip.faceWrong (x : Chip) (r : List Nat) : Option Nat :=
  let f := fun o n => fieldLe r o n
  let n := r.length
  let gw := f 0x14 1
  let gh := f 0x16 2
  if f 0 4 != 0x46430001 || (crcOf 0 (r.take (n - 4)) != f (n - 4) 4 || (f 0x18 1 > 1 || ((r.drop 0x19).take 7).any (· != 0))) then some 1
  else if f 8 2 < 16 || (1280 < f 8 2 || (f 0xA 2 < 16 || (720 < f 0xA 2 || (64 < f 0x15 1 ||
      (x.get HDn_HTIME0_HACTIVE 0 < f 4 2 + f 8 2 || (x.get HDn_VTIME0_VACTIVE 0 < f 6 2 + f 0xA 2 ||
      (f 8 2 < f 0x10 2 + 5 * gw + 4 * f 0x15 1 || f 0xA 2 < f 0x12 2 + gh))))))) then some 2
  else if gw < 8 || (128 < gw || (gw % 8 != 0 || (gh < 8 || 256 < gh))) then some 3
  else none

/-- PARK_FACE_SET. Assumption log, row 103. -/
def parkFaceSet (c : Call) (mem : List Host.Cell) (x : Chip) : Chip :=
  x.perform opParkFaceSet c fun x =>
    let a := c.q 0
    let n := c.w 2
    if a = 0 && n = 0 then ({ x with pw := { x.pw with faceRec := [] } }).ok opParkFaceSet c []
    else if (x.ownRange c.fn.val a 1 [0]).isNone then x.bad2 opParkFaceSet c 0 0
    else if n < 36 || (45092 < n || (x.ownRange c.fn.val a n [0]).isNone) then x.bad2 opParkFaceSet c 2 0
    else
      let r := readBytes mem x a n
      match x.faceWrong r with
      | some k => x.bad2 opParkFaceSet c 0 k
      | none =>
        if n != 36 + 11 * fieldLe r 0x16 2 * fieldLe r 0x14 1 / 8 then x.bad2 opParkFaceSet c 2 0
        else ({ x with pw := { x.pw with faceRec := r } }).ok opParkFaceSet c []

/-! ### Execution timeouts (R78) -/

/-- Units stopped for the call go on: it waits for no safe point of theirs. A head or audio domain that stopped for it
alone runs on. Assumption log, row 117. -/
def Chip.dropStop (x : Chip) (c : Call) : Chip :=
  let other := fun (l : List Call) => l.filter fun d => d != c
  let y := (List.range 16).foldl (fun (y : Chip) h =>
    if !(y.head h).stops.contains c then y
    else
      let y := y.setHead h fun s => { s with stops := other s.stops }
      y.onlyIf ((y.head h).stops = [] && y.get HDn_STAT_STATE h = 3) fun y => y.set HDn_STAT_STATE 2 h) x
  let y := (List.range 3).foldl (fun (y : Chip) d =>
    if !(y.adom d).stops.contains c then y
    else
      let y := y.setAdom d fun s => { s with stops := other s.stops }
      y.onlyIf ((y.adom d).stops = [] && (!(y.adom d).suspend && !(y.adom d).halted)) (·.domResume d)) y
  let y := (List.range 16).foldl (fun (y : Chip) n => y.setTp n fun s => { s with stops := other s.stops }) y
  (List.range 2).foldl (fun (y : Chip) p => y.setLk p fun s => { s with stops := other s.stops }) y

/-- What waits in the blocks for the call is abandoned, so that nothing of it takes effect later. A power transition
that it began, and that nobody else waits for, is given up: Dim is not entered, Hold is left once reached; a block
reset that has asserted, and a secure restart, go on and answer nobody. Assumption log, row 117. -/
def Chip.abandonCall (x : Chip) (c : Call) : Chip :=
  let y := x.dropStop c
  let y := { y with hd := y.hd.map fun (s : HeadSt) => { s with porch := s.porch.filter fun p => p.2 != c } }
  let y := { y with
    hb := { y.hb with frees := y.hb.frees.filter fun p => p.2 != c }
    gx := { y.gx with destroys := y.gx.destroys.filter fun d => d.1 != c
                      pipes := updAll y.gx.pipes (fun p => y.gx.destroys.any fun d => d.1 = c && (p.fn = c.fn.val && p.num = d.2))
                        fun p => { p with dying := false } }
    hp := { y.hp with cals := y.hp.cals.filter fun k => k.call != c }
    rs := { y.rs with heels := y.rs.heels.filter fun h => h.asserted || h.call != c }
    sw := { y.sw with rel := y.sw.rel.filter fun r => r.1 != c
                      restart := y.sw.restart.map fun (r : Option Call × Nat) => (if r.1 = some c then none else r.1, r.2) }
    bl := { y.bl with detach := if y.bl.detach = some c then none else y.bl.detach
                      propose := y.bl.propose.filter fun p => p.1 != c } }
  let mine := y.pw.calls.contains c
  let gates := (y.pw.gates.filter fun (g : Call × Nat) => g.1 = c).map fun g => g.2
  let y := { y with pw := { y.pw with calls := y.pw.calls.filter fun d => d != c, queue := y.pw.queue.filter fun d => d != c
                                      access := y.pw.access.filter fun d => d != c
                                      gates := y.pw.gates.filter fun g => g.1 != c } }
  let y := gates.foldl (fun (y : Chip) g =>
    if y.pw.gates.any (fun h => h.2 = g) then y else ((y.setBit GL_GATE_DOM g false).raise 21).ungateCores g) y
  if mine && y.pw.calls = [] then
    match y.pw.target with
    | some 1 => if y.on GL_MODE_THERM_DIM then y else { y.powerOver with pw := { y.powerOver.pw with dimCmd := false } }
    | some 2 => { y with pw := { y.pw with cancel := true } }
    | _ => y
  else y

/-- EXEC_TIMEOUT: the oldest dispatched packet of ring `k` that has no outcome ends with TIMEOUT, result word 0 = 1,
and the block abandons it (R78). Assumption log, row 117. -/
def execTimeout (f k : Nat) (x : Chip) : Chip :=
  match x.ce.pkts.findIdx? fun p => p.call.fn = f && (p.call.ring = k && (p.isDispatched && !execExempt p)) with
  | none => x
  | some i =>
    match x.ce.pkts[i]? with
    | none => x
    | some p =>
      let y := match opOf p.opcode with
        | some o => x.journalOp o p.call stTimeout
        | none => x
      ((y.conclude i stTimeout [1]).abandonCall p.call).reapFences.release

/-! ### Outcomes that fall due -/

/-- COMMAND_COMPLETE: outcomes that other commands have made due are recorded, and then the oldest of the ring is
reported. Assumption log, rows 12, 19. -/
def commandCompleteAll (f k : Nat) (w : Work) : Work :=
  ((w.on fun x => x.releaseCheck.gateCheck.headsResume).powerCheck).on fun x => commandComplete f k x

/-- POWER_MODE_SET. -/
def execPowerModeSet (c : Call) (s : State) : Host.Outcome State Fault Refusal := s.onBoth (powerModeSet c)
/-- MODE_QUERY. -/
def execModeQuery (c : Call) (s : State) : Host.Outcome State Fault Refusal := s.onChip (modeQuery c)
/-- DEGRADED_CLEAR. -/
def execDegradedClear (c : Call) (s : State) : Host.Outcome State Fault Refusal := s.onChip (degradedClear c)
/-- THERMAL_QUERY. -/
def execThermalQuery (c : Call) (s : State) : Host.Outcome State Fault Refusal := s.onChip (thermalQuery c)
/-- PARK_FACE_SET. -/
def execParkFaceSet (c : Call) (s : State) : Host.Outcome State Fault Refusal := s.onChipM (parkFaceSet c)
/-- POWER_PROPOSE. -/
def execPowerPropose (h : MsgHdr) (mode : BitVec 8) (s : State) : Host.Outcome State Fault Refusal :=
  s.onSkein (powerPropose h mode.toNat)
/-- POWER_REPLY. -/
def execPowerReply (h : MsgHdr) (accept : Bool) (s : State) : Host.Outcome State Fault Refusal := s.onSkein (powerReply h accept)
/-- POWER_REPLY_TIMEOUT. -/
def execPowerReplyTimeout (s : State) : Host.Outcome State Fault Refusal := s.onSkein powerReplyTimeout
/-- POWER_CANCEL. -/
def execPowerCancel (h : MsgHdr) (s : State) : Host.Outcome State Fault Refusal := s.onSkein (powerCancel h)
/-- THERMAL_SAMPLE. -/
def execThermalSample (t : Temps) (s : State) : Host.Outcome State Fault Refusal := s.onSkein (thermalSample t)
/-- THERM_RELEASE. -/
def execThermRelease (s : State) : Host.Outcome State Fault Refusal := s.onSkein thermRelease
/-- WAKE_GPIO. -/
def execWakeGpio (pin : Fin 48) (w : Wake) (s : State) : Host.Outcome State Fault Refusal := s.onAonWork (wakeGpio pin.val w)
/-- WAKE_ALARM. -/
def execWakeAlarm (w : Wake) (s : State) : Host.Outcome State Fault Refusal := s.onAonWork (wakeAlarm w)
/-- WAKE_PCIE. -/
def execWakePcie (w : Wake) (s : State) : Host.Outcome State Fault Refusal := s.onAonWork (wakePcie w)
/-- WAKE_TOUCH. -/
def execWakeTouch (port : Fin 16) (w : Wake) (s : State) : Host.Outcome State Fault Refusal := s.onAonWork (wakeTouch port.val w)
/-- TWIN_WAKE_PULSE_END. -/
def execTwinWakePulseEnd (s : State) : Host.Outcome State Fault Refusal := s.onAon twinWakePulseEnd
/-- PARK_FACE_UPDATE. -/
def execParkFaceUpdate (s : State) : Host.Outcome State Fault Refusal := s.onAon parkFaceUpdate
/-- PARK_ENTRY_STEP. -/
def execParkEntryStep (s : State) : Host.Outcome State Fault Refusal := s.onSkein parkEntryStep
/-- COMMAND_COMPLETE. -/
def execCommandComplete (f : Fin 65) (k : Fin 4) (s : State) : Host.Outcome State Fault Refusal :=
  s.onSkein (commandCompleteAll f.val k.val)
/-- EXEC_TIMEOUT. -/
def execExecTimeout (f : Fin 65) (k : Fin 4) (s : State) : Host.Outcome State Fault Refusal := s.onChip (execTimeout f k)
/-- HEAD_SAFE_POINT. -/
def execHeadSafePoint (head : Fin 16) (s : State) : Host.Outcome State Fault Refusal := s.onChip (headSafePointAll head.val)
/-- LINK_TRAIN_DONE: the port's link, and the suspended heads that wait for it (R241). -/
def execLinkTrainDone (port : Fin 10) (trained : Bool) (lanes : Fin 8) (rate : Fin 16) (sinkSr : Bool) (s : State) :
    Host.Outcome State Fault Refusal :=
  s.onChip fun x => (linkTrainDone port.val trained lanes.val rate.val sinkSr x).headsResume

end Sys2Proof.Machine
end

