-- ==== Sys2Proof/Machine/Reset.lean ====
section
/-!
DEFINITION. Reset sources and reaches (R486 to R490, R552, R553), what each reach resets and keeps, and the commands that take
a source.
-/
namespace Sys2Proof.Machine

/-! ### Lifting -/

/-- A command that may take a reach: one that clears the placement map leaves memory that nothing names. Assumption
log, row 3. -/
def State.onReach (s : State) (f : Chip → Chip) : Host.Outcome State Fault Refusal :=
  let y := f s.chip
  .next { s with chip := { y with rs := { y.rs with wiped := false } }, mem := if y.rs.wiped then [] else s.mem }

/-- The same for a command that also moves data of its own. -/
def State.onReachW (s : State) (f : Work → Work) : Host.Outcome State Fault Refusal :=
  let p := runWork f s.mem s.chip
  let y := p.1
  .next { s with
    chip := { y with rs := { y.rs with wiped := false } }.noteMirror p.2
    mem := if y.rs.wiped then [] else writeCells s.mem p.2 }

/-! ### What a reach keeps (R487, R552, R553) -/

/-- Numbers of fields. -/
def fldIds (fs : List Fld) : List Nat := fs.map (·.id)

/-- Fields held in the always-on domain: GL, TB and RB, the clock losses, the failed claims and the lockout.
Assumption log, row 104. -/
def aonIds : List Nat :=
  fldIds (allFields.filter fun f => f.base = 0 || (f.base = 0x240000 || f.base = 0x260000)) ++
  fldIds [CK_REF_LOSS_COUNT, CK_PLL_LOSS_MAIN, CK_PLL_LOSS_PHY, RJ_CLAIM_FAIL_COUNT, RJ_SESSION_LOCKOUT]

/-- Fields read from flash (R484). Assumption log, row 104. -/
def flashIds : List Nat := fldIds [RJ_JNEXT_SEQ, RJ_JOLDEST_SEQ, RJ_JWRAP_COUNT, RJ_CFG_SLOT, RJ_CFG_VALID, RJ_CFG_SAVES]

/-- Fields that follow the buffer in safe SRAM, and the hot-plug levels, which follow the pins. Assumption log, row
104. -/
def sramIds : List Nat := fldIds [RJ_JBUF_BUFFERED, RJ_JBUF_LOST, DXn_STAT_HPD]

/-- Always-on fields that every reach clears: the stop units' mirrors and the secure world's state. -/
def reachIds : List Nat :=
  fldIds [GL_PEND0_HEAD, GL_PEND0_PORT, GL_PEND0_AUDIO, GL_PEND0_SKEIN, GL_PEND1_TOUCH, GL_SEC_UP, GL_SEC_RESTARTING, GL_SEC_HALTED,
    GL_SEC_ROM_STAGE, GL_SEC_DOWNS, GL_SEC_STALE, GL_SAFE_PIN, GL_SAFE_CHECK, GL_SAFE_STALE, GL_SAFE_START, GL_SAFE_FORCED,
    GL_MODE_PAIR, GL_MODE_POWER, GL_MODE_ACCESS, GL_MODE_BUSY, GL_MODE_TWIN_SERVICE, GL_MODE_TWIN_KENNEL]

/-- Always-on fields that a Cold reach clears beside. Assumption log, row 104. -/
def coldIds : List Nat :=
  fldIds [GL_MODE_INTEG, GL_MODE_THERM_DIM, GL_MODE_SEQ, GL_DEG_CAUSE_SIG_DISAGREE, GL_DEG_CAUSE_TRIM_DEFAULT,
    GL_DEG_CAUSE_CHAN_RETIRED, GL_DEG_CAUSE_LOCKSTEP, GL_DEG_CAUSE_PROOF_FAIL, GL_GATE_DOM, GL_GATE_THERM, RB_LOAD_LO_ADDR,
    RB_LOAD_HI_ADDR, RB_LOAD_LEN_BYTES, RB_HELD_SUBSYS, RB_HELD_BLOCKS]

/-- Other fields that a Warm reach keeps. Assumption log, row 104. -/
def warmIds : List Nat :=
  fldIds [FNf_GEN_GEN, FN_EPOCH_NUM_EPOCH, MCn_CHk_STAT_RETIRE_CAUSE, MCn_CHk_ECC_UNCORR, TH_LAT_MAX_T100NS, BL_STAT_HOLD,
    BL_STAT_TWIN_SEEN, HB_RETAIN_ACT_LAYOUT, HB_MEM_CFG_MIB, HB_MEM_CFG_MISMATCH, CK_STAT_MODE, CK_STAT_PLL_LOCK, CK_STAT_AON_DBL]

/-- The field of a register key is kept through reach `r`: 1 Warm, 2 Cold, 3 Power-on. Assumption log, row 104. -/
def keptField (r key : Nat) : Bool :=
  let i := key / 2048
  match r with
  | 1 => (aonIds.contains i && !reachIds.contains i) || (flashIds.contains i || (sramIds.contains i || warmIds.contains i))
  | 2 => (aonIds.contains i && (!reachIds.contains i && !coldIds.contains i)) || (flashIds.contains i || sramIds.contains i)
  | _ => flashIds.contains i

/-- Roles and journal through a reach: flash always, safe SRAM and the always-on domain short of power-on. Assumption
log, row 104. -/
def Rj.kept (j : Rj) (r : Nat) : Rj :=
  if r = 3 then { ring := j.ring, wpos := j.wpos } else { j with challenge := none, idleAt := 0 }

/-- SEQ of the next record as flash gives it. -/
def Rj.nextSeq (j : Rj) : Nat := ((j.ring.getLast?).map fun s => recSeq s.2 + 1).getD 0

/-- What a Warm reach does to the fields it does not reset: generations advance, retired channels stay so, the memory
is in self-refresh, and held or gated blocks stay as they are. Assumption log, row 104. -/
def Chip.warmKeep (y x : Chip) : Chip :=
  let y := ((List.range 65).filter fun f => x.get FNf_STAT_STATE f != 0).foldl (fun (y : Chip) f => y.inc FNf_GEN_GEN f) y
  let y := ((List.range 16).filter fun c => x.get MCn_CHk_STAT_STATE c = 3).foldl (fun (y : Chip) c =>
    { (y.chanState c chRetired) with ev := {} }) y
  let y := (List.range 16).foldl (fun (y : Chip) c => y.flag MCn_CHk_STAT_SR true c) y
  let y := (List.range 24).foldl (fun (y : Chip) n =>
    if y.heldBlock 1 n then y.set GXn_STAT_STATE 6 n else if y.groupGated (n / 4) then y.set GXn_STAT_STATE 5 n else y) y
  ((List.range 24).filter fun u => y.heldBlock 7 u).foldl (fun (y : Chip) u => y.setCv u fun s => { s with inReset := true }) y

/-- The firmware's allocations as a reset that clears the map leaves them to be rebuilt: each at the target of a
migration whose last recorded phase was Draining, else at its source (R127). Assumption log, row 129. -/
def Chip.firmwareKept (x : Chip) : List MapEntry :=
  let now := (x.hb.map.filter fun e => e.valid && (e.cls = 12 || e.cls = 15)).map fun e =>
    if e.mig = 3 then { e with order := e.torder, chanset := e.tchanset, bgrp := e.tbgrp, pbase := e.tpbase } else e
  if now = [] then x.hb.rebuild else now

/-- The phase markers a Warm reach finds: those of a training under way are as far as each channel has come, a free
value between its last marker and phase 5 (R391). Assumption log, row 83. -/
def Chip.trainMarks (x : Chip) : List Nat :=
  if x.mc.done || x.rs.trained then x.mc.phases
  else x.mc.phases.zipIdx.map fun p => p.1 + (Config.freeValue (x.freeCtr + p.2)).toNat % (6 - min p.1 5)

/-- A reach asserts: 1 Warm, 2 Cold, 3 Power-on, taken first by the source of RB_CAUSE bit `src`. Assumption log, row
104. -/
def Chip.reachReset (x : Chip) (r src : Nat) : Chip :=
  let open_ := x.get RJ_SESSION_ROLE != 0
  let rs : Rs := if r = 3 then { reach := 3, src := src, wiped := true } else
    { reach := r, src := src, wiped := true, levels := x.rs.levels, soon := x.rs.soon, holds := if r = 1 then x.rs.holds else [],
      owed := x.rs.owed ++ ((if open_ then [(3, 7)] else []) ++ (if r = 2 && x.get GL_MODE_INTEG != 0 then [(6, 0)] else [])),
      failed := x.rs.failed, bypass := r = 1 && x.rs.bypass }
  let y : Chip :=
    { regs := x.regs.filter fun e => keptField r e.1
      tb := if r = 3 then {} else x.tb
      rj := x.rj.kept r
      nv := x.nv, tap := x.tap, out := x.out, freeCtr := x.freeCtr + 16, rs := rs
      pw := if r = 3 then {} else { temps := x.pw.temps, wakeLow := r = 1 && x.pw.wakeLow }
      bl := { twinHash := x.bl.twinHash, stageMib := if r = 1 then x.bl.stageMib else 64 }
      gx := { shcSize := if r = 1 then x.gx.shcSize else 64 }
      hb := { rebuild := if r = 3 then [] else x.firmwareKept }
      mc := if r = 1 then { ranks2 := x.mc.ranks2, phases := x.trainMarks, done := x.mc.done } else {} }
  let y := if r = 3 then y.set RJ_JNEXT_SEQ x.rj.nextSeq else y
  let y := ((List.range 16).filter fun n => (x.hpCh n).drive != []).foldl (fun (z : Chip) n => z.hpEnter n hpIdle) y
  let y := if r = 1 then y.warmKeep x else y.onlyIf (x.get BL_STAT_HOLD != 0) (·.emit (.pin 7 [0]))
  y.onlyIf (!x.on GL_SAFE_PIN) (·.emit (.pin 2 [0]))

/-! ### Taking a source (R486, R489) -/

/-- A start runs: released, timed, not confirmed (R497). -/
def Chip.starting (x : Chip) : Bool := x.rs.timed && (!x.on RB_STAT_CONFIRMED && x.rs.reach = 0)

/-- A start has failed: it is counted (R498). Assumption log, row 105. -/
def Chip.failCount (x : Chip) : Chip :=
  { x.set RB_STAT_FAILS (min 3 (x.get RB_STAT_FAILS + 1)) with rs := { x.rs with failed := true } }

/-- A source is taken (R486): RB_CAUSE sets its bit; a reach wider than any asserted resets what it covers. A main PLL
loss, a watchdog expiry or a lockstep mismatch that ends a start counts as its failure. Assumption log, row 104. -/
def Chip.take (x : Chip) (bit reach : Nat) : Chip :=
  let y := x.onlyIf (x.starting && [6, 10, 11, 12].contains bit) Chip.failCount
  let y := if x.rs.reach < reach then y.reachReset reach bit else y
  let y := y.onlyIf (bit = 8) fun z => z.flag RB_STAT_KREQ true
  y.setBit RB_CAUSE_SRC bit true

/-- A source that stays asserted until its own release. -/
def Chip.takeLevel (x : Chip) (bit reach : Nat) : Chip :=
  let y := x.take bit reach
  { y with rs := { y.rs with levels := if y.rs.levels.contains bit then y.rs.levels else y.rs.levels ++ [bit] } }

/-- A source that stayed asserted releases. -/
def Chip.dropLevel (x : Chip) (bit : Nat) : Chip :=
  { x with rs := { x.rs with levels := x.rs.levels.filter fun b => b != bit } }

/-! ### The sources -/

/-- RESET_WARM, RESET_COLD and KENNEL_ENTER reply OK, and their reset follows. Assumption log, row 11. -/
def Chip.resetSoon (x : Chip) (o : Op) (c : Call) (bit : Nat) : Chip :=
  { x with rs := { x.rs with soon := x.rs.soon ++ [bit] } }.ok o c []

/-- RESET_WARM. Assumption log, row 11. -/
def resetWarm (c : Call) (x : Chip) : Chip := x.perform opResetWarm c fun x => x.resetSoon opResetWarm c 13

/-- RESET_COLD. Assumption log, row 11. -/
def resetCold (c : Call) (x : Chip) : Chip := x.perform opResetCold c fun x => x.resetSoon opResetCold c 4

/-- KENNEL_ENTER. Assumption log, row 11. -/
def kennelEnter (c : Call) (x : Chip) : Chip := x.perform opKennelEnter c fun x => x.resetSoon opKennelEnter c 8

/-- RAIL_LOW: the Power-on source asserts again. -/
def railLow (x : Chip) : Chip := x.takeLevel 0 3

/-- POWER_ON: the Power-on source releases. -/
def powerOn (x : Chip) : Chip := x.dropLevel 0

/-- LOCKSTEP_MISMATCH of pair A or B (R13): recorded and Degraded; its journal record and its event come at the next
start. Assumption log, row 11. -/
def lockstepMismatch (pairB : Bool) (x : Chip) : Chip :=
  let y := x.degrade GL_DEG_CAUSE_LOCKSTEP
  { y with rs := { y.rs with owed := y.rs.owed ++ [(12, b2n pairB)] } }.take (11 + b2n pairB) 1

/-- REFCLK_LOSS (R415, R429): the time base stops, and the part is held in a Cold reach reset. -/
def refclkLoss (x : Chip) : Chip :=
  if x.rs.levels.contains 5 then x
  else
    let y := (x.sat CK_REF_LOSS_COUNT).takeLevel 5 2
    { y.flag TB_STAT_VALID false with tb := { y.tb with stopped := true } }

/-- REFCLK_RESTORE: the counter resumes, and software learns of the lost time (R436). -/
def refclkRestore (x : Chip) : Chip :=
  if !x.rs.levels.contains 5 then x
  else
    let y := ((x.dropLevel 5).flag TB_STAT_REF_LOST true).raise 486
    { y with tb := { y.tb with stopped := false } }

/-- MAIN_PLL_LOSS (R419); in bypass the PLL is off. -/
def mainPllLoss (x : Chip) : Chip :=
  if x.rs.bypass then x else ((x.sat CK_PLL_LOSS_MAIN).flag CK_STAT_PLL_LOCK false).take 6 2

/-- NWDOG_KICK: the period starts again. Assumption log, row 111. -/
def nwdogKick (x : Chip) : Chip := { x with rs := { x.rs with nwdogAt := x.up } }

/-- COLD_REQ (R352). -/
def coldReq (h : MsgHdr) (w : Work) : Work :=
  blMsg h 5 0 (fun w => w.on fun x => if x.blCfg BL_CFG_COLD_ACCEPT != 0 then x.take 3 2 else x.sat BL_VIOL_COUNT) w

/-! ### PHY PLLs (R420) -/

/-- Number, and field, of a PHY PLL's lock bit. -/
def pllBit (p : Pll) : Fld × Nat :=
  match p with
  | .mem n => (CK_PHY_LOCK_MEM, n.val)
  | .pcie => (CK_PHY_LOCK_PCIE, 0)
  | .dx n => (CK_PHY_LOCK_DX, n.val)
  | .sk n => (CK_PHY_LOCK_SK, n.val)
  | .bl => (CK_PHY_LOCK_BL, 0)

/-- PHY_PLL_LOSS: what hangs on the PLL goes down. -/
def phyPllLoss (p : Pll) (w : Work) : Work :=
  let w := w.on fun x => ((x.setBit (pllBit p).1 (pllBit p).2 false).sat CK_PLL_LOSS_PHY).raise 488
  match p with
  | .dx n => w.on (linkLoss n.val)
  | .sk n => if w.x.lkState n.val = lkDown then w else w.linkDown n.val false
  | .bl => w.on Chip.blDown
  | _ => w

/-- PHY_PLL_RELOCK. -/
def phyPllRelock (p : Pll) (x : Chip) : Chip := (x.setBit (pllBit p).1 (pllBit p).2 true).raise 490

/-- MEM_PLL_RELOCK_TIMEOUT: both channels of a controller whose PLL is still unlocked are Retired, cause 2. Assumption
log, row 85. -/
def memPllRelockTimeout (n : Nat) (x : Chip) : Chip :=
  if x.bit CK_PHY_LOCK_MEM n then x else (x.retireChan (2 * n) 2).retireChan (2 * n + 1) 2

/-! ### The commands -/

/-- RESET_WARM. -/
def execResetWarm (c : Call) (s : State) : Host.Outcome State Fault Refusal := s.onChip (resetWarm c)
/-- RESET_COLD. -/
def execResetCold (c : Call) (s : State) : Host.Outcome State Fault Refusal := s.onChip (resetCold c)
/-- KENNEL_ENTER. -/
def execKennelEnter (c : Call) (s : State) : Host.Outcome State Fault Refusal := s.onChip (kennelEnter c)
/-- NWDOG_KICK. -/
def execNwdogKick (s : State) : Host.Outcome State Fault Refusal := s.onChip nwdogKick
/-- COLD_REQ. -/
def execColdReq (h : MsgHdr) (s : State) : Host.Outcome State Fault Refusal := s.onReachW (coldReq h)
/-- PHY_PLL_LOSS. -/
def execPhyPllLoss (pll : Pll) (s : State) : Host.Outcome State Fault Refusal := s.onSkein (phyPllLoss pll)
/-- PHY_PLL_RELOCK. -/
def execPhyPllRelock (pll : Pll) (s : State) : Host.Outcome State Fault Refusal := s.onChip (phyPllRelock pll)
/-- MEM_PLL_RELOCK_TIMEOUT. -/
def execMemPllRelockTimeout (mc : Fin 8) (s : State) : Host.Outcome State Fault Refusal := s.onChip (memPllRelockTimeout mc.val)
/-- REFCLK_LOSS. -/
def execRefclkLoss (s : State) : Host.Outcome State Fault Refusal := s.onReach refclkLoss
/-- REFCLK_RESTORE. -/
def execRefclkRestore (s : State) : Host.Outcome State Fault Refusal := s.onReach refclkRestore
/-- MAIN_PLL_LOSS. -/
def execMainPllLoss (s : State) : Host.Outcome State Fault Refusal := s.onReach mainPllLoss
/-- POWER_ON. -/
def execPowerOn (s : State) : Host.Outcome State Fault Refusal := s.onReach powerOn
/-- RAIL_LOW. -/
def execRailLow (s : State) : Host.Outcome State Fault Refusal := s.onReach railLow
/-- RESET_N_PULSE. -/
def execResetNPulse (s : State) : Host.Outcome State Fault Refusal := s.onReach fun x => x.take 1 2
/-- WARM_N_PULSE. -/
def execWarmNPulse (s : State) : Host.Outcome State Fault Refusal := s.onReach fun x => x.take 9 1
/-- THERMAL_TRIP: held until the junction has cooled (R525). -/
def execThermalTrip (s : State) : Host.Outcome State Fault Refusal := s.onReach fun x => x.takeLevel 2 2
/-- THERMAL_TRIP_RELEASE. -/
def execThermalTripRelease (s : State) : Host.Outcome State Fault Refusal := s.onReach fun x => x.dropLevel 2
/-- NWDOG_EXPIRY. -/
def execNwdogExpiry (s : State) : Host.Outcome State Fault Refusal := s.onReach fun x => x.take 10 1
/-- LOCKSTEP_MISMATCH. -/
def execLockstepMismatch (pairB : Bool) (s : State) : Host.Outcome State Fault Refusal := s.onReach (lockstepMismatch pairB)

end Sys2Proof.Machine
end

