-- ==== Sys2Proof/Machine/Firmware.lean ====
section
/-!
DEFINITION. Firmware images and slots, fuses, and where an image comes from (R492, R502, R506 to R512).
-/
namespace Sys2Proof.Machine

/-! ### Images (R507) -/

/-- Key hash that signs images: that of the slot in force, or the release key's. -/
def Chip.keyHash (x : Chip) : List Nat :=
  match x.nv.hashes.find? fun h => h.1 = x.get RB_FW_KEY with
  | some h => h.2
  | none => beBytesN 32 Config.releaseHash

/-- Stage 1 bytes of an image. -/
def imgS1 (b : List Nat) : Nat := fieldLe b 0x10 4

/-- Main part bytes of an image. -/
def imgMain (b : List Nat) : Nat := fieldLe b 0x14 4

/-- VERSION of an image. -/
def imgVersion (b : List Nat) : Nat := fieldLe b 4 4

/-- Bytes of an image, by its header. -/
def imgLen (b : List Nat) : Nat := 256 + imgS1 b + imgMain b

/-- The header is well formed: MAGIC, lengths within their limits and within the bytes given, the reserved bytes zero. -/
def imgHeader (b : List Nat) : Bool :=
  fieldLe b 0 4 = 0x46510001 && (decide (imgS1 b ≤ 524288) && (decide (imgMain b ≤ 32505856) && (decide (imgLen b ≤ b.length) &&
    ((b.drop 0xE0).take 32 = List.replicate 32 0))))

/-- Both hashes match. -/
def imgHashes (b : List Nat) : Bool :=
  sha256 ((b.drop 256).take (imgS1 b)) = (b.drop 0x20).take 32 &&
  sha256 ((b.drop (256 + imgS1 b)).take (imgMain b)) = (b.drop 0x40).take 32

/-- KEY hashes to the hash in force, and SIG verifies. -/
def Chip.imgKey (x : Chip) (b : List Nat) : Bool :=
  sha256 ((b.drop 0x60).take 64) = x.keyHash && ecdsaOk ((b.drop 0x60).take 64) ((b.drop 0xA0).take 64) (b.take 0xA0)

/-- Why an image is not valid: 0 valid, 1 empty, 2 header, 3 hash, 4 key or signature, 5 below the rollback floor.
Assumption log, rows 5, 105. -/
def Chip.imgWrong (x : Chip) (b : List Nat) : Nat :=
  if b = [] then 1
  else if !imgHeader b then 2
  else if !imgHashes b then 3
  else if !x.imgKey b then 4
  else if fieldLe b 8 1 < x.get RB_FW_FLOOR then 5
  else 0

/-- Bytes of slot `i`. -/
def Chip.fwSlot (x : Chip) (i : Nat) : List Nat := x.nv.slots.getD i []

/-- RB_FW shows the slots. -/
def Chip.updFw (x : Chip) : Chip :=
  let v := fun i => b2n (x.imgWrong (x.fwSlot i) = 0)
  (x.set RB_FW_ACTIVE x.nv.active).set RB_FW_VALID (v 0 + 2 * v 1)

/-- The slot takes bytes. -/
def Chip.setSlot (x : Chip) (i : Nat) (b : List Nat) : Chip :=
  { x with nv := { x.nv with slots := updAt x.nv.slots i fun _ => b } }.updFw

/-- The selector names the other slot: a journal record and event 500. -/
def Chip.fwCommit (x : Chip) : Chip :=
  let i := 1 - x.nv.active
  ((({ x with nv := { x.nv with active := i } }.updFw).journal 7 i).raise 500)

/-! ### Slot commands (R508, R512) -/

/-- RB_FW as it reads. -/
def Chip.fwWord (x : Chip) : Nat := x.word [RB_FW_ACTIVE, RB_FW_VALID, RB_FW_BUSY, RB_FW_KEY, RB_FW_FLOOR]

/-- A firmware write or commit that is refused raises 501. Assumption log, row 106. -/
def Chip.fwBad (x : Chip) (o : Op) (c : Call) (status : Nat) (ws : List Nat) : Chip := (x.raise 501).done o c status ws

/-- FW_SLOT_WRITE. Assumption log, row 106. -/
def fwSlotWrite (c : Call) (mem : List Host.Cell) (x : Chip) : Chip :=
  x.perform opFwSlotWrite c fun x =>
    let len := c.w 2
    let own := match x.ownEntry c.fn.val (c.q 0) with
      | some e => e.cls = 0
      | none => false
    if x.kennel then x.fwBad opFwSlotWrite c stDeniedMode [x.glMode]
    else if x.on RB_FW_BUSY then x.fwBad opFwSlotWrite c stNoResource [0]
    else if !own then x.fwBad opFwSlotWrite c stBadParam [0]
    else if len < 256 || (decide (33554432 < len) || (x.ownRange c.fn.val (c.q 0) len [0]).isNone) then
      x.fwBad opFwSlotWrite c stBadParam [2]
    else
      let i := 1 - x.nv.active
      (x.setSlot i (readBytes mem x (c.q 0) len)).ok opFwSlotWrite c [i]

/-- FW_SLOT_COMMIT. Assumption log, row 106. -/
def fwSlotCommit (c : Call) (x : Chip) : Chip :=
  x.perform opFwSlotCommit c fun x =>
    let b := x.fwSlot (1 - x.nv.active)
    if x.kennel then x.fwBad opFwSlotCommit c stDeniedMode [x.glMode]
    else if x.on RB_FW_BUSY then x.fwBad opFwSlotCommit c stNoResource [0]
    else match x.imgWrong b with
      | 0 => x.fwCommit.ok opFwSlotCommit c [1 - x.nv.active, imgVersion b]
      | k => x.fwBad opFwSlotCommit c stBadParam [0, k]

/-- FW_QUERY. Assumption log, row 106. -/
def fwQuery (c : Call) (x : Chip) : Chip :=
  x.perform opFwQuery c fun x => x.ok opFwQuery c [x.fwWord, imgVersion (x.fwSlot 0), imgVersion (x.fwSlot 1)]

/-! ### Recovery in Kennel (R502) -/

/-- RECOVERY_LOAD completes: the Kennel request and the failed starts are cleared. -/
def Chip.recovered (x : Chip) (c : Call) : Chip :=
  ((x.flag RB_STAT_KREQ false).set RB_STAT_FAILS 0).ok opRecoveryLoad c []

/-- An image for the inactive slot, whole: written, verified and committed. -/
def Chip.recoverWith (x : Chip) (c : Call) (b : List Nat) : Chip :=
  match x.imgWrong b with
  | 0 => ((x.setSlot (1 - x.nv.active) b).fwCommit.set GL_FWVER_VERSION (imgVersion b)).recovered c
  | k => x.fwBad opRecoveryLoad c stBadParam [0, k]

/-- RECOVERY_LOAD; `image` is what the bus returned for the address of mode 0. Assumption log, row 106. -/
def recoveryLoad (c : Call) (image : List Nat) (x : Chip) : Chip :=
  x.perform opRecoveryLoad c fun x =>
    if x.on RB_STAT_OPT_FAULT then x.fwBad opRecoveryLoad c stBadParam [0]
    else if x.on RB_FW_BUSY then x.fwBad opRecoveryLoad c stNoResource [0]
    else match c.w 0 with
      | 0 => x.recoverWith c (image.take (c.w 3))
      | 1 => { x.flag RB_FW_BUSY true with ld := { x.ld with bytes := [], waits := some (c, c.w 3) } }
      | 2 =>
        match x.imgWrong (x.fwSlot (1 - x.nv.active)) with
        | 0 => (x.fwCommit.set GL_FWVER_VERSION (imgVersion (x.fwSlot (1 - x.nv.active)))).recovered c
        | k => x.fwBad opRecoveryLoad c stBadParam [0, k]
      | 3 => x.recovered c
      | _ => x.bad opRecoveryLoad c 0

/-! ### Fuses (R492, R512) -/

/-- FUSE_PROGRAM: whether the read-back holds is a free bit; a fuse that failed holds a free value, and the event
source that HW_FAULT would name is one too, since no source tells of fuses. Assumption log, row 106. -/
def fuseProgram (c : Call) (x : Chip) : Chip :=
  x.perform opFuseProgram c fun x =>
    let f := c.w 0
    let v := c.w 1
    let nv := fun (g : Nv → Nv) (y : Chip) => { y with nv := g y.nv }
    let fails := x.free 1 = 1
    let y := x.took
    let v := if fails then y.free 32 else v
    let y := y.onlyIf fails (·.took)
    let finish := fun (z : Chip) => if fails then (z.took).done opFuseProgram c stHwFault [z.free 9] else z.ok opFuseProgram c []
    if 9 < f then x.bad opFuseProgram c 0
    else if f = 0 then
      if c.w 1 ≤ x.nv.floor || 63 < c.w 1 then x.bad opFuseProgram c 1
      else finish (y |> nv fun n => { n with floor := max n.floor (v % 64) })
    else if f = 1 then finish (y |> nv fun n => { n with debugLock := n.debugLock || v != 0 })
    else if x.nv.words.any fun w => w.1 = f - 2 then x.bad opFuseProgram c 1
    else finish (y |> nv fun n => { n with words := sparseSet n.words (f - 2) v (v + 1) })

/-- FW_KEY_HASH_SET. -/
def fwKeyHashSet (c : Call) (x : Chip) : Chip :=
  x.perform opFwKeyHashSet c fun x =>
    if 3 < c.w 0 || x.nv.hashes.any fun h => c.w 0 ≤ h.1 then x.bad opFwKeyHashSet c 0
    else ({ x with nv := { x.nv with hashes := x.nv.hashes ++ [(c.w 0, callBytes c 1 8)] } }).ok opFwKeyHashSet c []

/-- The shadow takes the fuses (R492). Assumption log, row 106. -/
def Chip.readFuses (x : Chip) : Chip :=
  ((x.set RB_FW_KEY ((x.nv.hashes.map (·.1)).foldl max 0 + (if x.nv.hashes = [] then 7 else 0))).set RB_FW_FLOOR x.nv.floor).updFw

/-! ### The image of a start (R494, R498, R509) -/

/-- The selected copy's field (R574). -/
def CfgCopy.get (k : CfgCopy) (f : Fld) (n : Nat := 0) : Nat := sparseGet k.regs (f.key n) (f.resetAt n)

/-- Stage 1 reads the memory size and the retained layout of the commissioned configuration; a Warm start keeps both.
Assumption log, row 105. -/
def Chip.stage1 (x : Chip) : Chip :=
  if x.on RB_STAT_WARM then x
  else match x.nv.cfg with
    | some k => ((x.set HB_MEM_CFG_MIB k.memSize).set HB_RETAIN_CHAN (k.get HB_RETAIN_CHAN)).set HB_RETAIN_SEG (k.get HB_RETAIN_SEG)
    | none => x

/-- A start that has failed by its own declaration ends in a Cold reach reset (R498). -/
def Chip.failStart (x : Chip) : Chip := x.failCount.take 7 2

/-- The image of the start has arrived: it runs, or the start fails. -/
def Chip.bootImage (x : Chip) (b : List Nat) : Chip :=
  match x.imgWrong b with
  | 0 =>
    (({ x with ld := { x.ld with boot := false, bytes := [] } }.set GL_FWVER_VERSION (imgVersion b)).set RB_STAT_PHASE 4).stage1
  | _ => x.failStart

/-- More bytes of an image that arrives in order: once all that its header names are there it is taken up. -/
def Chip.moreImage (x : Chip) (b : List Nat) : Chip :=
  let bs := x.ld.bytes ++ b
  match x.ld.waits with
  | some (c, len) =>
    if bs.length < len then { x with ld := { x.ld with bytes := bs } }
    else ({ x.flag RB_FW_BUSY false with ld := { x.ld with bytes := [], waits := none } }).recoverWith c (bs.take len)
  | none =>
    if !x.ld.boot then x
    else if 256 ≤ bs.length && imgLen bs ≤ bs.length then x.bootImage bs
    else { x with ld := { x.ld with bytes := bs } }

/-- LOAD_GO: a write of RB_LOAD_LEN; with GO set, a start that waits for the host's image takes what the bus returns. -/
def loadGo (value : Nat) (image : List Nat) (x : Chip) : Chip :=
  let y := x.set RB_LOAD_LEN_BYTES (bits value 0 26)
  if bitAt value 31 && (x.ld.boot && x.get RB_STRAP_BOOT_SRC = 2) then y.bootImage (image.take (bits value 0 26)) else y

/-! ### The image over Bowline (R509) -/

/-- BOOT_DATA messages that carry an image. -/
def Chip.sendImage (n : Nat) (off : Nat) (b : List Nat) (x : Chip) : Chip :=
  match n with
  | 0 => x
  | k + 1 =>
    let part := b.take 8184
    if part = [] then x
    else Chip.sendImage k (off + part.length) (b.drop 8184) (x.blSend 5 0x11 (wordBytes off ++ (wordBytes part.length ++ part)))

/-- BOOT_REQ: a chip whose start-confirm is reached answers with its active image, before identity. -/
def bootReq (h : MsgHdr) (w : Work) : Work :=
  blMsg h 5 0 (fun w => w.on fun x =>
    if x.on RB_STAT_CONFIRMED && !x.bl.supervised then
      let b := x.fwSlot x.nv.active
      Chip.sendImage (b.length / 8184 + 1) 0 b x
    else x) w

/-- BOOT_DATA: the bytes that come next are taken. -/
def bootData (h : MsgHdr) (off : Nat) (b : List Nat) (w : Work) : Work :=
  blMsg h 5 (8 + b.length) (fun w => w.on fun x =>
    if x.ld.boot && (x.get RB_STRAP_BOOT_SRC = 3 && (!x.bl.supervised && off = x.ld.bytes.length)) then x.moreImage b else x) w

/-! ### The commands -/

/-- Bytes as numbers. -/
def natBytes (b : List Byte) : List Nat := b.map (·.toNat)

/-- FW_SLOT_WRITE. -/
def execFwSlotWrite (c : Call) (s : State) : Host.Outcome State Fault Refusal := s.onChipM (fwSlotWrite c)
/-- FW_SLOT_COMMIT. -/
def execFwSlotCommit (c : Call) (s : State) : Host.Outcome State Fault Refusal := s.onChip (fwSlotCommit c)
/-- FW_QUERY. -/
def execFwQuery (c : Call) (s : State) : Host.Outcome State Fault Refusal := s.onChip (fwQuery c)
/-- RECOVERY_LOAD. -/
def execRecoveryLoad (c : Call) (image : List Byte) (s : State) : Host.Outcome State Fault Refusal :=
  s.onChip (recoveryLoad c (natBytes image))
/-- FUSE_PROGRAM. -/
def execFuseProgram (c : Call) (s : State) : Host.Outcome State Fault Refusal := s.onChip (fuseProgram c)
/-- FW_KEY_HASH_SET. -/
def execFwKeyHashSet (c : Call) (s : State) : Host.Outcome State Fault Refusal := s.onChip (fwKeyHashSet c)
/-- LOAD_GO. -/
def execLoadGo (value : Word) (image : List Byte) (s : State) : Host.Outcome State Fault Refusal :=
  s.onReach (loadGo value.toNat (natBytes image))
/-- BOOT_REQ. -/
def execBootReq (h : MsgHdr) (s : State) : Host.Outcome State Fault Refusal := s.onReachW (bootReq h)
/-- BOOT_DATA. -/
def execBootData (h : MsgHdr) (offset : Word) (data : List Byte) (s : State) : Host.Outcome State Fault Refusal :=
  s.onReachW (bootData h offset.toNat (natBytes data))

end Sys2Proof.Machine
end

