-- ==== Sys2Proof/Machine/Boot.lean ====
section
/-!
DEFINITION. Releases and starts (R489 to R502), Kennel, the maintenance UART (R510), the TAP (R540).
-/
namespace Sys2Proof.Machine

/-! ### The commissioned configuration at a start (R477, R574) -/

/-- Fields of the configuration take the saved values over the whole register file; the others stay. -/
def CfgCopy.load (k : CfgCopy) (ids : List Nat) (regs : List (Nat × Nat)) : List (Nat × Nat) :=
  (k.regs.filter fun e => ids.contains (e.1 / 2048)).foldl (fun r e => sparseSet r e.1 e.2 (e.2 + 1))
    (regs.filter fun e => !ids.contains (e.1 / 2048))

/-- A firmware allocation is made, where it was rebuilt from before a reset, else where its class places it; one for
the Park state lies inside the retained region (R116, R118, R127). Assumption log, row 129. -/
def Chip.makeFirmware (x : Chip) (cls units : Nat) (inside : Bool) : Chip :=
  match x.freeIndex with
  | none => x
  | some i =>
    let e := x.newEntry i 127 cls units 0 false
    let e := match x.hb.rebuild.find? fun o => o.cls = cls && x.regionAt o.cls o.order o.chanset = inside with
      | some o => { e with order := o.order, chanset := o.chanset, bgrp := o.bgrp, pbase := o.pbase }
      | none => match if inside then x.retainSet [] else none with
        | some m => { e with chanset := m }
        | none => e
    (x.setEntry e).took

/-- The firmware's own allocations at step 8: the shader cache, the staging area and the Park state (R116, R118,
R574). Assumption log, row 129. -/
def Chip.firmwareAllocs (x : Chip) : Chip :=
  let y := ((x.makeFirmware 12 (16 * x.gx.shcSize) false).makeFirmware 15 (16 * x.bl.stageMib) false).makeFirmware 15 256 true
  { y with hb := { y.hb with rebuild := [] } }

/-- F0's factory share (R104). -/
def factoryShare : Share := ⟨64, 120000, 65536, 48800, 64, 4096⟩

/-- The configuration is loaded at step 8; where none has been saved, F0 takes the factory share (R102). The
allocations that R574 sizes follow it in a start from Cold or wider. Assumption log, rows 105, 125. -/
def Chip.loadCfg (x : Chip) : Chip :=
  let y := { x with rs := { x.rs with loaded := true } }
  let share := fun (s : Share) (y : Chip) => (y.setShare 0 s).set FNf_SHARE_EPOCH_EPOCH (y.get FN_EPOCH_NUM_EPOCH) 0
  match x.nv.cfg with
  | none => (share factoryShare y).firmwareAllocs
  | some k =>
    let dom := (List.range 3).map fun d => ({ graph := (k.graphs.find? fun p => p.1 = d).map (·.2) } : ADom)
    let y := { y with
      regs := k.load cfgIds x.regs
      fn := { x.fn with dflt := k.dflt }
      hb := { x.hb with memSize := k.memSize }
      pw := { x.pw with faceRec := k.face }
      au := { x.au with saved := k.graphs, dom := dom } }
    let y := ((share k.own y).updStore).takeBlCfg.updStandby
    let y := (List.range 16).foldl (fun (y : Chip) f => y.set AU_HPFf_STAT_ACT (y.get AU_HPFf_CFG_CORNER f) f) y
    let y := if x.on RB_STAT_WARM then y
      else { y with
        gx := { y.gx with shcSize := clampN (y.get GX_SHC_SIZE_MIB) 16 1024 }
        bl := { y.bl with stageMib := clampN (y.get BL_STAGE_MIB) 16 1024 } }
    y.firmwareAllocs

/-! ### Marked units (R51, R477) -/

/-- The unit is marked in the selected configuration: 0 heads, 1 ports, 2 audio domains, 3 Skein ports, 4 touch ports. -/
def Chip.marked (x : Chip) (kind n : Nat) : Bool :=
  match x.nv.cfg with
  | some k => bitAt (k.marks.getD kind 0) n
  | none => false

/-- A unit is covered by a HOLD reset. -/
def Chip.unitHeld (x : Chip) (kind n : Nat) : Bool :=
  match kind with
  | 0 => x.heldBlock 3 n
  | 1 => x.heldBlock 4 n
  | 2 => x.heldSub 2
  | 3 => x.heldSub (4 + n)
  | _ => x.heldBlock 5 n

/-- A unit runs. -/
def Chip.unitRuns (x : Chip) (kind n : Nat) : Bool :=
  match kind with
  | 0 => x.on HDn_STAT_RUN n
  | 1 => x.on DXn_STAT_RUN n
  | 2 => x.on AU_DOMx_STAT_RUN n
  | 3 => x.on SKn_STAT_RUN n
  | _ => x.on TPn_STAT_RUN n

/-- Units of a kind. -/
def unitCount (kind : Nat) : Nat :=
  match kind with
  | 1 => 10
  | 2 => 3
  | 3 => 2
  | _ => 16

/-- The firmware starts a unit, where its start would be accepted. -/
def Chip.startUnit (x : Chip) (kind n : Nat) : Chip :=
  if x.unitRuns kind n || x.unitHeld kind n then x
  else match kind with
    | 0 => if (x.startHeadRefusal n).isNone then x.enterStart n else x
    | 1 => if (x.portRefusal n).isNone then x.enterPort n else x
    | 2 => if !x.rs.bypass && (x.domRefusal n).isNone then x.enterDom n else x
    | 3 => if (x.skRefusal n).isNone then x.enterSkein n else x
    | _ => if (x.touchWrong n).isNone then (x.enterTouch n).getD x.took else x

/-- The early-display head, HD0, and then every marked unit is started. -/
def Chip.startMarked (x : Chip) : Chip :=
  (List.range 5).foldl (fun (y : Chip) k => ((List.range (unitCount k)).filter fun n => x.marked k n).foldl
    (fun (z : Chip) n => z.startUnit k n) y) (x.startUnit 0 0)

/-- Every marked unit runs, but for those a HOLD reset keeps. -/
def Chip.marksRun (x : Chip) : Bool :=
  (List.range 5).all fun k => (List.range (unitCount k)).all fun n => !x.marked k n || (x.unitRuns k n || x.unitHeld k n)

/-! ### Memory training (R390, R391, R494) -/

/-- Channels in service. -/
def Chip.chansIn (x : Chip) : Nat := ((List.range 16).filter fun c => x.inService c).length

/-- HOLD as a start from Cold or wider gives it (R363). -/
def Chip.startHold (x : Chip) : Chip :=
  if x.on RB_STAT_WARM || (x.on BL_CFG_TWIN_EN && x.on RB_STRAP_TWIN_ID) then x else x.setHold 15

/-- TRAINING_DONE: with 8 channels or more in service the start goes on to step 8; with fewer it has failed.
Assumption log, row 105. -/
def trainingDone (t : Training) (x : Chip) : Chip :=
  if x.rs.trained || x.kennel then x
  else
    let y := { x with rs := { x.rs with trained := true } }.memTrained t
    if y.chansIn < 8 then y.failStart
    else
      let y := (y.loadCfg.set RB_STAT_PHASE 8).startHold
      (y.raiseIf (y.rs.holds != []) 503).hpAuto.startMarked

/-! ### Start-confirm and its failure (R497, R498) -/

/-- Milliseconds since the release, as RB_START_MS shows them. -/
def Chip.sinceRelease (x : Chip) : Nat := min 65535 ((x.up - x.rs.relAt) / tpms)

/-- The conditions of start-confirm, but that the firmware serves F0's rings, which the command says. -/
def Chip.mayConfirm (x : Chip) : Bool :=
  x.on CK_STAT_PLL_LOCK && (!x.on RB_STAT_OPT_FAULT && (x.on GL_SEC_UP && (x.rs.trained && (decide (8 ≤ x.chansIn) &&
    (x.rs.loaded && (x.marksRun && (!x.on RB_STAT_CONFIRMED && !x.kennel)))))))

/-- START_CONFIRM; `image` is when the splash image came, in ms from the release. Assumption log, row 105. -/
def startConfirm (image : Nat) (w : Work) : Work :=
  if !w.x.mayConfirm then w
  else
    let w := w.on fun x =>
      let y := ((x.flag RB_STAT_CONFIRMED true).set RB_STAT_PHASE 9).set RB_START_MS_IMAGE (min 65535 image)
      let y := ((y.set RB_START_MS_CONFIRM y.sinceRelease).raise 497).raiseIf x.rs.failed 498
      let y := y.raiseIf ([5, 6].contains (x.get RB_LAST_SRC)) 491
      let y := { y with rs := { y.rs with failed := false } }
      if x.on RB_STAT_TRIM_DEF then y else y.set RB_STAT_FAILS 0
    if w.x.blWanted && (w.x.on BL_CFG_AUTO && (!w.x.paired && w.x.get BL_STAT_ATTACH = 0)) then
      (w.on Chip.beginAttach).blPump
    else w

/-- START_TIMEOUT. Assumption log, row 105. -/
def startTimeout (x : Chip) : Chip := if x.starting then x.failStart else x

/-! ### Kennel (R499 to R501) -/

/-- The selected copy maps HD0, the early-display head, to port `p`. -/
def CfgCopy.maps (k : CfgCopy) (p : Nat) : Bool :=
  (List.range 4).any fun s => k.get DXn_MAP_VALID (p * 4 + s) != 0 && k.get DXn_MAP_HEAD (p * 4 + s) = 0

/-- Keys of HD0's fields and of port `p`'s. Assumption log, row 107. -/
def Chip.kennelKeys (p : Nat) (e : Nat × Nat) : Bool :=
  allFields.any fun f => f.id = e.1 / 2048 && ((f.base = 0x140000 && (e.1 % 2048) / f.icount = 0) ||
    (f.base = 0x180000 && (e.1 % 2048) / f.icount = p))

/-- HD0 and the port take 1280×720 at 74.25 Mpixel/s; what R501 does not give of the blanking is free. Assumption log,
row 107. -/
def Chip.kennelTiming (x : Chip) (p : Nat) : Chip :=
  let x := x.onlyIf x.rs.bypass (·.set HDn_CTL_PPC 1)
  let y := ((x.set HDn_PIXINC_INC (if x.rs.bypass then 4152360960 else 389283840)).set HDn_HTIME0_HACTIVE 1280).set HDn_HTIME0_HTOTAL 1650
  let y := (y.set HDn_VTIME0_VACTIVE 720).set HDn_HTIME1_HFP (y.free 7)
  let y := (y.took).set HDn_HTIME1_HSW ((y.took).free 7)
  let y := (y.took).set HDn_VTIME0_VSW (1 + (y.took).free 4)
  let y := (y.took).set HDn_VTIME1_VBP (30 - y.get HDn_VFP_NEXT - y.get HDn_VTIME0_VSW)
  ((y.set DXn_CTL_TYPE (if p = 0 then 1 else 2) p).set DXn_MAP_HEAD 0 (p * 4)).flag DXn_MAP_VALID true (p * 4)

/-- HD0 shows the status image on the port that KENNEL_PORT chooses. Assumption log, row 107. -/
def Chip.kennelHead (x : Chip) : Chip :=
  let p := x.kennelPort
  let y := match x.nv.cfg with
    | some k => if k.maps p then
        { x with regs := (k.regs.filter (Chip.kennelKeys p)).foldl (fun (r : List (Nat × Nat)) (e : Nat × Nat) => sparseSet r e.1 e.2 (e.2 + 1)) x.regs }
      else x.kennelTiming p
    | none => x.kennelTiming p
  let y := ((y.flag HDn_STAT_RUN true).set HDn_STAT_STATE 2).set HDn_VFP_ACT (y.get HDn_VFP_NEXT)
  (y.flag DXn_STAT_RUN true p).startLink p

/-- The commissioned configuration sets TWIN_EN. Assumption log, row 107. -/
def Chip.cfgTwin (x : Chip) : Bool :=
  match x.nv.cfg with
  | some k => k.get BL_CFG_TWIN_EN != 0
  | none => false

/-- Numbers of Bowline's fields in the configuration. -/
def blCfgIds : List Nat := (allFields.filter fun f => f.commissioned && f.base = 0x210000).map (·.id)

/-- The start enters Kennel. Assumption log, row 107. -/
def Chip.enterKennel (x : Chip) : Chip :=
  let y := if x.kennel then x else x.setMode GL_MODE_INTEG 2
  let y := y.onlyIf (x.get GL_MODE_INTEG = 1) Chip.clearCauses
  let y := (((y.flag RB_STAT_KENNEL true).flag GL_SEC_ROM_STAGE true).set GL_FWVER_VERSION 0).set RB_STAT_PHASE 3
  let y := (y.setHold 0).set CK_PHY_LOCK_PCIE 1
  let y := { y with rs := { y.rs with bypass := !y.on CK_STAT_PLL_LOCK, kennelBl := x.cfgTwin } }
  let y := (y.setBit CK_PHY_LOCK_DX y.kennelPort true).kennelHead
  if x.cfgTwin then
    let regs := match x.nv.cfg with
      | some k => k.load blCfgIds y.regs
      | none => y.regs
    ({ y with regs := regs }.flag CK_PHY_LOCK_BL true).beginAttach
  else y

/-- STATUS_IMAGE_REDRAW: what the image shows (R501), as values; its drawing is the boot ROM's. -/
def statusImageRedraw (x : Chip) : Chip :=
  if !x.kennel then x
  else
    x.emit (.pin 12 ([Config.serial, x.get GL_ID_STEP, x.fwWord, imgVersion (x.fwSlot 0), imgVersion (x.fwSlot 1)] ++
      [x.get RB_CAUSE_SRC, x.get RB_STAT_FAILS, b2n (x.on RB_STAT_KREQ), b2n (x.on RB_STAT_OPT_FAULT)] ++
      [x.word [RB_STRAP_BOOT_SRC, RB_STRAP_CLK_MODE, RB_STRAP_TWIN_ID, RB_STRAP_KENNEL_PORT]] ++
      [x.get TB_SEC_SEC, x.get TB_TICK_TICK, x.ld.bytes.length]))

/-! ### Release (R489, R491 to R495, R499) -/

/-- PHY PLLs lock once enabled; those of gated ports stay off. -/
def Chip.phyLocks (x : Chip) : Chip :=
  let y := ((x.set CK_PHY_LOCK_MEM 255).set CK_PHY_LOCK_PCIE 1).set CK_PHY_LOCK_BL 1
  (List.range 12).foldl (fun (y : Chip) i => y.domLock (6 + i) (!bitAt (y.get GL_GATE_DOM) (6 + i))) y

/-- Journal records owed at a start are written; that of a lockstep mismatch comes with its event (R13, R473).
Assumption log, row 11. -/
def Chip.payJournal (x : Chip) : Chip :=
  let y := x.rs.owed.foldl (fun (y : Chip) o => (y.journal o.1 o.2).raiseIf (o.1 = 12) o.2) x
  { y with rs := { y.rs with owed := [] } }

/-- A release of Cold or wider samples the straps, reads the fuses and locks the PLL. -/
def Chip.sampleAll (x : Chip) (r : Release) : Chip :=
  let y := (((x.set RB_STRAP_BOOT_SRC r.bootSrc.val).set RB_STRAP_CLK_MODE r.clkMode.val).flag RB_STRAP_TWIN_ID r.twinId).flag
    RB_STRAP_KENNEL_PORT r.kennelPort
  let y := ((y.flag GL_ID_TWIN_B r.twinId).set CK_STAT_MODE r.clkMode.val).flag CK_STAT_AON_DBL (r.clkMode.val = 2)
  let y := (y.flag CK_STAT_PLL_LOCK (r.lock && r.clkMode.val != 3)).flag RB_STAT_TRIM_DEF r.trimBad
  let y := { y with rs := { y.rs with bypass := r.clkMode.val = 3 } }
  if r.optBad || y.on RB_STAT_OPT_FAULT then y.flag RB_STAT_OPT_FAULT true else y.readFuses

/-- Safe default trims (R493). -/
def Chip.trimDefault (x : Chip) : Chip := ((x.degrade GL_DEG_CAUSE_TRIM_DEFAULT).raise 499).failCount

/-- The image of a start is sought (R509). -/
def Chip.seekImage (x : Chip) : Chip :=
  match x.get RB_STRAP_BOOT_SRC with
  | 0 => x.bootImage (x.fwSlot x.nv.active)
  | 1 => x.bootImage (x.fwSlot x.nv.active)
  | n =>
    let y := { x with ld := { x.ld with boot := true, bytes := [] } }
    if n = 3 then (y.blSend 5 0x10 []).lkBegin 2 lkTrain false else y

/-- The resets commanded a millisecond ago are taken (R512). -/
def Chip.dueReaches (x : Chip) : Chip :=
  x.rs.soon.foldl (fun (y : Chip) b => y.take b (if b = 13 then 1 else 2)) { x with rs := { x.rs with soon := [] } }

/-- The reach in force releases, and the start sequence runs as far as the boot image (R489 to R495). Assumption log,
row 10. -/
def Chip.released (x : Chip) (r : Release) : Chip :=
  let cold := decide (2 ≤ x.rs.reach)
  let kennelKept := !cold && x.kennel
  let third := x.get RB_STAT_FAILS = 3
  let y := (((x.set RB_LAST_SRC x.rs.src).flag RB_STAT_WARM (!cold)).flag RB_STAT_CONFIRMED false).flag RB_STAT_KENNEL false
  let y := ((y.set RB_STAT_PHASE 1).set RB_START_MS_IMAGE 0).set RB_START_MS_CONFIRM 0
  let y := { y with rs := { y.rs with reach := 0, relAt := y.up, nwdogAt := y.up } }
  let y := y.onlyIf cold fun z => z.sampleAll r
  let y := (y.onlyIf (cold && r.trimBad) Chip.trimDefault).payJournal
  if third || (y.on RB_STAT_KREQ || (decide (5 ≤ y.get RB_STRAP_BOOT_SRC) || (y.on RB_STAT_OPT_FAULT || kennelKept))) then
    y.enterKennel
  else
    let y := { y with rs := { y.rs with timed := true } }.phyLocks
    if y.on CK_STAT_PLL_LOCK || y.rs.bypass then (y.set RB_STAT_PHASE 3).seekImage else y.set RB_STAT_PHASE 2

/-- RESET_RELEASE: with no source left, the reach releases. Assumption log, rows 10, 105. -/
def resetRelease (r : Release) (x : Chip) : Chip :=
  let x := x.dueReaches
  if x.rs.reach = 0 || x.rs.levels != [] then x else x.released r

/-! ### The maintenance UART (R510) -/

/-- The UART serves packets: in Kennel and while it boots. Assumption log, row 108. -/
def Chip.uartServes (x : Chip) : Bool := x.kennel || (x.ld.boot && x.get RB_STRAP_BOOT_SRC = 4)

/-- A packet from its bytes. Assumption log, row 108. -/
def packetOf (b : List Nat) : Packet :=
  let h := fun (o n : Nat) => leNat ((b.drop o).take n)
  ⟨BitVec.ofNat 16 (h 0 2), BitVec.ofNat 8 (h 2 1), BitVec.ofNat 8 (h 3 1), BitVec.ofNat 16 (h 4 2), BitVec.ofNat 16 (h 6 2),
   BitVec.ofNat 32 (h 8 4), BitVec.ofNat 32 (h 12 4),
   (List.range (h 6 2)).map fun i => BitVec.ofNat 32 (h (16 + 4 * i) 4)⟩

/-- A command packet from the UART, under the rules that bind F0: checked as one from a ring, its replies sent back.
Assumption log, rows 16, 108. -/
def Chip.uartPacket (x : Chip) (b : List Nat) : Chip :=
  let p := packetOf b
  let k : Fin 4 := if bitAt p.flags.toNat 2 then 0 else 1
  let now := fun (st : Nat) (ws : List Nat) =>
    (((x.viaUart true).writeReply 0 p.opcode.toNat st p.gen.toNat p.seq.toNat p.tag.toNat ws).viaUart false).journalRefused p
      (packetCall 0 k p) st
  if b.length < 16 || (decide (1024 < p.plen.toNat) || b.length != 16 + 4 * p.plen.toNat) then now stBadLength [p.plen.toNat]
  else if bitAt p.flags.toNat 3 && crcOf 0 (packetBytes p) != p.crc.toNat then now stBadParam [0xFFFFFFFF]
  else
    let y := { x with ld := { x.ld with uart := x.ld.uart ++ [packetCall 0 k p], via := true } }.admitPacket 0 k p
    { y with ld := { y.ld with via := false, uart := y.ld.uart.filter fun c => y.ce.pkts.any fun q => q.call = c } }

/-- UART_FRAME: 0x55, type, length, body, CRC-32C. A frame whose form or CRC is wrong is answered with a NAK.
Assumption log, row 108. -/
def uartFrameIn (b : List Nat) (x : Chip) : Chip :=
  let len := leNat ((b.drop 2).take 2)
  let body := (b.drop 4).take len
  let whole := b.head? = some 0x55 && (b.length = 8 + len && leNat (b.drop (4 + len)) = crcOf 0 ((b.drop 1).take (3 + len)))
  if !whole then x.uartFrame 0xA4 []
  else match b.getD 1 0 with
    | 0xA1 => if x.uartServes then x.uartPacket body else x
    | 0xA3 =>
      if 4096 < len then x.uartFrame 0xA4 []
      else if x.ld.waits.isSome || (x.ld.boot && x.get RB_STRAP_BOOT_SRC = 4) then x.moreImage body
      else x
    | 0xA4 => if x.ld.lastOut = [] then x else x.emit (.pin 10 x.ld.lastOut)
    | _ => x

/-! ### The TAP (R540) -/

/-- IDCODE: version 2, part 0x6416, a manufacturer the spec does not name, and 1. Assumption log, row 109. -/
def Chip.idcode (x : Chip) : Nat := 0x2 * 2 ^ 28 + 0x6416 * 2 ^ 12 + x.free 11 * 2 + 1

/-- TAP_INSTRUCTION: the pins follow the boundary register while EXTEST holds; debug access is refused once the lock
is programmed. Assumption log, row 109. -/
def tapInstruction (t : TapOp) (s : State) : Host.Outcome State Fault Refusal :=
  let tap := fun (ir : Nat) (b : Option (List Nat)) (x : Chip) =>
    { x with tap := { x.tap with ir := ir, boundary := b.getD x.tap.boundary } }
  match t with
  | .reset => s.onAon (tap 1 none)
  | .bypass => s.onAon (tap 0 none)
  | .idcode => s.onAon fun x => ((tap 1 none x).emit (.pin 11 [1, x.idcode])).took
  | .sample b => s.onAon (tap 2 (some (natBytes b)))
  | .extest b => s.onAon fun x => (tap 3 (some (natBytes b)) x).emit (.pin 11 (3 :: natBytes b))
  | .debug _ => if s.chip.nv.debugLock then .next s else .refused .debugAccess

/-! ### The commands -/

/-- RESET_RELEASE. -/
def execResetRelease (r : Release) (s : State) : Host.Outcome State Fault Refusal := s.onReach (resetRelease r)
/-- TRAINING_DONE. -/
def execTrainingDone (t : Training) (s : State) : Host.Outcome State Fault Refusal := s.onReach (trainingDone t)
/-- START_TIMEOUT. -/
def execStartTimeout (s : State) : Host.Outcome State Fault Refusal := s.onReach startTimeout
/-- START_CONFIRM. -/
def execStartConfirm (image : Word) (s : State) : Host.Outcome State Fault Refusal := s.onSkein (startConfirm image.toNat)
/-- UART_FRAME. -/
def execUartFrame (frame : List Byte) (s : State) : Host.Outcome State Fault Refusal := s.onReach (uartFrameIn (natBytes frame))
/-- STATUS_IMAGE_REDRAW. -/
def execStatusImageRedraw (s : State) : Host.Outcome State Fault Refusal := s.onChip statusImageRedraw
/-- TAP_INSTRUCTION. -/
def execTapInstruction (t : TapOp) (s : State) : Host.Outcome State Fault Refusal := tapInstruction t s

end Sys2Proof.Machine
end

