-- ==== Sys2Proof/Machine/Shader.lean ====
section
/-!
DEFINITION. Shader intake, pipelines and the shader cache (R176 to R182, R200), with the shipping of pipelines to the twin
(R369). The numbers of SPIR-V opcodes, capabilities and enumerants and of Vulkan enumerations are the published ones
(PRESUMED, assumption log, row 8).
-/
namespace Sys2Proof.Machine

/-! ### SPIR-V modules -/

/-- The instructions of a module from word 5 on, as far as their word counts hold. Assumption log, row 8. -/
def spvInsts (fuel : Nat) (ws : List Nat) : List (List Nat) :=
  match fuel with
  | 0 => []
  | n + 1 =>
    match ws with
    | [] => []
    | w :: _ =>
      let k := w / 65536
      if k = 0 || ws.length < k then [] else ws.take k :: spvInsts n (ws.drop k)

/-- Opcode of an instruction. -/
def instOp (i : List Nat) : Nat := i.getD 0 0 % 65536

/-- The instructions of a module. -/
def modInsts (ws : List Nat) : List (List Nat) := spvInsts ws.length (ws.drop 5)

/-- The capabilities of the supported subset (R176). Assumption log, row 8. -/
def spvCaps : List Nat :=
  [0, 1, 9, 11, 22, 35, 39, 50, 51, 61, 62, 63, 64, 65, 66, 68, 4427, 4433, 4434, 4448, 4449, 5301, 5345, 5346, 5379]

/-- The bytes of a string operand, up to its zero. -/
def spvString (ws : List Nat) : List Nat := (ws.flatMap wordBytes).takeWhile fun b => b != 0

/-- An extended instruction set is supported: GLSL.std.450, or a NonSemantic set. -/
def extInstOk (s : List Nat) : Bool :=
  s = "GLSL.std.450".toUTF8.toList.map (·.toNat) ||
    s.take 12 = "NonSemantic.".toUTF8.toList.map (·.toNat)

/-- The type declaration with a result id. -/
def typeDecl (is : List (List Nat)) (id : Nat) : List Nat :=
  (is.find? fun i => 19 ≤ instOp i && (instOp i ≤ 39 && i.getD 1 0 = id)).getD []

/-- The instruction that makes a pointer. Assumption log, row 8. -/
def ptrInst (is : List (List Nat)) (id : Nat) : List Nat :=
  (is.find? fun i => [55, 59, 60, 65, 66, 67, 83, 169, 245].contains (instOp i) && i.getD 2 0 = id).getD []

/-- Type of a pointer: result id, storage class, type pointed to. -/
def ptrType (is : List (List Nat)) (id : Nat) : List Nat := typeDecl is ((ptrInst is id).getD 1 0)

/-- An atomic instruction. Assumption log, row 8. -/
def instAtomic (i : List Nat) : Bool :=
  (227 ≤ instOp i && instOp i ≤ 242) || [318, 319, 5614, 5615, 6035].contains (instOp i)

/-- An atomic is one of the subset (R176): on a 32-bit integer in a storage buffer, in workgroup memory, or in a storage
image of RED32_UINT. Assumption log, row 8. -/
def atomicOk (is : List (List Nat)) (i : List Nat) : Bool :=
  let p := if instOp i = 228 then i.getD 1 0 else i.getD 3 0
  let t := ptrType is p
  let v := typeDecl is (t.getD 3 0)
  let image := typeDecl is ((ptrType is ((ptrInst is p).getD 3 0)).getD 3 0)
  instOp i ≤ 242 && (instOp v = 21 && (v.getD 2 0 = 32 && ([2, 4, 12].contains (t.getD 2 0) ||
    (t.getD 2 0 = 11 && (instOp (ptrInst is p) = 60 && (instOp image = 25 && image.getD 8 0 = 33))))))

/-- Why an instruction lies outside the subset (R176, R177): 2 capability, 3 instruction, 4 limit; `is` are all of the
module's. -/
def instBad (is : List (List Nat)) (i : List Nat) : Option Nat :=
  let w := fun n => i.getD n 0
  if instAtomic i && !atomicOk is i then some 3
  else match instOp i with
  | 17 => if spvCaps.contains (w 1) then none else some 2
  | 11 => if extInstOk (spvString (i.drop 2)) then none else some 3
  | 14 => if w 1 = 0 && (w 2 = 1 || w 2 = 3) then none else some 3
  | 15 => if [0, 4, 5].contains (w 1) then none else some 3
  | 16 => if w 2 = 17 && (1024 < w 3 || (1024 < w 4 || (64 < w 5 || 1024 < w 3 * w 4 * w 5))) then some 4 else none
  | _ => none

/-- The first instruction outside the subset, or whose word count does not hold: word offset and cause. Assumption
log, row 8. -/
def spvScan (is : List (List Nat)) (fuel off : Nat) (ws : List Nat) : Option (Nat × Nat) :=
  match fuel with
  | 0 => none
  | n + 1 =>
    match ws with
    | [] => none
    | w :: _ =>
      let k := w / 65536
      if k = 0 || ws.length < k then some (off, 5)
      else match instBad is (ws.take k) with
        | some c => some (off, c)
        | none => spvScan is n (off + k) (ws.drop k)

/-- BuiltIn `n` is the decoration of an id. -/
def decoIs (is : List (List Nat)) (id n : Nat) : Bool :=
  is.any fun i => instOp i = 71 && (i.getD 1 0 = id && (i.getD 2 0 = 11 && i.getD 3 0 = n))

/-- The instructions of a module with their word offsets. -/
def modAt (ws : List Nat) : List (Nat × List Nat) :=
  ((modInsts ws).foldl (fun (a : Nat × List (Nat × List Nat)) i => (a.1 + i.length, a.2 ++ [(a.1, i)])) (5, [])).2

/-- What a type takes, summed over its parts: `leaf` of each scalar. Arrays count their elements. Assumption log, row 8. -/
def typeSum (leaf : List Nat → Nat) (fuel : Nat) (is : List (List Nat)) (id : Nat) : Nat :=
  match fuel with
  | 0 => 0
  | n + 1 =>
    let t := typeDecl is id
    let len := ((is.find? fun i => [43, 50].contains (instOp i) && i.getD 2 0 = t.getD 3 0).getD []).getD 3 1
    match instOp t with
    | 23 => t.getD 3 0 * typeSum leaf n is (t.getD 2 0)
    | 24 => t.getD 3 0 * typeSum leaf n is (t.getD 2 0)
    | 28 => len * typeSum leaf n is (t.getD 2 0)
    | 30 => ((t.drop 2).map fun m => typeSum leaf n is m).sum
    | _ => leaf t

/-- Bytes of a type. -/
def typeBytes (is : List (List Nat)) (id : Nat) : Nat :=
  typeSum (fun t => if instOp t = 20 then 4 else if instOp t = 21 || instOp t = 22 then t.getD 2 0 / 8 else 0) is.length is id

/-- Components of a type, of 32 bits each. -/
def typeComps (is : List (List Nat)) (id : Nat) : Nat :=
  typeSum (fun t => if instOp t = 20 then 1 else if instOp t = 21 || instOp t = 22 then ceilDiv (t.getD 2 0) 32 else 0) is.length is id

/-- A declaration carries a decoration on itself or on a member. -/
def decorated (is : List (List Nat)) (id deco : Nat) : Bool :=
  is.any fun i => i.getD 1 0 = id && ((instOp i = 71 && i.getD 2 0 = deco) || (instOp i = 72 && i.getD 3 0 = deco))

/-- The interface of an entry point: what follows its name. -/
def entryIds (i : List Nat) : List Nat :=
  let name := (i.drop 3).takeWhile fun w => (wordBytes w).all fun b => b != 0
  i.drop (4 + name.length)

/-- Bytes of a push-constant block: the last byte of its members. -/
def pushBytes (is : List (List Nat)) (id : Nat) : Nat :=
  ((typeDecl is id).drop 2).zipIdx.foldl (fun n m =>
    let off := ((is.find? fun i => instOp i = 72 && (i.getD 1 0 = id && (i.getD 2 0 = m.2 && i.getD 3 0 = 35))).getD []).getD 4 0
    max n (off + typeBytes is m.1)) 0

/-- The offset of the variable that takes a module past a limit of R177: shared memory of a workgroup, components of a
vertex stage's outputs, or bytes of push constants. Assumption log, row 8. -/
def limitBad (ws : List Nat) : Option Nat :=
  let is := modInsts ws
  let vars := (modAt ws).filter fun p => instOp p.2 = 59
  let type := fun (v : List Nat) => (typeDecl is (v.getD 1 0)).getD 3 0
  let past := fun (cls most : Nat) (size : List Nat → Nat) =>
    (vars.foldl (fun (a : Nat × Option Nat) p =>
      let n := a.1 + (if p.2.getD 3 0 = cls then size p.2 else 0)
      (n, a.2.orElse fun _ => if most < n then some p.1 else none)) (0, none)).2
  let out := is.filter fun i => instOp i = 15 && i.getD 1 0 = 0
  (((past 4 65536 fun v => typeBytes is (type v)).orElse fun _ =>
    past 3 64 fun v => if (out.any fun e => (entryIds e).contains (v.getD 2 0)) &&
      (!decorated is (v.getD 2 0) 11 && !decorated is (type v) 11) then typeComps is (type v) else 0).orElse fun _ =>
    past 9 256 fun v => pushBytes is (type v))

/-- What a fragment shader does (R161): bit 0 discards or demotes, bit 1 writes the sample mask, bit 2 writes FragDepth, bit
3 makes a storage write or an atomic operation; bit 4, it runs for every sample. Assumption log, row 8. -/
def fragFlags (ws : List Nat) : Nat :=
  let is := modInsts ws
  let writes := fun n => is.any fun i => instOp i = 59 && (i.getD 3 0 = 3 && decoIs is (i.getD 2 0) n)
  let stores := is.any fun i => instAtomic i || (instOp i = 99 ||
    ((instOp i = 62 || instOp i = 63) && [2, 12].contains ((ptrType is (i.getD 1 0)).getD 2 0)))
  b2n (is.any fun i => [252, 4416, 5380].contains (instOp i)) + (2 * b2n (writes 20) + (4 * b2n (writes 22) +
    (8 * b2n stores + 16 * b2n (is.any fun i => instOp i = 17 && i.getD 1 0 = 35))))

/-- What keeps a module out (R176): word offset and cause. Assumption log, row 8. -/
def moduleBad (ws : List Nat) : Option (Nat × Nat) :=
  let v := ws.getD 1 0
  if ws.getD 0 0 != 0x07230203 then some (0, 1)
  else if v % 256 != 0 || (v / 65536 != 1 || 6 < v / 256 % 256) then some (1, 1)
  else (spvScan (modInsts ws) ws.length 5 (ws.drop 5)).orElse fun _ => (limitBad ws).map fun o => (o, 4)

/-- Execution models of a module's entry points, in order. Assumption log, row 8. -/
def modEntries (ws : List Nat) : List Nat :=
  ((modInsts ws).filter fun i => instOp i = 15).map fun i => i.getD 1 0

/-- Workgroup size of a module's `n`th entry point (R190). Assumption log, row 8. -/
def localSize (ws : List Nat) (n : Nat) : Nat :=
  let is := modInsts ws
  match (is.filter fun i => instOp i = 15)[n]? with
  | none => 1
  | some e => match is.find? fun i => instOp i = 16 && (i.getD 1 0 = e.getD 2 0 && i.getD 2 0 = 17) with
    | some m => m.getD 3 1 * m.getD 4 1 * m.getD 5 1
    | none => 1

/-- A decoration's literal on an id. -/
def decoOf (is : List (List Nat)) (id deco : Nat) : Option Nat :=
  (is.find? fun i => instOp i = 71 && (i.getD 1 0 = id && i.getD 2 0 = deco)).map fun i => i.getD 3 0

/-- The type declaration with a result id, array types looked through. -/
def typeOf (fuel : Nat) (is : List (List Nat)) (id : Nat) : List Nat :=
  match fuel with
  | 0 => []
  | n + 1 =>
    match is.find? fun i => 19 ≤ instOp i && (instOp i ≤ 39 && i.getD 1 0 = id) with
    | some t => if instOp t = 28 || instOp t = 29 then typeOf n is (t.getD 2 0) else t
    | none => []

/-- TYPE of R184 that a variable asks for; 0 for one that is no resource. -/
def varType (is : List (List Nat)) (v : List Nat) : Nat :=
  let ptr := typeOf is.length is (v.getD 1 0)
  let t := typeOf is.length is (ptr.getD 3 0)
  let sc := v.getD 3 0
  if sc = 2 then (if (decoOf is (t.getD 1 0) 3).isSome then 2 else 1)
  else if sc = 12 then 2
  else if sc = 0 then
    (if instOp t = 25 then (if t.getD 7 0 = 2 then 4 else 3)
     else if instOp t = 26 then 5 else if instOp t = 27 then 6 else 0)
  else 0

/-- The resource variables of a module: descriptor set, binding, TYPE (R183). -/
def modVars (ws : List Nat) : List (Nat × Nat × Nat) :=
  let is := modInsts ws
  (is.filter fun i => instOp i = 59).filterMap fun v =>
    match decoOf is (v.getD 2 0) 34, decoOf is (v.getD 2 0) 33 with
    | some s, some b => some (s, b, varType is v)
    | _, _ => none

/-! ### Modules and pipelines of a function -/

/-- A module of a function that can be named. -/
def Chip.shaderMod (x : Chip) (fn num : Nat) : Option Module :=
  x.gx.modules.find? fun m => m.fn = fn && m.num = num

/-- A pipeline of a function that can be named. -/
def Chip.pipeline (x : Chip) (fn num : Nat) : Option Pipeline :=
  x.gx.pipes.find? fun p => p.fn = fn && (p.num = num && !p.dying)

/-- A number below 1,024 not in use: which one is not stated, a free value. Assumption log, row 33. -/
def Chip.freeNumber (x : Chip) (used : List Nat) : Nat :=
  let open_ := (List.range 1024).filter fun n => !used.contains n
  open_.getD (x.free 32 % open_.length) 0

/-- SHADER_LOAD. Assumption log, row 33. -/
def shaderLoad (c : Call) (mem : List Host.Cell) (x : Chip) : Chip :=
  x.perform opShaderLoad c fun x =>
    let n := c.w 2
    let mine := (x.gx.modules.filter fun m => m.fn = c.who).map (·.num)
    if (x.ownRange c.who (c.q 0) n guestClasses).isNone then x.bad opShaderLoad c 0
    else if n % 4 != 0 || (n < 20 || 4194304 < n) then x.bad opShaderLoad c 2
    else
      let ws := bytesWords (readBytes mem x (c.q 0) n)
      match moduleBad ws with
      | some b => (x.raise 112).done opShaderLoad c stBadParam [0, b.1, b.2]
      | none =>
        if 1024 ≤ mine.length then x.done opShaderLoad c stNoResource [1]
        else
          let k := x.freeNumber mine
          let m : Module := ⟨c.who, k, ws⟩
          ({ x.took with gx := { x.gx with modules := x.gx.modules ++ [m] } }).ok opShaderLoad c [k, (modEntries ws).length]

/-! ### Pipeline state records (R182) -/

/-- VkFormat values a vertex attribute may have: 8, 16 or 32 bits a component, not packed. Assumption log, row 34. -/
def attrFormat (f : Nat) : Bool := (9 ≤ f && f ≤ 50) || (70 ≤ f && f ≤ 109)

/-- Bytes per texel of a format code (R185); 0 for one that is not listed. Compressed formats give bytes per block.
Assumption log, row 35. -/
def texBytes (f : Nat) : Nat :=
  match f with
  | 0x01 => 1
  | 0x02 => 2
  | 0x03 => 4
  | 0x04 => 4
  | 0x05 => 4
  | 0x06 => 4
  | 0x07 => 2
  | 0x08 => 4
  | 0x09 => 2
  | 0x0A => 4
  | 0x0B => 8
  | 0x0C => 4
  | 0x0D => 4
  | 0x0E => 16
  | 0x20 => 16
  | 0x21 => 16
  | _ => 0

/-- A compressed format. -/
def texBlock (f : Nat) : Bool := f = 0x20 || f = 0x21

/-- A format a target may have. -/
def texTarget (f : Nat) : Bool := texBytes f != 0 && !texBlock f

/-- A format a storage image may have. -/
def texStorage (f : Nat) : Bool := texTarget f && !([4, 6, 7].contains f)

/-- The first wrong byte offset among checks listed as offset and whether it is wrong. -/
def firstBad (l : List (Nat × Bool)) : Option Nat := ((l.filter fun p => p.2).map (·.1)).min?

/-- Wrong fields of one stencil face at an offset. Assumption log, row 34. -/
def stencilBad (b : Nat → Nat) (o : Nat) : List (Nat × Bool) :=
  (List.range 4).map fun i => (o + i, decide (7 < b (o + i)))

/-- Wrong fields of the fixed-function part of a graphics record. Assumption log, rows 18, 34. -/
def fixedBad (b : Nat → Nat) : List (Nat × Bool) :=
  let h := fun o => b o + 256 * b (o + 1)
  [(0x24, decide (5 < b 0x24)), (0x25, decide (15 < b 0x25)), (0x26, decide (31 < b 0x26)), (0x27, decide (1 < b 0x27))] ++
  (stencilBad b 0x28 ++ (stencilBad b 0x30 ++
  (((List.range 8).flatMap fun i => [(0x40 + 8 * i, decide (2048 < h (0x40 + 8 * i) || 0 < h (0x42 + 8 * i))),
    (0x44 + 8 * i, decide (1 < b (0x44 + 8 * i)))]) ++
  (((List.range 16).map fun i =>
    let o := 0x80 + 4 * i
    (o, (h o != 0 || h (o + 2) != 0) && (7 < b o % 16 || (2047 < h o / 16 || !attrFormat (h (o + 2)))))) ++
  (List.range 4).flatMap fun i =>
    let o := 0xC0 + 16 * i
    if h o = 0 then []
    else
      [(o, !texTarget (h o)), (o + 2, decide (15 < b (o + 2))), (o + 3, decide (1 < b (o + 3))),
       (o + 4, decide (18 < b (o + 4))), (o + 5, decide (18 < b (o + 5))), (o + 6, decide (4 < b (o + 6))),
       (o + 7, decide (18 < b (o + 7))), (o + 8, decide (18 < b (o + 8))), (o + 9, decide (4 < b (o + 9)))]))))

/-- Bytes a compute record uses. -/
def computeByte (o : Nat) : Bool := o < 5 || ((8 ≤ o && o < 11) || (0x10 ≤ o && o < 0x24))

/-- The first wrong field of a pipeline state record. Assumption log, row 34. -/
def Chip.recordBad (x : Chip) (fn : Nat) (bs : List Nat) : Option Nat :=
  let b := fun o => bs.getD o 0
  let f := fun o n => leNat ((bs.drop o).take n)
  let compute := b 4 = 1
  let m0 := x.shaderMod fn (f 8 2)
  let m1 := x.shaderMod fn (f 0xC 2)
  let entry := fun (m : Option Module) (n model : Nat) => match m with
    | some m => (modEntries m.words)[n]? != some model
    | none => false
  firstBad ([(0, f 0 4 != 1), (4, decide (1 < b 4)), (5, !compute && !([1, 2, 4].contains (b 5))), (8, m0.isNone),
    (0xA, entry m0 (b 0xA) (if compute then 5 else 0)),
    (0xB, !compute && entry m1 (b 0xB) 4), (0xC, !compute && (f 0xC 2 != 0xFFFF && m1.isNone)),
    (0x10, f 0x10 8 != 0 && (x.ownRange fn (f 0x10 8) (f 0x18 4) guestClasses).isNone),
    (0x18, f 0x18 4 % 8 != 0 || (1024 < f 0x18 4 || (f 0x10 8 = 0 && f 0x18 4 != 0)))] ++
    if compute then (List.range 256).map fun o => (o, !computeByte o && b o != 0) else fixedBad b)

/-! ### The shader cache (R178, R179) -/

/-- A live pipeline uses the entry. -/
def Chip.cacheUsed (x : Chip) (e : CacheEntry) : Bool := x.gx.pipes.any fun p => p.key = e.key && p.world = e.world

/-- GX_SHC_USED follows the entries. -/
def Chip.setCache (x : Chip) (es : List CacheEntry) : Chip :=
  ({ x with gx := { x.gx with cache := es } }).set GX_SHC_USED_MIB (ceilDiv (es.map CacheEntry.size).sum 1048576)

/-- The least recently used entries that no live pipeline uses are evicted until `n` bytes fit. -/
def Chip.makeRoom (x : Chip) (n fuel : Nat) : Chip :=
  match fuel with
  | 0 => x
  | k + 1 =>
    if (x.gx.cache.map (·.size)).sum + n ≤ x.gx.shcSize * 1048576 then x
    else match x.gx.cache.find? fun e => !x.cacheUsed e with
      | none => x
      | some e =>
        (((x.setCache (x.gx.cache.filter fun d => d != e)).sat GX_SHC_EVICT_COUNT).raise 114).makeRoom n k

/-- Code under a key: in the cache already, or compiled, its size a free value. Answers the MiB missing, or whether it
was a hit. Assumption log, row 33. -/
def Chip.codeFor (x : Chip) (key : Nat) (world : Bool) : Chip × (Nat ⊕ Bool) :=
  match x.gx.cache.find? fun e => e.key = key && e.world = world with
  | some e => ((x.setCache ((x.gx.cache.filter fun d => d != e) ++ [e])).sat GX_SHC_HIT_COUNT, .inr true)
  | none =>
    let size := x.free 20 + 1
    let y := x.took
    let live := ((y.gx.cache.filter y.cacheUsed).map (·.size)).sum
    let cap := y.gx.shcSize * 1048576
    if cap < live + size then (y.raise 115, .inl (ceilDiv (live + size - cap) 1048576))
    else
      let y := y.makeRoom size y.gx.cache.length
      let e : CacheEntry := ⟨key, world, size⟩
      (((y.setCache (y.gx.cache ++ [e])).sat GX_SHC_MISS_COUNT).raise 113, .inr false)

/-- A pipeline is shipped to the twin, in segments, while offloading is enabled in a pair (R369): its modules, its
record and what its fragment shader does. Assumption log, row 44. -/
def Chip.shipPipe (x : Chip) (key bs : List Nat) : Chip :=
  if !x.paired || (!x.on HB_CTL_OFFLOAD_EN || (!x.bl.supervised || x.bl.shipped.contains key)) then x
  else
    let y := (List.range (ceilDiv bs.length 8144)).foldl (fun (y : Chip) i =>
      let part := (bs.drop (8144 * i)).take 8144
      y.blSend 3 1 (key ++ (wordBytes bs.length ++ (wordBytes (8144 * i) ++ (wordBytes part.length ++
        ([0, 0, 0, 0] ++ part)))))) x
    y.setBl fun b => { b with shipped := b.shipped ++ [key] }

/-- PIPELINE_CREATE. Assumption log, rows 33, 137. -/
def pipelineCreate (c : Call) (mem : List Host.Cell) (x : Chip) : Chip :=
  x.perform opPipelineCreate c fun x =>
    let a := c.q 0
    let mine := (x.gx.pipes.filter fun p => p.fn = c.who).map (·.num)
    if a % 64 != 0 || (x.ownRange c.who a 256 guestClasses).isNone then x.bad2 opPipelineCreate c 0 0
    else
      let bs := readBytes mem x a 256
      let b := fun o => bs.getD o 0
      let f := fun o n => leNat ((bs.drop o).take n)
      match x.recordBad c.who bs with
      | some o => x.bad2 opPipelineCreate c 0 o
      | none =>
        if 1024 ≤ mine.length || 16384 ≤ x.gx.pipes.length then x.done opPipelineCreate c stNoResource [1]
        else
          let compute := b 4 = 1
          let mods := (f 8 2, if compute then 0xFFFF else f 0xC 2)
          let words := [mods.1, mods.2].flatMap fun n => match x.shaderMod c.who n with
            | some m => m.words.flatMap wordBytes
            | none => []
          let bare := bs.take 8 ++ ([0, 0] ++ ((bs.drop 10).take 2 ++ ([0, 0] ++ bs.drop 14)))
          let spec := if f 0x10 8 = 0 then [] else readBytes mem x (f 0x10 8) (f 0x18 4)
          let hash := sha256 (words ++ (bare ++ (spec ++ wordBytes (x.get GX_COMPILER_VERSION))))
          let r := x.codeFor (beWord hash) c.world
          match r.2 with
          | .inl n => r.1.done opPipelineCreate c stNoResource [n]
          | .inr hit =>
            let k := r.1.freeNumber mine
            let flags := match x.shaderMod c.who mods.2 with
              | some m => fragFlags m.words
              | none => 0
            let p : Pipeline := ⟨c.who, k, compute, beWord hash, c.world, mods, b 5,
              (List.range 4).map fun t => f (0xC0 + 16 * t) 2, (List.range 4).map fun s => f (0x1C + 2 * s) 2, bs, flags, false⟩
            let y := { r.1.took with gx := { r.1.gx with pipes := r.1.gx.pipes ++ [p] } }
            ((y.set GX_PIPES_LIVE y.gx.pipes.length).shipPipe hash (words ++ (bs ++ [flags]))).ok opPipelineCreate c [k, b2n hit]

/-- PIPELINE_DESTROY: at once, or when the last accepted job that names it is over. -/
def pipelineDestroy (c : Call) (x : Chip) : Chip :=
  x.perform opPipelineDestroy c fun x =>
    let n := bits (c.w 0) 0 16
    if bitAt (c.w 0) 31 then
      if (x.shaderMod c.who n).isNone || (x.gx.pipes.any fun p => p.fn = c.who && (p.mods.1 = n || p.mods.2 = n)) then
        x.bad opPipelineDestroy c 0
      else
        ({ x with gx := { x.gx with modules := x.gx.modules.filter fun m => !(m.fn = c.who && m.num = n) } }).ok
          opPipelineDestroy c []
    else if (x.pipeline c.who n).isNone then x.bad opPipelineDestroy c 0
    else
      let ps := updAll x.gx.pipes (fun p => p.fn = c.who && p.num = n) fun p => { p with dying := true }
      ({ x with gx := { x.gx with pipes := ps, destroys := x.gx.destroys ++ [(c, n)] } }).reapPipes

/-- SHADER_CACHE_FLUSH. -/
def shaderCacheFlush (c : Call) (x : Chip) : Chip :=
  x.perform opShaderCacheFlush c fun x => (x.setCache (x.gx.cache.filter x.cacheUsed)).ok opShaderCacheFlush c []

/-- SHADER_LOAD. -/
def execShaderLoad (c : Call) (s : State) : Host.Outcome State Fault Refusal := s.onChipM (shaderLoad c)
/-- PIPELINE_CREATE. -/
def execPipelineCreate (c : Call) (s : State) : Host.Outcome State Fault Refusal := s.onChipM (pipelineCreate c)
/-- PIPELINE_DESTROY. -/
def execPipelineDestroy (c : Call) (s : State) : Host.Outcome State Fault Refusal := s.onChip (pipelineDestroy c)
/-- SHADER_CACHE_FLUSH. -/
def execShaderCacheFlush (c : Call) (s : State) : Host.Outcome State Fault Refusal := s.onChip (shaderCacheFlush c)

end Sys2Proof.Machine
end

