-- ==== Sys2Proof/Machine/Render.lean ====
section
/-!
DEFINITION. Submission of render and compute jobs, barriers and bin growth (R141 to R146, R154 to R159, R165, R168, R175,
R187, R190).
-/
namespace Sys2Proof.Machine

/-! ### What the engine checks at submission (R143) -/

/-- Tile-memory bytes a sample of a depth-stencil format (R175). Assumption log, row 35. -/
def dsBytes (f : Nat) : Nat :=
  match f with
  | 1 => 2
  | 2 => 4
  | 3 => 4
  | 4 => 8
  | _ => 0

/-- Samples of a descriptor's FLAGS code; 0 for the unlisted code. -/
def sampleCount (code : Nat) : Nat := if code = 0 then 1 else if code = 1 then 2 else if code = 2 then 4 else 0

/-- The issuer may name fence `i` in a job: it owns it, or holds a grant, and it is not orphaned (R143, R572). -/
def Chip.jobFence (x : Chip) (fn i : Nat) : Bool := i < 4096 && (x.mayWait fn i && !x.fenceOrphan i)

/-- Bin pages a render area needs at least (R152). -/
def minPages (w h : Nat) : Nat :=
  let g := tileGrid w h
  16 + ceilDiv (g.1 * g.2) 1024

/-- An allocation is in some job's bin pool (R158). -/
def Chip.pooled (x : Chip) (i : Nat) : Bool := x.gx.jobs.any fun j => j.pool.any fun p => hIndex p.1 = i

/-- The pipeline that a draw record names. Assumption log, row 36. -/
def drawPipe (mem : List Host.Cell) (x : Chip) (a : Nat) : Nat := readLe mem x a 2

/-- Classes a job's targets may have: the secure world draws into PROTECTED allocations too (R219). -/
def targetClasses (fn : Nat) : List Nat := if fn = 127 then [2, 3, 14] else [2, 3]

/-- The wrong fields of colour record `t`. Assumption log, row 35. -/
def Chip.colourBad (x : Chip) (fn : Nat) (d : List Nat) (p : Option Pipeline) (t : Nat) : List (Nat × Bool) :=
  let o := 0x60 + 32 * t
  let a := fieldAt d o 8
  if a = 0 then []
  else
    let fmt := fieldAt d (o + 8) 2
    let layout := d.getD (o + 10) 0
    let ops := d.getD (o + 11) 0
    let pitch := fieldAt d (o + 12) 4
    let n := sampleCount (bits (fieldAt d 4 4) 4 2)
    let w := fieldAt d 8 2 + fieldAt d 0xC 2
    let h := fieldAt d 0xA 2 + fieldAt d 0xE 2
    [(o, a % layoutAlign layout != 0 ||
        (x.ownRange fn a (levelBytes layout w h pitch (texBytes fmt) * n) (targetClasses fn)).isNone),
     (o + 8, !texTarget fmt || (match p with
        | some p => p.formats.getD t 0 != fmt
        | none => false)),
     (o + 10, decide (2 < layout) || !layoutServes layout (texBytes fmt)),
     (o + 11, ops % 4 = 3 || 2 ≤ ops / 4),
     (o + 12, if layout = 0 then pitch % 256 != 0 else pitch != 0)]

/-- Tile-memory bytes a pixel takes (R175). -/
def pixelBytes (d : List Nat) : Nat :=
  (((List.range 4).map fun t => if fieldAt d (0x60 + 32 * t) 8 = 0 then 0 else texBytes (fieldAt d (0x68 + 32 * t) 2)).sum +
    (if fieldAt d 0x50 8 = 0 then 0 else dsBytes (d.getD 0x58 0))) * sampleCount (bits (fieldAt d 4 4) 4 2)

/-- The render area lies inside every LINEAR target's pitch (R143, R187). Assumption log, row 35. -/
def areaInside (d : List Nat) : Bool :=
  (List.range 4).all fun t =>
    let o := 0x60 + 32 * t
    fieldAt d o 8 = 0 || (d.getD (o + 10) 0 != 0 ||
      decide ((fieldAt d 8 2 + fieldAt d 0xC 2) * texBytes (fieldAt d (o + 8) 2) ≤ fieldAt d (o + 12) 4))

/-- Checks on the fences of a descriptor; both kinds have them at the same places. Assumption log, row 35. -/
def Chip.fencesBad (x : Chip) (fn : Nat) (d : List Nat) : List (Nat × Bool) :=
  [(0x30, bitAt (fieldAt d 4 4) 2 && !x.jobFence fn (fieldAt d 0x30 2)),
   (0x40, fieldAt d 0x40 2 != 0xFFFF && !x.jobFence fn (fieldAt d 0x40 2))]

/-- The first wrong field of a render job descriptor, by its offset (R143, R175); 127 stands for the secure world.
Assumption log, rows 18, 35. -/
def renderBad (mem : List Host.Cell) (x : Chip) (fn : Nat) (d : List Nat) : Option Nat :=
  let flags := fieldAt d 4 4
  let w := fieldAt d 0xC 2
  let h := fieldAt d 0xE 2
  let draws := fieldAt d 0x10 8
  let count := fieldAt d 0x18 4
  let pool := fieldAt d 0x20 8
  let pages := fieldAt d 0x28 4
  let ds := fieldAt d 0x50 8
  let p := x.pipeline fn (drawPipe mem x draws)
  let ok := draws % 64 = 0 && (x.ownRange fn draws (64 * count) guestClasses).isSome
  let pipeOk := match p with
    | some p => !p.compute
    | none => false
  firstBad ([(0, fieldAt d 0 4 != 1),
    (4, decide (64 ≤ flags) || ((bitAt flags 3 && (fn != 127 || bitAt flags 0)) || (bits flags 4 2 = 3 || decide (256 < pixelBytes d)))),
    (8, !areaInside d),
    (0xC, w = 0 || 8192 < w), (0xE, h = 0 || 8192 < h),
    (0x10, !ok || !pipeOk),
    (0x18, count = 0 || 65535 < count),
    (0x20, hOffset pool != 0 || ((x.ownRange fn pool 0 [4]).isNone || x.pooled (hIndex pool))),
    (0x28, pages < minPages w h || (x.ownRange fn pool (pages * 65536) [4]).isNone)] ++
    (x.fencesBad fn d ++
    ([(0x50, ds != 0 && (x.ownRange fn ds ((fieldAt d 8 2 + w) * (fieldAt d 0xA 2 + h) * dsBytes (d.getD 0x58 0) *
        sampleCount (bits flags 4 2)) (targetClasses fn)).isNone),
      (0x58, decide (4 < d.getD 0x58 0) || ((d.getD 0x58 0 = 0) != (ds = 0))),
      (0x59, ds != 0 && (bits (d.getD 0x59 0) 0 2 = 3 || (1 < bits (d.getD 0x59 0) 2 2 ||
        (bits (d.getD 0x59 0) 4 2 = 3 || 1 < bits (d.getD 0x59 0) 6 2))))] ++
    ((List.range 4).flatMap (fun t => x.colourBad fn d p t) ++
    ([(0xE0, (x.ownRange fn (fieldAt d 0xE0 8) 64 guestClasses).isNone)] ++
    (List.range 24).map fun i => (0xE8 + i, d.getD (0xE8 + i) 0 != 0))))))

/-- The first wrong field of a compute job descriptor (R190). Assumption log, rows 18, 35. -/
def computeBad (x : Chip) (fn : Nat) (d : List Nat) : Option Nat :=
  let push := fieldAt d 0x20 8
  let len := fieldAt d 0x28 4
  let group := fun o => (o, fieldAt d o 4 = 0 || 65535 < fieldAt d o 4)
  let pipeOk := match x.pipeline fn (fieldAt d 8 2) with
    | some p => p.compute
    | none => false
  firstBad ([(0, fieldAt d 0 4 != 1), (4, decide (8 ≤ fieldAt d 4 4)), (8, !pipeOk), group 0xC, group 0x10, group 0x14,
    (0x18, (x.ownRange fn (fieldAt d 0x18 8) 64 guestClasses).isNone),
    (0x20, push != 0 && (x.ownRange fn push len guestClasses).isNone),
    (0x28, len % 4 != 0 || 256 < len)] ++
    (x.fencesBad fn d ++
    (List.range 48).map fun i => (0x50 + i, d.getD (0x50 + i) 0 != 0)))

/-! ### The job of a descriptor -/

/-- The fence a job waits for. -/
def descWait (d : List Nat) : Option (Nat × Nat) :=
  if bitAt (fieldAt d 4 4) 2 then some (fieldAt d 0x30 2, fieldAt d 0x38 8) else none

/-- The fence a job signals. -/
def descSignal (d : List Nat) : Option (Nat × Nat) :=
  if fieldAt d 0x40 2 = 0xFFFF then none else some (fieldAt d 0x40 2, fieldAt d 0x48 8)

/-- The job a descriptor describes, its addresses taken through `at_`, before any work on it. -/
def jobOf (compute : Bool) (fn gen num ring : Nat) (d : List Nat) (at_ : Nat → Nat) (pipes deps : List Nat) : Job :=
  let flags := fieldAt d 4 4
  let target := fun t =>
    let o := 0x60 + 32 * t
    if compute || fieldAt d o 8 = 0 then none
    else some (⟨t, at_ (fieldAt d o 8), fieldAt d (o + 8) 2, d.getD (o + 10) 0, d.getD (o + 11) 0, false, false, 0,
      fieldAt d (o + 12) 4⟩ : Target)
  { compute := compute, fn := fn, gen := gen, world := false, num := num, ring := ring, st := .queued
    phase := if compute then .running else .binning
    portable := bitAt flags 0, doneNotice := bitAt flags 1, wait := descWait d, signal := descSignal d
    area := if compute then (0, 0, 0, 0) else (fieldAt d 8 2, fieldAt d 0xA 2, fieldAt d 0xC 2, fieldAt d 0xE 2)
    targets := (List.range 4).filterMap target
    ds := if compute || fieldAt d 0x50 8 = 0 then 0 else at_ (fieldAt d 0x50 8)
    draws := if compute then 0 else at_ (fieldAt d 0x10 8)
    drawCount := if compute then 0 else fieldAt d 0x18 4
    pipes := pipes
    res := at_ (fieldAt d (if compute then 0x18 else 0xE0) 8)
    pool := if compute || fn = 127 then [] else [(fieldAt d 0x20 8, fieldAt d 0x28 4)]
    spills := 0, faulted := false, onTwin := false, members := 0, cores := [], since := 0, used := 0, deps := deps
    preempt := false, timer := false, old := false
    groups := if compute then fieldAt d 0xC 4 * fieldAt d 0x10 4 * fieldAt d 0x14 4 else 0
    lsize := 0, finished := 0, pos := (0, 0), binned := 0, prims := [], done := [], visited := [], elided := [], handles := []
    spillDue := false
    samples := if compute then 1 else sampleCount (bits flags 4 2)
    desc := d, filled := false }

/-- Handles of a render job's colour and depth-stencil targets. -/
def Job.targetIdx (j : Job) : List Nat := j.targets.map (fun t => hIndex t.addr) ++ (if j.ds = 0 then [] else [hIndex j.ds])

/-- Jobs a new job waits for: earlier render jobs of its ring that share a target handle (R145), and the work before
the barriers of its ring that hold its kind (R165). Assumption log, row 37. -/
def Chip.depsOf (x : Chip) (j : Job) : List Nat :=
  let same := x.gx.jobs.filter fun k => k.fn = j.fn && (k.ring = j.ring && (!k.compute && (!j.compute &&
    k.targetIdx.any fun i => j.targetIdx.contains i)))
  let bars := x.gx.barriers.filter fun b => b.fn = j.fn && (b.ring = j.ring &&
    (if j.compute then b.computeAfter else b.rasterAfter))
  (same.map (·.num) ++ bars.flatMap (·.before)).eraseDups

/-- A function's next job number (R168, R191). Assumption log, row 33. -/
def Chip.nextJob (x : Chip) (fn : Nat) : Nat := sparseGet x.gx.nextNum fn 0

/-- A job is accepted. -/
def Chip.acceptJob (x : Chip) (j : Job) : Chip :=
  let j := { j with deps := x.depsOf j }
  ({ x with gx := { x.gx with
      jobs := x.gx.jobs ++ [j], nextNum := sparseSet x.gx.nextNum j.fn ((j.num + 1) % 65536) 0 } }).countJobs.settleJobs

/-- Live jobs of a kind, of a function or of the chip, leave room for one more (R146, R191). A job run for the twin
counts on the chip that issued it alone. Assumption log, row 133. -/
def Chip.jobRoom (x : Chip) (fn : Nat) (compute : Bool) : Bool :=
  let js := x.gx.jobs.filter fun j => j.compute = compute && (j.fn != 127 || j.world)
  decide ((js.filter fun j => j.fn = fn).length < 64) && decide (js.length < 1024)

/-! ### What a job names (R137, R183) -/

/-- Entry `i` of a job's resource table. -/
def resEntry (mem : List Host.Cell) (x : Chip) (j : Job) (i : Nat) : List Nat := readBytes mem x (j.res + 64 + 32 * i) 32

/-- Number of entries of a job's resource table; none where the table does not fit its allocation. -/
def resCount (mem : List Host.Cell) (x : Chip) (j : Job) : Option Nat :=
  let n := readLe mem x j.res 2
  if n ≤ 4096 && (x.ownRange j.fn j.res (64 + 32 * n) guestClasses).isSome then some n else none

/-- Every address a job names: its own, those of its resource table and signature tables, of its draw records, and its
push data. -/
def jobInputs (mem : List Host.Cell) (x : Chip) (j : Job) : List Nat :=
  let table := (List.range ((resCount mem x j).getD 0)).filterMap fun i =>
    let e := resEntry mem x j i
    if e.getD 0 0 = 0 || e.getD 0 0 = 5 then none else some (fieldAt e 8 8)
  let draws := (List.range j.drawCount).flatMap fun i =>
    [0x18, 0x20, 0x30].map fun o => readLe mem x (j.draws + 64 * i + o) 8
  let push := if j.compute then fieldAt j.desc 0x20 8 else 0
  ([j.res, j.draws, j.ds, push] ++ (table ++ (draws ++ j.targets.map (·.addr)))).filter fun a => a != 0

/-- The map entries of what a job names. -/
def jobHandles (mem : List Host.Cell) (x : Chip) (j : Job) : List Nat := ((jobInputs mem x j).map hIndex).eraseDups

/-- RENDER_SUBMIT. Assumption log, rows 131, 134, 137. -/
def renderSubmit (c : Call) (mem : List Host.Cell) (x : Chip) : Chip :=
  x.perform opRenderSubmit c fun x =>
    let a := c.q 0
    if a % 256 != 0 || (x.ownRange c.who a 256 guestClasses).isNone then x.bad2 opRenderSubmit c 0 0
    else
      let d := readBytes mem x a 256
      match renderBad mem x c.who d with
      | some o => x.bad2 opRenderSubmit c 0 o
      | none =>
        if !x.jobRoom c.who false then x.done opRenderSubmit c stNoResource [1]
        else
          let draws := fieldAt d 0x10 8
          let pipes := ((List.range (fieldAt d 0x18 4)).map fun i => drawPipe mem x (draws + 64 * i)).eraseDups
          let n := x.nextJob c.who
          let j := { jobOf false c.who (x.get FNf_GEN_GEN c.who) n c.ring d (fun a => a) pipes [] with world := c.world }
          let r := x.protSubmit j (d ++ readBytes mem x draws (64 * fieldAt d 0x18 4))
          (r.1.acceptJob { j with handles := jobHandles mem x j, pfn := r.2 }).ok opRenderSubmit c [n]

/-- Workgroup size of a compute pipeline (R190). -/
def Chip.groupSize (x : Chip) (fn num : Nat) : Nat :=
  match x.pipeline fn num with
  | some p => (match x.shaderMod fn p.mods.1 with
    | some m => localSize m.words (p.record.getD 0xA 0)
    | none => 1)
  | none => 1

/-- COMPUTE_SUBMIT. Assumption log, rows 131, 134, 137. -/
def computeSubmit (c : Call) (mem : List Host.Cell) (x : Chip) : Chip :=
  x.perform opComputeSubmit c fun x =>
    let a := c.q 0
    if a % 128 != 0 || (x.ownRange c.who a 128 guestClasses).isNone then x.bad2 opComputeSubmit c 0 0
    else
      let d := readBytes mem x a 128
      match computeBad x c.who d with
      | some o => x.bad2 opComputeSubmit c 0 o
      | none =>
        if !x.jobRoom c.who true then x.done opComputeSubmit c stNoResource [1]
        else
          let n := x.nextJob c.who
          let j := { jobOf true c.who (x.get FNf_GEN_GEN c.who) n c.ring d (fun a => a) [fieldAt d 8 2] [] with
            world := c.world, lsize := x.groupSize c.who (fieldAt d 8 2) }
          (x.acceptJob { j with handles := jobHandles mem x j }).ok opComputeSubmit c [n]

/-- RENDER_BARRIER: it completes at acceptance; later work of an after-kind waits for the work before it (R165).
Assumption log, row 37. -/
def renderBarrier (c : Call) (x : Chip) : Chip :=
  x.perform opRenderBarrier c fun x =>
    let m := c.w 0
    if 16 ≤ m || (m % 4 = 0 || m / 4 = 0) then x.bad opRenderBarrier c 0
    else
      let before := (x.gx.jobs.filter fun j => j.fn = c.who && (j.ring = c.ring.val &&
        (if j.compute then bitAt m 1 else bitAt m 0))).map (·.num)
      let b : RBarrier := ⟨c.who, c.ring.val, bitAt m 2, bitAt m 3, before⟩
      ({ x with gx := { x.gx with barriers := if before = [] then x.gx.barriers else x.gx.barriers ++ [b] } }).ok
        opRenderBarrier c []

/-! ### Bin memory (R153 to R159) -/

/-- Pages in a job's pool. -/
def Job.poolPages (j : Job) : Nat := (j.pool.map (·.2)).sum

/-- A job leaves BinWait for Spill: at once where it holds cores, else at its next dispatch (R148, R155). Assumption
log, row 38. -/
def Chip.enterSpill (x : Chip) (j : Job) : Chip :=
  let j := { j with timer := false }
  if j.cores = [] then (x.setJob { j with st := .ready, phase := .spill, spillDue := true }).countJobs.settleJobs
  else ((x.enterPhase { j with spills := j.spills + 1 } .spill).spillBegins).countJobs

/-- BIN_GROW answers. Assumption log, row 38. -/
def Chip.binGrown (x : Chip) (c : Call) (j : Job) (timing : Nat) : Chip :=
  (x.onlyIf (timing = 1) fun y => (y.sat GX_GROW_LATE_CNT_COUNT).raise 102).ok opBinGrow c [j.poolPages, timing]

/-- BIN_GROW (R159, R168). Assumption log, row 38. -/
def binGrow (c : Call) (x : Chip) : Chip :=
  x.perform opBinGrow c fun x =>
    let a := c.q 1
    let n := c.w 3
    match x.gx.jobs.find? fun j => j.is c.who (c.w 0) && !j.compute with
    | none => x.bad opBinGrow c 0
    | some j =>
      if n = 0 then
        (if j.st = .binWait then (x.enterSpill j).binGrown c j 0 else x.binGrown c j 2)
      else if hOffset a != 0 || ((x.ownRange c.who a 0 [4]).isNone || x.pooled (hIndex a)) then x.bad opBinGrow c 1
      else if (x.ownRange c.who a (n * 65536) [4]).isNone then x.bad opBinGrow c 3
      else if 32 ≤ j.pool.length then x.done opBinGrow c stNoResource [1]
      else
        let j := { j with pool := j.pool ++ [(a, n)] }
        if j.st = .binWait then
          let k := { j with timer := false }
          let y := if j.cores = [] then (x.setJob { k with st := .ready, phase := .binning }).settleJobs else x.enterPhase k .binning
          (y.countJobs).binGrown c j 0
        else (x.setJob j).binGrown c j (if j.st = .spill || (j.st = .ready && j.phase = .spill) then 1 else 2)

/-- RENDER_SUBMIT. -/
def execRenderSubmit (c : Call) (s : State) : Host.Outcome State Fault Refusal := s.onChipM (renderSubmit c)
/-- COMPUTE_SUBMIT. -/
def execComputeSubmit (c : Call) (s : State) : Host.Outcome State Fault Refusal := s.onChipM (computeSubmit c)
/-- RENDER_BARRIER. -/
def execRenderBarrier (c : Call) (s : State) : Host.Outcome State Fault Refusal := s.onChip (renderBarrier c)
/-- BIN_GROW. -/
def execBinGrow (c : Call) (s : State) : Host.Outcome State Fault Refusal := s.onChip (binGrow c)

end Sys2Proof.Machine
end

