-- ==== Sys2Proof/Machine/Passes.lean ====
section
/-!
DEFINITION. What happens to jobs after submission: dispatch with its checks of draw records and resources, preemption points,
bin memory running short, completion with tile signatures, core errors (R131 to R135, R147 to R167, R183 to R199), and the
offload of jobs to and from the twin (R369, R370).
-/
namespace Sys2Proof.Machine

/-! ### Addresses of a job -/

/-- Where this chip holds what a handle of the twin names (R357); 0 where it holds no copy. -/
def Chip.fromTwin (x : Chip) (a : Nat) : Nat :=
  if a = 0 then 0
  else match x.copyOf (hIndex a) (hTag a) with
    | some c => match x.entry c.entry with
      | some e => handleOf e + hOffset a
      | none => 0
    | none => 0

/-- An address found in a job's tables: as it stands, or the copy of it for a job run for the twin. -/
def Chip.jobAddr (x : Chip) (j : Job) (a : Nat) : Nat := if j.fn = 127 then x.fromTwin a else a

/-! ### Resource tables (R183, R184, R187) -/

/-- TYPE of an entry names an image. -/
def resImage (e : List Nat) : Bool := [3, 4, 6].contains (e.getD 0 0)

/-- Bytes that an entry covers from its address on. -/
def resBytes (e : List Nat) : Nat :=
  let fmt := fieldAt e 2 2
  let bpp := texBytes fmt
  let unit := fun v => if texBlock fmt then ceilDiv v 4 else v
  let level := fun l =>
    levelBytes (e.getD 1 0) (unit (max 1 (fieldAt e 0x10 2 / 2 ^ l))) (unit (max 1 (fieldAt e 0x12 2 / 2 ^ l))) (fieldAt e 0x18 4) bpp
  if e.getD 0 0 = 5 then 0
  else if !resImage e then fieldAt e 0x10 4
  else
    let one := ((List.range (max 1 (e.getD 0x16 0))).map fun l =>
      if e.getD 1 0 = 0 then level l else ceilDiv (level l) 4096 * 4096).sum
    one * max 1 (fieldAt e 0x14 2)

/-- An image entry keeps the requirements of its layout and format (R177, R185, R187). Assumption log, row 36. -/
def imageOk (e : List Nat) (a : Nat) : Bool :=
  let fmt := fieldAt e 2 2
  let bpp := texBytes fmt
  let layout := e.getD 1 0
  let w := fieldAt e 0x10 2
  let h := fieldAt e 0x12 2
  let pitch := fieldAt e 0x18 4
  let layers := fieldAt e 0x14 2
  let levels := e.getD 0x16 0
  let kind := if e.getD 0 0 = 4 then texStorage fmt else bpp != 0
  let wide := (if texBlock fmt then ceilDiv w 4 else w) * bpp
  kind && (layout < 3 && (layoutServes layout bpp && ((layout = 0 || !texBlock fmt) &&
    (a % layoutAlign layout = 0 && ((if layout = 0 then pitch % 256 = 0 && wide ≤ pitch else pitch = 0) &&
    ((layout = 1 || (layers ≤ 1 && levels ≤ 1)) && (0 < w && (w ≤ 16384 && (0 < h && (h ≤ 16384 && (0 < layers && (layers ≤ 2048 &&
      0 < levels))))))))))))

/-- A sampler entry has no reserved code (R184). Assumption log, row 36. -/
def samplerOk (e : List Nat) : Bool :=
  let s := fieldAt e 4 4
  bits s 3 3 ≤ 4 && (bits s 6 3 ≤ 4 && (bits s 9 3 ≤ 4 && (bits s 12 3 ≤ 4 && (bits s 19 2 ≤ 2 && s < 2 ^ 21))))

/-- An entry is right in itself, and of the TYPE the variable asks for (R183, R184). Assumption log, row 36. -/
def Chip.entryOk (x : Chip) (fn type : Nat) (e : List Nat) : Bool :=
  let t := e.getD 0 0
  let a := fieldAt e 8 8
  let mem := t = 5 || (x.ownRange fn a (resBytes e) guestClasses).isSome
  t = type && (0 < t && (t ≤ 6 && (mem && ((!resImage e || imageOk e a) && ((t < 5 || samplerOk e) &&
    (t != 1 || fieldAt e 0x10 4 ≤ 65536))))))

/-- The stored pipeline of a function, one that is to be destroyed included. -/
def Chip.anyPipe (x : Chip) (fn num : Nat) : Option Pipeline := x.gx.pipes.find? fun p => p.fn = fn && p.num = num

/-- Every resource variable of a pipeline finds its entry (R183). Assumption log, row 36. -/
def pipeResOk (mem : List Host.Cell) (x : Chip) (j : Job) (p : Pipeline) (count : Nat) : Bool :=
  [p.mods.1, p.mods.2].all fun n => match x.shaderMod p.fn n with
    | none => true
    | some m => (modVars m.words).all fun v =>
      let i := p.setBase.getD v.1 0 + v.2.1
      v.1 < 4 && (i < count && x.entryOk j.fn v.2.2 (resEntry mem x j i))

/-! ### Draw records (R142) -/

/-- What this chip has of a pipeline that a job's draw records name: record, cache key and what its fragment shader does;
for a job run for the twin, what the twin shipped (R369). -/
def Chip.pipeCode (x : Chip) (j : Job) (num : Nat) : List Nat × Nat × Nat :=
  if j.fn = 127 && !j.world then
    let key := ((x.bl.offIn.find? fun o => o.num = j.num).bind fun o => (o.pipes.find? fun q => q.1 = num).map (·.2)).getD []
    match x.bl.pipes.find? fun s => s.key = key with
    | some s =>
      let n := s.bytes.length
      ((s.bytes.drop (n - 257)).take 256, beWord key, s.bytes.getD (n - 1) 0)
    | none => ([], 0, 0)
  else match x.anyPipe j.fn num with
    | some p => (p.record, p.key, p.frag)
    | none => ([], 0, 0)

/-- Draw record `i` of a job. -/
def drawRec (mem : List Host.Cell) (x : Chip) (j : Job) (i : Nat) : List Nat := readBytes mem x (j.draws + 64 * i) 64

/-- Draw record `i` is right in itself and fits the job's targets (R142). Those of a job run for the twin were checked
by its issuer. Assumption log, row 36. -/
def drawOk (mem : List Host.Cell) (x : Chip) (j : Job) (i : Nat) : Bool :=
  let d := drawRec mem x j i
  let flags := fieldAt d 2 2
  let index := fieldAt d 0x18 8
  let table := fieldAt d 0x20 8
  let push := fieldAt d 0x30 8
  let len := fieldAt d 0x38 4
  let fits := match x.anyPipe j.fn (fieldAt d 0 2) with
    | some p => !p.compute && (p.samples = j.samples && j.targets.all fun t => p.formats.getD t.slot 0 = t.format)
    | none => false
  (j.fn = 127 && !j.world) || (fits && (flags < 8 && (flags / 2 != 3 && (fieldAt d 8 4 != 0 && (fieldAt d 0x3C 4 = 0 &&
    ((if bitAt flags 0 then (x.ownRange j.fn index 0 guestClasses).isSome else index = 0) &&
    ((table = 0 || (x.ownRange j.fn table 0 guestClasses).isSome) &&
    ((push = 0 || (x.ownRange j.fn push len guestClasses).isSome) && (len % 4 = 0 && len ≤ 256)))))))))

/-- An index as the job reads it; outside its allocation the read answers zero (R19). -/
def readIndex (mem : List Host.Cell) (x : Chip) (j : Job) (a n : Nat) : Nat :=
  if (x.ownRange j.fn (x.jobAddr j a) n guestClasses).isSome then readLe mem x (x.jobAddr j a) n else 0

/-- The vertices of each primitive of one instance of draw `i`. -/
def drawPrimsOf (mem : List Host.Cell) (x : Chip) (j : Job) (i : Nat) : List (List Int) :=
  let d := drawRec mem x j i
  let r := (x.pipeCode j (fieldAt d 0 2)).1
  drawPrims (readIndex mem x j) d (r.getD 0x24 0) (bitAt (r.getD 0x25 0) 0)

/-- Primitives of draw `i`, over all its instances. -/
def drawTotal (mem : List Host.Cell) (x : Chip) (j : Job) (i : Nat) : Nat :=
  (drawPrimsOf mem x j i).length * fieldAt (drawRec mem x j i) 8 4

/-- The first index of draw `i` that lies outside its allocation, by address. -/
def badIndex (mem : List Host.Cell) (x : Chip) (j : Job) (i : Nat) : Option Nat :=
  let d := drawRec mem x j i
  let n := indexSize (fieldAt d 2 2)
  if bitAt (fieldAt d 2 2) 0 then
    ((List.range (fieldAt d 4 4)).map fun k => x.jobAddr j (fieldAt d 0x18 8 + n * (fieldAt d 0xC 4 + k))).find? fun a =>
      (x.ownRange j.fn a n guestClasses).isNone
  else none

/-- The signature settings that a job's resource table gives its targets (R183). -/
def sigTargets (mem : List Host.Cell) (x : Chip) (j : Job) : List Target :=
  j.targets.map fun t => { t with
    sigOn := bitAt (readLe mem x (j.res + 2) 1) t.slot, sigReset := bitAt (readLe mem x (j.res + 3) 1) t.slot
    sigTable := if bitAt (readLe mem x (j.res + 2) 1) t.slot then x.jobAddr j (readLe mem x (j.res + 8 + 8 * t.slot) 8) else 0 }

/-- A target's signature table is an allocation of class TARGET that holds it, and the job is single-sampled (R194, R195). -/
def Chip.sigOk (x : Chip) (j : Job) (t : Target) : Bool :=
  !t.sigOn || (j.samples = 1 && (x.ownRange j.fn t.sigTable (64 + 4 * j.tiles) [2]).isSome)

/-- What is wrong with the resource entries of a job when it is first dispatched: the first draw whose pipeline uses a wrong
one (R184, R194). Assumption log, row 36. -/
def jobWrong (mem : List Host.Cell) (x : Chip) (j : Job) : Option Nat :=
  match resCount mem x j with
  | none => some 0
  | some n =>
    if j.compute then
      (match x.anyPipe j.fn (j.pipes.getD 0 0) with
       | some p => if pipeResOk mem x j p n then none else some 0
       | none => some 0)
    else if !((sigTargets mem x j).all fun t => x.sigOk j t) then some 0
    else (List.range j.drawCount).find? fun i =>
      match x.anyPipe j.fn (drawPipe mem x (j.draws + 64 * i)) with
      | some p => !pipeResOk mem x j p n
      | none => false

/-! ### Dispatch (R131 to R134, R147, R192) -/

/-- A chosen job gets its cores; at its first dispatch its resource entries are read, and a wrong one ends it (R184).
Assumption log, row 32. -/
def dispatchJob (mem : List Host.Cell) (x : Chip) (j : Job) : Chip :=
  let j := if j.compute then j else { j with targets := sigTargets mem x j }
  if j.members = 0 && (j.fn != 127 || j.world) then
    (match jobWrong mem x j with
     | some i => x.abortJob j 3 (if j.compute then 0 else i)
     | none => x.startJob j)
  else x.startJob j

/-- Cores go to ready jobs that meet `p` while there are both. Assumption log, rows 32, 114. -/
def dispatchJobs (mem : List Host.Cell) (p : Job → Bool) (fuel : Nat) (x : Chip) : Chip :=
  match fuel with
  | 0 => x
  | n + 1 =>
    if x.freeCores = [] then x
    else match x.readyJobs.pickJob p with
      | none => x
      | some j => dispatchJobs mem p n (dispatchJob mem x.readyJobs j)

/-- Compute jobs that ran in fill cycles alone are charged for them, and are ready again (R192). Assumption log, row
41. -/
def Chip.endFill (x : Chip) : Chip :=
  let fills := fun (j : Job) => j.compute && (j.st = .running && j.cores = [])
  let y := (x.gx.jobs.filter fills).foldl Chip.chargeFill x
  { y with gx := { y.gx with jobs := updAll y.gx.jobs fills fun j => { j with st := .ready } } }

/-- Fill cycles go to the ready compute job that the Herder chooses, while a core is bound to a render pass (R192).
Assumption log, rows 41, 42. -/
def fillJob (mem : List Host.Cell) (x : Chip) : Chip :=
  if !x.on GX_CTL_FILL_EN || !(x.gx.jobs.any fun j => !j.compute && j.cores != []) then x
  else match x.pickJob fun j => j.compute with
    | none => x
    | some j =>
      match (if j.members = 0 && (j.fn != 127 || j.world) then jobWrong mem x j else none) with
      | some _ => x.abortJob j 3 0
      | none => (x.setJob { j with st := .running, members := max 1 j.members, filled := true }).emptyL1 (List.range 24)

/-! ### Offload out (R135, R369, R370) -/

/-- Bytes of a target. -/
def targetBytes (j : Job) (t : Target) : Nat :=
  levelBytes t.layout (j.area.1 + j.area.2.2.1) (j.area.2.1 + j.area.2.2.2) t.pitch (texBytes t.format) * j.samples

/-- Bytes of the depth-stencil target. -/
def Job.dsSize (j : Job) : Nat :=
  (j.area.1 + j.area.2.2.1) * (j.area.2.1 + j.area.2.2.2) * dsBytes (j.desc.getD 0x58 0) * j.samples

/-- What a job may write: addresses and lengths. Targets and signature tables, and every storage resource of its table. -/
def jobOutputs (mem : List Host.Cell) (x : Chip) (j : Job) : List (Nat × Nat) :=
  let j := if j.compute then j else { j with targets := sigTargets mem x j }
  let store := (List.range ((resCount mem x j).getD 0)).filterMap fun i =>
    let e := resEntry mem x j i
    if e.getD 0 0 = 2 || e.getD 0 0 = 4 then some (x.jobAddr j (fieldAt e 8 8), resBytes e) else none
  j.targets.flatMap (fun t => (t.addr, targetBytes j t) :: (if t.sigOn then [(t.sigTable, 64 + 4 * j.tiles)] else [])) ++
    ((if j.ds = 0 then [] else [(j.ds, j.dsSize)]) ++ store)

/-- A MIRROR allocation whose sync is complete, with no write of it waiting to be sent. -/
def Chip.mirrored (x : Chip) (a : Nat) : Bool :=
  (match x.entry (hIndex a) with
   | some e => e.valid && e.mirror
   | none => false) &&
  (!(x.bl.sync.any fun p => p.1 = hIndex a) && !(x.bl.mw.any fun p => hIndex p.1 = hIndex a))

/-- This chip and the twin are Whole, in a pair (R42, R135). -/
def Chip.bothWhole (x : Chip) : Bool :=
  x.paired && (x.bl.supervised && (x.get GL_MODE_INTEG = 0 && bits (x.get BL_TWIN_MODE_MODE) 6 2 = 0))

/-- Every pipeline of a job has been shipped, and the twin has acknowledged it. Assumption log, row 44. -/
def Chip.pipesShipped (x : Chip) (j : Job) : Bool :=
  j.pipes.all fun n => match x.anyPipe j.fn n with
    | some p =>
      let key := (List.range 32).map fun i => p.key / 256 ^ (31 - i) % 256
      let mine := fun (m : BlMsg) => m.cls = 3 && (m.code = 1 && m.body.take 32 = key)
      x.bl.shipped.contains key && (!(x.bl.txq.any mine) && !(x.bl.sent.any fun s => mine s.2))
    | none => false

/-- The conditions of R135 but the estimate, and those of R369 and R370. Assumption log, row 43. -/
def mayOffload (mem : List Host.Cell) (x : Chip) (j : Job) : Bool :=
  let outs := jobOutputs mem x j
  let bytes := (outs.map (·.2)).sum
  x.bothWhole && (x.on HB_CTL_OFFLOAD_EN && (j.portable && (j.isReady && (j.members = 0 && (!j.old &&
    ((jobWrong mem x j).isNone && ((List.range j.drawCount).all (drawOk mem x j) && (x.pipesShipped j &&
    ((jobInputs mem x j).all x.mirrored && (outs.all (fun o => x.mirrored o.1) &&
    (!(outs.any fun o => x.cp.layers.any fun l => l.fn = 128 && hIndex l.addr = hIndex o.1) &&
    decide (bytes + (x.bl.offOut.map (·.bytes)).sum ≤ x.bl.stageMib * 1048576))))))))))))

/-- OFFLOAD_JOB goes to the twin. Assumption log, row 43. -/
def offloadOut (mem : List Host.Cell) (x : Chip) (j : Job) : Chip :=
  let ref := x.bl.nextRef
  let recs := j.pipes.flatMap fun n => match x.anyPipe j.fn n with
    | some p => halfBytes n ++ ([0, 0] ++ (List.range 32).map fun i => p.key / 256 ^ (31 - i) % 256)
    | none => []
  let body := wordBytes ref ++ ([b2n j.compute, j.pipes.length % 256, 0, 0] ++ (wordBytes x.bl.lastWrite ++
    (wordBytes j.desc.length ++ (j.desc ++ recs))))
  let o : OffOut := ⟨ref, j.fn, j.num, false, ((jobOutputs mem x j).map (·.2)).sum⟩
  ((x.setJob { j with onTwin := true }).blSend 3 2 body).setBl fun b => { b with
    offOut := b.offOut ++ [o], nextRef := (b.nextRef + 1) % 2 ^ 32 }

/-- DISPATCH_POINT: the Herder assigns the free cores; `offload` names the job whose estimates make it offload one.
Assumption log, row 32. -/
def dispatchPoint (offload : Option (Nat × Nat)) (w : Work) : Work :=
  let x := w.x
  let y := (x.gx.jobs.filter fun j => j.cores != []).foldl Chip.accrue x
  let y := (y.endFill.readyJobs).yieldWaiting
  let y := match offload with
    | some r => match y.job r.1 r.2 with
      | some j => if mayOffload w.mem y j then offloadOut w.mem y j else y
      | none => y
    | none => y
  let n := y.gx.jobs.length
  let y := dispatchJobs w.mem (fun j => !j.compute) n y
  let y := dispatchJobs w.mem (fun j => j.compute) n y
  let y := fillJob w.mem y.readyJobs
  ({ w with x := y.countJobs }).blPump

/-! ### Preemption and bin memory -/

/-- What waits for cores to leave goes on: gating, and the power modes. -/
def Work.coresMoved (w : Work) : Work := (w.on Chip.gateCheck).powerCheck

/-- A job stands at a preemption point (R166): work of an old generation is Abandoned, and a requested preemption
taken. Assumption log, row 39. -/
def Chip.atPoint (x : Chip) (fn num : Nat) : Chip :=
  match x.job fn num with
  | none => x
  | some j =>
    if j.old then x.abandonJob j false
    else if j.preempt && (!x.jobHeel j && j.cores != []) then x.yieldJob j
    else x

/-! ### The content of tiles (R156, R162, R163, R194 to R196) -/

/-- The pixels and samples of tile `n` that lie in the render area, row by row. -/
def Job.tilePixels (j : Job) (n : Nat) : List (Nat × Nat × Nat) :=
  (List.range (1024 * j.samples)).filterMap fun i =>
    let p := i / j.samples
    let x := (j.tileAt n).1 + p % 32
    let y := (j.tileAt n).2 + p / 32
    if x < j.area.1 + j.area.2.2.1 && y < j.area.2.1 + j.area.2.2.2 then some (x, y, i % j.samples) else none

/-- Where a sample of a colour target lies: the samples of a pixel lie in planes of the target's size. Assumption log,
row 132. -/
def Job.colourPlace (j : Job) (t : Target) (q : Nat × Nat × Nat) : Nat :=
  let w := j.area.1 + j.area.2.2.1
  let bpp := texBytes t.format
  t.addr + q.2.2 * levelBytes t.layout w (j.area.2.1 + j.area.2.2.2) t.pitch bpp + texOffset t.layout w t.pitch bpp q.1 q.2.1

/-- Where a sample of the depth-stencil target lies. Assumption log, row 132. -/
def Job.dsPlace (j : Job) (q : Nat × Nat × Nat) : Nat :=
  let w := j.area.1 + j.area.2.2.1
  j.ds + ((q.2.2 * (j.area.2.1 + j.area.2.2.2) + q.2.1) * w + q.1) * dsBytes (j.desc.getD 0x58 0)

/-- Depth and stencil of a stored sample, by format. Assumption log, row 132. -/
def dsUnpack (f v : Nat) : Nat × Nat :=
  if f = 2 then (v % 2 ^ 24, v / 2 ^ 24) else if f = 4 then (v % 2 ^ 32, v / 2 ^ 32 % 256) else (v, 0)

/-- A sample of the depth-stencil target as it is stored. -/
def dsPack (f d s : Nat) : Nat := if f = 2 then d + s * 2 ^ 24 else if f = 4 then d + s * 2 ^ 32 else d

/-- A load code's value: 0 what memory holds, 1 the clear value, 2 undefined. -/
def byLoad (code held clear open_ : Nat) : Nat := if code = 0 then held else if code = 1 then clear else open_

/-- A sample as it is loaded: by the load codes at the tile's first visit, else as LOAD (R156). -/
def loadSample (mem : List Host.Cell) (x : Chip) (j : Job) (first : Bool) (q : Nat × Nat × Nat) : Smp :=
  let place := ((q.2.1 * 16384 + q.1) * 4 + q.2.2) * 8
  let op := fun (v lo : Nat) => if first then bits v lo 2 else 0
  let f := if j.ds = 0 then 0 else j.desc.getD 0x58 0
  let ops := j.desc.getD 0x59 0
  let held := dsUnpack f (if f = 0 then 0 else readLe mem x (j.dsPlace q) (dsBytes f))
  { colour := j.targets.map fun t =>
      byLoad (op t.ops 0) (readLe mem x (j.colourPlace t q) (texBytes t.format))
        (fieldAt j.desc (0x70 + 32 * t.slot) (texBytes t.format)) (Config.dontCare x.freeCtr (place + t.slot))
    depth := byLoad (op ops 0) held.1 (Config.depthClear f (fieldAt j.desc 0x5C 4)) (Config.dontCare x.freeCtr (place + 4))
    stencil := byLoad (op ops 4) held.2 (j.desc.getD 0x5A 0) (Config.dontCare x.freeCtr (place + 5) % 256), seen := none }

/-- What a tile holds after its whole list, sample by sample. -/
def tileContent (mem : List Host.Cell) (x : Chip) (j : Job) (n : Nat) : List ((Nat × Nat × Nat) × Smp) :=
  (⟨mem, j, x.pipeCode j⟩ : Pass).run
    ((j.tilePixels n).map fun q => (q, loadSample mem x j (!j.visited.contains n) q)) (j.tileList n)

/-- The bytes of a sample of the `i`th target. -/
def colourBytes (t : Target) (i : Nat) (m : Smp) : List Nat := leBytes (texBytes t.format) (m.colour.getD i 0)

/-- The signature of a tile of a single-sampled target: CRC-32C over its pixels in the render area, row by row (R194).
Assumption log, row 40. -/
def tileSignature (t : Target) (i : Nat) (tile : List ((Nat × Nat × Nat) × Smp)) : Nat :=
  crcOf 0 (tile.flatMap fun q => colourBytes t i q.2)

/-- The header of the signature table of a target. Assumption log, row 40. -/
def sigHeader (j : Job) (t : Target) : List Nat :=
  wordBytes t.addr ++ (wordBytes (t.addr / 2 ^ 32) ++ (halfBytes j.area.1 ++ (halfBytes j.area.2.1 ++ (halfBytes j.area.2.2.1 ++
    (halfBytes j.area.2.2.2 ++ (halfBytes t.format ++ [t.layout, 0xA5]))))))

/-- The table describes this target as it is, and the job may rely on it. Assumption log, row 40. -/
def Work.sigValid (w : Work) (j : Job) (t : Target) : Bool :=
  !t.sigReset && readBytes w.mem w.x t.sigTable 20 = sigHeader j t

/-- A tile's write to a target is elided (R196). Assumption log, row 40. -/
def Work.elided (w : Work) (j : Job) (t : Target) (n sig : Nat) : Bool :=
  w.x.on GX_CTL_ELIDE_EN && (bits t.ops 2 2 = 0 && (j.spills = 0 && (w.sigValid j t &&
    readLe w.mem w.x (t.sigTable + 64 + 4 * n) 4 = sig)))

/-- A tile's samples go to a target: its colours, or, where the store code leaves them undefined, free ones. -/
def Work.storeColour (w : Work) (j : Job) (t : Target) (i : Nat) (spill : Bool) (tile : List ((Nat × Nat × Nat) × Smp)) : Work :=
  tile.foldl (fun (w : Work) q =>
    let place := ((q.1.2.1 * 16384 + q.1.1) * 4 + q.1.2.2) * 8 + t.slot + 2 ^ 40
    w.store (j.colourPlace t q.1) (if spill || bits t.ops 2 2 = 0 then colourBytes t i q.2
      else leBytes (texBytes t.format) (Config.dontCare w.x.freeCtr place))) w

/-- A resolved tile goes to the `i`th target: its signature is compared and stored, and its write made or elided (R194, R196).
Assumption log, row 40. -/
def Work.resolveColour (w : Work) (j : Job) (core n : Nat) (tile : List ((Nat × Nat × Nat) × Smp)) (t : Target × Nat) : Work :=
  let sig := tileSignature t.1 t.2 tile
  if t.1.sigOn && w.elided j t.1 n sig then
    w.on fun x => ((x.inc GXn_ELIDED_COUNT core).inc GX_ELIDE_CNT_COUNT).onJob j fun k => { k with elided := k.elided ++ [(t.1.slot, n)] }
  else
    let w := w.storeColour j t.1 t.2 false tile
    if t.1.sigOn then w.store (t.1.sigTable + 64 + 4 * n) (wordBytes sig) else w

/-- A tile's samples go to the depth-stencil target: in a spill whatever the store codes, else by them; what a code leaves
undefined is free. -/
def Work.storeDs (w : Work) (j : Job) (spill : Bool) (tile : List ((Nat × Nat × Nat) × Smp)) : Work :=
  let f := j.desc.getD 0x58 0
  let ops := j.desc.getD 0x59 0
  let part := fun (lo : Nat) (q : Nat × Nat × Nat) (v : Nat) =>
    if spill || bits ops lo 2 = 0 then v else Config.dontCare w.x.freeCtr (((q.2.1 * 16384 + q.1) * 4 + q.2.2) * 8 + 4 + lo / 4 + 2 ^ 40)
  if j.ds = 0 then w
  else tile.foldl (fun (w : Work) q =>
    w.store (j.dsPlace q.1) (leBytes (dsBytes f) (dsPack f (part 2 q.1 q.2.depth) (part 6 q.1 q.2.stencil % 256)))) w

/-- The place among a job's cores of the one that runs tile `n` (R160). -/
def Job.coreIndex (j : Job) (n : Nat) : Nat :=
  tileMember (tileGrid j.area.2.2.1 j.area.2.2.2).1 j.members n % max 1 j.cores.length

/-- Tile `n` is shaded by its core, and stored for a spill or resolved: the core takes its next member up where that
was the last (R156, R160, R162, R171). Assumption log, rows 40, 134. -/
def Work.tileDone (w : Work) (fn num n : Nat) : Work :=
  match w.x.job fn num with
  | none => w
  | some j =>
    let i := j.coreIndex n
    let core := j.cores.getD i 0
    let spill := j.st = .spill
    let tile := tileContent w.mem w.x j n
    let w := if spill then j.targets.zipIdx.foldl (fun (w : Work) t => w.storeColour j t.1 t.2 true tile) w
      else j.targets.zipIdx.foldl (fun (w : Work) t => w.resolveColour j core n tile t) w
    let w := (w.storeDs j spill tile).on fun x => ((x.took).onlyIf (!spill) fun y => y.inc GXn_RESOLVED_COUNT core).onJob j fun k =>
      { k with done := k.done ++ [n], visited := if spill then k.visited ++ [n] else k.visited }
    match w.x.job fn num with
    | some k => w.on fun x => x.showPass k core i
    | none => w

/-- The tiles that a job's cores have left in the phase are done. Assumption log, row 39. -/
def Work.restDone (w : Work) (j : Job) : Work :=
  (((List.range j.members).flatMap j.left)).foldl (fun (w : Work) n => w.tileDone j.fn j.num n) w

/-! ### Binning (R143, R150) -/

/-- What binning a draw may find: the record wrong, which ends the job, or an index outside its allocation, which is a
translation fault. Assumption log, rows 36, 134. -/
def drawBegin (mem : List Host.Cell) (x : Chip) (j : Job) : Chip × Bool :=
  let d := j.pos.1
  if j.pos.2 != 0 then (x, true)
  else if !drawOk mem x j d then (x.abortJob j 3 d, false)
  else match badIndex mem x j d with
    | none => (x, true)
    | some a =>
      let y := (x.ask ⟨j.cores.headD 0, j.fn, j.gen, j.world, a, indexSize (fieldAt (drawRec mem x j d) 2 2), false⟩).1
      ((y.onJob j fun k => { k with faulted := true }).raise 100, true)

/-- The next `n` primitives of the draw in progress are binned; where they are its last, the next draw is next.
Assumption log, row 134. -/
def binPrims (mem : List Host.Cell) (x : Chip) (j : Job) (n : Nat) : Job :=
  let d := j.pos.1
  let r := drawRec mem x j d
  let pipe := fieldAt r 0 2
  let code := x.pipeCode j pipe
  let per := drawPrimsOf mem x j d
  let new := (List.range n).filterMap fun i =>
    let q := j.pos.2 + i
    makePrim j d pipe r code.1 ((per.getD (q % max 1 per.length) []).map fun v =>
      Config.vertexStage mem code.2.1 j.res r (fieldAt r 0x14 4 + q / max 1 per.length) v)
  { j with
    prims := j.prims ++ new, binned := j.binned + n
    pos := if drawTotal mem x j d ≤ j.pos.2 + n then (d + 1, 0) else (d, j.pos.2 + n) }

/-- Primitives up to the next preemption point: the end of the draw, or 1,024 within it (R166). -/
def blockLeft (mem : List Host.Cell) (x : Chip) (j : Job) : Nat :=
  min (1024 - j.pos.2 % 1024) (drawTotal mem x j j.pos.1 - j.pos.2)

/-- PREEMPTION_POINT. A block of primitives is binned up to the point; a tile is done; or the workgroups in progress
have finished, so many of the job's in linear order (R191). Assumption log, row 134. -/
def preemptionPoint (fn num : Nat) (p : PPoint) (w : Work) : Work :=
  match w.x.job fn num with
  | none => w
  | some j =>
    let at_ := fun (w : Work) => (w.on fun y => y.atPoint fn num).coresMoved
    match p with
    | .binned =>
      if j.st = .binning && j.cores != [] then
        let b := drawBegin w.mem w.x j
        if !b.2 then ({ w with x := b.1 }).coresMoved
        else match b.1.job fn num with
          | none => { w with x := b.1 }
          | some j =>
            let k := binPrims w.mem b.1 j (blockLeft w.mem b.1 j)
            at_ { w with x := if k.drawCount ≤ k.pos.1 then b.1.enterPhase k .tiling else b.1.setJob k }
      else w
    | .tile core n =>
      if (j.st = .tiling || j.st = .spill) && (j.cores[j.coreIndex n]? = some core.val &&
          ((List.range j.members).any fun m => (j.left m).contains n)) then at_ (w.tileDone fn num n) else w
    | .workgroups done =>
      if j.st = .running then at_ (w.on fun x => x.setJob { j with finished := max j.finished (min done j.groups) }) else w

/-- PREEMPT_TIMEOUT (R167). -/
def preemptTimeout (fn num : Nat) (w : Work) : Work :=
  match w.x.job fn num with
  | none => w
  | some j =>
    if j.preempt && (j.cores != [] && !w.x.jobHeel j) then (w.on fun x => (x.raise 101).abortJob j 1 0).coresMoved else w

/-- Pages that BIN_GROW_REQ asks for (R153), from the pages used and free and the primitives binned and remaining;
with no primitive binned yet the quotient has no value, and the word is free. Assumption log, row 38. -/
def Chip.pagesNeeded (x : Chip) (used free binned remaining : Nat) : Chip × Nat :=
  if binned = 0 then (x.took, x.free 32) else (x, max 1 (ceilDiv (used * remaining) binned - free))

/-- Primitives of a job not yet binned, over all instances of all remaining draws. -/
def primsRemaining (mem : List Host.Cell) (x : Chip) (j : Job) : Nat :=
  ((List.range (j.drawCount - j.pos.1)).map fun i => drawTotal mem x j (j.pos.1 + i)).sum - j.pos.2

/-- The pause of a job whose pool is full: BIN_GROW_REQ, then BinWait, or Spill at once where the quota is exhausted
(R153 to R155). Assumption log, rows 38, 134. -/
def Chip.binPause (x : Chip) (j : Job) (u : BinUse) (remaining : Nat) : Chip :=
  let r := x.pagesNeeded u.used u.free j.binned remaining
  let quota := j.fn ≤ 64 && decide (r.1.get FNf_MEM_QUOTA_MIB j.fn < r.1.get FNf_MEM_USE_MIB j.fn + ceilDiv r.2 16)
  let y := ((r.1.jobNotice j 0x3800 [j.num, r.2, j.poolPages, b2n quota]).sat GX_GROW_REQ_CNT_COUNT).raise 96
  if quota then y.enterSpill j
  else ((y.setJob { j with st := .binWait, timer := !y.inHold && y.pw.target.all (· < 2) }).countJobs).yieldWaiting

/-- BIN_POOL_FULL: binning pauses before a primitive of the block in progress. A job run for the twin spills at once
(R158). Assumption log, rows 38, 134. -/
def binPoolFull (fn num : Nat) (u : BinUse) (w : Work) : Work :=
  match w.x.job fn num with
  | none => w
  | some j =>
    if j.st != .binning || j.cores = [] then w
    else if j.old then (w.on fun x => x.abandonJob j false).coresMoved
    else
      let b := drawBegin w.mem w.x j
      if !b.2 then ({ w with x := b.1 }).coresMoved
      else match b.1.job fn num with
        | none => { w with x := b.1 }
        | some j =>
          if blockLeft w.mem b.1 j = 0 then { w with x := b.1 }
          else
            let k := binPrims w.mem b.1 j (min u.prims (blockLeft w.mem b.1 j - 1))
            if j.fn = 127 && !j.world then { w with x := (b.1.setJob k).enterSpill k }
            else ({ w with x := b.1.binPause k u (primsRemaining w.mem b.1 k) }).coresMoved

/-- BIN_GROW_TIMEOUT. Assumption log, rows 38, 43. -/
def binGrowTimeout (fn num : Nat) (x : Chip) : Chip :=
  match x.job fn num with
  | none => x
  | some j => if j.st = .binWait && j.timer then x.enterSpill j else x

/-- SPILL_DONE: every non-empty tile is stored, the pages return to the pool with what they held, and binning resumes
(R156). Assumption log, row 38. -/
def spillDone (fn num : Nat) (w : Work) : Work :=
  match w.x.job fn num with
  | none => w
  | some j =>
    if j.st = .spill && j.cores != [] then
      let w := w.restDone j
      match w.x.job fn num with
      | some k => w.on fun x => x.enterPhase { k with prims := [], binned := 0 } .binning
      | none => w
    else w

/-- The header of a signature table that does not describe its target is rewritten at the end (R196). Assumption log,
row 40. -/
def Work.signHeader (w : Work) (j : Job) (t : Target) : Work :=
  if !t.sigOn || w.sigValid j t then w
  else (w.store t.sigTable (sigHeader j t)).on fun x => (x.sat GX_SIGRESET_CNT_COUNT).raise 120

/-! ### Results for the twin (R369) -/

/-- The 4 KiB blocks of a target's allocation that the tiles not elided touch. -/
def targetBlocks (j : Job) (t : Target) (elided : List Nat) : List Nat :=
  let gw := (tileGrid j.area.2.2.1 j.area.2.2.2).1
  let width := j.area.1 + j.area.2.2.1
  (((List.range j.tiles).filter fun n => !elided.contains n).flatMap fun n =>
    (List.range 1024).filterMap fun p =>
      let px := n % gw * 32 + p % 32
      let py := n / gw * 32 + p / 32
      if px < j.area.2.2.1 && py < j.area.2.2.2 then
        some ((hOffset t.addr + texOffset t.layout width t.pitch (texBytes t.format) (j.area.1 + px) (j.area.2.1 + py)) / 4096)
      else none).eraseDups

/-- The 4 KiB blocks that a range of an allocation touches. -/
def rangeBlocks (a n : Nat) : List Nat :=
  (List.range (ceilDiv (hOffset a % 4096 + n) 4096)).map fun i => hOffset a / 4096 + i

/-- One block of an output goes back to the twin. -/
def Work.sendBlock (w : Work) (ref : Nat) (a block : Nat) : Work × Nat :=
  match w.x.bl.copies.find? fun c => c.entry = hIndex a with
  | none => (w, 0)
  | some c => match w.x.entry c.entry with
    | none => (w, 0)
    | some e =>
      let off := 4096 * block
      if e.size * 65536 ≤ off then (w, 0)
      else
        (w.on fun x => x.blSend 3 4 (wordBytes ref ++ (halfBytes c.idx ++ (halfBytes c.tag ++ (wordBytes off ++
          (wordBytes (off / 2 ^ 32) ++ (wordBytes 4096 ++ readBytes w.mem x (handleOf e + off) 4096)))))), 1)

/-- A job run for the twin is done: its blocks go back, but for those of tiles elided, then OFFLOAD_DONE. -/
def Work.offInDone (w : Work) (j : Job) : Work :=
  match w.x.bl.offIn.find? fun o => o.num = j.num with
  | none => w
  | some o =>
    let skip := fun (t : Target) => (j.elided.filter fun p => p.1 = t.slot).map (·.2)
    let blocks := j.targets.flatMap (fun t => (if bits t.ops 2 2 = 0 || j.spills != 0 then
        (targetBlocks j t (skip t)).map fun b => (t.addr, b) else []) ++
      (if t.sigOn then (rangeBlocks t.sigTable (64 + 4 * j.tiles)).map fun b => (t.sigTable, b) else [])) ++
      ((if j.ds = 0 then [] else (rangeBlocks j.ds j.dsSize).map fun b => (j.ds, b)) ++
      ((jobOutputs w.mem w.x { j with targets := [], ds := 0 }).flatMap fun p => (rangeBlocks p.1 p.2).map fun b => (p.1, b)))
    let r := blocks.eraseDups.foldl (fun (a : Work × Nat) p =>
      ((a.1.sendBlock o.ref p.1 p.2).1, a.2 + (a.1.sendBlock o.ref p.1 p.2).2)) (w, 0)
    r.1.on fun x => ((x.blSend 3 5 (wordBytes o.ref ++ ([0, j.spills % 256, 0, 0] ++ (wordBytes (ticksToUs j.used) ++
      wordBytes r.2)))).setBl fun b => { b with offIn := b.offIn.filter fun p => p.ref != o.ref }).sat BL_OFFLOAD_TAKEN

/-! ### Completion (R144, R191, R198) -/

/-- A finished job leaves, its fence is written, and its owner told where it asked. -/
def Chip.jobDone (x : Chip) (j : Job) (us : Nat) : Chip :=
  let flags := b2n j.faulted + 2 * b2n j.onTwin
  let y := x.endJob j
  let y := match j.signal with
    | some f => y.signalFence f.1 f.2
    | none => y
  if !j.doneNotice || j.fn = 127 then y
  else if j.compute then (y.jobNotice j 0x3810 [j.num, flags, us]).raise 116
  else (y.jobNotice j 0x3801 [j.num, j.spills, flags, us]).raise 103

/-- The signatures of a job's tiles, as the table of its first signed colour target holds them. Assumption log, row
75. -/
def Work.tileSigs (w : Work) (j : Job) : List Nat :=
  match j.targets.find? (·.sigOn) with
  | some t => (List.range j.tiles).map fun n => readLe w.mem w.x (t.sigTable + 64 + 4 * n) 4
  | none => []

/-- RENDER_JOB_COMPLETE: every tile is resolved, those not yet told of with it; the completion of old-generation work
is discarded and counted (R88). Assumption log, rows 39, 40, 89. -/
def renderJobComplete (fn num : Nat) (w : Work) : Work :=
  match w.x.job fn num with
  | none => w
  | some j =>
    if j.compute || (j.st != .tiling || j.cores = []) then w
    else if j.old then (w.on fun x => (x.abandonJob j false).countDiscard fn).coresMoved
    else
      let w := w.restDone j
      let w := j.targets.foldl (fun (w : Work) t => w.signHeader j t) w
      let w := w.on fun x => x.accrue ((x.job fn num).getD j)
      let k := (w.x.job fn num).getD j
      let w := match k.pfn with
        | some p => w.protDone p.1 p.2 (w.tileSigs k)
        | none => w
      let w := if k.fn = 127 && !k.world then w.offInDone k else w
      ((w.on fun x => x.jobDone k (ticksToUs k.used)).coresMoved).blPump

/-- COMPUTE_JOB_COMPLETE: every workgroup has finished; the completion of old-generation work is discarded and counted
(R88). Assumption log, rows 41, 89. -/
def computeJobComplete (fn num : Nat) (w : Work) : Work :=
  match w.x.job fn num with
  | none => w
  | some j =>
    if !j.compute || j.st != .running then w
    else if j.old then (w.on fun x => (x.abandonJob j false).countDiscard fn).coresMoved
    else
      let w := w.on fun x => (x.accrue j).chargeFill j
      let k := (w.x.job fn num).getD j
      let w := if k.fn = 127 && !k.world then w.offInDone k else w
      ((w.on fun x => x.jobDone k (ticksToUs k.used)).coresMoved).blPump

/-- GX_ECC_UNCORRECTABLE: a corrected error is counted; a texture line with more is fetched again; anything else
resets the core (R199). Assumption log, rows 42, 135. -/
def gxEcc (core : Nat) (e : CoreErr) (w : Work) : Work :=
  match e with
  | .corrected => w.on fun x => (x.sat GXn_ECC_CORR core).raise 121
  | .l1 => w.on fun x => x.flag GXn_ECC_UNCORR true core
  | .state => (w.on fun x =>
      (((((x.flag GXn_ECC_UNCORR true core).raise (128 + core)).coreReset core).setBit RB_CAUSE_SRC 17 true).blockOut false 1 core)).coresMoved

/-! ### Offload messages (R350, R369, R370) -/

/-- A job at the twin returns to Ready here: counted, source 430; what it returned is discarded. -/
def Chip.offBack (x : Chip) (ref : Nat) : Chip :=
  match x.bl.offOut.find? fun o => o.ref = ref with
  | none => x
  | some o =>
    let y := x.setBl fun b => { b with
      offOut := b.offOut.filter fun p => p.ref != ref, stage := b.stage.filter fun p => p.ref != ref }
    let y := match y.job o.fn o.num with
      | some j => y.setJob { j with onTwin := false }
      | none => y
    (y.sat BL_OFFLOAD_REF_COUNT).raise 430

/-- OFFLOAD_PIPE: a segment of a pipeline. Assumption log, row 44. -/
def offloadPipe (h : MsgHdr) (key : List Nat) (total off : Nat) (bs : List Nat) (w : Work) : Work :=
  if 8144 < bs.length || key.length != 32 then w.on fun y => y.sat BL_VIOL_COUNT
  else
    blTapped h 3 (key ++ (wordBytes total ++ (wordBytes off ++ (wordBytes bs.length ++ bs)))) (fun w => w.on fun y =>
      let got := match y.bl.pipes.find? fun p => p.key = key with
        | some p => if off = 0 then [] else p.bytes
        | none => []
      if off != got.length then y
      else
        let p : ShipPipe := ⟨key, got ++ bs, decide (total ≤ got.length + bs.length)⟩
        y.setBl fun b => { b with pipes := (b.pipes.filter fun q => q.key != key) ++ [p] }) w

/-- The job of an OFFLOAD_JOB as this chip would run it. -/
def Chip.offInJob (x : Chip) (m : OffJob) : Job :=
  let d := m.desc.map (·.toNat)
  let j := jobOf m.compute 127 0 (x.nextJob 127) 0 d x.fromTwin (m.pipes.map fun p => p.num.toNat) []
  { j with wait := none, signal := none, doneNotice := false, portable := false }

/-- The twin's answer to OFFLOAD_JOB: 0 accepted, else why not. Assumption log, row 43. -/
def Chip.offAnswer (x : Chip) (m : OffJob) (j : Job) : Nat :=
  let zero := (!m.compute && j.draws = 0) || (j.res = 0 || j.targets.any fun t => t.addr = 0)
  if !x.bothWhole || x.blCfg BL_CFG_OFFLOAD_IN = 0 then 4
  else if x.bl.applied ≤ m.last.toNat || zero then 3
  else if !(m.pipes.all fun p => x.bl.pipes.any fun q => q.whole && q.key = p.key.map (·.toNat)) then 2
  else if x.freeCores = [] then 1
  else 0

/-- The body of an OFFLOAD_JOB (R350). -/
def offBody (m : OffJob) : List Nat :=
  wordBytes m.ref.toNat ++ ([b2n m.compute, m.pipes.length, 0, 0] ++ (wordBytes m.last.toNat ++ (wordBytes m.desc.length ++
    (m.desc.map (·.toNat) ++ m.pipes.flatMap fun p => halfBytes p.num.toNat ++ ([0, 0] ++ p.key.map (·.toNat))))))

/-- OFFLOAD_JOB. Assumption log, row 43. -/
def offloadJob (h : MsgHdr) (m : OffJob) (w : Work) : Work :=
  let d := m.desc.length
  if d != (if m.compute then 128 else 256) || 255 < m.pipes.length then w.on fun y => y.sat BL_VIOL_COUNT
  else
    blTapped h 3 (offBody m) (fun w => w.on fun y =>
      let j := y.offInJob m
      let r := y.offAnswer m j
      let y := y.blSend 3 3 (wordBytes m.ref.toNat ++ [r, 0, 0, 0])
      if r != 0 then y
      else
        let j := { j with handles := ((jobInputs w.mem y j).map fun a => hIndex (y.jobAddr j a)).eraseDups }
        (y.acceptJob j).setBl fun b => { b with
          offIn := b.offIn ++ [⟨m.ref.toNat, j.num, b.copies, m.pipes.map fun p => (p.num.toNat, p.key.map (·.toNat))⟩] }) w

/-- OFFLOAD_REPLY. Assumption log, row 43. -/
def offloadReply (h : MsgHdr) (ref result : Nat) (w : Work) : Work :=
  blTapped h 3 (wordBytes ref ++ [result, 0, 0, 0]) (fun w => w.on fun y =>
    if result = 0 then y.setBl fun b => { b with offOut := updAll b.offOut (fun o => o.ref = ref) fun o => { o with taken := true } }
    else y.offBack ref) w

/-- OFFLOAD_RESULT: a block waits in staging. -/
def offloadResult (h : MsgHdr) (ref idx tag off : Nat) (bs : List Nat) (w : Work) : Work :=
  if bs = [] || 4096 < bs.length then w.on fun y => y.sat BL_VIOL_COUNT
  else
    blTapped h 3 (wordBytes ref ++ (halfBytes idx ++ (halfBytes tag ++ (longBytes off ++ (wordBytes bs.length ++ bs))))) (fun w => w.on fun y =>
      if y.bl.offOut.any fun o => o.ref = ref then
        y.setBl fun b => { b with stage := b.stage ++ [(⟨ref, idx, tag, off, bs⟩ : Staged)] }
      else y) w

/-- A staged block is written where its handle still names an allocation of this chip. -/
def Work.unstage (w : Work) (s : Staged) : Work :=
  match w.x.entry s.idx with
  | some e => if e.valid && (e.tag = s.tag && s.off + s.bytes.length ≤ e.size * 65536) then w.store (handleOf e + s.off) s.bytes else w
  | none => w

/-- OFFLOAD_DONE: the staged blocks are written, then the fence, and the owner is told. Assumption log, row 43. -/
def offloadDone (h : MsgHdr) (ref : Nat) (aborted : Bool) (spills us results : Nat) (w : Work) : Work :=
  blTapped h 3 (wordBytes ref ++ ([b2n aborted, spills, 0, 0] ++ (wordBytes us ++ wordBytes results))) (fun w =>
    match w.x.bl.offOut.find? fun o => o.ref = ref with
    | none => w
    | some o =>
      if aborted then w.on fun y => y.offBack ref
      else
        let w := (w.x.bl.stage.filter fun s => s.ref = ref).foldl Work.unstage w
        let w := w.on fun y => (y.setBl fun b => { b with
          offOut := b.offOut.filter fun p => p.ref != ref, stage := b.stage.filter fun s => s.ref != ref }).sat BL_OFFLOAD_SENT
        w.on fun y => match y.job o.fn o.num with
          | some j => y.jobDone { j with spills := spills } us
          | none => y) w

/-- OFFLOAD_CANCEL: the job run for the twin is abandoned. -/
def offloadCancel (h : MsgHdr) (ref : Nat) (w : Work) : Work :=
  blTapped h 3 (wordBytes ref) (fun w => w.on fun y =>
    match y.bl.offIn.find? fun o => o.ref = ref with
    | none => y
    | some o =>
      let y := y.setBl fun b => { b with offIn := b.offIn.filter fun p => p.ref != ref }
      match y.job 127 o.num with
      | some j => if j.cores = [] then y.abandonJob j false else
          (y.setJob { j with old := true }).requestPreempt fun k => k.is 127 o.num
      | none => y) w

/-! ### The commands -/

/-- DISPATCH_POINT. -/
def execDispatchPoint (offload : Option JobRef) (s : State) : Host.Outcome State Fault Refusal :=
  s.onSkein (dispatchPoint (offload.map fun r => (r.fn.val, r.num.toNat)))
/-- PREEMPTION_POINT. -/
def execPreemptionPoint (j : JobRef) (p : PPoint) (s : State) : Host.Outcome State Fault Refusal :=
  s.onSkein (preemptionPoint j.fn.val j.num.toNat p)
/-- PREEMPT_TIMEOUT. -/
def execPreemptTimeout (j : JobRef) (s : State) : Host.Outcome State Fault Refusal :=
  s.onSkein (preemptTimeout j.fn.val j.num.toNat)
/-- BIN_POOL_FULL. -/
def execBinPoolFull (j : JobRef) (u : BinUse) (s : State) : Host.Outcome State Fault Refusal :=
  s.onSkein (binPoolFull j.fn.val j.num.toNat u)
/-- BIN_GROW_TIMEOUT. -/
def execBinGrowTimeout (j : JobRef) (s : State) : Host.Outcome State Fault Refusal :=
  s.onChip (binGrowTimeout j.fn.val j.num.toNat)
/-- SPILL_DONE. -/
def execSpillDone (j : JobRef) (s : State) : Host.Outcome State Fault Refusal := s.onSkein (spillDone j.fn.val j.num.toNat)
/-- RENDER_JOB_COMPLETE. -/
def execRenderJobComplete (fn : Fin 128) (num : BitVec 16) (s : State) : Host.Outcome State Fault Refusal :=
  s.onSkein (renderJobComplete fn.val num.toNat)
/-- COMPUTE_JOB_COMPLETE. -/
def execComputeJobComplete (j : JobRef) (s : State) : Host.Outcome State Fault Refusal :=
  s.onSkein (computeJobComplete j.fn.val j.num.toNat)
/-- GX_ECC_UNCORRECTABLE. -/
def execGxEccUncorrectable (core : Fin 24) (e : CoreErr) (s : State) : Host.Outcome State Fault Refusal :=
  s.onSkein (gxEcc core.val e)
/-- OFFLOAD_PIPE. -/
def execOffloadPipe (h : MsgHdr) (key : List Byte) (total offset : Word) (data : List Byte) (s : State) :
    Host.Outcome State Fault Refusal :=
  s.onSkein (offloadPipe h (key.map (·.toNat)) total.toNat offset.toNat (data.map (·.toNat)))
/-- OFFLOAD_JOB. -/
def execOffloadJob (h : MsgHdr) (job : OffJob) (s : State) : Host.Outcome State Fault Refusal := s.onSkein (offloadJob h job)
/-- OFFLOAD_REPLY. -/
def execOffloadReply (h : MsgHdr) (ref : Word) (result : BitVec 8) (s : State) : Host.Outcome State Fault Refusal :=
  s.onSkein (offloadReply h ref.toNat result.toNat)
/-- OFFLOAD_RESULT. -/
def execOffloadResult (h : MsgHdr) (ref : Word) (idx : Fin 8192) (tag : BitVec 16) (offset : BitVec 64) (data : List Byte)
    (s : State) : Host.Outcome State Fault Refusal :=
  s.onSkein (offloadResult h ref.toNat idx.val tag.toNat offset.toNat (data.map (·.toNat)))
/-- OFFLOAD_DONE: what it writes is not sent back to the twin (R357). -/
def execOffloadDone (h : MsgHdr) (ref : Word) (aborted : Bool) (spills : BitVec 8) (us results : Word) (s : State) :
    Host.Outcome State Fault Refusal :=
  let r := runWork (offloadDone h ref.toNat aborted spills.toNat us.toNat results.toNat) s.mem s.chip
  if s.chip.parked then .next s else .next { s with chip := r.1, mem := writeCells s.mem r.2 }
/-- OFFLOAD_CANCEL. -/
def execOffloadCancel (h : MsgHdr) (ref : Word) (s : State) : Host.Outcome State Fault Refusal :=
  s.onSkein (offloadCancel h ref.toNat)

end Sys2Proof.Machine
end

