-- ==== Sys2Proof/Machine/Registers.lean ====
section
/-!
DEFINITION. Register writes (R4 to R9, R44 to R46, R53 to R57, R83, R306, R447 to R449, R475, R476, R547 to R551, R570): where a
write lands, which fields take it, which refuse it and what a refusal leaves, and what the writes that act as commands do.
-/
namespace Sys2Proof.Machine

/-! ### Who writes -/

/-- The requester of a write: a control core or a function over PCI Express, the world it runs in, and the value it writes. -/
structure Writer where
  /-- A control core. -/
  core : Bool
  /-- The secure world, reached by a control core alone. -/
  world : Bool
  /-- Function, for PCI Express. -/
  fn : Nat
  /-- Offset in the window. -/
  addr : Nat
  /-- Value. -/
  value : Nat
deriving DecidableEq, Repr

/-- Fields marked SEC take a write of the secure world alone. -/
def Writer.secure (w : Writer) : Bool := w.core && w.world

/-- An access that no page takes (R550, R555): counted, recorded, and source 10 raised when SEEN is set. -/
def Chip.accErr (x : Chip) (core : Bool) (addr cause : Nat) (write : Bool := true) : Chip :=
  let y := ((x.sat GL_ACCERR_COUNT).flag GL_ACCERR_SEEN true).raiseIf (!x.on GL_ACCERR_SEEN) 10
  ((((y.set GL_ACCERR_ADDR_ADDR addr).flag GL_ACCERR_ADDR_WRITE write).set GL_ACCERR_ADDR_CAUSE cause).flag GL_ACCERR_ADDR_CORE core)

/-- A normal-world access to what the secure world alone may reach (R449): counted and recorded, source 507.
Assumption log, row 97. -/
def Chip.swViol (x : Chip) (w : Writer) : Chip :=
  ((((x.sat SW_VIOL_COUNT).set SW_VIOL_INFO_KIND 0).set SW_VIOL_INFO_INDEX (w.addr / 4096)).set SW_VIOL_INFO_FUNC
    (if w.core then 127 else w.fn)).raise 507

/-! ### Fields at an address -/

/-- The instance that page instance `i` of a field holds: the records of VF1 to VF64 come first, and F0's after them
(R102). -/
def Fld.instanceAt (f : Fld) (i : Nat) : Nat := if f.base = 0x20000 then (i + 1) % 65 else i

/-- Places of a field at an address of the manager window: page instance and inner instance. -/
def Fld.places (f : Fld) (addr : Nat) : List (Nat × Nat) :=
  if addr < f.base + f.off then []
  else
    let d := addr - (f.base + f.off)
    let i := if f.stride = 0 then 0 else d / f.stride
    let r := d - i * f.stride
    let p := f.instanceAt i
    if f.count ≤ i then []
    else if f.istride = 0 then (if r = 0 then (List.range f.icount).map fun q => (p, q) else [])
    else if r % f.istride = 0 && decide (r / f.istride < f.icount) then [(p, r / f.istride)] else []

/-- A field met by a write: which, its page and inner instance, and the value written to it. -/
structure Hit where
  /-- Field. -/
  f : Fld
  /-- Page instance. -/
  p : Nat
  /-- Inner instance. -/
  q : Nat
  /-- Value. -/
  v : Nat
deriving DecidableEq, Repr

/-- The field's instance number. -/
def Hit.n (h : Hit) : Nat := h.p * h.f.icount + h.q

/-- Fields of the register at an address. -/
def hitsAt (addr value : Nat) : List Hit :=
  allFields.flatMap fun f => (f.places addr).map fun p =>
    ⟨f, p.1, p.2, bits value (f.lsb + (if f.istride = 0 then p.2 * f.lstride else 0)) f.width⟩

/-- The stop unit that owns a field (R44): whether it runs, and its PEND_RESTART. -/
def Chip.ownerOf (x : Chip) (f : Fld) (p : Nat) : Bool × Fld :=
  if f.base = 0x140000 || f.base = 0x101000 then (x.on HDn_STAT_RUN p, HDn_STAT_PEND_RESTART)
  else if f.base = 0x180000 then (x.on DXn_STAT_RUN p, DXn_STAT_PEND_RESTART)
  else if f.base = 0x1A1000 then (x.on TPn_STAT_RUN p, TPn_STAT_PEND_RESTART)
  else if f.base = 0x1C1000 then (x.on AU_DOMx_STAT_RUN p, AU_DOMx_STAT_PEND_RESTART)
  else (x.on SKn_STAT_RUN p, SKn_STAT_PEND_RESTART)

/-- A write refused by the lock counts (R476, R570). Assumption log, row 97. -/
def Chip.lockViol (x : Chip) : Chip := x.sat RJ_LOCK_VIOL_COUNT

/-! ### What a write that lands does -/

/-- Fields whose PEND_RESTART clears its mirror with it. -/
def Hit.isPend (h : Hit) : Bool := (pendMirror h.f).isSome

/-- A corner is written: it glides to the new one over the ramp of the running domain that uses the filter, and is
there at once where none does (R311). Assumption log, row 68. -/
def Chip.setCorner (x : Chip) (f v : Nat) : Chip :=
  if x.get AU_HPFf_CFG_CORNER f = v then x
  else
    let user := x.genDom 11 f
    let y := x.set AU_HPFf_CFG_CORNER v f
    let rest := y.au.glides.filter fun g => g.flt != f
    match user with
    | some d =>
      { y with au := { y.au with glides := rest ++ [⟨f, x.get AU_HPFf_STAT_ACT f, x.rampTicks d, x.rampTicks d⟩] } }
    | none => { y with au := { y.au with glides := rest } }.set AU_HPFf_STAT_ACT (clampN v 20 500) f

/-- WIND_EN is written: the two paths cross-fade over the same time (R311). -/
def Chip.setWind (x : Chip) (f v : Nat) : Chip :=
  let n := match x.genDom 11 f with
    | some d => x.rampTicks d
    | none => 0
  let y := x.set AU_HPFf_CFG_WIND_EN v f
  if x.get AU_HPFf_CFG_WIND_EN f = v then y
  else { y with au := { y.au with hpf := updAt y.au.hpf f fun s => { s with fade := s.fade.to v n } } }

/-- A field that may change takes its value, with what follows from it. Assumption log, row 110. -/
def Chip.takeField (x : Chip) (h : Hit) : Chip :=
  let y := x.set h.f h.v h.n
  if h.f.id = SKn_STs_CFG_CREDIT_MAX.id then y.updRxbuf h.p
  else if h.f.id = AU_HPFf_CFG_CORNER.id then x.setCorner h.n h.v
  else if h.f.id = AU_HPFf_CFG_WIND_EN.id then x.setWind h.n h.v
  else if h.f.id = AU_BQs_COEF.id then
    { y with au := { y.au with bqDirty := if y.au.bqDirty.contains h.p then y.au.bqDirty else y.au.bqDirty ++ [h.p] } }
  else if h.f.id = SW_CTL_FORCE_FAULT.id then (y.set GL_SAFE_FORCED h.v).updSafe
  else y

/-- A bit written 1 in a W1C field clears. -/
def Chip.clearField (x : Chip) (h : Hit) : Chip :=
  if h.f.id = HDn_CHKSTAT_FAULT.id && x.atLimit h.p then x
  else if h.isPend then x.onlyIf (h.v = 1) fun y => y.setPend h.f h.n false
  else
    let y := x.set h.f (x.get h.f h.n - (x.get h.f h.n).land h.v) h.n
    if h.f.id = HDn_CHKSTAT_FAULT.id then y.updSafe
    else if h.f.id = RINGk_STAT_NOTICE_LOST.id && h.v = 1 then y.set RINGk_STAT_NOTICES_LOST 0 h.n
    else y

/-- A host load started by a register write: the image is what host memory returns, free values (R509, R513).
Assumption log, row 119. -/
def Chip.hostLoad (x : Chip) (value : Nat) : Chip :=
  (loadGo value ((List.range (bits value 0 26)).map fun i => (Config.hostByte x.freeCtr i).toNat) x).took

/-- A bit written 1 in a W1S or WO field acts; its field reads as its unit keeps it. -/
def Chip.actField (x : Chip) (w : Writer) (h : Hit) : Chip :=
  if h.f.id = HPn_TRIG_GO.id then hpTrigGo h.p w.value x
  else if h.v = 0 then x
  else if h.f.id = HDn_ARM_ARM.id then hdArm h.p x
  else if h.f.id = HDn_SARM_ARM.id then hdSarm h.p x
  else if h.f.id = AU_BQ_COMMIT_GO.id then bqCommitGo 1 x
  else if h.f.id = SW_CTL_ENTRY_LOCK.id then entryLockSet x
  else if h.f.id = SW_WDOG_KICK.id then swWdogKick x
  else if h.f.id = RB_NWDOG_KICK.id then nwdogKick x
  else if h.f.id = RB_LOAD_LEN_GO.id then x.hostLoad w.value
  else x

/-- A write that would change the field may do so now: the entry table is locked by ENTRY_LOCK (R447). -/
def Chip.entryLocked (x : Chip) (f : Fld) : Bool :=
  x.on SW_CTL_ENTRY_LOCK && (f.id = SW_ENTRYe_LO_VALID.id || (f.id = SW_ENTRYe_LO_ADDR.id || f.id = SW_ENTRYe_HI_ADDR.id))

/-- One field of a write (R8, R9, R476, R570). Assumption log, row 93. -/
def Chip.writeField (x : Chip) (w : Writer) (h : Hit) : Chip :=
  if h.f.sec && !w.secure then x
  else match h.f.acc with
    | .ro => x
    | .w1c => x.clearField h
    | .w1s => x.actField w h
    | .wo => x.actField w h
    | .rw =>
      if x.get h.f h.n = h.v || x.entryLocked h.f then x
      else if h.f.rwl && x.on RJ_SESSION_LOCK then x.lockViol
      else x.takeField h
    | .rwh =>
      if x.get h.f h.n = h.v then x
      else if (x.ownerOf h.f h.p).1 then x.setPend (x.ownerOf h.f h.p).2 h.p true
      else if h.f.rwl && x.on RJ_SESSION_LOCK then x.lockViol
      else x.takeField h

/-! ### Rings and doorbells (R53 to R57) -/

/-- RINGk_CTL takes a value (R53, R54). -/
def Chip.ringCtl (x : Chip) (f k v : Nat) : Chip :=
  let n := ringIx f k
  if bitAt v 8 then ringEnable f k (bits v 0 5) (bitAt v 9) x
  else
    let y := x.flag RINGk_CTL_WB_EN (bitAt v 9) n
    if x.on RINGk_CTL_EN n then ringDisable f k y else y.set RINGk_CTL_SIZE_LOG2 (bits v 0 5) n

/-- A write at an offset of a ring page. -/
def Chip.ringWrite (x : Chip) (f off v : Nat) : Chip :=
  let k := off / 0x40
  let n := ringIx f k
  if 4 < k then x
  else match off % 0x40 with
    | 0x00 => if x.on RINGk_CTL_EN n then x else x.set RINGk_BASE_LO_ADDR (v / 4096) n
    | 0x04 => if x.on RINGk_CTL_EN n then x else x.set RINGk_BASE_HI_ADDR v n
    | 0x08 => x.ringCtl f k v
    | 0x14 => [RINGk_STAT_BAD_DB, RINGk_STAT_MALFORMED, RINGk_STAT_NOTICE_LOST, RINGk_STAT_CFG_ERR].foldl
        (fun (y : Chip) g => y.clearField ⟨g, f, k, bits v g.lsb 1⟩) x
    | 0x18 => x.set RINGk_WB_LO_ADDR (v / 8) n
    | 0x1C => x.set RINGk_WB_HI_ADDR v n
    | _ => x

/-- A write at an offset of a doorbell page. -/
def Chip.bellWrite (x : Chip) (f off v : Nat) : Chip :=
  if off < 0x10 then dbRing f (off / 4) v x else if off = 0x10 then dbReply f v x else x

/-- A write at an offset of an MSI-X table: a vector unmasked sends what the PBA holds for it (R83, R565). -/
def Chip.msixWrite (x : Chip) (f off v : Nat) : Chip :=
  let vec := off / 16
  let w := off % 16 / 4
  if (if f = 0 then 128 else 8) ≤ vec then x
  else
    let y := { x with ev := { x.ev with table := sparseSet x.ev.table (msixKey f vec w) v (if w = 3 then 1 else 0) } }
    if w = 3 && !bitAt v 0 then msixUnmask f (some vec) y else y

/-- Message control of a function: enable and function mask (R565). Assumption log, row 110. -/
def Chip.msixCtl (x : Chip) (f v : Nat) : Chip :=
  let en := x.ev.enabled.filter (· != f)
  let y := { x with ev := { x.ev with enabled := if bitAt v 15 then en ++ [f] else en } }
  if bitAt v 14 then
    { y with ev := { y.ev with fmask := if y.ev.fmask.contains f then y.ev.fmask else y.ev.fmask ++ [f] } }
  else msixUnmask f none y

/-! ### TDM ports and bridges (R306) -/

/-- AU_TDMn_CFG or AU_BRk_CFG: applied only while every domain named before or after the write is stopped. -/
def tdmWrite (bridge : Bool) (n value : Nat) (x : Chip) : Chip :=
  let fs := if bridge then [AU_BRk_CFG_FROM, AU_BRk_CFG_TO, AU_BRk_CFG_CH]
    else [AU_TDMn_CFG_DOM, AU_TDMn_CFG_LEADER, AU_TDMn_CFG_SLOTS, AU_TDMn_CFG_WIDTH, AU_TDMn_CFG_FMT, AU_TDMn_CFG_BCLK_POL,
      AU_TDMn_CFG_FS_POL]
  let named := if bridge then [AU_BRk_CFG_FROM, AU_BRk_CFG_TO] else [AU_TDMn_CFG_DOM]
  let new := fun (f : Fld) => bits value f.lsb f.width
  let diff := fs.filter fun f => x.get f n != new f
  let run := (List.range 3).filter fun d => x.on AU_DOMx_STAT_RUN d && (named.any fun f => x.get f n = d || new f = d)
  if diff = [] then x
  else if run != [] then run.foldl (fun (y : Chip) d => y.setPend AU_DOMx_STAT_PEND_RESTART d true) x
  else if x.on RJ_SESSION_LOCK then diff.foldl (fun (y : Chip) _ => y.lockViol) x
  else diff.foldl (fun (y : Chip) f => y.set f (new f) n) x

/-! ### The event controller's page (R559 to R569) -/

/-- A write to the event page: pending bits, EV_CTL.EN and routes as R559, R561 and R569 lay down, the rest field by
field; pins and vectors follow. Assumption log, row 97. -/
def Chip.evWrite (x : Chip) (w : Writer) : Chip :=
  let off := w.addr - 0x290000
  if 0x100 ≤ off && off < 0x140 then
    if off % 4 = 0 then evPendClear ((off - 0x100) / 4) w.value 0 w.secure x else x
  else if 0x1000 ≤ off && (off < 0x1800 && (x.srcSecure ((off - 0x1000) / 4) && !w.secure)) then x
  else if off = 0 then x.setEvEn (bitAt w.value 0)
  else
    let y := (hitsAt w.addr w.value).foldl (fun (y : Chip) h => y.writeField w h) x
    y.setEvEn (y.on EV_CTL_EN)

/-! ### The manager window (R475, R547, R550, R551) -/

/-- Numbers of the 64 KiB blocks that hold a block's registers (R547). -/
def blockWindows : List Nat :=
  [0, 1, 2, 4, 8, 9, 0x10, 0x11, 0x14, 0x18, 0x1A, 0x1B, 0x1C, 0x20, 0x21, 0x22, 0x23, 0x24, 0x25, 0x26, 0x27, 0x28, 0x29, 0x30,
    0x31, 0x32, 0x33]

/-- Blocks of Kennel's smallest working set (R499, R550). Assumption log, row 107. -/
def Chip.kennelTakes (x : Chip) (addr : Nat) : Bool :=
  [0, 1, 0x24, 0x25, 0x26, 0x27, 0x28].contains (addr / 0x10000) || (addr / 0x1000 = 0x140 ||
    (addr / 0x1000 = 0x180 + x.kennelPort || (addr / 0x10000 = 0x21 && x.rs.kennelBl)))

/-- The page's domain is off: a gated render group, port or Skein port (R520), or in Kennel a block outside the
working set. Assumption log, row 110. -/
def Chip.pageOff (x : Chip) (addr : Nat) : Bool :=
  let page := addr / 0x1000
  if x.kennel then blockWindows.contains (addr / 0x10000) && !x.kennelTakes addr
  else if 0x88 ≤ page && page < 0xA0 then x.groupGated ((page - 0x88) / 4)
  else if 0x180 ≤ page && page < 0x18A then bitAt (x.get GL_GATE_DOM) (6 + (page - 0x180))
  else if page = 0x200 || page = 0x201 then bitAt (x.get GL_GATE_DOM) (16 + (page - 0x200))
  else false

/-- The access meets what the secure world alone may reach, and comes from the normal world. Assumption log, row 97.
-/
def Writer.violates (w : Writer) : Bool :=
  !w.secure && (w.addr / 0x10000 = 0x27 || (hitsAt w.addr w.value).any fun h => h.f.sec)

/-- A write that reaches a page of the manager window. Assumption log, row 110. -/
def Chip.pageWrite (x : Chip) (w : Writer) : Chip :=
  let a := w.addr
  if a / 0x1000 = 0x10 then x.ringWrite 0 (a % 0x1000) w.value
  else if a / 0x1000 = 0x11 then x.bellWrite 0 (a % 0x1000) w.value
  else if a / 0x10000 = 0x29 then x.evWrite w
  else if a / 0x1000 = 0x1C2 then
    (if a % 0x40 = 0 && a % 0x1000 / 0x40 < 8 then tdmWrite false (a % 0x1000 / 0x40) w.value x else x)
  else if a / 0x1000 = 0x1C3 then
    (if a % 0x20 = 0 && a % 0x1000 / 0x20 < 16 then tdmWrite true (a % 0x1000 / 0x20) w.value x else x)
  else
    let y := (hitsAt a w.value).foldl (fun (y : Chip) h => y.writeField w h) x
    if a / 0x10000 = 0x18 then y.updStandby else if a / 0x10000 = 0x27 then y.updPins else y

/-- A write to the manager window: from F0 over PCI Express, or from a control core. A Commission-class write that the
lock lets through restarts the idle time of the session (R473). Assumption log, row 110. -/
def Chip.windowWrite (x : Chip) (w : Writer) : Chip :=
  if x.pageOff w.addr then x.accErr w.core w.addr 1
  else if w.violates then x.swViol w
  else
    let y := x.pageWrite w
    if !x.on RJ_SESSION_LOCK && commissionPage (w.addr / 4096 * 4096) then y.roleAct else y

/-- A write to a virtual function's window (R83, R548). Assumption log, row 110. -/
def Chip.vfWrite (x : Chip) (f addr value : Nat) : Chip :=
  match addr / 0x1000 with
  | 0 => x.ringWrite f addr value
  | 1 => x.bellWrite f (addr % 0x1000) value
  | 2 => x.msixWrite f (addr % 0x1000) value
  | _ => x

/-- REGISTER_WRITE. Assumption log, rows 14, 110. -/
def registerWrite (r : RegWrite) (x : Chip) : Chip :=
  let fn := if r.core then 0 else r.fn.val
  let addr := r.addr.toNat
  let value := r.value.toNat
  if x.get GL_MODE_POWER = 3 || !x.present fn then x
  else if r.space = .msixControl then (if r.core then x else x.msixCtl fn value)
  else if r.space = .bar2 && (r.core || fn != 0) then x
  else if r.space = .bar0 && (fn != 0 && 0x10000 ≤ addr) then x
  else if r.size.val != 4 || addr % 4 != 0 then x.accErr r.core addr 0
  else match r.space with
    | .bar2 => if addr < 0x1000 then x.msixWrite 0 addr value else x
    | _ => if fn = 0 then x.windowWrite ⟨r.core, r.world, fn, addr, value⟩ else x.vfWrite fn addr value

/-- REGISTER_WRITE. -/
def execRegisterWrite (w : RegWrite) (s : State) : Host.Outcome State Fault Refusal := s.onReach (registerWrite w)

/-- TDM_CFG_WRITE: the register write of the port's or the bridge's CFG, by F0. -/
def execTdmCfgWrite (bridge : Bool) (n : Fin 16) (value : Word) (s : State) : Host.Outcome State Fault Refusal :=
  s.onChip (registerWrite ⟨false, false, 0, .bar0, BitVec.ofNat 25 (if bridge then 0x1C3000 + 0x20 * n.val else 0x1C2000 + 0x40 * n.val),
    4, value⟩)

end Sys2Proof.Machine
end

