-- ==== Sys2Proof/Machine/RegisterReads.lean ====
section
/-!
DEFINITION. Register reads (R4, R5, R8, R83, R102, R112, R268, R410, R431, R449, R547 to R551, R561): the value of a
register, what it hides from the normal world, which reads are refused and counted, and the latch of TB_TICK_READ.
-/
namespace Sys2Proof.Machine

/-! ### Registers made of fields (R5, R8) -/

/-- What a field adds to its register's word: WO fields read zero, and so do SEC fields to the normal world. -/
def Chip.fieldRead (x : Chip) (secure : Bool) (h : Hit) : Nat :=
  if h.f.acc = .wo || (h.f.sec && !secure) then 0
  else x.get h.f h.n * 2 ^ (h.f.lsb + (if h.f.istride = 0 then h.q * h.f.lstride else 0))

/-- The word at an address of the manager window, page instance `f` in place of F0's where a page is one a function:
reserved bits and addresses that hold no register read zero (R5). -/
def Chip.wordAt (x : Chip) (secure : Bool) (addr : Nat) (f : Option Nat := none) : Nat :=
  ((hitsAt addr 0).map fun h => x.fieldRead secure { h with p := f.getD h.p }).sum

/-! ### Windows that hide single entries (R112, R268, R410, R561) -/

/-- Word `w` of a placement-map entry (R112). -/
def MapEntry.word (e : MapEntry) (w : Nat) : Nat :=
  match w with
  | 0 => b2n e.valid + b2n e.world * 2 + e.order * 4 + e.cls * 16 + e.func * 256 + e.mig * 32768 + b2n e.mirror * 262144 +
      b2n e.wdrawn * 524288
  | 1 => e.tag + e.pin * 65536 + e.pattern * 16777216 + b2n e.latency * 134217728
  | 2 => e.chanset + e.bgrp * 65536 + e.charge * 16777216
  | 3 => e.pbase
  | 4 => e.size
  | 5 => e.tchanset + e.torder * 65536 + e.tbgrp * 262144
  | 6 => e.tpbase
  | _ => e.act + e.migs * 65536

/-- A word of the placement-map window: an entry of the secure world reads zero from the normal world. -/
def Chip.mapWord (x : Chip) (secure : Bool) (off : Nat) : Nat :=
  match x.entry (off / 32) with
  | some e => if e.world && !secure then 0 else e.word (off % 32 / 4)
  | none => 0

/-- Word `w` of a hit-region entry, which is VALID (R268). -/
def HitEntry.word (e : HitEntry) (w : Nat) : Nat :=
  match w with
  | 0 => e.x0 + e.y0 * 65536
  | 1 => e.x1 + e.y1 * 65536
  | 2 => 1 + b2n e.world * 2 + e.head * 4 + e.func * 256 + e.prio * 65536 + b2n e.moves * 16777216
  | _ => e.region + e.wave * 65536 + e.ch * 16777216 + b2n e.hapticEn * 268435456 + b2n e.onUp * 536870912

/-- A word of the hit-region window, in the half of the table that HRT_BANK shows. -/
def Chip.hitWord (x : Chip) (secure : Bool) (off : Nat) : Nat :=
  match x.th.hits.find? fun e => e.idx = x.get TH_CTL_HRT_BANK * 2048 + off / 16 with
  | some e => if e.world && !secure then 0 else e.word (off % 16 / 4)
  | none => 0

/-- A word of the event page: sources of world 1 show the normal world neither route nor pending bit (R561). -/
def Chip.evWord (x : Chip) (secure : Bool) (addr : Nat) : Nat :=
  let off := addr - 0x290000
  let v := x.wordAt secure addr
  if secure then v
  else if 0x100 ≤ off && off < 0x140 then
    ((List.range 32).map fun i => if bitAt v i && !x.srcSecure (8 * (off - 0x100) + i) then 2 ^ i else 0).sum
  else if 0x1000 ≤ off && (off < 0x1800 && x.srcSecure ((off - 0x1000) / 4)) then 0
  else v

/-- The word a page of the manager window gives. -/
def Chip.pageRead (x : Chip) (secure : Bool) (a : Nat) : Nat :=
  if 0x300000 ≤ a && a < 0x340000 then x.mapWord secure (a - 0x300000)
  else if 0x1A8000 ≤ a && a < 0x1B0000 then x.hitWord secure (a - 0x1A8000)
  else if a / 0x10000 = 0x29 then x.evWord secure a
  else if a / 0x10000 = 0x23 && (!secure && (a % 0x10000 < 0x1800 && x.on CVn_CFG_WORLD (a % 0x10000 / 0x100))) then 0
  else x.wordAt secure a

/-! ### MSI-X (R83, R548, R565) -/

/-- Vectors of a function. -/
def vectorsOf (f : Nat) : Nat := if f = 0 then 128 else 8

/-- A word of a function's MSI-X table. -/
def Chip.msixRead (x : Chip) (f off : Nat) : Nat := if off / 16 < vectorsOf f then x.msixWord f (off / 16) (off % 16 / 4) else 0

/-- A word of a function's pending-bit array. -/
def Chip.pbaRead (x : Chip) (f off : Nat) : Nat :=
  ((List.range 32).map fun i => if x.ev.pba.contains (f, 8 * off + i) then 2 ^ i else 0).sum

/-- Message control of a function: table size less 1, function mask, enable. -/
def Chip.msixCtlRead (x : Chip) (f : Nat) : Nat :=
  vectorsOf f - 1 + b2n (x.ev.fmask.contains f) * 16384 + b2n (x.ev.enabled.contains f) * 32768

/-- A read of a virtual function's window: rings, MSI-X and its own record; doorbells read zero (R83, R102). -/
def Chip.vfRead (x : Chip) (f addr : Nat) : Nat :=
  match addr / 0x1000 with
  | 0 => x.wordAt false (0x10000 + addr) (some f)
  | 2 => x.msixRead f (addr % 0x1000)
  | 3 => x.pbaRead f (addr % 0x1000)
  | 4 => if addr % 0x1000 < 0x100 then x.wordAt false (0x20000 + addr % 0x1000) (some f) else 0
  | _ => 0

/-! ### A read (R4, R449, R550) -/

/-- A read of the manager window: its value, and what it counts or latches. TB_TICK latches the TB_SEC of the same instant
(R431). -/
def Chip.windowRead (x : Chip) (w : Writer) : Chip × Nat :=
  if x.pageOff w.addr then (x.accErr w.core w.addr 1 false, 0)
  else
    let y := if w.violates then x.swViol w else x
    let y := if w.addr = TB_TICK_TICK.base + TB_TICK_TICK.off then y.set TB_SEC_LAT_SEC (y.get TB_SEC_SEC) else y
    (y, x.pageRead w.secure w.addr)

/-- A register read: an access of another size or alignment than an aligned 32-bit one is completed with zero, and
counted (R4, R550). Assumption log, row 14. -/
def Chip.readReg (x : Chip) (r : RegRead) : Chip × Nat :=
  let fn := if r.core then 0 else r.fn.val
  let addr := r.addr.toNat
  if r.space = .msixControl then (x, if r.core then 0 else x.msixCtlRead fn)
  else if (r.space = .bar2 && (r.core || fn != 0)) || (r.space = .bar0 && (fn != 0 && 0x10000 ≤ addr)) then (x, 0)
  else if r.size.val != 4 || addr % 4 != 0 then (x.accErr r.core addr 0 false, 0)
  else match r.space with
    | .bar2 => (x, if addr < 0x1000 then x.msixRead 0 addr else if addr < 0x2000 then x.pbaRead 0 (addr - 0x1000) else 0)
    | _ => if fn = 0 then x.windowRead ⟨r.core, r.world, fn, addr, 0⟩ else (x, x.vfRead fn addr)

/-- TB_TICK_READ, a register read: its value leaves the part; none is answered to a function that is Absent.
Assumption log, row 14. -/
def tbTickRead (r : RegRead) (x : Chip) : Chip :=
  if !x.present (if r.core then 0 else r.fn.val) then x
  else (x.readReg r).1.emit (.regRead r.addr.toNat (x.readReg r).2)

/-- TB_TICK_READ. -/
def execTbTickRead (s : State) (r : RegRead := ⟨false, false, 0, .bar0, 0x240000, 4⟩) :
    Host.Outcome State Fault Refusal := s.onChip (tbTickRead r)

end Sys2Proof.Machine
end

