-- ==== Sys2Proof/Machine/Dispatch.lean ====
section
/-!
DEFINITION. The dispatch: one arm for each command, each a direct call of its meaning.
-/
namespace Sys2Proof.Machine

/-- The effect of a command on everything but the queue. -/
def exec (i : Instr) (s : State) : Host.Outcome State Fault Refusal :=
  match i with
  | .nop c => Sys2Proof.Machine.execNop c s
  | .versionQuery c => Sys2Proof.Machine.execVersionQuery c s
  | .barrier c => Sys2Proof.Machine.execBarrier c s
  | .fenceAlloc c => Sys2Proof.Machine.execFenceAlloc c s
  | .fenceFree c => Sys2Proof.Machine.execFenceFree c s
  | .fenceSignal c => Sys2Proof.Machine.execFenceSignal c s
  | .fenceShare c => Sys2Proof.Machine.execFenceShare c s
  | .claimRole c => Sys2Proof.Machine.execClaimRole c s
  | .releaseRole c => Sys2Proof.Machine.execReleaseRole c s
  | .fnEnable c => Sys2Proof.Machine.execFnEnable c s
  | .fnDisable c => Sys2Proof.Machine.execFnDisable c s
  | .shareSet c => Sys2Proof.Machine.execShareSet c s
  | .shareQuery c => Sys2Proof.Machine.execShareQuery c s
  | .fnQuery c => Sys2Proof.Machine.execFnQuery c s
  | .defaultShareSet c => Sys2Proof.Machine.execDefaultShareSet c s
  | .holdTimeSet c => Sys2Proof.Machine.execHoldTimeSet c s
  | .alloc c => Sys2Proof.Machine.execAlloc c s
  | .freeHandle c => Sys2Proof.Machine.execFreeHandle c s
  | .handleQuery c => Sys2Proof.Machine.execHandleQuery c s
  | .placeHint c => Sys2Proof.Machine.execPlaceHint c s
  | .placePin c => Sys2Proof.Machine.execPlacePin c s
  | .placeUnpin c => Sys2Proof.Machine.execPlaceUnpin c s
  | .copyHandle c => Sys2Proof.Machine.execCopyHandle c s
  | .memSizeSet c => Sys2Proof.Machine.execMemSizeSet c s
  | .shaderLoad c => Sys2Proof.Machine.execShaderLoad c s
  | .pipelineCreate c => Sys2Proof.Machine.execPipelineCreate c s
  | .pipelineDestroy c => Sys2Proof.Machine.execPipelineDestroy c s
  | .renderSubmit c => Sys2Proof.Machine.execRenderSubmit c s
  | .computeSubmit c => Sys2Proof.Machine.execComputeSubmit c s
  | .renderBarrier c => Sys2Proof.Machine.execRenderBarrier c s
  | .binGrow c => Sys2Proof.Machine.execBinGrow c s
  | .shaderCacheFlush c => Sys2Proof.Machine.execShaderCacheFlush c s
  | .layerSet c => Sys2Proof.Machine.execLayerSet c s
  | .layerRemove c => Sys2Proof.Machine.execLayerRemove c s
  | .flip c => Sys2Proof.Machine.execFlip c s
  | .flipGroup c => Sys2Proof.Machine.execFlipGroup c s
  | .flipQuery c => Sys2Proof.Machine.execFlipQuery c s
  | .toneMapSet c => Sys2Proof.Machine.execToneMapSet c s
  | .backgroundSet c => Sys2Proof.Machine.execBackgroundSet c s
  | .layerAssign c => Sys2Proof.Machine.execLayerAssign c s
  | .stopHead c => Sys2Proof.Machine.execStopHead c s
  | .startHead c => Sys2Proof.Machine.execStartHead c s
  | .stopPort c => Sys2Proof.Machine.execStopPort c s
  | .startPort c => Sys2Proof.Machine.execStartPort c s
  | .headQuery c => Sys2Proof.Machine.execHeadQuery c s
  | .portQuery c => Sys2Proof.Machine.execPortQuery c s
  | .vrrPorchSet c => Sys2Proof.Machine.execVrrPorchSet c s
  | .selfRefreshSet c => Sys2Proof.Machine.execSelfRefreshSet c s
  | .stopTouch c => Sys2Proof.Machine.execStopTouch c s
  | .startTouch c => Sys2Proof.Machine.execStartTouch c s
  | .hitRegionWrite c => Sys2Proof.Machine.execHitRegionWrite c s
  | .hitRegionClear c => Sys2Proof.Machine.execHitRegionClear c s
  | .hapticPlay c => Sys2Proof.Machine.execHapticPlay c s
  | .hapticWaveLoad c => Sys2Proof.Machine.execHapticWaveLoad c s
  | .hapticCalibrate c => Sys2Proof.Machine.execHapticCalibrate c s
  | .hapticLimitSet c => Sys2Proof.Machine.execHapticLimitSet c s
  | .stopAudio c => Sys2Proof.Machine.execStopAudio c s
  | .startAudio c => Sys2Proof.Machine.execStartAudio c s
  | .audioGraphLoad c => Sys2Proof.Machine.execAudioGraphLoad c s
  | .audioGainSet c => Sys2Proof.Machine.execAudioGainSet c s
  | .audioStreamOpen c => Sys2Proof.Machine.execAudioStreamOpen c s
  | .audioStreamClose c => Sys2Proof.Machine.execAudioStreamClose c s
  | .tonePlay c => Sys2Proof.Machine.execTonePlay c s
  | .beepPlay c => Sys2Proof.Machine.execBeepPlay c s
  | .stopSkein c => Sys2Proof.Machine.execStopSkein c s
  | .startSkein c => Sys2Proof.Machine.execStartSkein c s
  | .skeinStreamBind c => Sys2Proof.Machine.execSkeinStreamBind c s
  | .skeinStreamUnbind c => Sys2Proof.Machine.execSkeinStreamUnbind c s
  | .skeinQuery c => Sys2Proof.Machine.execSkeinQuery c s
  | .attach c => Sys2Proof.Machine.execAttach c s
  | .detach c => Sys2Proof.Machine.execDetach c s
  | .twinQuery c => Sys2Proof.Machine.execTwinQuery c s
  | .cvBind c => Sys2Proof.Machine.execCvBind c s
  | .cvRead c => Sys2Proof.Machine.execCvRead c s
  | .cvWrite c => Sys2Proof.Machine.execCvWrite c s
  | .cvRelease c => Sys2Proof.Machine.execCvRelease c s
  | .timeQuery c => Sys2Proof.Machine.execTimeQuery c s
  | .ppsModeSet c => Sys2Proof.Machine.execPpsModeSet c s
  | .timeSet c => Sys2Proof.Machine.execTimeSet c s
  | .powerModeSet c => Sys2Proof.Machine.execPowerModeSet c s
  | .modeQuery c => Sys2Proof.Machine.execModeQuery c s
  | .degradedClear c => Sys2Proof.Machine.execDegradedClear c s
  | .gateBlock c => Sys2Proof.Machine.execGateBlock c s
  | .ungateBlock c => Sys2Proof.Machine.execUngateBlock c s
  | .thermalQuery c => Sys2Proof.Machine.execThermalQuery c s
  | .parkFaceSet c => Sys2Proof.Machine.execParkFaceSet c s
  | .resetBlock c => Sys2Proof.Machine.execResetBlock c s
  | .resetSubsystem c => Sys2Proof.Machine.execResetSubsystem c s
  | .resetWarm c => Sys2Proof.Machine.execResetWarm c s
  | .resetCold c => Sys2Proof.Machine.execResetCold c s
  | .kennelEnter c => Sys2Proof.Machine.execKennelEnter c s
  | .fwSlotWrite c => Sys2Proof.Machine.execFwSlotWrite c s
  | .fwSlotCommit c => Sys2Proof.Machine.execFwSlotCommit c s
  | .fwQuery c => Sys2Proof.Machine.execFwQuery c s
  | .recoveryLoad c image => Sys2Proof.Machine.execRecoveryLoad c image s
  | .secureRelease c => Sys2Proof.Machine.execSecureRelease c s
  | .protLayerLoad c => Sys2Proof.Machine.execProtLayerLoad c s
  | .journalQuery c => Sys2Proof.Machine.execJournalQuery c s
  | .journalExport c => Sys2Proof.Machine.execJournalExport c s
  | .secureRestart c => Sys2Proof.Machine.execSecureRestart c s
  | .staleLimitSet c => Sys2Proof.Machine.execStaleLimitSet c s
  | .installerKeySet c => Sys2Proof.Machine.execInstallerKeySet c s
  | .protKeySet c => Sys2Proof.Machine.execProtKeySet c s
  | .fuseProgram c => Sys2Proof.Machine.execFuseProgram c s
  | .fwKeyHashSet c => Sys2Proof.Machine.execFwKeyHashSet c s
  | .roleKeySet c => Sys2Proof.Machine.execRoleKeySet c s
  | .twinHashSet c => Sys2Proof.Machine.execTwinHashSet c s
  | .safetyLimitSet c => Sys2Proof.Machine.execSafetyLimitSet c s
  | .gate core index marker ret => Sys2Proof.Machine.execGate core index marker ret s
  | .gateRet core => Sys2Proof.Machine.execGateRet core s
  | .dbRing fn k value => Sys2Proof.Machine.execDbRing fn k value s
  | .dbReply fn value => Sys2Proof.Machine.execDbReply fn value s
  | .ringEnable fn k size wbEn => Sys2Proof.Machine.execRingEnable fn k size wbEn s
  | .ringDisable fn k => Sys2Proof.Machine.execRingDisable fn k s
  | .hdArm head => Sys2Proof.Machine.execHdArm head s
  | .hdSarm head => Sys2Proof.Machine.execHdSarm head s
  | .nwdogKick => Sys2Proof.Machine.execNwdogKick s
  | .swWdogKick => Sys2Proof.Machine.execSwWdogKick s
  | .hpTrigGo ch value => Sys2Proof.Machine.execHpTrigGo ch value s
  | .bqCommitGo value => Sys2Proof.Machine.execBqCommitGo value s
  | .loadGo value image => Sys2Proof.Machine.execLoadGo value image s
  | .entryLockSet => Sys2Proof.Machine.execEntryLockSet s
  | .tbTickRead r => Sys2Proof.Machine.execTbTickRead s r
  | .evPendClear k value same world => Sys2Proof.Machine.execEvPendClear k value same world s
  | .evCtlEnable => Sys2Proof.Machine.execEvCtlEnable s
  | .tdmCfgWrite bridge n value => Sys2Proof.Machine.execTdmCfgWrite bridge n value s
  | .registerWrite w => Sys2Proof.Machine.execRegisterWrite w s
  | .vfEnableSet numVFs => Sys2Proof.Machine.execVfEnableSet numVFs s
  | .vfEnableClear => Sys2Proof.Machine.execVfEnableClear s
  | .flrVf vf => Sys2Proof.Machine.execFlrVf vf s
  | .flrF0 => Sys2Proof.Machine.execFlrF0 s
  | .msixUnmask fn vec => Sys2Proof.Machine.execMsixUnmask fn vec s
  | .packetFetch p => Sys2Proof.Machine.execPacketFetch p s
  | .fenceWaitTimeout fn k => Sys2Proof.Machine.execFenceWaitTimeout fn k s
  | .execTimeout fn k => Sys2Proof.Machine.execExecTimeout fn k s
  | .commandComplete fn k => Sys2Proof.Machine.execCommandComplete fn k s
  | .drainEnd fn => Sys2Proof.Machine.execDrainEnd fn s
  | .drainSlowTimeout fn => Sys2Proof.Machine.execDrainSlowTimeout fn s
  | .holdExpiry fn => Sys2Proof.Machine.execHoldExpiry fn s
  | .epochBoundary => Sys2Proof.Machine.execEpochBoundary s
  | .memoryRequest r => Sys2Proof.Machine.execMemoryRequest r s
  | .migrationCopyDone entry => Sys2Proof.Machine.execMigrationCopyDone entry s
  | .migrationSettle entry => Sys2Proof.Machine.execMigrationSettle entry s
  | .commitLine head late => Sys2Proof.Machine.execCommitLine head late s
  | .flipTimeout head => Sys2Proof.Machine.execFlipTimeout head s
  | .lineConfirm head line inTime => Sys2Proof.Machine.execLineConfirm head line inTime s
  | .headLine0 head => Sys2Proof.Machine.execHeadLine0 head s
  | .headSafePoint head => Sys2Proof.Machine.execHeadSafePoint head s
  | .lineUnderrun p => Sys2Proof.Machine.execLineUnderrun p s
  | .checkWindowEnd head k errs => Sys2Proof.Machine.execCheckWindowEnd head k errs s
  | .hpdChange port level => Sys2Proof.Machine.execHpdChange port level s
  | .linkTrainDone port trained lanes rate sinkSr => Sys2Proof.Machine.execLinkTrainDone port trained lanes rate sinkSr s
  | .linkRetryTimer port => Sys2Proof.Machine.execLinkRetryTimer port s
  | .linkLoss port => Sys2Proof.Machine.execLinkLoss port s
  | .dispatchPoint offload => Sys2Proof.Machine.execDispatchPoint offload s
  | .preemptionPoint job p => Sys2Proof.Machine.execPreemptionPoint job p s
  | .preemptTimeout job => Sys2Proof.Machine.execPreemptTimeout job s
  | .binPoolFull job use => Sys2Proof.Machine.execBinPoolFull job use s
  | .binGrowTimeout job => Sys2Proof.Machine.execBinGrowTimeout job s
  | .spillDone job => Sys2Proof.Machine.execSpillDone job s
  | .renderJobComplete fn num => Sys2Proof.Machine.execRenderJobComplete fn num s
  | .computeJobComplete job => Sys2Proof.Machine.execComputeJobComplete job s
  | .gxEccUncorrectable core e => Sys2Proof.Machine.execGxEccUncorrectable core e s
  | .touchTrigger port => Sys2Proof.Machine.execTouchTrigger port s
  | .endOfReport port data => Sys2Proof.Machine.execEndOfReport port data s
  | .touchReadFail port => Sys2Proof.Machine.execTouchReadFail port s
  | .touchRetryTimer port => Sys2Proof.Machine.execTouchRetryTimer port s
  | .clockStretchTimeout port => Sys2Proof.Machine.execClockStretchTimeout port s
  | .attackEnd ch => Sys2Proof.Machine.execAttackEnd ch s
  | .sustainEnd ch => Sys2Proof.Machine.execSustainEnd ch s
  | .brakeEnd ch => Sys2Proof.Machine.execBrakeEnd ch s
  | .bemfGap ch gap => Sys2Proof.Machine.execBemfGap ch gap s
  | .openLoadWindowEnd ch peak => Sys2Proof.Machine.execOpenLoadWindowEnd ch peak s
  | .calibrationDone ch ring => Sys2Proof.Machine.execCalibrationDone ch ring s
  | .audioTick t => Sys2Proof.Machine.execAudioTick t s
  | .audioBlockBoundary dom => Sys2Proof.Machine.execAudioBlockBoundary dom s
  | .gainRampEnd ramp => Sys2Proof.Machine.execGainRampEnd ramp s
  | .routeRampEnd dom => Sys2Proof.Machine.execRouteRampEnd dom s
  | .audioClockLost => Sys2Proof.Machine.execAudioClockLost s
  | .audioClockRegained => Sys2Proof.Machine.execAudioClockRegained s
  | .bridgeLock bridge => Sys2Proof.Machine.execBridgeLock bridge s
  | .tonePhaseEnd gen => Sys2Proof.Machine.execTonePhaseEnd gen s
  | .beepBurstEnd gen => Sys2Proof.Machine.execBeepBurstEnd gen s
  | .skeinData port h data => Sys2Proof.Machine.execSkeinData port h data s
  | .skeinCredit port h grants => Sys2Proof.Machine.execSkeinCredit port h grants s
  | .skeinMarkStart port h tag => Sys2Proof.Machine.execSkeinMarkStart port h tag s
  | .skeinMarkEnd port h length => Sys2Proof.Machine.execSkeinMarkEnd port h length s
  | .skeinTrain port h t => Sys2Proof.Machine.execSkeinTrain port h t s
  | .skeinNak port h seq => Sys2Proof.Machine.execSkeinNak port h seq s
  | .skeinClose port h => Sys2Proof.Machine.execSkeinClose port h s
  | .skeinIdle port h => Sys2Proof.Machine.execSkeinIdle port h s
  | .skeinBadFlit port bad => Sys2Proof.Machine.execSkeinBadFlit port bad s
  | .skeinReplayTimeout port => Sys2Proof.Machine.execSkeinReplayTimeout port s
  | .skeinBlockLockLoss port lane => Sys2Proof.Machine.execSkeinBlockLockLoss port lane s
  | .skeinLinkTimeout port => Sys2Proof.Machine.execSkeinLinkTimeout port s
  | .skeinDownRetry port => Sys2Proof.Machine.execSkeinDownRetry port s
  | .skeinStopTimeout port => Sys2Proof.Machine.execSkeinStopTimeout port s
  | .skeinEgressFrame port stream => Sys2Proof.Machine.execSkeinEgressFrame port stream s
  | .leash h count mode at_ state => Sys2Proof.Machine.execLeash h count mode at_ state s
  | .leashSend => Sys2Proof.Machine.execLeashSend s
  | .leashMissed => Sys2Proof.Machine.execLeashMissed s
  | .twinLost => Sys2Proof.Machine.execTwinLost s
  | .hungTwin => Sys2Proof.Machine.execHungTwin s
  | .coldReq h => Sys2Proof.Machine.execColdReq h s
  | .hello h m => Sys2Proof.Machine.execHello h m s
  | .electMsg h lead sync => Sys2Proof.Machine.execElectMsg h lead sync s
  | .helloTimeout => Sys2Proof.Machine.execHelloTimeout s
  | .attachTimeout => Sys2Proof.Machine.execAttachTimeout s
  | .mirrorOpen h idx tag cls size => Sys2Proof.Machine.execMirrorOpen h idx tag cls size s
  | .mirrorWrite h idx tag offset data => Sys2Proof.Machine.execMirrorWrite h idx tag offset data s
  | .mirrorClose h idx tag => Sys2Proof.Machine.execMirrorClose h idx tag s
  | .mirrorState h head item num data => Sys2Proof.Machine.execMirrorState h head item num data s
  | .syncDone h last => Sys2Proof.Machine.execSyncDone h last s
  | .sigTiles h head first pfn sigs => Sys2Proof.Machine.execSigTiles h head first pfn sigs s
  | .sigEnd h head tiles pfn failed sig => Sys2Proof.Machine.execSigEnd h head tiles pfn failed sig s
  | .sigLate head pfn => Sys2Proof.Machine.execSigLate head pfn s
  | .offloadPipe h key total offset data => Sys2Proof.Machine.execOffloadPipe h key total offset data s
  | .offloadJob h job => Sys2Proof.Machine.execOffloadJob h job s
  | .offloadReply h ref result => Sys2Proof.Machine.execOffloadReply h ref result s
  | .offloadResult h ref idx tag offset data => Sys2Proof.Machine.execOffloadResult h ref idx tag offset data s
  | .offloadDone h ref aborted spills us results => Sys2Proof.Machine.execOffloadDone h ref aborted spills us results s
  | .offloadCancel h ref => Sys2Proof.Machine.execOffloadCancel h ref s
  | .timeProbe h t1 => Sys2Proof.Machine.execTimeProbe h t1 s
  | .timeProbeSend => Sys2Proof.Machine.execTimeProbeSend s
  | .timeEcho h t1 t2 t3 => Sys2Proof.Machine.execTimeEcho h t1 t2 t3 s
  | .detachReq h => Sys2Proof.Machine.execDetachReq h s
  | .detachAck h => Sys2Proof.Machine.execDetachAck h s
  | .leaveMsg h reason => Sys2Proof.Machine.execLeaveMsg h reason s
  | .modeMsg h mode => Sys2Proof.Machine.execModeMsg h mode s
  | .powerPropose h mode => Sys2Proof.Machine.execPowerPropose h mode s
  | .powerReply h accept => Sys2Proof.Machine.execPowerReply h accept s
  | .powerReplyTimeout => Sys2Proof.Machine.execPowerReplyTimeout s
  | .powerCancel h => Sys2Proof.Machine.execPowerCancel h s
  | .bootReq h => Sys2Proof.Machine.execBootReq h s
  | .bootData h offset data => Sys2Proof.Machine.execBootData h offset data s
  | .bowlineBadFlit bad => Sys2Proof.Machine.execBowlineBadFlit bad s
  | .bowlineNak h seq => Sys2Proof.Machine.execBowlineNak h seq s
  | .bowlineTrain h t => Sys2Proof.Machine.execBowlineTrain h t s
  | .bowlineCredit h grants => Sys2Proof.Machine.execBowlineCredit h grants s
  | .bowlineReplayTimeout => Sys2Proof.Machine.execBowlineReplayTimeout s
  | .bowlineLinkTimeout => Sys2Proof.Machine.execBowlineLinkTimeout s
  | .bowlineRetry => Sys2Proof.Machine.execBowlineRetry s
  | .twinBHoldTimer => Sys2Proof.Machine.execTwinBHoldTimer s
  | .refreshDue chan tc0 hot spare => Sys2Proof.Machine.execRefreshDue chan tc0 hot spare s
  | .distWindowEnd => Sys2Proof.Machine.execDistWindowEnd s
  | .driftCheck beyond => Sys2Proof.Machine.execDriftCheck beyond s
  | .retrainDone chan ok => Sys2Proof.Machine.execRetrainDone chan ok s
  | .trainingDone t => Sys2Proof.Machine.execTrainingDone t s
  | .phyPllLoss pll => Sys2Proof.Machine.execPhyPllLoss pll s
  | .phyPllRelock pll => Sys2Proof.Machine.execPhyPllRelock pll s
  | .memPllRelockTimeout mc => Sys2Proof.Machine.execMemPllRelockTimeout mc s
  | .cvDataUnitEnd unit errs => Sys2Proof.Machine.execCvDataUnitEnd unit errs s
  | .refclkLoss => Sys2Proof.Machine.execRefclkLoss s
  | .refclkRestore => Sys2Proof.Machine.execRefclkRestore s
  | .mainPllLoss => Sys2Proof.Machine.execMainPllLoss s
  | .ppsInEdge rising => Sys2Proof.Machine.execPpsInEdge rising s
  | .ppsTimeout => Sys2Proof.Machine.execPpsTimeout s
  | .trimAdjust => Sys2Proof.Machine.execTrimAdjust s
  | .secureWdogExpiry => Sys2Proof.Machine.execSecureWdogExpiry s
  | .secureHalt => Sys2Proof.Machine.execSecureHalt s
  | .secureUp => Sys2Proof.Machine.execSecureUp s
  | .secureRestartTimeout => Sys2Proof.Machine.execSecureRestartTimeout s
  | .sessionIdleTimeout => Sys2Proof.Machine.execSessionIdleTimeout s
  | .lockoutEnd => Sys2Proof.Machine.execLockoutEnd s
  | .journalFlush => Sys2Proof.Machine.execJournalFlush s
  | .powerOn => Sys2Proof.Machine.execPowerOn s
  | .railLow => Sys2Proof.Machine.execRailLow s
  | .resetNPulse => Sys2Proof.Machine.execResetNPulse s
  | .warmNPulse => Sys2Proof.Machine.execWarmNPulse s
  | .thermalTrip => Sys2Proof.Machine.execThermalTrip s
  | .thermalTripRelease => Sys2Proof.Machine.execThermalTripRelease s
  | .nwdogExpiry => Sys2Proof.Machine.execNwdogExpiry s
  | .lockstepMismatch pairB => Sys2Proof.Machine.execLockstepMismatch pairB s
  | .resetRelease r => Sys2Proof.Machine.execResetRelease r s
  | .startTimeout => Sys2Proof.Machine.execStartTimeout s
  | .startConfirm image => Sys2Proof.Machine.execStartConfirm image s
  | .heelAnswer h => Sys2Proof.Machine.execHeelAnswer h s
  | .heelTimeout h => Sys2Proof.Machine.execHeelTimeout h s
  | .blockResetRelease h => Sys2Proof.Machine.execBlockResetRelease h s
  | .thermalSample t => Sys2Proof.Machine.execThermalSample t s
  | .thermRelease => Sys2Proof.Machine.execThermRelease s
  | .wakeGpio pin w => Sys2Proof.Machine.execWakeGpio pin w s
  | .wakeAlarm w => Sys2Proof.Machine.execWakeAlarm w s
  | .wakePcie w => Sys2Proof.Machine.execWakePcie w s
  | .wakeTouch port w => Sys2Proof.Machine.execWakeTouch port w s
  | .twinWakePulseEnd => Sys2Proof.Machine.execTwinWakePulseEnd s
  | .parkFaceUpdate => Sys2Proof.Machine.execParkFaceUpdate s
  | .parkEntryStep => Sys2Proof.Machine.execParkEntryStep s
  | .eventRaise r => Sys2Proof.Machine.execEventRaise r s
  | .coalesceTimeout fn vec => Sys2Proof.Machine.execCoalesceTimeout fn vec s
  | .uartFrame frame => Sys2Proof.Machine.execUartFrame frame s
  | .statusImageRedraw => Sys2Proof.Machine.execStatusImageRedraw s
  | .autoAttachTimer => Sys2Proof.Machine.execAutoAttachTimer s
  | .beepGapEnd gen => Sys2Proof.Machine.execBeepGapEnd gen s
  | .driveHalfCycle ch => Sys2Proof.Machine.execDriveHalfCycle ch s
  | .pwmPeriodStart ch => Sys2Proof.Machine.execPwmPeriodStart ch s
  | .skeinBlockLock port lane => Sys2Proof.Machine.execSkeinBlockLock port lane s
  | .bowlineBlockLock lane => Sys2Proof.Machine.execBowlineBlockLock lane s
  | .bowlineBlockLockLoss lane => Sys2Proof.Machine.execBowlineBlockLockLoss lane s
  | .bowlineIdle h => Sys2Proof.Machine.execBowlineIdle h s
  | .tapInstruction t => Sys2Proof.Machine.execTapInstruction t s

end Sys2Proof.Machine
end

