-- ==== Sys2Proof/Machine/Step.lean ====
section
/-!
DEFINITION. One step of the block: the command at the front of the queue has its effect; on an empty queue the time base
counts a cycle (assumption log, row 9).
-/
namespace Sys2Proof.Machine

/-- One step. Assumption log, rows 1, 9. -/
def step (s : State) : Host.Outcome State Fault Refusal :=
  match s.pending with
  | [] => s.onAon Chip.tick
  | c :: rest => exec c { s with pending := rest }

/-- `s` with the command a word spells at the front of its queue; no row of the table gives bits, so no word spells
one. Assumption log, row 1. -/
def State.withFetchWord (s : State) (nbits w : Nat) : State :=
  match Sys2Proof.decodeTableWord nbits w with
  | some i => { s with pending := i :: s.pending }
  | none => s

end Sys2Proof.Machine
end

