-- ==== Sys2Proof/Safety.lean ====
section
/-!
DEFINITION. The terms statements use: what every run keeps, and what it is for a command to complete.
-/
namespace Sys2Proof.Machine

/-- The invariant of every step: memory is in its canonical form. -/
abbrev State.Inv (s : State) : Prop := Memory.wf s.mem

/-- The command completes with the blocks at `x`: queue and memory stay. -/
def Runs (i : Instr) (s : State) (x : Chip) : Prop := exec i s = .next { s with chip := x }

/-- The command completes with the blocks at `x`, having stored `ws`: the queue stays, and so does every other byte. -/
def RunsW (i : Instr) (s : State) (x : Chip) (ws : List (Nat × Byte)) : Prop :=
  exec i s = .next { s with chip := x.noteMirror ws, mem := writeCells s.mem ws }

/-- Work about to start: the blocks and memory as they stand, nothing stored. -/
def State.work (s : State) : Work := ⟨s.chip, s.mem, []⟩

/-- The command completes with what a piece of work leaves: its blocks, and memory with what it stored. -/
def RunsTo (i : Instr) (s : State) (w : Work) : Prop := RunsW i s w.x w.ws

/-- The command completes with the blocks at `y`, which may have taken a reach: one that clears the placement map leaves
no memory that anything names. -/
def RunsReach (i : Instr) (s : State) (y : Chip) : Prop :=
  exec i s = .next { s with chip := { y with rs := { y.rs with wiped := false } }, mem := if y.rs.wiped then [] else s.mem }

/-- The same for a command that also stores what a piece of work stores. -/
def RunsReachW (i : Instr) (s : State) (w : Work) : Prop :=
  exec i s = .next { s with
    chip := { w.x with rs := { w.x.rs with wiped := false } }.noteMirror w.ws
    mem := if w.x.rs.wiped then [] else writeCells s.mem w.ws }

/-- The command completes, queue and memory staying, with blocks that meet `P`. -/
def Ends (i : Instr) (s : State) (P : Chip → Prop) : Prop :=
  ∃ t, exec i s = .next t ∧ t.pending = s.pending ∧ t.mem = s.mem ∧ P t.chip

/-- The command completes, the queue staying, with a state that meets `P`. -/
def EndsW (i : Instr) (s : State) (P : State → Prop) : Prop :=
  ∃ t, exec i s = .next t ∧ t.pending = s.pending ∧ P t

/-- The commands that may store to memory: those that write a caller's allocation, answer a memory request, move Skein or
Bowline data, or end a data unit whose check value a binding records. -/
def storing (i : Instr) : Bool :=
  match i with
  | .copyHandle .. | .stopSkein .. | .attach .. | .detach .. | .powerModeSet .. | .protLayerLoad ..
  | .journalExport .. | .commandComplete .. | .epochBoundary .. | .memoryRequest .. | .commitLine ..
  | .dispatchPoint .. | .preemptionPoint .. | .preemptTimeout .. | .binPoolFull .. | .spillDone ..
  | .renderJobComplete .. | .computeJobComplete .. | .gxEccUncorrectable .. | .audioTick .. | .audioBlockBoundary ..
  | .skeinData .. | .skeinCredit .. | .skeinMarkStart .. | .skeinMarkEnd .. | .skeinTrain .. | .skeinNak ..
  | .skeinClose .. | .skeinIdle .. | .skeinLinkTimeout .. | .skeinStopTimeout .. | .skeinEgressFrame .. | .leash ..
  | .leashSend .. | .hungTwin .. | .coldReq .. | .hello .. | .electMsg .. | .mirrorOpen .. | .mirrorWrite ..
  | .mirrorClose .. | .mirrorState .. | .syncDone .. | .sigTiles .. | .sigEnd .. | .offloadPipe .. | .offloadJob ..
  | .offloadReply .. | .offloadResult .. | .offloadDone .. | .offloadCancel .. | .timeProbe .. | .timeProbeSend ..
  | .timeEcho .. | .detachReq .. | .detachAck .. | .leaveMsg .. | .modeMsg .. | .powerPropose .. | .powerReply ..
  | .powerReplyTimeout .. | .powerCancel .. | .bootReq .. | .bootData .. | .bowlineNak .. | .bowlineTrain ..
  | .bowlineCredit .. | .phyPllLoss .. | .cvDataUnitEnd .. | .startConfirm .. | .thermalSample .. | .thermRelease ..
  | .wakeGpio .. | .wakeAlarm .. | .wakePcie .. | .wakeTouch .. | .parkEntryStep .. | .autoAttachTimer ..
  | .bowlineIdle .. => true
  | _ => false

/-- The commands that store nothing but may take a reach, and with it lose memory. -/
def reaching (i : Instr) : Bool :=
  match i with
  | .loadGo .. | .registerWrite .. | .trainingDone .. | .refclkLoss .. | .refclkRestore .. | .mainPllLoss ..
  | .powerOn .. | .railLow .. | .resetNPulse .. | .warmNPulse .. | .thermalTrip .. | .thermalTripRelease ..
  | .nwdogExpiry .. | .lockstepMismatch .. | .resetRelease .. | .startTimeout .. | .uartFrame .. => true
  | _ => false

/-- The commands of the domains that Park leaves on, AON and PARK, of the resets, the supplies and the pins, and of the boot
that a reach starts (R22, R42). An event raised by a source is one; the edges of a crossing are not. -/
def inPark (i : Instr) : Bool :=
  match i with
  | .loadGo .. | .registerWrite .. | .coldReq .. | .bootReq .. | .bootData .. | .twinBHoldTimer ..
  | .trainingDone .. | .refclkLoss .. | .refclkRestore .. | .mainPllLoss .. | .ppsInEdge .. | .ppsTimeout ..
  | .trimAdjust .. | .lockoutEnd .. | .powerOn .. | .railLow .. | .resetNPulse .. | .warmNPulse .. | .thermalTrip ..
  | .thermalTripRelease .. | .nwdogExpiry .. | .lockstepMismatch .. | .resetRelease .. | .startTimeout ..
  | .wakeGpio .. | .wakeAlarm .. | .wakePcie .. | .wakeTouch .. | .twinWakePulseEnd .. | .parkFaceUpdate ..
  | .uartFrame .. | .tapInstruction .. => true
  | .eventRaise (.source _) | .eventRaise (.reply _) => true
  | _ => false

end Sys2Proof.Machine
end

