-- ==== Sys2Proof/WellFormed.lean ====
section
/-!
DEFINITION. Well-formed commands: what the spec's own shapes ask of the operands that a type does not already bound.
-/
namespace Sys2Proof

/-- A packet's parameter words are as many as its header says, and the opcode's own are at most 1,024 (R59). -/
def Packet.wf (p : Packet) : Bool := p.words.length = p.plen.toNat

/-- At most 1,024 parameter words (R59). -/
def Call.wf (c : Call) : Bool := decide (c.words.length ≤ 1024)

/-- Functions are 0 to 64, or 127 for the firmware (R449, R573). -/
def fnWf (f : Fin 128) : Bool := decide (f.val ≤ 64) || f.val = 127

/-- A write carries as many bytes as it stores; function and world name a requester (R15, R573). -/
def MemReq.wf (r : MemReq) : Bool :=
  fnWf r.fn && (Machine.requesterClass r.req.toNat = some r.tc.val && match r.data with
    | some d => d.length = r.len
    | none => true)

/-- The secure world is reached by a control core alone (R444, R448). -/
def RegWrite.wf (w : RegWrite) : Bool := !w.world || w.core

/-- A hash has 32 bytes (R350). -/
def hashWf (h : List Byte) : Bool := h.length = 32

/-- A command is well formed. Rows whose operands their types bound whole are so always. Assumption log, row 113. -/
def Instr.wf (i : Instr) : Bool :=
  match i with
  | .nop c => c.wf
  | .versionQuery c => c.wf
  | .barrier c => c.wf
  | .fenceAlloc c => c.wf
  | .fenceFree c => c.wf
  | .fenceSignal c => c.wf
  | .fenceShare c => c.wf
  | .claimRole c => c.wf
  | .releaseRole c => c.wf
  | .fnEnable c => c.wf
  | .fnDisable c => c.wf
  | .shareSet c => c.wf
  | .shareQuery c => c.wf
  | .fnQuery c => c.wf
  | .defaultShareSet c => c.wf
  | .holdTimeSet c => c.wf
  | .alloc c => c.wf
  | .freeHandle c => c.wf
  | .handleQuery c => c.wf
  | .placeHint c => c.wf
  | .placePin c => c.wf
  | .placeUnpin c => c.wf
  | .copyHandle c => c.wf
  | .memSizeSet c => c.wf
  | .shaderLoad c => c.wf
  | .pipelineCreate c => c.wf
  | .pipelineDestroy c => c.wf
  | .renderSubmit c => c.wf
  | .computeSubmit c => c.wf
  | .renderBarrier c => c.wf
  | .binGrow c => c.wf
  | .shaderCacheFlush c => c.wf
  | .layerSet c => c.wf
  | .layerRemove c => c.wf
  | .flip c => c.wf
  | .flipGroup c => c.wf
  | .flipQuery c => c.wf
  | .toneMapSet c => c.wf
  | .backgroundSet c => c.wf
  | .layerAssign c => c.wf
  | .stopHead c => c.wf
  | .startHead c => c.wf
  | .stopPort c => c.wf
  | .startPort c => c.wf
  | .headQuery c => c.wf
  | .portQuery c => c.wf
  | .vrrPorchSet c => c.wf
  | .selfRefreshSet c => c.wf
  | .stopTouch c => c.wf
  | .startTouch c => c.wf
  | .hitRegionWrite c => c.wf
  | .hitRegionClear c => c.wf
  | .hapticPlay c => c.wf
  | .hapticWaveLoad c => c.wf
  | .hapticCalibrate c => c.wf
  | .hapticLimitSet c => c.wf
  | .stopAudio c => c.wf
  | .startAudio c => c.wf
  | .audioGraphLoad c => c.wf
  | .audioGainSet c => c.wf
  | .audioStreamOpen c => c.wf
  | .audioStreamClose c => c.wf
  | .tonePlay c => c.wf
  | .beepPlay c => c.wf
  | .stopSkein c => c.wf
  | .startSkein c => c.wf
  | .skeinStreamBind c => c.wf
  | .skeinStreamUnbind c => c.wf
  | .skeinQuery c => c.wf
  | .attach c => c.wf
  | .detach c => c.wf
  | .twinQuery c => c.wf
  | .cvBind c => c.wf
  | .cvRead c => c.wf
  | .cvWrite c => c.wf
  | .cvRelease c => c.wf
  | .timeQuery c => c.wf
  | .ppsModeSet c => c.wf
  | .timeSet c => c.wf
  | .powerModeSet c => c.wf
  | .modeQuery c => c.wf
  | .degradedClear c => c.wf
  | .gateBlock c => c.wf
  | .ungateBlock c => c.wf
  | .thermalQuery c => c.wf
  | .parkFaceSet c => c.wf
  | .resetBlock c => c.wf
  | .resetSubsystem c => c.wf
  | .resetWarm c => c.wf
  | .resetCold c => c.wf
  | .kennelEnter c => c.wf
  | .fwSlotWrite c => c.wf
  | .fwSlotCommit c => c.wf
  | .fwQuery c => c.wf
  | .recoveryLoad c _ => c.wf
  | .secureRelease c => c.wf
  | .protLayerLoad c => c.wf
  | .journalQuery c => c.wf
  | .journalExport c => c.wf
  | .secureRestart c => c.wf
  | .staleLimitSet c => c.wf
  | .installerKeySet c => c.wf
  | .protKeySet c => c.wf
  | .fuseProgram c => c.wf
  | .fwKeyHashSet c => c.wf
  | .roleKeySet c => c.wf
  | .twinHashSet c => c.wf
  | .safetyLimitSet c => c.wf
  | .gate _ _ _ _ => true
  | .gateRet _ => true
  | .dbRing _ _ _ => true
  | .dbReply _ _ => true
  | .ringEnable _ _ _ _ => true
  | .ringDisable _ _ => true
  | .hdArm _ => true
  | .hdSarm _ => true
  | .nwdogKick => true
  | .swWdogKick => true
  | .hpTrigGo _ _ => true
  | .bqCommitGo _ => true
  | .loadGo _ _ => true
  | .entryLockSet => true
  | .tbTickRead _ => true
  | .evPendClear _ _ _ _ => true
  | .evCtlEnable => true
  | .tdmCfgWrite _ _ _ => true
  | .registerWrite w => w.wf
  | .vfEnableSet _ => true
  | .vfEnableClear => true
  | .flrVf _ => true
  | .flrF0 => true
  | .msixUnmask _ _ => true
  | .packetFetch p => p.wf
  | .fenceWaitTimeout _ _ => true
  | .execTimeout _ _ => true
  | .commandComplete _ _ => true
  | .drainEnd _ => true
  | .drainSlowTimeout _ => true
  | .holdExpiry _ => true
  | .epochBoundary => true
  | .memoryRequest r => r.wf
  | .migrationCopyDone _ => true
  | .migrationSettle _ => true
  | .commitLine _ _ => true
  | .flipTimeout _ => true
  | .lineConfirm _ _ _ => true
  | .headLine0 _ => true
  | .headSafePoint _ => true
  | .lineUnderrun _ => true
  | .checkWindowEnd _ _ _ => true
  | .hpdChange _ _ => true
  | .linkTrainDone _ _ _ _ _ => true
  | .linkRetryTimer _ => true
  | .linkLoss _ => true
  | .dispatchPoint o => match o with
    | some j => fnWf j.fn
    | none => true
  | .preemptionPoint j _ => fnWf j.fn
  | .preemptTimeout j => fnWf j.fn
  | .binPoolFull j _ => fnWf j.fn
  | .binGrowTimeout j => fnWf j.fn
  | .spillDone j => fnWf j.fn
  | .renderJobComplete fn _ => fnWf fn
  | .computeJobComplete j => fnWf j.fn
  | .gxEccUncorrectable _ _ => true
  | .touchTrigger _ => true
  | .endOfReport _ _ => true
  | .touchReadFail _ => true
  | .touchRetryTimer _ => true
  | .clockStretchTimeout _ => true
  | .attackEnd _ => true
  | .sustainEnd _ => true
  | .brakeEnd _ => true
  | .bemfGap _ _ => true
  | .openLoadWindowEnd _ _ => true
  | .calibrationDone _ _ => true
  | .audioTick k => (k.tdm.map (·.port)).Nodup && k.tdm.all fun t => t.slots.length ≤ 16
  | .audioBlockBoundary _ => true
  | .gainRampEnd _ => true
  | .routeRampEnd _ => true
  | .audioClockLost => true
  | .audioClockRegained => true
  | .bridgeLock _ => true
  | .tonePhaseEnd _ => true
  | .beepBurstEnd _ => true
  | .skeinData _ _ _ => true
  | .skeinCredit _ _ _ => true
  | .skeinMarkStart _ _ _ => true
  | .skeinMarkEnd _ _ _ => true
  | .skeinTrain _ _ _ => true
  | .skeinNak _ _ _ => true
  | .skeinClose _ _ => true
  | .skeinIdle _ _ => true
  | .skeinBadFlit _ _ => true
  | .skeinReplayTimeout _ => true
  | .skeinBlockLockLoss _ _ => true
  | .skeinLinkTimeout _ => true
  | .skeinDownRetry _ => true
  | .skeinStopTimeout _ => true
  | .skeinEgressFrame _ _ => true
  | .leash _ _ _ _ _ => true
  | .leashSend => true
  | .leashMissed => true
  | .twinLost => true
  | .hungTwin => true
  | .coldReq _ => true
  | .hello _ m => hashWf m.hash
  | .electMsg _ _ _ => true
  | .helloTimeout => true
  | .attachTimeout => true
  | .mirrorOpen _ _ _ _ _ => true
  | .mirrorWrite _ _ _ _ data => decide (data.length ≤ 4096)
  | .mirrorClose _ _ _ => true
  | .mirrorState _ _ _ _ _ => true
  | .syncDone _ _ => true
  | .sigTiles _ _ _ _ _ => true
  | .sigEnd _ _ _ _ _ _ => true
  | .sigLate _ _ => true
  | .offloadPipe _ key _ _ data => hashWf key && decide (data.length ≤ 8192)
  | .offloadJob _ j => j.pipes.all fun p => hashWf p.key
  | .offloadReply _ _ _ => true
  | .offloadResult _ _ _ _ _ _ => true
  | .offloadDone _ _ _ _ _ _ => true
  | .offloadCancel _ _ => true
  | .timeProbe _ _ => true
  | .timeProbeSend => true
  | .timeEcho _ _ _ _ => true
  | .detachReq _ => true
  | .detachAck _ => true
  | .leaveMsg _ _ => true
  | .modeMsg _ _ => true
  | .powerPropose _ _ => true
  | .powerReply _ _ => true
  | .powerReplyTimeout => true
  | .powerCancel _ => true
  | .bootReq _ => true
  | .bootData _ _ data => decide (data.length ≤ 8184)
  | .bowlineBadFlit _ => true
  | .bowlineNak _ _ => true
  | .bowlineTrain _ _ => true
  | .bowlineCredit _ _ => true
  | .bowlineReplayTimeout => true
  | .bowlineLinkTimeout => true
  | .bowlineRetry => true
  | .twinBHoldTimer => true
  | .refreshDue _ _ _ _ => true
  | .distWindowEnd => true
  | .driftCheck _ => true
  | .retrainDone _ _ => true
  | .trainingDone t => t.phases.length = 16
  | .phyPllLoss _ => true
  | .phyPllRelock _ => true
  | .memPllRelockTimeout _ => true
  | .cvDataUnitEnd _ _ => true
  | .refclkLoss => true
  | .refclkRestore => true
  | .mainPllLoss => true
  | .ppsInEdge _ => true
  | .ppsTimeout => true
  | .trimAdjust => true
  | .secureWdogExpiry => true
  | .secureHalt => true
  | .secureUp => true
  | .secureRestartTimeout => true
  | .sessionIdleTimeout => true
  | .lockoutEnd => true
  | .journalFlush => true
  | .powerOn => true
  | .railLow => true
  | .resetNPulse => true
  | .warmNPulse => true
  | .thermalTrip => true
  | .thermalTripRelease => true
  | .nwdogExpiry => true
  | .lockstepMismatch _ => true
  | .resetRelease _ => true
  | .startTimeout => true
  | .startConfirm _ => true
  | .heelAnswer _ => true
  | .heelTimeout _ => true
  | .blockResetRelease _ => true
  | .thermalSample _ => true
  | .thermRelease => true
  | .wakeGpio _ _ => true
  | .wakeAlarm _ => true
  | .wakePcie _ => true
  | .wakeTouch _ _ => true
  | .twinWakePulseEnd => true
  | .parkFaceUpdate => true
  | .parkEntryStep => true
  | .eventRaise _ => true
  | .coalesceTimeout _ _ => true
  | .uartFrame _ => true
  | .statusImageRedraw => true
  | .autoAttachTimer => true
  | .beepGapEnd _ => true
  | .driveHalfCycle _ => true
  | .pwmPeriodStart _ => true
  | .skeinBlockLock _ _ => true
  | .bowlineBlockLock _ => true
  | .bowlineBlockLockLoss _ => true
  | .bowlineIdle _ => true
  | .tapInstruction _ => true

end Sys2Proof
end

