-- ==== Sys2Proof/Certificates/Slice0/Obligations.lean ====
section
/-!
DEFINITION. The statements for the provers.
-/
open Sys2Proof Sys2Proof.Machine

/-- Each class 0x0 opcode of R571 and BARRIER, once dispatched and under the conditions of its rule, answers the next state in which its effect stands and its outcome is OK with the words the rule gives; queue and memory stay. -/
def Obligations.EngineCommandsComplete : Prop :=
  (∀ (s : State) (c : Call),
      s.chip.dispatchedCall opNop c = true → s.chip.parked = false → Runs (.nop c) s (s.chip.ok opNop c [])) ∧
  (∀ (s : State) (c : Call),
      s.chip.dispatchedCall opVersionQuery c = true → s.chip.parked = false → Runs (.versionQuery c) s (s.chip.ok opVersionQuery c [s.chip.get GL_FWVER_VERSION, s.chip.get GL_ID_STEP, s.chip.get RB_FW_ACTIVE])) ∧
  (∀ (s : State) (c : Call),
      s.chip.dispatchedCall opBarrier c = true → s.chip.parked = false → Runs (.barrier c) s (s.chip.ok opBarrier c [])) ∧
  (∀ (s : State) (c : Call) (i : Nat),
      s.chip.dispatchedCall opFenceAlloc c = true → s.chip.freeFence = some i → s.chip.parked = false → Runs (.fenceAlloc c) s (({ s.chip with ce := { s.chip.ce with fences := s.chip.ce.fences ++ [Fence.mk i c.fn.val false false 0 []] } } : Chip).ok opFenceAlloc c [i])) ∧
  (∀ (s : State) (c : Call) (f : Fence),
      s.chip.dispatchedCall opFenceFree c = true → s.chip.fence (c.w 0) = some f → c.w 0 < 4096 → s.chip.ownsFence c.fn f.id = true → s.chip.skeinNamesFence f.id = false → s.chip.parked = false → Runs (.fenceFree c) s ((s.chip.orphanFence f false).ok opFenceFree c [])) ∧
  (∀ (s : State) (c : Call),
      s.chip.dispatchedCall opFenceSignal c = true → c.w 0 < 4096 → s.chip.ownsFence c.fn (c.w 0) = true → s.chip.parked = false → Runs (.fenceSignal c) s ((s.chip.signalFence (c.w 0) (c.q 1)).ok opFenceSignal c [b2n (decide (c.q 1 < s.chip.fenceValue (c.w 0)))])) ∧
  (∀ (s : State) (c : Call) (f : Fence),
      s.chip.dispatchedCall opFenceShare c = true → c.w 0 < 4096 → s.chip.ownsFence c.fn (c.w 0) = true → c.w 1 ≤ 64 → s.chip.get FNf_STAT_STATE (c.w 1) ≠ 0 → s.chip.fence (c.w 0) = some f → c.w 1 ≠ c.fn.val → f.grants.contains (c.w 1) = false → s.chip.parked = false → Runs (.fenceShare c) s ((s.chip.setFence { f with grants := f.grants ++ [c.w 1] }).ok opFenceShare c []))

/-- A doorbell that R57 accepts moves its pointer; a ring that R54 lets be enabled is, its pointers at 0; the engine takes a packet up, and ends or completes one, as R62, R72, R75 and R78 lay down; queue and memory stay. -/
def Obligations.RingCommandsComplete : Prop :=
  (∀ (s : State) (fn : Fin 65) (k : Fin 4) (value : Word),
      s.chip.present fn = true → value.toNat % 2 ^ 17 ≠ s.chip.get RINGk_TAIL_PTR (ringIx fn k) → ptrTooLarge (s.chip.ringSize fn k) (value.toNat % 2 ^ 17) = false → ptrDist (s.chip.ringSize fn k) (value.toNat % 2 ^ 17) (s.chip.get RINGk_HEAD_PTR (ringIx fn k)) ≤ s.chip.ringSize fn k → ptrDist (s.chip.ringSize fn k) (s.chip.get RINGk_TAIL_PTR (ringIx fn k)) (s.chip.get RINGk_HEAD_PTR (ringIx fn k)) ≤ ptrDist (s.chip.ringSize fn k) (value.toNat % 2 ^ 17) (s.chip.get RINGk_HEAD_PTR (ringIx fn k)) → (s.chip.set RINGk_TAIL_PTR (value.toNat % 2 ^ 17) (ringIx fn k)).ringUsed fn k < sparseGet s.chip.ce.need (ringIx fn k) 0 → s.chip.parked = false → Runs (.dbRing fn k value) s (s.chip.set RINGk_TAIL_PTR (value.toNat % 2 ^ 17) (ringIx fn k))) ∧
  (∀ (s : State) (fn : Fin 65) (value : Word),
      s.chip.present fn = true → value.toNat % 2 ^ 17 ≠ s.chip.get RINGk_HEAD_PTR (ringIx fn 4) → ptrTooLarge (s.chip.ringSize fn 4) (value.toNat % 2 ^ 17) = false → ptrDist (s.chip.ringSize fn 4) (s.chip.get RINGk_TAIL_PTR (ringIx fn 4)) (value.toNat % 2 ^ 17) ≤ ptrDist (s.chip.ringSize fn 4) (s.chip.get RINGk_TAIL_PTR (ringIx fn 4)) (s.chip.get RINGk_HEAD_PTR (ringIx fn 4)) → s.chip.parked = false → Runs (.dbReply fn value) s ((((s.chip.set RINGk_HEAD_PTR (value.toNat % 2 ^ 17) (ringIx fn 4)).setFull fn).retire fn ((s.chip.set RINGk_HEAD_PTR (value.toNat % 2 ^ 17) (ringIx fn 4)).setFull fn).ce.pkts.length).release)) ∧
  (∀ (s : State) (fn : Fin 65) (k : Fin 5) (size : Fin 32) (wbEn : Bool),
      s.chip.present fn = true → (s.chip.flag RINGk_CTL_WB_EN wbEn (ringIx fn k)).on RINGk_CTL_EN (ringIx fn k) = false → 4 ≤ size.val → size.val ≤ ringMaxLog k → k.val ≠ 4 → s.chip.parked = false → Runs (.ringEnable fn k size wbEn) s ((((((s.chip.flag RINGk_CTL_WB_EN wbEn (ringIx fn k)).set RINGk_CTL_SIZE_LOG2 size (ringIx fn k)).flag RINGk_CTL_EN true (ringIx fn k)).set RINGk_HEAD_PTR 0 (ringIx fn k)).set RINGk_TAIL_PTR 0 (ringIx fn k)))) ∧
  (∀ (s : State) (fn : Fin 65) (k : Fin 5),
      s.chip.present fn = true → s.chip.parked = false → Runs (.ringDisable fn k) s ({ (s.chip.flag RINGk_CTL_EN false (ringIx fn k)).flag RINGk_STAT_PARTIAL false (ringIx fn k) with ce := { s.chip.ce with need := sparseSet s.chip.ce.need (ringIx fn k) 0 0 } })) ∧
  (∀ (s : State) (p : Packet) (f : Fin 65) (k : Fin 4),
      s.chip.chooseRing = some (f.val, k.val) → p.plen.toNat ≤ 1024 → packetSlots p.plen.toNat ≤ s.chip.ringSize f k → packetSlots p.plen.toNat ≤ s.chip.ringUsed f k → (bitAt p.flags.toNat 3 = true → crcOf 0 (packetBytes p) = p.crc.toNat) → s.chip.parked = false → Runs (.packetFetch p) s ((((s.chip.served f k).set RINGk_HEAD_PTR (ptrAdd (s.chip.ringSize f k) (s.chip.get RINGk_HEAD_PTR (ringIx f k)) (packetSlots p.plen.toNat)) (ringIx f k)).writeBack f k).admitPacket f k p)) ∧
  (∀ (s : State) (fn : Fin 65) (k : Fin 4) (i : Nat),
      (s.chip.ce.pkts.findIdx? fun p => p.call.fn = fn.val && (p.call.ring = k.val && (p.isWaiting && p.wait.isSome))) = some i → s.chip.parked = false → Runs (.fenceWaitTimeout fn k) s (((s.chip.conclude i stTimeout [0]).setFenceWait fn k).reapFences.release)) ∧
  (∀ (s : State) (fn : Fin 65) (k : Fin 4) (i : Nat) (p : Pkt) (o : Op),
      (s.chip.ce.pkts.findIdx? fun p => p.call.fn = fn.val && (p.call.ring = k.val && (p.isDispatched && !execExempt p))) = some i → s.chip.ce.pkts[i]? = some p → opOf p.opcode = some o → s.chip.parked = false → Runs (.execTimeout fn k) s (((((s.chip.journalOp o p.call stTimeout).conclude i stTimeout [1]).abandonCall p.call).reapFences).release))

/-- Each opcode of R108, once dispatched with a well-formed parameter, answers the next state in which the function, its share or the hold time is as the rule gives, with the outcome and result words the rule names; queue and memory stay. -/
def Obligations.FunctionCommandsComplete : Prop :=
  (∀ (s : State) (c : Call),
      s.chip.dispatchedCall opFnEnable c = true → c.words.length = 1 → s.chip.fnNamed c 1 = true → s.chip.parked = false → Runs (.fnEnable c) s ((s.chip.set FNf_STAT_STATE 2 (c.w 0)).ok opFnEnable c [])) ∧
  (∀ (s : State) (c : Call),
      s.chip.dispatchedCall opFnDisable c = true → c.words.length = 1 → s.chip.fnNamed c 1 = true → s.chip.get FNf_STAT_STATE (c.w 0) ≠ 1 → s.chip.parked = false → Runs (.fnDisable c) s ((s.chip.withdraw (c.w 0) .disable).1.deferred opFnDisable c [(s.chip.withdraw (c.w 0) .disable).1.get FNf_GEN_GEN (c.w 0), (s.chip.withdraw (c.w 0) .disable).2])) ∧
  (∀ (s : State) (c : Call),
      s.chip.dispatchedCall opShareSet c = true → c.words.length = 8 → s.chip.fnNamed c 0 = true → c.w 1 < 64 → shareWrong (shareOf fun i => c.w (i + 2)) (c.w 1) = none → s.chip.parked = false → Runs (.shareSet c) s ((({ s.chip with fn := { s.chip.fn with pend := s.chip.fn.pend ++ [({ fn := c.w 0, epoch := s.chip.bindEpoch, mask := c.w 1, items := shareOf fun i => c.w (i + 2) } : PendShare)] } } : Chip).flag FNf_STAT_SHARE_PEND true (c.w 0)).deferred opShareSet c [s.chip.bindEpoch, s.chip.get FNf_QUSE_USE (c.w 0)])) ∧
  (∀ (s : State) (c : Call),
      s.chip.dispatchedCall opShareQuery c = true → c.words.length = 1 → c.w 0 ≤ 64 → s.chip.parked = false → Runs (.shareQuery c) s (let mine := s.chip.fn.pend.filter fun p => p.fn = c.w 0; s.chip.ok opShareQuery c ([mine.foldl (fun m p => m.lor p.mask) 0] ++ ((s.chip.share (c.w 0)).words ++ (mine.foldl (fun (s : Share) p => s.merge p.items p.mask) (s.chip.share (c.w 0))).words)))) ∧
  (∀ (s : State) (c : Call),
      s.chip.dispatchedCall opFnQuery c = true → c.words.length = 1 → c.w 0 ≤ 64 → s.chip.parked = false → Runs (.fnQuery c) s (s.chip.ok opFnQuery c [s.chip.word [FNf_STAT_STATE, FNf_STAT_DRAINING, FNf_STAT_SHARE_PEND, FNf_STAT_HOLDING] (c.w 0), s.chip.get FNf_GEN_GEN (c.w 0), (s.chip.ce.pkts.filter fun p => p.call.fn.val = c.w 0 && !p.isAbandoned).length, if s.chip.on FNf_STAT_DRAINING (c.w 0) then max 1 (s.chip.pieces (c.w 0)) else 0])) ∧
  (∀ (s : State) (c : Call),
      s.chip.dispatchedCall opDefaultShareSet c = true → c.words.length = 6 → shareWrong (shareOf c.w) 63 = none → s.chip.parked = false → Runs (.defaultShareSet c) s (({ s.chip with fn := { s.chip.fn with dflt := shareOf c.w } } : Chip).ok opDefaultShareSet c [])) ∧
  (∀ (s : State) (c : Call),
      s.chip.dispatchedCall opHoldTimeSet c = true → c.words.length = 1 → c.w 0 ≤ 500 → s.chip.parked = false → Runs (.holdTimeSet c) s ((s.chip.set FN_HOLD_MS_MS (c.w 0)).ok opHoldTimeSet c [])) ∧
  (∀ (s : State) (c : Call),
      s.chip.dispatchedCall opMemSizeSet c = true → c.w 0 = 512 ∨ c.w 0 = 1024 ∨ c.w 0 = 2048 ∨ c.w 0 = 4096 → s.chip.parked = false → Runs (.memSizeSet c) s (({ s.chip with hb := { s.chip.hb with memSize := c.w 0 } } : Chip).deferred opMemSizeSet c []))

/-- VF Enable, function level resets, drains and the hold time act as R85, R91, R94, R97, R98 and R99 lay down; queue and memory stay. -/
def Obligations.FunctionEventsComplete : Prop :=
  (∀ (s : State) (n : Fin 65),
      s.chip.parked = false → Runs (.vfEnableSet n) s ((List.range n).foldl (fun (y : Chip) i => y.addFn (i + 1)) s.chip)) ∧
  (∀ (s : State),
      s.chip.parked = false → Runs (.vfEnableClear) s ((List.range 64).foldl (fun (y : Chip) i => y.removeFn (i + 1)) s.chip)) ∧
  (∀ (s : State) (vf : Fin 64),
      s.chip.get FNf_STAT_STATE (vf.val + 1) ≠ 0 → s.chip.parked = false → Runs (.flrVf vf) s ((s.chip.withdraw (vf.val + 1) .flr).1)) ∧
  (∀ (s : State),
      s.chip.parked = false → Runs (.flrF0) s (((s.chip.endSession 5).withdraw 0 .removal).1.removeAll)) ∧
  (∀ (s : State) (fn : Fin 65) (d : Drain),
      (s.chip.fn.drains.find? fun d => d.fn = fn.val) = some d → s.chip.pieces fn = 0 → s.chip.parked = false → Runs (.drainEnd fn) s (let y := (s.chip.hb.map.filter fun e => e.valid && (e.func = fn.val && e.wdrawn)).foldl (fun (y : Chip) e => y.freeEntry e) s.chip; let z := { y.flag FNf_STAT_DRAINING false fn with ce := { y.ce with fences := updAll y.ce.fences (fun g => g.owner = fn.val) fun g => { g with drain := false } }, fn := { y.fn with drains := y.fn.drains.filter fun d => d.fn != fn.val } }; ((z.reapFences.reapFrees).notice 0 0x1800 [fn, d.incs, d.cancelled, d.discarded]).raise 35)) ∧
  (∀ (s : State) (fn : Fin 65) (d : Drain),
      (s.chip.fn.drains.find? fun d => d.fn = fn.val) = some d → d.slow = false → s.chip.parked = false → Runs (.drainSlowTimeout fn) s ((({ s.chip with fn := { s.chip.fn with drains := updAll s.chip.fn.drains (fun d => d.fn = fn.val) fun d => { d with slow := true } } } : Chip).notice 0 0x1801 [fn, s.chip.holders fn]).raise 36)) ∧
  (∀ (s : State) (fn : Fin 65) (l : Layer),
      (s.chip.cp.layers.find? fun l => l.fn = fn.val && (!l.expired && s.chip.on CP_Ln_STAT_HELD l.unit)) = some l → s.chip.parked = false → Runs (.holdExpiry fn) s ({ s.chip with cp := { s.chip.cp with layers := updAll s.chip.cp.layers (fun m => (m.fn = fn.val && (!m.expired && s.chip.on CP_Ln_STAT_HELD m.unit)) && m.gen = l.gen) fun m => { m with expired := true } } }))

/-- Each opcode of R137, once dispatched with an own handle and parameters the rule accepts, answers the next state in which the map holds its effect and the outcome and result words are those the rule gives; queue and memory stay, but that COPY_HANDLE stores the bytes it copies. -/
def Obligations.HerderCommandsComplete : Prop :=
  (∀ (s : State) (c : Call) (i : Nat),
      s.chip.dispatchedCall opAlloc c = true → c.world = false → 0 < c.q 0 → c.q 0 ≤ 17179869184 → bits (c.w 2) 0 4 < 7 → c.w 2 = bits (c.w 2) 0 4 + (if bitAt (c.w 2) 8 then 256 else 0) → hintOk (c.w 3) = true → s.chip.get FNf_MEM_USE_MIB c.fn + ceilDiv (c.q 0) 1048576 ≤ s.chip.get FNf_MEM_QUOTA_MIB c.fn → ceilDiv (c.q 0) 65536 ≤ s.chip.roomUnits → s.chip.entryRoom c.fn = true → s.chip.freeIndex = some i → s.chip.parked = false → Runs (.alloc c) s (let e := { s.chip.newEntry i c.who (bits (c.w 2) 0 4) (ceilDiv (c.q 0) 65536) (c.w 3) (bitAt (c.w 2) 8) with world := c.world }; (((s.chip.setEntry e).took).onlyIf (s.chip.bl.mirroring && e.mirror) (·.mirrorTold e)).ok opAlloc c [lo32 (handleOf e), hi32 (handleOf e), ceilDiv (c.q 0) 65536])) ∧
  (∀ (s : State) (c : Call) (e : MapEntry),
      s.chip.dispatchedCall opFreeHandle c = true → s.chip.ownHandle c 0 = some e → s.chip.layerShows e.idx = false → s.chip.changeNames e.idx = false → s.chip.skeinBound e.idx = false → (s.chip.abortMig e).entry e.idx = some e → (s.chip.abortMig e).freeWaits e = false → s.chip.parked = false → Runs (.freeHandle c) s (((s.chip.abortMig e).freeEntry e).ok opFreeHandle c [])) ∧
  (∀ (s : State) (c : Call) (e : MapEntry),
      s.chip.dispatchedCall opHandleQuery c = true → s.chip.ownHandle c 0 = some e → s.chip.parked = false → Runs (.handleQuery c) s (s.chip.ok opHandleQuery c [e.cls + 256 * b2n e.mirror + 65536 * e.pin, e.size, e.pattern + 8 * b2n e.latency])) ∧
  (∀ (s : State) (c : Call) (e d : MapEntry),
      s.chip.dispatchedCall opPlaceHint c = true → s.chip.ownHandle c 0 = some e → hintOk (c.w 2) = true → d = { e with pattern := bits (c.w 2) 0 3, latency := bitAt (c.w 2) 3 } → hintOrder d d.pattern = d.order → s.chip.parked = false → Runs (.placeHint c) s ((s.chip.setEntry d).ok opPlaceHint c [])) ∧
  (∀ (s : State) (c : Call) (e : MapEntry),
      s.chip.dispatchedCall opPlacePin c = true → s.chip.ownHandle c 0 = some e → e.pin < 255 → 0 < e.pin → e.kind ≠ 0 → s.chip.entry e.idx = some e → s.chip.parked = false → Runs (.placePin c) s ((s.chip.setEntry { e with pin := e.pin + 1 }).ok opPlacePin c [e.pin + 1])) ∧
  (∀ (s : State) (c : Call) (e : MapEntry),
      s.chip.dispatchedCall opPlaceUnpin c = true → s.chip.ownHandle c 0 = some e → 0 < e.pin → s.chip.parked = false → Runs (.placeUnpin c) s ((s.chip.setEntry { e with pin := e.pin - 1 }).ok opPlaceUnpin c [e.pin - 1])) ∧
  (∀ (s : State) (c : Call),
      s.chip.dispatchedCall opCopyHandle c = true → (s.chip.ownRange c.fn (c.q 0) (c.q 4) guestClasses).isNone = false → (s.chip.ownRange c.fn (c.q 2) (c.q 4) guestClasses).isNone = false → 0 < c.q 4 → c.q 2 + c.q 4 ≤ c.q 0 ∨ c.q 0 + c.q 4 ≤ c.q 2 → s.chip.inHold = false → s.chip.parked = false → RunsW (.copyHandle c) s ((s.chip.copyNow s.mem c.fn (c.q 0) (c.q 2) (c.q 4)).1.ok opCopyHandle c []) ((s.chip.copyNow s.mem c.fn (c.q 0) (c.q 2) (c.q 4)).2))

/-- A request the walk accepts is answered and its bytes stored; migrations advance, refreshes, the activation window, drift checks and retraining act as R123, R382, R384 and R392 lay down. -/
def Obligations.MemoryEventsComplete : Prop :=
  (∀ (s : State) (q r : MemReq) (e : MapEntry),
      s.chip.inHold = false → s.chip.attributed q = some r → s.chip.staleReq r = false → s.chip.walkFault r = none → s.chip.entry (hIndex r.addr.toNat) = some e → s.chip.parked = false → RunsW (.memoryRequest q) s
      (let rs := accessRanges (hOffset r.addr.toNat) r.len
       let m := updAll s.chip.hb.map (fun k => k.idx = e.idx) fun k => { k with act := min (k.act + rs.length) 65535 }
       let use := if r.tc.val = 0 then sparseSet s.chip.hb.use (2 * r.fn.val) (sparseGet s.chip.hb.use (2 * r.fn.val) 0 + r.len) 0 else s.chip.hb.use
       let z := (rs.zipIdx.map fun p => (p.1, r.access.getD p.2 ⟨false, .clean⟩)).foldl (memStep s.mem r e) ({ s.chip with hb := { s.chip.hb with map := m, use := use } }, [], [])
       (z.1.texRead s.mem r z.2.1).1.answer r (z.1.texRead s.mem r z.2.1).2)
      (let rs := accessRanges (hOffset r.addr.toNat) r.len
       let m := updAll s.chip.hb.map (fun k => k.idx = e.idx) fun k => { k with act := min (k.act + rs.length) 65535 }
       let use := if r.tc.val = 0 then sparseSet s.chip.hb.use (2 * r.fn.val) (sparseGet s.chip.hb.use (2 * r.fn.val) 0 + r.len) 0 else s.chip.hb.use
       ((rs.zipIdx.map fun p => (p.1, r.access.getD p.2 ⟨false, .clean⟩)).foldl (memStep s.mem r e) ({ s.chip with hb := { s.chip.hb with map := m, use := use } }, [], [])).2.2)) ∧
  (∀ (s : State) (i : Fin 8192) (e : MapEntry),
      s.chip.entry i = some e → e.mig = 1 → e.kind = 2 ∨ s.chip.migOk = true → s.chip.parked = false → Runs (.migrationCopyDone i) s (s.chip.setEntry { e with mig := 2 })) ∧
  (∀ (s : State) (i : Fin 8192) (e : MapEntry),
      s.chip.entry i = some e → e.mig = 3 → s.chip.parked = false → Runs (.migrationSettle i) s (((((((s.chip.setEntry { e with mig := 0, kind := 0, order := e.torder, chanset := e.tchanset, bgrp := e.tbgrp, pbase := e.tpbase, torder := 0, tchanset := 0, tbgrp := 0, tpbase := 0, migs := min (e.migs + 1) 255 }).migStat.sat HB_MIG_CNT_COUNT).raise 66).raiseIf (e.kind = 1) 69).reapFrees.evacuate).gather))) ∧
  (∀ (s : State) (ch : Fin 16) (tc0 hot : Bool) (sp : Fin 9),
      ch.val % 2 = 0 → (s.chip.flag MCn_REFCFG_HOT_A hot (ch.val / 2)).on MCn_CHk_STAT_SR ch = true → s.chip.parked = false → Runs (.refreshDue ch tc0 hot sp) s (s.chip.flag MCn_REFCFG_HOT_A hot (ch.val / 2))) ∧
  (∀ (s : State),
      s.chip.parked = false → Runs (.distWindowEnd) s ({ s.chip with mc := { s.chip.mc with counts := [], chan := s.chip.mc.chan.map fun h => { h with throttles := [], corr := 0 } } })) ∧
  (∀ (s : State) (beyond : BitVec 16),
      s.chip.parked = false → Runs (.driftCheck beyond) s ((List.range 16).foldl (fun (y : Chip) c => if bitAt beyond.toNat c && !y.on MCn_CHk_STAT_SR c then y.disturb c true else y) s.chip)) ∧
  (∀ (s : State) (ch : Fin 16) (ok : Bool),
      s.chip.get MCn_CHk_STAT_STATE ch = 2 → ok = true → s.chip.parked = false → Runs (.retrainDone ch ok) s (((s.chip.raise 457).chanBack ch).setCh ch fun h => { h with tries := 0 }))

/-- A check-value unit is bound, read, written and released, and a data unit ends, as R400, R403, R407 and R411 lay down. -/
def Obligations.CheckValueCommandsComplete : Prop :=
  (∀ (s : State) (c : Call) (u : Nat),
      s.chip.dispatchedCall opCvBind c = true → c.world = false → c.w 0 < 4096 → bits (c.w 0) 8 2 = 0 → tapMode (bits (c.w 0) 0 6) 0 = true → tapAllowed c.who (bits (c.w 0) 0 6) 0 = true → c.w 1 ≤ 64 → c.fn = 0 ∨ c.w 1 = c.fn → s.chip.get FNf_STAT_STATE (c.w 1) ≠ 0 → tapIsStream (bits (c.w 0) 0 6) = false → c.w 2 = 0 → (if bits (c.w 0) 0 6 < 16 then bits (c.w 3) 0 16 < bits (c.w 4) 0 16 ∧ bits (c.w 3) 16 16 < bits (c.w 4) 16 16 ∧ bits (c.w 4) 0 16 ≤ s.chip.get HDn_HTIME0_HACTIVE (bits (c.w 0) 0 6) ∧ bits (c.w 4) 16 16 ≤ s.chip.get HDn_VTIME0_VACTIVE (bits (c.w 0) 0 6) else c.q 3 = 0) → c.q 5 = 0 → c.w 7 = 0 → (List.range 24).find? (fun u => !s.chip.on CVn_CFG_BOUND u) = some u → (s.chip.tapUnits (bits (c.w 0) 0 6)).length < 2 → s.chip.parked = false → Runs (.cvBind c) s ((((((((((((((((((s.chip.set CVn_CFG_TAP (bits (c.w 0) 0 6) u).set CVn_CFG_POLY (bits (c.w 0) 6 2) u).set CVn_CFG_MODE 0 u).flag
        CVn_CFG_CHAIN (bitAt (c.w 0) 10) u).flag CVn_CFG_NOTICE (bitAt (c.w 0) 11) u).flag CVn_CFG_BOUND true u).set
        CVn_CFG_FUNC (c.w 1) u).set CVn_SEL_STREAM 0 u).set CVn_SEL_COPYFN (if 60 ≤ bits (c.w 0) 0 6 then c.w 1 else 0) u).set
        CVn_SEL_K 0 u).set CVn_WIN0_XY (c.w 3) u).set CVn_WIN1_XY (c.w 4) u).set CVn_RES_LO_HANDLE (c.w 5) u).set
        CVn_RES_HI_HANDLE (c.w 6) u).flag CVn_CFG_WORLD false u).set CVn_RUN_VALUE (polyOf (bits (c.w 0) 6 2)).init u).setCv u
        fun t => { t with binder := c.who, running := false, spoiled := false }).ok opCvBind c [u])) ∧
  (∀ (s : State) (c : Call) (u : Nat),
      s.chip.dispatchedCall opCvRead c = true → u < 24 → c.w 0 = u → s.chip.cvNamed c.who u = true → s.chip.parked = false → Runs (.cvRead c) s (s.chip.ok opCvRead c [s.chip.get CVn_FINAL_VALUE u, s.chip.get CVn_COUNT_COUNT u, (s.chip.cvUnit u).sec, (s.chip.cvUnit u).tick])) ∧
  (∀ (s : State) (c : Call) (u : Nat),
      s.chip.dispatchedCall opCvRead c = true → u < 24 → c.w 0 = u + 256 → s.chip.cvNamed c.who u = true → s.chip.parked = false → Runs (.cvRead c) s (s.chip.ok opCvRead c [s.chip.get CVn_RUN_VALUE u, s.chip.get CVn_COUNT_COUNT u, (s.chip.cvUnit u).sec, (s.chip.cvUnit u).tick])) ∧
  (∀ (s : State) (c : Call),
      s.chip.dispatchedCall opCvWrite c = true → s.chip.cvNamed c.who (c.w 0) = true → s.chip.get CVn_CFG_MODE (c.w 0) = 0 → c.w 1 < 2 ^ (s.chip.cvPoly (c.w 0)).width → s.chip.parked = false → Runs (.cvWrite c) s (((s.chip.set CVn_RUN_VALUE (c.w 1) (c.w 0)).setCv (c.w 0) fun t => { t with running := t.running || s.chip.cvOpen (c.w 0) }).ok opCvWrite c [])) ∧
  (∀ (s : State) (c : Call),
      s.chip.dispatchedCall opCvRelease c = true → s.chip.cvNamed c.who (c.w 0) = true → s.chip.get CVn_CFG_MODE (c.w 0) = 0 → s.chip.parked = false → Runs (.cvRelease c) s ((s.chip.cvReleaseUnit (c.w 0)).ok opCvRelease c [])) ∧
  (∀ (s : State) (u : Fin 24) (errs : List PathErr),
      s.chip.get CVn_CFG_TAP u < 16 → s.chip.scanning (s.chip.get CVn_CFG_TAP u) = true → s.chip.on CVn_CFG_BOUND u = true → (s.chip.cvUnit u).inReset = false → (s.chip.cvUnit u).spoiled = false → s.chip.parked = false → RunsW (.cvDataUnitEnd u errs) s (((s.chip.cvFeed u (arrived errs (s.chip.windowBytes (s.chip.get CVn_CFG_TAP u) (s.chip.get CVn_WIN0_XY u) (s.chip.get CVn_WIN1_XY u)))).cvFinal u).1) (((s.chip.cvFeed u (arrived errs (s.chip.windowBytes (s.chip.get CVn_CFG_TAP u) (s.chip.get CVn_WIN0_XY u) (s.chip.get CVn_WIN1_XY u)))).cvFinal u).2))

/-- TIME_QUERY, PPS_MODE_SET, TIME_SET, the latch of R431, PPS edges and timeouts and the trim act as R430 to R442 lay down; queue and memory stay. -/
def Obligations.TimeBaseCommandsComplete : Prop :=
  (∀ (s : State) (c : Call),
      s.chip.dispatchedCall opTimeQuery c = true → s.chip.parked = false → Runs (.timeQuery c) s (s.chip.ok opTimeQuery c [s.chip.get TB_SEC_SEC, s.chip.get TB_TICK_TICK, s.chip.tbStat, s.chip.get TB_TRIM_TPS])) ∧
  (∀ (s : State) (c : Call),
      s.chip.dispatchedCall opPpsModeSet c = true → c.w 0 < 8 → s.chip.parked = false → Runs (.ppsModeSet c) s (let y := ((({ s.chip with tb := { s.chip.tb with f := 0, armed := none, streak := 0, lastEdge := none, parkErr := none, notice := bitAt (c.w 0) 2 } } : Chip).set TB_PPS_CFG_MODE (c.w 0)).flag TB_STAT_ARMED false); ((if y.follow then y else y.slewFreq).tbSource).ok opPpsModeSet c [])) ∧
  (∀ (s : State) (c : Call),
      s.chip.dispatchedCall opTimeSet c = true → s.chip.follow = false → bitAt (c.w 2) 0 = true → c.w 2 < 4 → s.chip.parked = false → Runs (.timeSet c) s (((({ s.chip with tb := { s.chip.tb with armed := some (c.w 0) } } : Chip).flag TB_STAT_ARMED true).deferred opTimeSet c []))) ∧
  (∀ (s : State) (r : RegRead),
      s.chip.present 0 = true → (if r.core then 0 else r.fn.val) = 0 → r.space = .bar0 → r.size = 4 → r.addr.toNat % 4 = 0 → r.addr.toNat ≠ 0x240000 → s.chip.pageOff r.addr.toNat = false → (⟨r.core, r.world, 0, r.addr.toNat, 0⟩ : Writer).violates = false → s.chip.parked = false → Runs (.tbTickRead r) s (s.chip.emit (.regRead r.addr.toNat (s.chip.pageRead (r.core && r.world) r.addr.toNat)))) ∧
  (∀ (s : State) (r : RegRead),
      s.chip.present 0 = true → (if r.core then 0 else r.fn.val) = 0 → r.space = .bar0 → r.size = 4 → r.addr = 0x240000 → s.chip.kennel = false → s.chip.parked = false → Runs (.tbTickRead r) s ((s.chip.set TB_SEC_LAT_SEC (s.chip.get TB_SEC_SEC)).emit (.regRead 0x240000 (s.chip.get TB_TICK_TICK)))) ∧
  (∀ (s : State) (rising : Bool) (l : Nat),
      s.chip.get TB_PPS_CFG_MODE ≠ 0 → rising ≠ s.chip.on TB_PPS_CFG_EDGE → s.chip.tb.lastEdge = some l → ((s.chip.up - l : Nat) : Int) < halfSec → Runs (.ppsInEdge rising) s ((s.chip.sat TB_PPS_GLITCH_COUNT).raise 481)) ∧
  (∀ (s : State),
      s.chip.on TB_STAT_PPS_OK = true → (((s.chip.flag TB_STAT_PPS_OK false).raise 482).follow) = true → Runs (.ppsTimeout) s (((s.chip.flag TB_STAT_PPS_OK false).raise 482).tbSource)) ∧
  (∀ (s : State),
      s.chip.tb.stopped = false → 0 < toS 32 (s.chip.get TB_TRIM_TPS) → Runs (.trimAdjust) s (let y := s.chip.setNow (s.chip.now + (s.chip.cycle + 1)); { y with tb := { y.tb with adj := y.tb.adj + 1 } }.pass))

/-- Each opcode of class 0x4, once dispatched with parameters its row accepts, answers the next state in which its change is queued under the next number, applied at once, or its result words are given. -/
def Obligations.ComposerCommandsComplete : Prop :=
  (∀ (s : State) (c : Call),
      s.chip.dispatchedCall opLayerSet c = true → s.chip.ownsUnit c.fn (c.w 0) = true → s.chip.layerWrong c.fn ((List.range 11).map fun i => c.w (i + 1)) = none → (s.chip.unitQueue (c.w 0)).length < 4 → s.chip.fnFetch32 c.fn (c.w 0) + s.chip.unitRate32 (s.chip.get CP_Ln_OWNER_HEAD (c.w 0)) (lyBytes2 ((List.range 11).map fun i => c.w (i + 1))) ≤ s.chip.get FNf_FETCH_QUOTA_MBPS c.fn * 1000000 * 2 ^ 32 → s.chip.missing (s.chip.get CP_Ln_OWNER_HEAD (c.w 0)) (c.w 0) (lyBytes2 ((List.range 11).map fun i => c.w (i + 1))) = 0 → s.chip.parked = false → Runs (.layerSet c) s (let y := (s.chip.endHold (c.w 0)).queueUnit s.mem (c.w 0) c.fn (.layerSet ((List.range 11).map fun i => c.w (i + 1))); y.deferred opLayerSet c [y.get CP_CHANGE_NUM])) ∧
  (∀ (s : State) (c : Call),
      s.chip.dispatchedCall opLayerRemove c = true → s.chip.ownsUnit c.fn (c.w 0) = true → (s.chip.unitQueue (c.w 0)).length < 4 → s.chip.parked = false → Runs (.layerRemove c) s (let y := (s.chip.endHold (c.w 0)).queueUnit s.mem (c.w 0) c.fn .layerRemove; y.deferred opLayerRemove c [y.get CP_CHANGE_NUM])) ∧
  (∀ (s : State) (c : Call),
      s.chip.dispatchedCall opFlip c = true → s.chip.flipWrong c 0 = none → s.chip.flipRoom (c.w 0) (c.w 3) = true → s.chip.parked = false → Runs (.flip c) s (let y := s.chip.queueFlips s.mem c [0] false; y.deferred opFlip c [y.get CP_CHANGE_NUM])) ∧
  (∀ (s : State) (c : Call),
      s.chip.dispatchedCall opFlipGroup c = true → 2 ≤ c.w 0 → c.w 0 ≤ 8 → (c.words.length != 1 + 6 * c.w 0) = false → (!(((List.range (c.w 0)).map fun j => 1 + 6 * j).map c.w).Nodup || ((((((List.range (c.w 0)).map fun j => 1 + 6 * j).map c.w).filter fun u => s.chip.on CP_Ln_OWNER_BOUND u && decide (u < 96)).map fun u => s.chip.get CP_Ln_OWNER_HEAD u).any (fun h => h != (((((List.range (c.w 0)).map fun j => 1 + 6 * j).map c.w).filter fun u => s.chip.on CP_Ln_OWNER_BOUND u && decide (u < 96)).map fun u => s.chip.get CP_Ln_OWNER_HEAD u).headD 0) || ((((List.range (c.w 0)).map fun j => 1 + 6 * j).map c.w).any fun u => s.chip.ownsUnit c.fn u && s.chip.on CP_Ln_STAT_HELD u))) = false → (((List.range (c.w 0)).map fun j => 1 + 6 * j).findSome? fun i => s.chip.flipWrong c i) = none → (((List.range (c.w 0)).map fun j => 1 + 6 * j).any fun i => !s.chip.flipRoom (c.w i) (c.w (i + 3))) = false → s.chip.parked = false → Runs (.flipGroup c) s (let y := s.chip.queueFlips s.mem c ((List.range (c.w 0)).map fun j => 1 + 6 * j) true; y.deferred opFlipGroup c [y.get CP_CHANGE_NUM])) ∧
  (∀ (s : State) (c : Call),
      s.chip.dispatchedCall opFlipQuery c = true → s.chip.ownsUnit c.fn (c.w 0) = true → s.chip.parked = false → Runs (.flipQuery c) s (s.chip.ok opFlipQuery c [(s.chip.unitQueue (c.w 0)).length, s.chip.get CP_Ln_TAG_NUM (c.w 0), sparseGet s.chip.cp.seqs (c.w 0) 0, s.chip.get CP_Ln_STAT_HELD (c.w 0) + 2 * s.chip.get CP_Ln_STAT_CLIPPED (c.w 0)])) ∧
  (∀ (s : State) (c : Call),
      s.chip.dispatchedCall opToneMapSet c = true → s.chip.toneWrong c = none → s.chip.parked = false → Runs (.toneMapSet c) s (s.chip.headChange s.mem opToneMapSet c (c.w 0) (.tone (c.w 1) ((List.range 9).map fun i => c.w (4 + i) % 65536) (if bitAt (c.w 1) 2 then readBytes s.mem s.chip (c.q 2) 6144 else [])))) ∧
  (∀ (s : State) (c : Call),
      s.chip.dispatchedCall opBackgroundSet c = true → c.w 0 < 16 → s.chip.parked = false → Runs (.backgroundSet c) s (s.chip.headChange s.mem opBackgroundSet c (c.w 0) (.background (c.w 1) (c.w 2 % 65536)))) ∧
  (∀ (s : State) (c : Call) (u : Nat),
      s.chip.dispatchedCall opLayerAssign c = true → (s.chip.headUnits (bits (c.w 0) 0 4))[bits (c.w 0) 4 3]? = some u → c.w 0 < 128 → s.chip.on HDn_STAT_RUN (bits (c.w 0) 0 4) = true → s.chip.on CP_Ln_OWNER_WORLD u = false → (s.chip.layer u).isSome = false → (c.w 1 != 127 && (64 < c.w 1 || s.chip.get FNf_STAT_STATE (c.w 1) = 0)) = false → s.chip.parked = false → Runs (.layerAssign c) s ((s.chip.assignUnit u (if c.w 1 = 127 then none else some (c.w 1))).ok opLayerAssign c [u]))

/-- Arms are taken as snapshots, and a head that scans commits at its commit line and times flips out, as R214 to R218 and R242 to R246 lay down. -/
def Obligations.CommitEventsComplete : Prop :=
  (∀ (s : State) (h : Fin 16),
      s.chip.on HDn_ARM_ARM h = false → s.chip.parked = false → Runs (.hdArm h) s ((s.chip.flag HDn_ARM_ARM true h).setHead h fun q => { q with armed := s.chip.shadowOf h })) ∧
  (∀ (s : State) (h : Fin 16),
      s.chip.on HDn_SARM_ARM h = false → s.chip.parked = false → Runs (.hdSarm h) s ((s.chip.flag HDn_SARM_ARM true h).setHead h fun q => { q with sarmed := s.chip.winShadow h })) ∧
  (∀ (s : State) (h : Fin 16),
      s.chip.parked = false → Runs (.flipTimeout h) s (let seq := if s.chip.get HDn_COMMIT_FRAME_FRAME h = (s.chip.get HDn_FRAME_FRAME h + 1) % 2 ^ 32 then s.chip.get HDn_COMMIT_SEQ_SEQ h else (s.chip.get HDn_COMMIT_SEQ_SEQ h + 1) % 2 ^ 32; let w := (Line.mk s.chip false [] [] []).expire seq [] (s.chip.headUnits h) (s.chip.cp.changes.length + 1); let y := (w.x.updArm h).updFetch h; if w.applied then (y.set HDn_COMMIT_SEQ_SEQ seq h).set HDn_COMMIT_FRAME_FRAME (s.chip.get HDn_FRAME_FRAME h + 1) h else y)) ∧
  (∀ (s : State) (h : Fin 16) (late : LateArms),
      s.chip.scanning h = true → s.chip.parked = false → RunsTo (.commitLine h late) s (
    let y := (((s.chip.forwardCompose s.mem h).raise (192 + 4 * h)).set HDn_SCANPOS_LINE (s.chip.commitAt h) h).set HDn_SCANPOS_PIXEL 0 h
    let y := y.dropExpired h
    let arm := y.on HDn_ARM_ARM h && !late.normal
    let sarm := y.on HDn_SARM_ARM h && !late.secure
    let y := y.onlyIf arm (·.takeArm h)
    let y := y.onlyIf sarm (·.takeSarm h)
    let seq := (y.get HDn_COMMIT_SEQ_SEQ h + 1) % 2 ^ 32
    let w := y.commitChanges h seq (late.changes.map (·.toNat))
    let y := (w.x.updArm h).updFetch h
    let y := if arm || (sarm || w.applied) then
        (y.set HDn_COMMIT_SEQ_SEQ seq h).set HDn_COMMIT_FRAME_FRAME (y.get HDn_FRAME_FRAME h + 1) h
      else y
    let y := (y.onlyIf arm (·.porchTurn h)).raiseIf (arm || sarm) (192 + 4 * h + 1)
    let y := ((y.applyForward h).remap fun e => y.shownOn e.idx = some h.val).markStale h
    let y := ((y.queueWaiting s.mem h).fixFrame h w.applied).forwardCompose s.mem h
    if y.get GL_MODE_PAIR = 1 && (y.bl.mirroring && y.critical h) then
      ({ s.work with x := y.sendHead h (some s.chip) } : Work).blPump
    else { s.work with x := y }))

/-- START_HEAD, STOP_HEAD, HEAD_QUERY, VRR_PORCH_SET and SELF_REFRESH_SET answer the next state and the result words their rows give. -/
def Obligations.HeadCommandsComplete : Prop :=
  (∀ (s : State) (c : Call),
      s.chip.dispatchedCall opStartHead c = true → c.w 0 < 16 → s.chip.startHeadRefusal (c.w 0) = none → s.chip.parked = false → Runs (.startHead c) s ((s.chip.enterStart (c.w 0)).ok opStartHead c [s.chip.get CP_HEADn_CFG_UNITS (c.w 0), mbps32 (s.chip.budget32 (c.w 0))])) ∧
  (∀ (s : State) (c : Call),
      s.chip.dispatchedCall opStopHead c = true → c.w 0 < 16 → s.chip.get HDn_STAT_STATE (c.w 0) ≠ 0 → s.chip.get HDn_STAT_STATE (c.w 0) ≠ 4 → s.chip.parked = false → Runs (.stopHead c) s ((s.chip.setHead (c.w 0) fun q => { q with stops := q.stops ++ [c] }).set HDn_STAT_STATE 3 (c.w 0))) ∧
  (∀ (s : State) (c : Call),
      s.chip.dispatchedCall opStopHead c = true → c.w 0 < 16 → s.chip.get HDn_STAT_STATE (c.w 0) = 4 → s.chip.parked = false → Runs (.stopHead c) s ((s.chip.setHead (c.w 0) fun q => { q with stops := q.stops ++ [c] }).headStopped (c.w 0))) ∧
  (∀ (s : State) (c : Call) (q : Nat × Nat),
      s.chip.dispatchedCall opHeadQuery c = true → c.w 0 < 16 → s.chip.portOf (c.w 0) = some q → s.chip.parked = false → Runs (.headQuery c) s (s.chip.ok opHeadQuery c [s.chip.word [HDn_STAT_RUN, HDn_STAT_PEND_RESTART, HDn_STAT_STATE, HDn_STAT_SR] (c.w 0), s.chip.get HDn_FRAME_FRAME (c.w 0), s.chip.get HDn_COMMIT_SEQ_SEQ (c.w 0), s.chip.get HDn_COMMIT_FRAME_FRAME (c.w 0), s.chip.get HDn_VFP_ACT (c.w 0), s.chip.pixel32 (c.w 0) / (2 ^ 32 * 1000), q.1 + 256 * q.2])) ∧
  (∀ (s : State) (c : Call),
      s.chip.dispatchedCall opVrrPorchSet c = true → c.w 0 < 16 → s.chip.on HDn_STAT_RUN (c.w 0) = true → s.chip.get HDn_VRR_VFP_MIN (c.w 0) ≤ c.w 1 → c.w 1 ≤ s.chip.get HDn_VRR_VFP_MAX (c.w 0) → s.chip.on HDn_ARM_ARM (c.w 0) = false → s.chip.parked = false → Runs (.vrrPorchSet c) s (s.chip.porchGo (c.w 0) (c.w 1) c)) ∧
  (∀ (s : State) (c : Call) (q : Nat × Nat),
      s.chip.dispatchedCall opSelfRefreshSet c = true → c.w 0 < 16 → s.chip.on HDn_STAT_RUN (c.w 0) = true → s.chip.portOf (c.w 0) = some q → s.chip.on DXn_STAT_RUN q.1 = true → c.w 1 = 1 → s.chip.srBarred (c.w 0) = false → s.chip.srSupport q.1 = true → s.chip.get HDn_STAT_SR (c.w 0) = 0 → s.chip.parked = false → Runs (.selfRefreshSet c) s (((s.chip.set HDn_STAT_SR 1 (c.w 0)).setHead (c.w 0) fun q => { q with wantSr := true }).deferred opSelfRefreshSet c []))

/-- Line 0, the safe point, a confirmed line, an underrun and a check window end act on a head that scans as R225, R241, R247 and R252 lay down. -/
def Obligations.HeadEventsComplete : Prop :=
  (∀ (s : State) (h : Fin 16),
      s.chip.scanning h = true → s.chip.parked = false → Runs (.headLine0 h) s (
    let y := ((s.chip.inc HDn_FRAME_FRAME h).set HDn_SCANPOS_LINE 0 h).set HDn_SCANPOS_PIXEL 0 h
    let y := if s.chip.get HDn_STAT_STATE h = 1 then y.set HDn_STAT_STATE 2 h else y
    let y := match (s.chip.head h).porchNext with
      | some p => y.set HDn_VFP_ACT p h
      | none => y
    let y := y.setHead h fun q =>
      { q with porchNext := none, noCompare := false, noCompareNow := (s.chip.head h).noCompare, underNow := false, committed := false,
               now := if q.committed then q.next else { scene := q.now.scene, blank := q.out.2 = 1 }, next := {},
               requeued := if q.requeued = 1 then 2 else q.requeued,
               cmpLeft := if (s.chip.head h).noCompare then 0 else (s.chip.comparing h).length, allMatch := true }
    let y := if s.chip.get HDn_STAT_SR h = 1 then y.set HDn_STAT_SR 2 h else if s.chip.get HDn_STAT_SR h = 3 then y.set HDn_STAT_SR 0 h else y
    let y := match s.chip.portOf h with
      | some q => if s.chip.on DXn_STAT_LINK_UP q.1 then y.setPort q.1 fun p => { p with resume := false } else y
      | none => y
    let cp := { y.cp with spent := y.cp.spent.filter (fun p => p.1 != h.val) }
    ({ y with cp := cp }).forwardCompose s.mem h)) ∧
  (∀ (s : State) (h : Fin 16),
      s.chip.get HDn_STAT_STATE h = 3 → s.chip.parked = false → Runs (.headSafePoint h) s ((let y := s.chip.headStopped h
      if y.get HDn_STAT_STATE h = 4 then
        match y.portOf h with
        | some q => if y.on DXn_STAT_RUN q.1 && y.srSupport q.1 then y.set HDn_STAT_SR 2 h else y
        | none => y
      else y))) ∧
  (∀ (s : State) (h : Fin 16),
      s.chip.get HDn_STAT_STATE h = 2 → (s.chip.head h).suspend = true → s.chip.parked = false → Runs (.headSafePoint h) s ((let y := (s.chip.set HDn_STAT_STATE 4 h).setHead h fun q => { q with suspend := false }
      if y.get HDn_STAT_STATE h = 4 then
        match y.portOf h with
        | some q => if y.on DXn_STAT_RUN q.1 && y.srSupport q.1 then y.set HDn_STAT_SR 2 h else y
        | none => y
      else y))) ∧
  (∀ (s : State) (h : Fin 16) (n : Fin 4320) (t : Bool) (c : LineSlot),
      s.chip.scanning h = true → n.val < s.chip.get HDn_VTIME0_VACTIVE h → s.chip.sends h n (s.chip.ahead h n) = true → s.chip.forwards h = true → (s.chip.slots h n).cur = some c → c.1 = s.chip.keyOf h n ((s.chip.head h).frame (s.chip.ahead h n)).scene → s.chip.parked = false → Runs (.lineConfirm h n t) s ((s.chip.sendForward h n (s.chip.ahead h n) c).forwardCompose s.mem h)) ∧
  (∀ (s : State) (h : Fin 16) (n : Fin 4320),
      s.chip.scanning h = true → n.val < s.chip.get HDn_VTIME0_VACTIVE h → s.chip.sends h n (s.chip.ahead h n) = true → s.chip.forwards h = false → s.chip.parked = false → Runs (.lineConfirm h n false) s ((s.chip.sendHeld h n (s.chip.ahead h n) (s.chip.slots h n).cur ((s.chip.head h).frame (s.chip.ahead h n)).scene).forwardCompose s.mem h)) ∧
  (∀ (s : State) (h : Fin 16) (n : Fin 4320),
      s.chip.scanning h = true → n.val < s.chip.get HDn_VTIME0_VACTIVE h → s.chip.sends h n (s.chip.ahead h n) = true → s.chip.forwards h = false → s.chip.parked = false → Runs (.lineConfirm h n true) s ((s.chip.sendDirect h n (s.chip.ahead h n) (s.chip.keyOf h n ((s.chip.head h).frame (s.chip.ahead h n)).scene, composeLine s.mem s.chip h n ((s.chip.head h).frame (s.chip.ahead h n)).scene) ((s.chip.head h).frame (s.chip.ahead h n)).scene).forwardCompose s.mem h)) ∧
  (∀ (s : State) (h : Fin 16) (n : Fin 4320) (px : Fin 7680),
      s.chip.scanning h = true → n.val < s.chip.get HDn_VTIME0_VACTIVE h → s.chip.parked = false → Runs (.lineUnderrun ⟨h, n, px⟩) s (((s.chip.sat HDn_UNDERRUN_COUNT h).raiseIf (!(s.chip.head h).underNow) (192 + 4 * h + 2)).setHead h fun q => { q.addRow false n ((s.chip.rowOut h n).take px ++ (s.chip.outLine h n (s.chip.head h).now (s.chip.groundLine h (s.chip.head h).now.scene)).drop px) with underNow := true })) ∧
  (∀ (s : State) (h : Fin 16) (k : Fin 4) (errs : List PathErr),
      s.chip.scanning h = true → s.chip.windowLive h k = true → (s.chip.head h).noCompareNow = false → bitAt ((s.chip.head h).windows.getD 13 0) k = true → (s.chip.head h).cmpLeft ≠ 1 → s.chip.parked = false → Runs (.checkWindowEnd h k errs) s (((s.chip.set HDn_CHKk_VAL_VAL (s.chip.windowCrc h k errs) (h * 4 + k)).compareWindow h k (s.chip.windowCrc h k errs = (s.chip.head h).windows.getD (3 * k + 2) 0)).setHead h fun q => { q with cmpLeft := q.cmpLeft - 1, allMatch := q.allMatch && s.chip.windowCrc h k errs = (s.chip.head h).windows.getD (3 * k + 2) 0 }))

/-- START_PORT, STOP_PORT and PORT_QUERY, the loss, retry and training of a link and a hot-plug change act as R253 to R259 lay down. -/
def Obligations.PortCommandsComplete : Prop :=
  (∀ (s : State) (c : Call),
      s.chip.dispatchedCall opStartPort c = true → c.w 0 < 10 → s.chip.on DXn_STAT_RUN (c.w 0) = false → s.chip.heldBlock 4 (c.w 0) = false → s.chip.portRefusal (c.w 0) = none → s.chip.parked = false → Runs (.startPort c) s ((s.chip.enterPort (c.w 0)).ok opStartPort c [])) ∧
  (∀ (s : State) (c : Call),
      s.chip.dispatchedCall opStopPort c = true → c.w 0 < 10 → s.chip.on DXn_STAT_RUN (c.w 0) = true → s.chip.parked = false → Runs (.stopPort c) s ((((s.chip.linkDown (c.w 0)).flag DXn_STAT_RUN false (c.w 0)).setPort (c.w 0) fun q => { q with off := false }).ok opStopPort c [])) ∧
  (∀ (s : State) (c : Call),
      s.chip.dispatchedCall opPortQuery c = true → c.w 0 < 10 → s.chip.get DXn_CTL_TYPE (c.w 0) ≠ 4 → s.chip.parked = false → Runs (.portQuery c) s (s.chip.ok opPortQuery c [s.chip.dxStat (c.w 0), s.chip.dxMap (c.w 0), s.chip.payload (c.w 0) (s.chip.get DXn_STAT_LANES_ACT (c.w 0)) (s.chip.get DXn_STAT_RATE_ACT (c.w 0)) / 462000, (((s.chip.mapped (c.w 0)).filter fun h => s.chip.on HDn_STAT_RUN h).map s.chip.need32).sum / (1000000 * 2 ^ 32)])) ∧
  (∀ (s : State) (p : Fin 10),
      s.chip.on DXn_STAT_RUN p = true → s.chip.on DXn_STAT_LINK_UP p = true → s.chip.parked = false → Runs (.linkLoss p) s ((s.chip.sat DXn_LINKERR_COUNT p).linkDown p)) ∧
  (∀ (s : State) (p : Fin 10),
      s.chip.on DXn_STAT_RUN p = true → s.chip.isDp p = true → s.chip.on DXn_STAT_HPD p = true → s.chip.on DXn_STAT_LINK_UP p = false → (s.chip.port p).training = false → (s.chip.port p).off = false → s.chip.parked = false → Runs (.linkRetryTimer p) s (s.chip.trainPort p)) ∧
  (∀ (s : State) (p : Fin 10),
      s.chip.isDp p = true → s.chip.on DXn_STAT_HPD p = true → s.chip.parked = false → Runs (.hpdChange p false) s (((s.chip.flag DXn_STAT_HPD false p).raise (258 + 3 * p)).setPort p fun q => { q with training := false })) ∧
  (∀ (s : State) (p : Fin 10) (lanes : Fin 8) (rate : Fin 16) (sr : Bool),
      s.chip.on DXn_STAT_RUN p = true → (s.chip.port p).training = true → s.chip.carries p lanes rate (s.chip.mapped p) = true → s.chip.parked = false → Runs (.linkTrainDone p true lanes rate sr) s (s.chip.linkUp p lanes rate sr).headsResume)

/-- START_TOUCH and STOP_TOUCH, a trigger, the end of a report, a failed read and its retry act as R263 to R268 lay down. -/
def Obligations.TouchCommandsComplete : Prop :=
  (∀ (s : State) (c : Call),
      s.chip.dispatchedCall opStartTouch c = true → c.w 0 < 16 → s.chip.on TPn_STAT_RUN (c.w 0) = false → s.chip.heldBlock 5 (c.w 0) = false → s.chip.touchWrong (c.w 0) = none → s.chip.get TPn_CFG_BUS (c.w 0) ≠ 1 → s.chip.parked = false → Runs (.startTouch c) s (((((s.chip).setPend TPn_STAT_PEND_RESTART (c.w 0) false).setTp (c.w 0) fun _ => {}).tpEnter (c.w 0) tpWaiting).ok opStartTouch c [])) ∧
  (∀ (s : State) (c : Call),
      s.chip.dispatchedCall opStopTouch c = true → c.w 0 < 16 → s.chip.tpState (c.w 0) = tpReading → s.chip.parked = false → Runs (.stopTouch c) s (s.chip.setTp (c.w 0) fun q => { q with stops := q.stops ++ [c] })) ∧
  (∀ (s : State) (c : Call),
      s.chip.dispatchedCall opStopTouch c = true → c.w 0 < 16 → s.chip.tpState (c.w 0) ≠ tpReading → s.chip.tpState (c.w 0) ≠ tpStopped → s.chip.parked = false → Runs (.stopTouch c) s ((s.chip.setTp (c.w 0) fun q => { q with stops := q.stops ++ [c] }).tpStop (c.w 0))) ∧
  (∀ (s : State) (n : Fin 16),
      s.chip.tpState n = tpWaiting → s.chip.noWork 5 n = false → s.chip.parked = false → Runs (.touchTrigger n) s ((s.chip.tpEnter n tpReading).emit (.pin 3 [n, s.chip.get TPn_TPL0_REG n, s.chip.get TPn_TPL0_REG_LEN n, s.chip.get TPn_TPL1_READ_LEN n + 1]))) ∧
  (∀ (s : State) (n : Fin 16) (data : List Byte),
      s.chip.tpState n = tpReading → s.chip.parked = false → Runs (.endOfReport n data) s (
    let y := ((s.chip.inc TPn_REPORTS_COUNT n).setTp n fun q => { q with fails := 0 }).tpEnter n tpDelivering
    let y := if y.on TPn_TPL6_ACK_EN n then y.emit (.pin 3 [n, y.get TPn_TPL6_ACK_REG n, y.get TPn_TPL6_ACK_VAL n]) else y
    let ps := y.touchParse n (data.map (·.toNat))
    let y := y.sat TPn_ERR_PARSE n ps.2
    let before := (y.tp n).track
    let d := ps.1.foldl (fun (d : Handing) r => d.record n r) ⟨y, []⟩
    let gone := (List.range 16).filter fun i => (before.any fun c => c.id = i) && !ps.1.any fun (r : TouchRec) => r.id = i
    let d := gone.foldl (fun (d : Handing) i => match (d.x.tp n).track.find? fun c => c.id = i with
      | some c => d.later n c true c.last c.last 0
      | none => d) d
    let z := d.notify n
    let z := if d.items.isEmpty then z else (z.set TH_LAT_MAX_T100NS (max (z.get TH_LAT_MAX_T100NS) (z.free 16))).took
    (z.tpRest n))) ∧
  (∀ (s : State) (n : Fin 16),
      s.chip.tpState n = tpReading → (s.chip.tp n).fails < 2 → s.chip.parked = false → Runs (.touchReadFail n) s (
      let y := (s.chip.sat TPn_ERR_BUS n).setTp n fun q => { q with fails := (s.chip.tp n).fails + 1 }; (if (y.tp n).stops = [] then y.tpEnter n tpRetrying else y.tpStop n))) ∧
  (∀ (s : State) (n : Fin 16),
      s.chip.tpState n = tpReading → 2 ≤ (s.chip.tp n).fails → s.chip.parked = false → Runs (.touchReadFail n) s (
      let r := ((s.chip.sat TPn_ERR_BUS n).setTp n fun q => { q with fails := (s.chip.tp n).fails + 1 }).cancelAll n; (((r.1.notice 0 0x6803 [n, 1, r.2]).raise (288 + 2 * n)).tpRest n))) ∧
  (∀ (s : State) (n : Fin 16),
      s.chip.tpState n = tpReading → (s.chip.tp n).fails < 2 → s.chip.parked = false → Runs (.clockStretchTimeout n) s (
      let y := (s.chip.sat TPn_ERR_BUS n).setTp n fun q => { q with fails := (s.chip.tp n).fails + 1 }; (if (y.tp n).stops = [] then y.tpEnter n tpRetrying else y.tpStop n))) ∧
  (∀ (s : State) (n : Fin 16),
      s.chip.tpState n = tpReading → 2 ≤ (s.chip.tp n).fails → s.chip.parked = false → Runs (.clockStretchTimeout n) s (
      let r := ((s.chip.sat TPn_ERR_BUS n).setTp n fun q => { q with fails := (s.chip.tp n).fails + 1 }).cancelAll n; (((r.1.notice 0 0x6803 [n, 2, r.2]).raise (288 + 2 * n)).tpRest n))) ∧
  (∀ (s : State) (n : Fin 16),
      s.chip.tpState n = tpRetrying → s.chip.parked = false → Runs (.touchRetryTimer n) s (s.chip.tpEnter n tpReading)) ∧
  (∀ (s : State) (c : Call),
      s.chip.dispatchedCall opHitRegionWrite c = true → ((c.words.length - 1) / 4 != bits (c.w 0) 8 8) = false → s.chip.hitWrong c = none → s.chip.on HDn_STAT_RUN (bits (c.w 0) 0 4) = false → bits (c.w 0) 8 8 ≠ 0 → (s.chip.newRecs c.who (bits (c.w 0) 0 4) ((List.range (bits (c.w 0) 8 8)).map (hitWords c)))[if c.world then 256 - ((s.chip.th.hits.filter fun e => e.func = c.who).length + (s.chip.pendingHits.filter fun k => k.1 = c.who).length) else min (1024 - ((s.chip.th.hits.filter fun e => e.func = c.who).length + (s.chip.pendingHits.filter fun k => k.1 = c.who).length)) (3840 - ((s.chip.th.hits.filter fun e => !e.world).length + s.chip.pendingHits.length))]? = none → s.chip.parked = false → Runs (.hitRegionWrite c) s ((s.chip.regionDo c.who (bits (c.w 0) 0 4) (.hitWrite (((List.range (bits (c.w 0) 8 8)).map (hitWords c)).take (bits (c.w 0) 8 8)))).ok opHitRegionWrite c [bits (c.w 0) 8 8])) ∧
  (∀ (s : State) (c : Call),
      s.chip.dispatchedCall opHitRegionClear c = true → c.w 0 < 16 → c.w 1 < 65535 → s.chip.on HDn_STAT_RUN (c.w 0) = false → s.chip.parked = false → Runs (.hitRegionClear c) s ((s.chip.regionDo c.who (c.w 0) (.hitClear (some (c.w 1)))).ok opHitRegionClear c [(s.chip.th.hits.filter fun e => e.func = c.who && (e.head = c.w 0 && e.region = c.w 1)).length]))

/-- HAPTIC_PLAY, HAPTIC_WAVE_LOAD, HAPTIC_CALIBRATE, HAPTIC_LIMIT_SET and a GO write act as R276 to R287 lay down. -/
def Obligations.HapticCommandsComplete : Prop :=
  (∀ (s : State) (c : Call),
      s.chip.dispatchedCall opHapticPlay c = true → c.world = false → (c.fn != 0 && s.chip.get HPn_OWNER_FUNC (bits (c.w 0) 0 4) != c.fn) = false → s.chip.playable (bits (c.w 0) 0 4) (bits (c.w 0) 8 8) = true → c.w 1 ≤ 255 → s.chip.noWork 6 (bits (c.w 0) 0 4) = false → s.chip.parking = false → s.chip.hpPhase (bits (c.w 0) 0 4) = hpIdle → s.chip.parked = false → Runs (.hapticPlay c) s (((s.chip.setHp (bits (c.w 0) 0 4) fun q => { q with cur := some ⟨bits (c.w 0) 8 8, c.w 1, c.fn, s.chip.get FNf_GEN_GEN c.fn, bitAt (c.w 0) 16⟩, armed := true }).set HPn_STAT_PHASE hpAttack (bits (c.w 0) 0 4)).ok opHapticPlay c [0])) ∧
  (∀ (s : State) (c : Call),
      s.chip.dispatchedCall opHapticWaveLoad c = true → s.chip.wavePlays (bits (c.w 0) 0 8) = false → bits (c.w 0) 8 2 = 2 → bits (c.w 0) 10 3 ≤ 2 → bits (c.w 0) 20 4 ≤ 8 → (s.chip.ownRange c.fn (c.q 1) (2 * c.w 3) guestClasses).isNone = false → 0 < c.w 3 → ((s.chip.hp.waves.filter fun p => p.1 != (bits (c.w 0) 0 8)).map fun p => p.2.length).sum + c.w 3 ≤ 131072 → s.chip.parked = false → Runs (.hapticWaveLoad c) s (
      let w := bits (c.w 0) 0 8; let x := s.chip; let n := c.w 3
      let y := x.setWaves ((x.hp.waves.filter fun p => p.1 != w) ++ [(w, halves (readBytes s.mem x (c.q 1) (2 * n)))])
      let y := ((y.set HP_WAVEw_OFFSET (x.free 17) w).took.set HP_WAVEw_LEN n w).set HP_WAVEw_MODE 2 w
      ((((y.set HP_WAVEw_RATE (bits (c.w 0) 10 3) w).set HP_WAVEw_ATTACK (bits (c.w 0) 16 4) w).set HP_WAVEw_BRAKE (bits (c.w 0) 20 4) w).ok opHapticWaveLoad c []))) ∧
  (∀ (s : State) (c : Call) (n : Nat),
      s.chip.dispatchedCall opHapticCalibrate c = true → c.w 0 < 65536 → ((List.range 16).filter fun n => bitAt (c.w 0) n) = [n] → (s.chip.hpPhase n = hpIdle || s.chip.hpPhase n = hpFault) = true → s.chip.noWork 6 n = false → s.chip.parked = false → Runs (.hapticCalibrate c) s (({ s.chip with hp := { s.chip.hp with cals := s.chip.hp.cals ++ [⟨c, [n], [], 0, 0⟩] } } : Chip).hpCalibrate n)) ∧
  (∀ (s : State) (c : Call),
      s.chip.dispatchedCall opHapticLimitSet c = true → c.w 0 < 65536 → 60 ≤ bits (c.w 2) 0 9 → bits (c.w 2) 16 9 ≤ 400 → bits (c.w 2) 0 9 < bits (c.w 2) 16 9 → 24 ≤ bits (c.w 3) 0 7 → bits (c.w 3) 0 7 ≤ 96 → s.chip.parked = false → Runs (.hapticLimitSet c) s ((((List.range 16).filter fun n => bitAt (c.w 0) n).foldl (fun (y : Chip) n => if y.hpPhase n = hpIdle then y.hpLimits n (c.w 1) (c.w 2) (c.w 3) else y.setHp n fun q => { q with limits := [c.w 1, c.w 2, c.w 3] }) s.chip).ok opHapticLimitSet c [])) ∧
  (∀ (s : State) (n : Fin 16) (v : Word),
      bitAt v.toNat 16 = true → s.chip.parked = false → Runs (.hpTrigGo n v) s ((s.chip.hpTrigger n ⟨bits v.toNat 0 8, bits v.toNat 8 8, 0, s.chip.get FNf_GEN_GEN 0, false⟩).1))

/-- The events of a haptic channel end its phases, its measurements and its calibration as R278 to R285 lay down. -/
def Obligations.HapticEventsComplete : Prop :=
  (∀ (s : State) (n : Fin 16),
      (s.chip.hpCh n).armed = true → s.chip.parked = false → Runs (.pwmPeriodStart n) s (s.chip.hpDrive n)) ∧
  (∀ (s : State) (n : Fin 16) (e : Nat),
      (s.chip.hpCh n).toBrake = some e → s.chip.hpPhase n = hpAttack → (s.chip.hpCh n).armed = false → s.chip.parked = false → Runs (.driveHalfCycle n) s (s.chip.hpToBrake n e)) ∧
  (∀ (s : State) (n : Fin 16),
      s.chip.hpPhase n = hpAttack → (s.chip.hpCh n).armed = false → s.chip.parked = false → Runs (.attackEnd n) s (s.chip.hpEnter n hpSustain)) ∧
  (∀ (s : State) (n : Fin 16),
      s.chip.hpPhase n = hpSustain → s.chip.parked = false → Runs (.sustainEnd n) s (s.chip.hpToBrake n 0)) ∧
  (∀ (s : State) (n : Fin 16),
      s.chip.hpPhase n = hpBrake → s.chip.parked = false → Runs (.brakeEnd n) s (s.chip.hpNext n (s.chip.hpCh n).ending)) ∧
  (∀ (s : State) (n : Fin 16) (p : BitVec 12),
      (s.chip.hpCh n).window = true → p.toNat < s.chip.get HPn_LIMIT_OPEN_THR n * 4 → s.chip.parked = false → Runs (.openLoadWindowEnd n p) s (s.chip.hpMissing n)) ∧
  (∀ (s : State) (n : Fin 16) (p : BitVec 12),
      (s.chip.hpCh n).window = true → s.chip.get HPn_LIMIT_OPEN_THR n * 4 ≤ p.toNat → s.chip.parked = false → Runs (.openLoadWindowEnd n p) s (s.chip.setHp n fun q => { q with window := false })) ∧
  (∀ (s : State) (n : Fin 16) (g : Gap) (t : Trig),
      (s.chip.hpCh n).cur = some t → s.chip.hpPhase n = hpSustain → s.chip.on HPn_CFG_TYPE n = false → (s.chip.hpCh n).first = true → g.emf.toNat * 10 * s.chip.get HPn_LIMIT_AMP_MAX n < s.chip.get HPn_F0_BEMF_REF n * g.drive.toNat → s.chip.parked = false → Runs (.bemfGap n g) s ((s.chip.hpTell n 2).hpNext n 2)) ∧
  (∀ (s : State) (n : Fin 16) (g : Gap) (t : Trig),
      (s.chip.hpCh n).cur = some t → s.chip.hpPhase n = hpBrake → s.chip.waveMode t.wave = 1 → g.emf.toNat * 20 < s.chip.get HPn_F0_BEMF_REF n → s.chip.parked = false → Runs (.bemfGap n g) s (s.chip.hpNext n (s.chip.hpCh n).ending)) ∧
  (∀ (s : State) (n : Fin 16) (m : RingDown),
      s.chip.hpPhase n = hpCalib → m.peak.toNat < s.chip.get HPn_LIMIT_OPEN_THR n * 4 → s.chip.parked = false → Runs (.calibrationDone n m) s (((((s.chip.set HPn_CAL_RESULT 2 n).raise (321 + 2 * n)).hpTell n 1).hpCalReply n false).hpRest n hpFault)) ∧
  (∀ (s : State) (n : Fin 16) (m : RingDown),
      s.chip.hpPhase n = hpCalib → s.chip.get HPn_LIMIT_OPEN_THR n * 4 ≤ m.peak.toNat → s.chip.on HPn_CFG_TYPE n = false → 4 ≤ m.crossings → s.chip.get HPn_FBAND_FMIN n * 10 ≤ m.freq → m.freq ≤ s.chip.get HPn_FBAND_FMAX n * 10 → s.chip.parked = false → Runs (.calibrationDone n m) s (let y := (((((s.chip.set HPn_CAL_RESULT 1 n).raise (321 + 2 * n)).set HPn_F0_F0 m.freq n).set HPn_F0_BEMF_REF m.ref.toNat n).flag HPn_STAT_F0_VALID true n); ((((y.flag HPn_STAT_TRACK false n).flag HPn_STAT_DRIFT false n).flag HPn_STAT_MISSING false n).hpCalReply n true).hpRest n hpIdle))

/-- Each opcode of class 0x7, once dispatched with parameters its row accepts, answers the next state and the result words the rules give; queue and memory stay. -/
def Obligations.AudioCommandsComplete : Prop :=
  (∀ (s : State) (c : Call),
      s.chip.dispatchedCall opStartAudio c = true → c.w 0 < 3 → s.chip.on AU_DOMx_STAT_RUN (c.w 0) = false → s.chip.heldSub 2 = false → s.chip.rs.bypass = false → s.chip.domRefusal (c.w 0) = none → s.chip.parked = false → Runs (.startAudio c) s ((s.chip.enterDom (c.w 0)).ok opStartAudio c [])) ∧
  (∀ (s : State) (c : Call),
      s.chip.dispatchedCall opStopAudio c = true → c.w 0 < 3 → s.chip.on AU_DOMx_STAT_RUN (c.w 0) = true → s.chip.parked = false → Runs (.stopAudio c) s ((s.chip.routeCut (c.w 0)).setAdom (c.w 0) fun q => { q.fadeOut (s.chip.rampTicks (c.w 0)) with stops := q.stops ++ [c] })) ∧
  (∀ (s : State) (c : Call) (g : AGraph),
      s.chip.dispatchedCall opAudioGraphLoad c = true → c.w 0 < 3 → (s.chip.ownRange c.fn (c.q 1) (c.w 3) (List.range 16)).isNone = false → 16 ≤ c.w 3 → (c.w 3 != 16 + 8 * (leNat (((readBytes s.mem s.chip (c.q 1) (c.w 3)).drop 4).take 2) + leNat (((readBytes s.mem s.chip (c.q 1) (c.w 3)).drop 6).take 2))) = false → (s.chip.adom (c.w 0)).route = 0 → (s.chip.readGraph (c.w 0) (readBytes s.mem s.chip (c.q 1) (c.w 3))).toOption = some g → s.chip.on AU_DOMx_STAT_RUN (c.w 0) = false → g.slots ≤ s.chip.get AU_STORE_FREE + s.chip.progSlots (c.w 0) → s.chip.parked = false → Runs (.audioGraphLoad c) s (((s.chip.setAdom (c.w 0) fun q => { q with graph := some g }).updStore).ok opAudioGraphLoad c [g.slots, g.nodes.length, g.edges.length])) ∧
  (∀ (s : State) (c : Call) (e : AStream) (p : Nat × Nat),
      s.chip.dispatchedCall opAudioGainSet c = true → (bits (c.w 0) 1 7 != 0 || (bits (c.w 0) 10 6 != 0 || bits (c.w 0) 22 10 != 0)) = false → bitAt (c.w 0) 0 = false → s.chip.stream (bits (c.w 0) 16 6) = some e → (s.chip.get AU_EPe_OWNER_FUNC (bits (c.w 0) 16 6) != c.fn || (e.fn != c.fn || e.gen != s.chip.genOf c.fn)) = false → c.w 2 < 65536 → gainOk (c.w 2) = true → s.chip.epNamed (bits (c.w 0) 16 6) = some p → s.chip.parked = false → Runs (.audioGainSet c) s (((s.chip.set AU_EPe_GAIN_GAIN (c.w 2) (bits (c.w 0) 16 6)).setStream { e with ramp := e.ramp.to (gainAmp (c.w 2)) (s.chip.rampTicks p.1) }).ok opAudioGainSet c [])) ∧
  (∀ (s : State) (c : Call),
      s.chip.dispatchedCall opAudioStreamOpen c = true → bits (c.w 0) 6 2 = 0 → bitAt (c.w 0) 14 = false → bits (c.w 0) 15 1 = 0 → bits (c.w 0) 24 8 = 0 → bits (c.w 0) 12 2 ≠ 3 → s.chip.get AU_EPe_OWNER_FUNC (bits (c.w 0) 0 6) = c.fn → (s.chip.stream (bits (c.w 0) 0 6)).isSome = false → s.chip.epNamed (bits (c.w 0) 0 6) = none → (s.chip.ownRange c.fn (c.q 1) (streamBytes (clampN (c.w 3) 2 10) (bits (c.w 0) 9 3) (bits (c.w 0) 12 2)) [6]).isNone = false → hOffset (c.q 1) = 0 → 2 ≤ c.w 3 → c.w 3 ≤ 10 → c.w 4 < 65536 → gainOk (c.w 4) = true → s.chip.get FNf_AUDIO_USE c.fn < s.chip.get FNf_AUDIO_QUOTA c.fn → s.chip.parked = false → Runs (.audioStreamOpen c) s ((s.chip.openStream ⟨bits (c.w 0) 0 6, c.fn, s.chip.genOf c.fn, c.q 1, c.w 3, 0, 0, 0, 0, false, [], Ramp.up (gainAmp (c.w 4)) 0, [], false⟩ (bits (c.w 0) 8 1) (bits (c.w 0) 9 3) (bits (c.w 0) 12 2) (c.w 4) false).ok opAudioStreamOpen c [16 * ((bits (c.w 0) 9 3 + 1) * sampleBytes (bits (c.w 0) 12 2))])) ∧
  (∀ (s : State) (c : Call) (e : AStream),
      s.chip.dispatchedCall opAudioStreamClose c = true → c.w 0 < 64 → s.chip.stream (c.w 0) = some e → (e.fn != c.fn || (e.gen != s.chip.genOf c.fn || s.chip.on AU_EPe_STAT_SKEIN e.ep)) = false → s.chip.on AU_EPe_STAT_CLOSING e.ep = false → s.chip.parked = false → Runs (.audioStreamClose c) s ((s.chip.beginClose e.ep).deferred opAudioStreamClose c [])) ∧
  (∀ (s : State) (c : Call) (d : Nat),
      s.chip.dispatchedCall opTonePlay c = true → s.chip.genDom 7 (bits (c.w 0) 0 4) = some d → (s.chip.get AU_TONEg_OWNER_FUNC (bits (c.w 0) 0 4) != c.fn && c.fn != 0) = false → bitAt (c.w 5) 31 = false → toneWrong c (s.chip.get AU_DOMx_RATE_HZ d) = none → s.chip.get AU_TONEg_STAT_PHASE (bits (c.w 0) 0 4) = 0 → s.chip.parked = false → Runs (.tonePlay c) s (((s.chip.toneStart (bits (c.w 0) 0 4) ⟨(List.range 6).map c.w, c.fn, s.chip.genOf c.fn⟩).signalDone false (bits (c.w 0) 0 4) 1 (s.chip.au.tones.getD (bits (c.w 0) 0 4) {}).cur).ok opTonePlay c [0])) ∧
  (∀ (s : State) (c : Call) (d : Nat),
      s.chip.dispatchedCall opBeepPlay c = true → s.chip.genDom 8 (bits (c.w 0) 0 3) = some d → (s.chip.get AU_BEEPb_OWNER_FUNC (bits (c.w 0) 0 3) != c.fn && c.fn != 0) = false → 100 ≤ c.w 1 → 20 * c.w 1 ≤ 9 * s.chip.get AU_DOMx_RATE_HZ d → 5 ≤ bits (c.w 2) 0 16 → bits (c.w 2) 0 16 ≤ 2000 → bits (c.w 2) 16 8 ≠ 0 → (s.chip.au.beeps.getD (bits (c.w 0) 0 3) {}).cur = none → s.chip.parked = false → Runs (.beepPlay c) s (((s.chip.beepStart (bits (c.w 0) 0 3) ⟨(List.range 3).map c.w, c.fn, s.chip.genOf c.fn⟩).signalDone true (bits (c.w 0) 0 3) 1 none).ok opBeepPlay c [0]))

/-- Ticks, blocks, ramp ends, clock loss and return, bridge locks, pattern phases and coefficient commits act as R290 to R311 lay down. -/
def Obligations.AudioEventsComplete : Prop :=
  (∀ (s : State) (d : Fin 3) (tdm : List TdmIn),
      s.chip.domLive d = true → s.chip.parked = false → RunsW (.audioTick ⟨d, tdm⟩) s (
      let k := (s.chip.tdmFrames d tdm).setAdom d fun q => { q with tdm := (tdm.map fun t => takenFrame t (q.tdm.getD 0 [])) :: q.tdm.take 3 }
      let outs := k.runGraph d
      let y := (outs.filter fun o => o.node.kind = 2).foldl (fun (y : Chip) o => y.tdmOut o.node ((k.adom d).open_ * o.value)) k
      let ss := y.au.streams.map fun q => if k.epLive q.ep = some d.val then
          let q := k.takeCapture outs q
          { q with ramp := q.ramp.tick }
        else q
      let r := y.tdmTaps d outs
      ({ r.1 with au.streams := ss }.soundTick d outs).setAdom d fun q =>
        { q.onEdges fun e => { e with ramp := e.ramp.tick } with tick := (q.tick + 1) % 16, mute := q.mute.map (· - 1) }) (
      let k := (s.chip.tdmFrames d tdm).setAdom d fun q => { q with tdm := (tdm.map fun t => takenFrame t (q.tdm.getD 0 [])) :: q.tdm.take 3 }
      let outs := k.runGraph d
      let y := (outs.filter fun o => o.node.kind = 2).foldl (fun (y : Chip) o => y.tdmOut o.node ((k.adom d).open_ * o.value)) k
      (y.tdmTaps d outs).2)) ∧
  (∀ (s : State) (d : Fin 3),
      s.chip.on AU_DOMx_STAT_RUN d = true → (s.chip.adom d).halted = false → s.chip.parked = false → RunsTo (.audioBlockBoundary d) s (
      let y := (s.chip.inc AU_DOMx_BLOCKS_COUNT d).setAdom d fun q => { q with tick := 0 }
      let y := (y.takeBq (y.usesBq d)).glideStep d
      let r := (y.au.streams.filter fun e => y.epLive e.ep = some d.val).foldl (fun (a : Chip × List (Nat × Byte)) e => ((a.1.moveBlock s.mem d e).1, a.2 ++ (a.1.moveBlock s.mem d e).2)) (y, [])
      let z := if d.val = 2 && s.chip.on AU_DOMx_CTL_SRC 2 then r.1.trimC else r.1
      let z := if (z.adom d).route = 2 then z.routeSwap d else z
      let a := z.adom d
      let z := if a.mute = some 0 && a.stops != [] then z.domStopped d
        else if a.mute = some 0 && a.suspend then (z.setAdom d fun q => { q with halted := true, suspend := false }).fadeFrom d
        else z
      (s.work.put (z, r.2)).pump)) ∧
  (∀ (s : State) (e : Fin 64) (q : AStream),
      s.chip.stream e = some q → s.chip.on AU_EPe_STAT_CLOSING e = false → s.chip.parked = false → Runs (.gainRampEnd (.stream e)) s (s.chip.setStream { q with ramp := q.ramp.finish })) ∧
  (∀ (s : State) (e : Fin 64) (q : AStream),
      s.chip.stream e = some q → s.chip.on AU_EPe_STAT_CLOSING e = true → s.chip.parked = false → Runs (.gainRampEnd (.stream e)) s (s.chip.closeStream e)) ∧
  (∀ (s : State) (d : Fin 3) (a b : BitVec 16),
      s.chip.parked = false → Runs (.gainRampEnd (.edge d a b)) s (s.chip.setAdom d fun q => { q with graph := q.graph.map fun g => { g with edges := updFirst g.edges (fun e => e.src = a.toNat && e.dst = b.toNat) fun e => { e with ramp := e.ramp.finish } } })) ∧
  (∀ (s : State) (d : Fin 3),
      s.chip.parked = false → Runs (.gainRampEnd (.outputs d)) s (s.chip.setAdom d fun q => { q with mute := q.mute.map fun _ => 0 })) ∧
  (∀ (s : State) (d : Fin 3),
      (s.chip.adom d).halted = false → (s.chip.adom d).route = 1 → s.chip.parked = false → Runs (.routeRampEnd d) s (s.chip.setAdom d fun q => { q with route := 2 })) ∧
  (∀ (s : State) (d : Fin 3),
      (s.chip.adom d).halted = false → (s.chip.adom d).route = 3 → s.chip.parked = false → Runs (.routeRampEnd d) s ((s.chip.setAdom d fun q => q.onEdges fun e => { e with ramp := e.ramp.finish }).routeEnd d true)) ∧
  (∀ (s : State),
      s.chip.on AU_DOMx_STAT_RUN 2 = true → s.chip.on AU_DOMx_CTL_SRC 2 = false → s.chip.on AU_DOMx_STAT_CLK_OK 2 = true → s.chip.parked = false → Runs .audioClockLost s (
      let y := (s.chip.flag AU_DOMx_STAT_CLK_OK false 2).sat AU_DOMx_CLKLOSS_COUNT 2; let y := (y.fadeFrom 2).setAdom 2 fun q => { q with halted := true, resume := false }; ((((y.sendZero 2).flag AU_TDMn_STAT_FS_SEEN false (y.get AU_DOMx_CTL_SRC_PORT 2)).raise 358).notice 0 0x7804 [2, 0]))) ∧
  (∀ (s : State),
      s.chip.on AU_DOMx_STAT_RUN 2 = true → s.chip.on AU_DOMx_CTL_SRC 2 = false → s.chip.on AU_DOMx_STAT_CLK_OK 2 = false → s.chip.parked = false → Runs (.audioClockRegained) s (((((s.chip.flag AU_DOMx_STAT_CLK_OK true 2).flag AU_TDMn_STAT_FS_SEEN true (s.chip.get AU_DOMx_CTL_SRC_PORT 2)).setAdom 2 fun q => { q with resume := true }).raise 359).notice 0 0x7804 [2, 1])) ∧
  (∀ (s : State) (b : Fin 16),
      s.chip.bridgeFed b = true → s.chip.parked = false → Runs (.bridgeLock b) s (s.chip.bridgeOpen b (s.chip.rampTicks (s.chip.get AU_BRk_CFG_TO b)))) ∧
  (∀ (s : State) (g : Fin 16) (p : Pattern),
      (s.chip.au.tones.getD g {}).cur = some p → s.chip.get AU_TONEg_STAT_PHASE g = 1 → s.chip.parked = false → Runs (.tonePhaseEnd g) s ((s.chip.setTone_ g fun q => { q with pos := 0, level := 1 }).set AU_TONEg_STAT_PHASE 2 g)) ∧
  (∀ (s : State) (g : Fin 16) (p : Pattern),
      (s.chip.au.tones.getD g {}).cur = some p → s.chip.get AU_TONEg_STAT_PHASE g = 2 → bits (p.words.getD 4 0) 0 16 ≠ 0 → s.chip.parked = false → Runs (.tonePhaseEnd g) s ((s.chip.setTone_ g fun q => { q with pos := 0, level := 1 }).set AU_TONEg_STAT_PHASE 3 g)) ∧
  (∀ (s : State) (g : Fin 16) (p : Pattern),
      (s.chip.au.tones.getD g {}).cur = some p → s.chip.get AU_TONEg_STAT_PHASE g = 4 → (s.chip.au.tones.getD g {}).reps = some 1 → s.chip.parked = false → Runs (.tonePhaseEnd g) s (s.chip.toneOver g 0)) ∧
  (∀ (s : State) (g : Fin 8) (p : Pattern),
      (s.chip.au.beeps.getD g {}).cur = some p → (s.chip.au.beeps.getD g {}).gap = false → (s.chip.au.beeps.getD g {}).next = none → (s.chip.au.beeps.getD g {}).stop = false → 2 ≤ (s.chip.au.beeps.getD g {}).left → s.chip.parked = false → Runs (.beepBurstEnd g) s (s.chip.setBeep g fun q => { q with left := q.left - 1, gap := bits (p.words.getD 2 0) 24 8 != 0, clock := 0 })) ∧
  (∀ (s : State) (g : Fin 8) (p q : Pattern),
      (s.chip.au.beeps.getD g {}).cur = some p → (s.chip.au.beeps.getD g {}).gap = false → (s.chip.au.beeps.getD g {}).next = some q → s.chip.parked = false → Runs (.beepBurstEnd g) s ((s.chip.beepStart g q).signalDone true g 1 (some p))) ∧
  (∀ (s : State) (g : Fin 8),
      (s.chip.au.beeps.getD g {}).gap = true → s.chip.parked = false → Runs (.beepGapEnd g) s (s.chip.setBeep g fun q => { q with gap := false, clock := 0 })) ∧
  (∀ (s : State) (v : Word),
      bitAt v.toNat 0 = true → s.chip.parked = false → Runs (.bqCommitGo v) s (
      let new := s.chip.au.bqDirty.map fun i => (i, (List.range 5).map fun k => s.chip.get AU_BQs_COEF (i * 5 + k))
      (({ s.chip with au := { s.chip.au with bqDirty := [], bqWait := (s.chip.au.bqWait.filter fun p => !new.any fun q => q.1 = p.1) ++ new } } : Chip).takeBq fun i => !s.chip.bqUsed i)))

/-- Each opcode of class 0x8, once dispatched with parameters its row accepts, answers the next state and the result words R343 gives. -/
def Obligations.SkeinCommandsComplete : Prop :=
  (∀ (s : State) (c : Call),
      s.chip.dispatchedCall opStartSkein c = true → c.words.length = 1 → c.w 0 < 2 → s.chip.on SKn_STAT_RUN (c.w 0) = false → bits (c.w 0) 0 1 = c.w 0 → s.chip.heldSub (4 + c.w 0) = false → s.chip.skRefusal (c.w 0) = none → s.chip.parked = false → Runs (.startSkein c) s ((s.chip.enterSkein (c.w 0)).ok opStartSkein c [])) ∧
  (∀ (s : State) (c : Call),
      s.chip.dispatchedCall opSkeinStreamUnbind c = true → c.words.length = 1 → s.chip.on SKn_STAT_RUN (skArgs c).1 = false → skStray c 0 = false → s.chip.skKind (skArgs c).1 (skArgs c).2 ≠ 0 → s.chip.parked = false → Runs (.skeinStreamUnbind c) s ((((s.chip.skUnbind (skArgs c).1 (skArgs c).2).reapFences).reapFrees).ok opSkeinStreamUnbind c [])) ∧
  (∀ (s : State) (c : Call),
      s.chip.dispatchedCall opSkeinQuery c = true → c.words.length = 1 → skStray c (2 ^ 31) = false → bitAt (c.w 0) 31 = false → (c.fn != 0 && (s.chip.skKind (skArgs c).1 (skArgs c).2 = 0 || s.chip.skFn (skArgs c).1 (skArgs c).2 != c.fn)) = false → s.chip.parked = false → Runs (.skeinQuery c) s (s.chip.ok opSkeinQuery c [s.chip.skStat (skArgs c).1, s.chip.get SKn_RXBUF_UNITS (skArgs c).1, s.chip.word [SKn_STs_CFG_KIND, SKn_STs_CFG_DROP, SKn_STs_CFG_FENCE_EN, SKn_STs_CFG_CREDIT_MAX] (stIx (skArgs c).1 (skArgs c).2), s.chip.get SKn_STs_CREDIT_UNITS (stIx (skArgs c).1 (skArgs c).2), s.chip.get SKn_STs_FRAMES_COUNT (stIx (skArgs c).1 (skArgs c).2), s.chip.word [SKn_STs_DROP_DROP, SKn_STs_DROP_TRUNC] (stIx (skArgs c).1 (skArgs c).2)])) ∧
  (∀ (s : State) (c : Call),
      s.chip.dispatchedCall opSkeinStreamBind c = true → c.words.length = 6 → s.chip.on SKn_STAT_RUN (skArgs c).1 = false → skStray c 0x1F0000 = false → s.chip.skKind (skArgs c).1 (skArgs c).2 = 0 → bits (c.w 0) 16 3 = 1 → c.w 1 ≤ 64 → s.chip.get FNf_STAT_STATE (c.w 1) ≠ 0 → hOffset (c.q 2) = 0 → (s.chip.ownRange (c.w 1) (c.q 2) (4096 + (bits (c.w 4) 0 6 + 1) * bits (c.w 4) 16 14 * 4096) [1, 3, 5]).isNone = false → bits (c.w 4) 16 14 ≠ 0 → (bitAt (c.w 0) 20 && !s.chip.ownsFence (c.w 1) (bits (c.w 5) 16 12)) = false → s.chip.parked = false → Runs (.skeinStreamBind c) s (
      let p := (skArgs c).1; let e := (skArgs c).2; let n := stIx p e; let f := c.w 1
      let y := ((s.chip.set SKn_STs_CFG_KIND 1 n).flag SKn_STs_CFG_DROP (bitAt (c.w 0) 19) n).flag SKn_STs_CFG_FENCE_EN (bitAt (c.w 0) 20) n
      let y := ((y.set SKn_STs_CFG_CREDIT_MAX (bits (c.w 5) 0 12) n).set SKn_STs_BIND_FUNC f n).set SKn_STs_BIND_ENDPOINT 0 n
      let y := ((y.set SKn_STs_BIND_GEN (s.chip.genOf f) n).flag SKn_STs_BIND_ORPHAN false n).set SKn_STs_HANDLE_LO_HANDLE (c.w 2) n
      let y := ((y.set SKn_STs_HANDLE_HI_HANDLE (c.w 3) n).set SKn_STs_RING_NSLOT (bits (c.w 4) 0 6) n).set SKn_STs_RING_SLOT (bits (c.w 4) 16 14) n
      let y := (y.set SKn_STs_RING_FENCE (bits (c.w 5) 16 12) n).resetFields [SKn_STs_CREDIT_UNITS, SKn_STs_FRAMES_COUNT, SKn_STs_DROP_DROP, SKn_STs_DROP_TRUNC] n
      (((y.setSp p fun q => { q with streams := q.streams ++ [{ st := e }] }).updRxbuf p).ok opSkeinStreamBind c []))) ∧
  (∀ (s : State) (c : Call),
      s.chip.dispatchedCall opStopSkein c = true → c.words.length = 1 → c.w 0 < 2 → s.chip.on SKn_STAT_RUN (bits (c.w 0) 0 1) = true → s.chip.parked = false → RunsTo (.stopSkein c) s ((s.work.on fun y => y.setLk (bits (c.w 0) 0 1) fun q => { q with stops := q.stops ++ [c] }).beginStop (bits (c.w 0) 0 1)))

/-- Flits, credits, marks, training, acknowledgements, closes, timeouts and egress frames act on the port, its streams and memory as R325 to R339 lay down; what they store is the pieces of work named. -/
def Obligations.SkeinEventsComplete : Prop :=
  (∀ (s : State) (p : Fin 2) (h : FlitHdr) (data : List Byte),
      h.ackV = false → s.chip.skHears p = true → h.seq.val = (s.chip.lk p).rxSeq → skIn (s.chip.skKind p h.stream) = true → s.chip.skCredit p h.stream ≠ 0 → s.chip.parked = false → RunsTo (.skeinData p h data) s (let y := (s.chip.setLk p fun q => { q with rxSeq := (q.rxSeq + 1) % 1024, ackV := true, nakAt := none }).setCredit p h.stream (s.chip.skCredit p h.stream - 1); ({ s.work with x := if y.on SKn_STs_BIND_ORPHAN (stIx p h.stream) then y else y.setStrm p h.stream fun t => { t with fifo := t.fifo ++ [.data ((data.take 56).map (·.toNat))] } } : Work).after p)) ∧
  (∀ (s : State) (p : Fin 2) (h : FlitHdr) (data : List Byte),
      s.chip.skHears p = true → ((s.work.header p h).x.lkTake p h.seq.val).2 = true → skIn (((s.work.header p h).x.lkTake p h.seq.val).1.skKind p h.stream) = true → ((s.work.header p h).x.lkTake p h.seq.val).1.skCredit p h.stream ≠ 0 → s.chip.parked = false → RunsTo (.skeinData p h data) s (
      let w := s.work.header p h; let y := (w.x.lkTake p h.seq.val).1; let y := y.setCredit p h.stream (y.skCredit p h.stream - 1); (({ w with x := if y.on SKn_STs_BIND_ORPHAN (stIx p h.stream) then y else y.setStrm p h.stream fun t => { t with fifo := t.fifo ++ [.data ((data.take 56).map (·.toNat))] } } : Work).after p))) ∧
  (∀ (s : State) (p : Fin 2) (h : FlitHdr) (tag : Word),
      h.ackV = false → s.chip.skHears p = true → h.seq.val = (s.chip.lk p).rxSeq → skIn (s.chip.skKind p h.stream) = true → s.chip.skCredit p h.stream ≠ 0 → s.chip.parked = false → RunsTo (.skeinMarkStart p h tag) s (let y := (s.chip.setLk p fun q => { q with rxSeq := (q.rxSeq + 1) % 1024, ackV := true, nakAt := none }).setCredit p h.stream (s.chip.skCredit p h.stream - 1); ({ s.work with x := if y.on SKn_STs_BIND_ORPHAN (stIx p h.stream) then y else y.setStrm p h.stream fun t => { t with fifo := t.fifo ++ [.start tag.toNat (y.get TB_SEC_SEC) (y.get TB_TICK_TICK)] } } : Work).after p)) ∧
  (∀ (s : State) (p : Fin 2) (h : FlitHdr) (tag : Word),
      s.chip.skHears p = true → ((s.work.header p h).x.lkTake p h.seq.val).2 = true → skIn (((s.work.header p h).x.lkTake p h.seq.val).1.skKind p h.stream) = true → ((s.work.header p h).x.lkTake p h.seq.val).1.skCredit p h.stream ≠ 0 → s.chip.parked = false → RunsTo (.skeinMarkStart p h tag) s (
      let w := s.work.header p h; let y := (w.x.lkTake p h.seq.val).1; let y := y.setCredit p h.stream (y.skCredit p h.stream - 1); (({ w with x := if y.on SKn_STs_BIND_ORPHAN (stIx p h.stream) then y else y.setStrm p h.stream fun t => { t with fifo := t.fifo ++ [.start tag.toNat (y.get TB_SEC_SEC) (y.get TB_TICK_TICK)] } } : Work).after p))) ∧
  (∀ (s : State) (p : Fin 2) (h : FlitHdr) (n : Word),
      h.ackV = false → s.chip.skHears p = true → h.seq.val = (s.chip.lk p).rxSeq → skIn (s.chip.skKind p h.stream) = true → s.chip.skCredit p h.stream ≠ 0 → s.chip.parked = false → RunsTo (.skeinMarkEnd p h n) s (let y := (s.chip.setLk p fun q => { q with rxSeq := (q.rxSeq + 1) % 1024, ackV := true, nakAt := none }).setCredit p h.stream (s.chip.skCredit p h.stream - 1); ({ s.work with x := if y.on SKn_STs_BIND_ORPHAN (stIx p h.stream) then y else y.setStrm p h.stream fun t => { t with fifo := t.fifo ++ [.fin n.toNat] } } : Work).after p)) ∧
  (∀ (s : State) (p : Fin 2) (h : FlitHdr) (n : Word),
      s.chip.skHears p = true → ((s.work.header p h).x.lkTake p h.seq.val).2 = true → skIn (((s.work.header p h).x.lkTake p h.seq.val).1.skKind p h.stream) = true → ((s.work.header p h).x.lkTake p h.seq.val).1.skCredit p h.stream ≠ 0 → s.chip.parked = false → RunsTo (.skeinMarkEnd p h n) s (
      let w := s.work.header p h; let y := (w.x.lkTake p h.seq.val).1; let y := y.setCredit p h.stream (y.skCredit p h.stream - 1); (({ w with x := if y.on SKn_STs_BIND_ORPHAN (stIx p h.stream) then y else y.setStrm p h.stream fun t => { t with fifo := t.fifo ++ [.fin n.toNat] } } : Work).after p))) ∧
  (∀ (s : State) (p : Fin 2) (h : FlitHdr) (gs : List Grant),
      h.ackV = false → s.chip.skHears p = true → h.seq.val = (s.chip.lk p).rxSeq → (s.chip.lk p).farClose = false → s.chip.parked = false → RunsTo (.skeinCredit p h gs) s (({ s.work with x := ((gs.take 14).foldl (fun (y : Chip) g =>
        if y.skKind p g.stream.val = 3 || y.skKind p g.stream.val = 4 then y.setCredit p g.stream.val (y.skCredit p g.stream.val + 4 * g.units.toNat) else y) (s.chip.setLk p fun q => { q with rxSeq := (q.rxSeq + 1) % 1024, ackV := true, nakAt := none })) } : Work).after p)) ∧
  (∀ (s : State) (p : Fin 2) (h : FlitHdr) (gs : List Grant),
      s.chip.skHears p = true → ((s.work.header p h).x.lkTake p h.seq.val).2 = true → (((s.work.header p h).x.lkTake p h.seq.val).1.lk p).farClose = false → s.chip.parked = false → RunsTo (.skeinCredit p h gs) s (
      let w := s.work.header p h
      let y := (gs.take 14).foldl (fun (y : Chip) g =>
        if y.skKind p g.stream.val = 3 || y.skKind p g.stream.val = 4 then y.setCredit p g.stream.val (y.skCredit p g.stream.val + 4 * g.units.toNat) else y) (w.x.lkTake p h.seq.val).1
      (({ w with x := y } : Work).after p))) ∧
  (∀ (s : State) (p : Fin 2) (h : FlitHdr) (q : Fin 1024),
      s.chip.skHears p = true → s.chip.parked = false → RunsTo (.skeinNak p h q) s (((s.work.header p h).on (lkNakIn p q)).after p)) ∧
  (∀ (s : State) (p : Fin 2) (h : FlitHdr),
      s.chip.skHears p = true → s.chip.parked = false → RunsTo (.skeinIdle p h) s ((s.work.header p h).after p)) ∧
  (∀ (s : State) (p : Fin 2) (h : FlitHdr),
      s.chip.skHears p = true → s.chip.parked = false → RunsTo (.skeinClose p h) s (
      let w := s.work.header p h
      let first := !(w.x.lk p).farClose
      let y := w.x.setLk p fun q => { q with farClose := true }
      let y := (y.sp p).streams.foldl (fun (y : Chip) t => if skIn (y.skKind p t.st) then y else y.setCredit p t.st 0) y
      let y := if first && y.lkState p = lkUp then y.lkErr p 4 0 else y
      (({ w with x := y } : Work).after p))) ∧
  (∀ (s : State) (p : Fin 2) (h : FlitHdr) (t : Train),
      s.chip.lkState p = lkTrain → s.chip.lkLocked p = true → t.lanes.toNat = s.chip.lkLanes p → t.phase = true → s.chip.parked = false → RunsTo (.skeinTrain p h t) s (({ s.work with x := (s.chip.lkTrainIn p t).1 } : Work).linkUp p ((s.chip.lk p).resume && t.resume) t.expected)) ∧
  (∀ (s : State) (p : Fin 2),
      s.chip.lkState p = lkUp → s.chip.parked = false → Runs (.skeinBadFlit p .crc) s (((s.chip.sat (lkFld p SKn_CRC_ERR_COUNT BL_CRC_ERR_COUNT) (lkIx p)).lkRaise p 4).lkNak p) ∧ Runs (.skeinBadFlit p .reserved) s (s.chip.sat (lkFld p SKn_VIOL_COUNT BL_VIOL_COUNT) (lkIx p))) ∧
  (∀ (s : State) (p : Fin 2) (e : Nat × Nat × Nat × List Nat) (r : List (Nat × Nat × Nat × List Nat)),
      s.chip.lkState p = lkUp → (s.chip.lk p).replay = e :: r → s.chip.parked = false → Runs (.skeinReplayTimeout p) s (s.chip.lkReplay p e.1)) ∧
  (∀ (s : State) (p : Fin 2) (l : Fin 8),
      l.val < s.chip.lkLanes p → s.chip.parked = false → Runs (.skeinBlockLockLoss p l) s ((s.chip.setLk p fun q => { q with lock := putBit q.lock l false, phase := 0 }).lkToRetrain p)) ∧
  (∀ (s : State) (p : Fin 2) (l : Fin 8),
      s.chip.lkTraining p = true → l.val < s.chip.lkLanes p → s.chip.parked = false → Runs (.skeinBlockLock p l) s (
      let y := s.chip.setLk p fun q => { q with lock := putBit q.lock l true }; (if y.lkLocked p && !s.chip.lkLocked p then y.sendTrain p else y))) ∧
  (∀ (s : State) (p : Fin 2),
      s.chip.lkTraining p = true → s.chip.parked = false → RunsTo (.skeinLinkTimeout p) s (s.work.linkDown p false)) ∧
  (∀ (s : State) (p : Fin 2),
      s.chip.lkState p = lkDown → s.chip.on SKn_STAT_RUN p = true → (s.chip.lk p).suspend = false → s.chip.parked = false → Runs (.skeinDownRetry p) s (s.chip.lkBegin p lkTrain false)) ∧
  (∀ (s : State) (p : Fin 2),
      s.chip.lkState p = lkStopping → s.chip.parked = false → RunsTo (.skeinStopTimeout p) s (s.work.linkDown p true)) ∧
  (∀ (s : State) (p : Fin 2) (t : Fin 64),
      s.chip.skKind p t = 3 → s.chip.lkState p = lkUp → (s.chip.lk p).farClose = false → (s.chip.strm p t).eg.isSome = false → s.chip.on SKn_STs_BIND_ORPHAN (stIx p t) = false → leNat ((s.work.ringRead p t (s.chip.skHandle p t) 8).2.take 4) ≠ leNat ((s.work.ringRead p t (s.chip.skHandle p t) 8).2.drop 4) → s.chip.parked = false → RunsTo (.skeinEgressFrame p t) s (
      let r := s.work.ringRead p t (s.chip.skHandle p t) 8
      let q := r.1.ringRead p t (s.chip.skRecAt p t (leNat (r.2.drop 4) % s.chip.skSlots p t)) 12
      let len := leNat (q.2.take 4)
      (q.1.on fun y => y.setStrm p t fun k => { k with eg := some ⟨min len (s.chip.skSlot p t), leNat (q.2.drop 8), decide (s.chip.skSlot p t < len), none, 0, none, none⟩ }).pump))

/-- A raise is delivered, a coalescing time ends, pending bits clear, the controller is enabled and a vector is unmasked as R557 to R567 lay down. -/
def Obligations.EventCommandsComplete : Prop :=
  (∀ (s : State) (i : Fin 512),
      s.chip.kennel = false → s.chip.get GL_MODE_POWER ≠ 3 → Runs (.eventRaise (.source i)) s (({ s.chip with ev := { s.chip.ev with raised := dropFirst s.chip.ev.raised fun q => q = .source i.val } } : Chip).deliver (.source i))) ∧
  (∀ (s : State) (f : Fin 65),
      s.chip.kennel = false → s.chip.get GL_MODE_POWER ≠ 3 → Runs (.eventRaise (.reply f)) s (({ s.chip with ev := { s.chip.ev with raised := dropFirst s.chip.ev.raised fun q => q = .reply f.val } } : Chip).deliver (.reply f))) ∧
  (∀ (s : State) (f : Fin 65) (v : Fin 128),
      (s.chip.ev.counts.any fun c => c.fn = f.val && c.vec = v.val) = true → (s.chip.coalesce f v).2 ≠ 0 → s.chip.on EV_CTL_EN = true → s.chip.parked = false → Runs (.coalesceTimeout f v) s (s.chip.fire f v)) ∧
  (∀ (s : State) (k : Fin 16) (a b : Word) (w : Bool),
      s.chip.parked = false → Runs (.evPendClear k a b w) s ((s.chip.set EV_PENDk_SRC ((List.range 32).map fun i => if (!bitAt a.toNat i || (bitAt b.toNat i || (!w && s.chip.srcSecure (32 * k + i)))) && bitAt (s.chip.get EV_PENDk_SRC k) i then 2 ^ i else 0).sum k).updPins)) ∧
  (∀ (s : State),
      s.chip.parked = false → Runs .evCtlEnable s (
      let y := s.chip.flag EV_CTL_EN true; (((y.ev.counts.filter y.mayFire).foldl (fun (z : Chip) c => z.fire c.fn c.vec) y).updPins))) ∧
  (∀ (s : State) (f : Fin 65) (v : Fin 128),
      s.chip.parked = false → Runs (.msixUnmask f (some v)) s (
      let y := { s.chip with ev := { s.chip.ev with table := sparseSet s.chip.ev.table (msixKey f v 3) 0 1 } }
      let due := y.ev.pba.filter fun p => p.1 = f.val && (!y.masked p.1 p.2 && y.ev.enabled.contains f.val)
      let y := { y with ev := { y.ev with pba := y.ev.pba.filter fun p => !due.contains p } }
      (due.foldl (fun (z : Chip) p => z.sendMsix p.1 p.2) y))) ∧
  (∀ (s : State) (f : Fin 65),
      s.chip.parked = false → Runs (.msixUnmask f none) s (
      let y := { s.chip with ev := { s.chip.ev with fmask := s.chip.ev.fmask.filter (· != f.val) } }
      let due := y.ev.pba.filter fun p => p.1 = f.val && (!y.masked p.1 p.2 && y.ev.enabled.contains f.val)
      let y := { y with ev := { y.ev with pba := y.ev.pba.filter fun p => !due.contains p } }
      (due.foldl (fun (z : Chip) p => z.sendMsix p.1 p.2) y)))

/-- Slot writes and commits, recovery, fuses, key hashes and the images of a start act as R498, R502 and R506 to R512 lay down. -/
def Obligations.FirmwareCommandsComplete : Prop :=
  (∀ (s : State) (c : Call) (e : MapEntry),
      s.chip.dispatchedCall opFwSlotWrite c = true → s.chip.kennel = false → s.chip.on RB_FW_BUSY = false → s.chip.ownEntry c.fn (c.q 0) = some e → e.cls = 0 → 256 ≤ c.w 2 → c.w 2 ≤ 33554432 → (s.chip.ownRange c.fn (c.q 0) (c.w 2) [0]).isNone = false → s.chip.parked = false → Runs (.fwSlotWrite c) s ((s.chip.setSlot (1 - s.chip.nv.active) (readBytes s.mem s.chip (c.q 0) (c.w 2))).ok opFwSlotWrite c [1 - s.chip.nv.active])) ∧
  (∀ (s : State) (c : Call),
      s.chip.dispatchedCall opFwSlotCommit c = true → s.chip.kennel = false → s.chip.on RB_FW_BUSY = false → s.chip.imgWrong (s.chip.fwSlot (1 - s.chip.nv.active)) = 0 → s.chip.parked = false → Runs (.fwSlotCommit c) s (s.chip.fwCommit.ok opFwSlotCommit c [1 - s.chip.nv.active, imgVersion (s.chip.fwSlot (1 - s.chip.nv.active))])) ∧
  (∀ (s : State) (c : Call),
      s.chip.dispatchedCall opFwQuery c = true → s.chip.parked = false → Runs (.fwQuery c) s (s.chip.ok opFwQuery c [s.chip.fwWord, imgVersion (s.chip.fwSlot 0), imgVersion (s.chip.fwSlot 1)])) ∧
  (∀ (s : State) (c : Call) (b : List Byte),
      s.chip.dispatchedCall opRecoveryLoad c = true → s.chip.on RB_STAT_OPT_FAULT = false → s.chip.on RB_FW_BUSY = false → c.w 0 = 3 → s.chip.parked = false → Runs (.recoveryLoad c b) s (((s.chip.flag RB_STAT_KREQ false).set RB_STAT_FAILS 0).ok opRecoveryLoad c [])) ∧
  (∀ (s : State) (c : Call) (b : List Byte),
      s.chip.dispatchedCall opRecoveryLoad c = true → s.chip.on RB_STAT_OPT_FAULT = false → s.chip.on RB_FW_BUSY = false → c.w 0 = 0 → s.chip.parked = false → Runs (.recoveryLoad c b) s (s.chip.recoverWith c ((natBytes b).take (c.w 3)))) ∧
  (∀ (s : State) (c : Call) (b : List Byte),
      s.chip.dispatchedCall opRecoveryLoad c = true → s.chip.on RB_STAT_OPT_FAULT = false → s.chip.on RB_FW_BUSY = false → c.w 0 = 1 → s.chip.parked = false → Runs (.recoveryLoad c b) s ({ s.chip.flag RB_FW_BUSY true with ld := { s.chip.ld with bytes := [], waits := some (c, c.w 3) } })) ∧
  (∀ (s : State) (c : Call),
      s.chip.dispatchedCall opFuseProgram c = true → c.w 0 = 1 → s.chip.parked = false → Runs (.fuseProgram c) s (
      let fails := s.chip.free 1 = 1; let v := if fails then s.chip.took.free 32 else c.w 1
      let y := s.chip.took.onlyIf fails (·.took); let z := { y with nv := { y.nv with debugLock := y.nv.debugLock || v != 0 } }
      (if fails then (z.took).done opFuseProgram c stHwFault [z.free 9] else z.ok opFuseProgram c []))) ∧
  (∀ (s : State) (c : Call),
      s.chip.dispatchedCall opFwKeyHashSet c = true → c.w 0 ≤ 3 → (s.chip.nv.hashes.any fun h => c.w 0 ≤ h.1) = false → s.chip.parked = false → Runs (.fwKeyHashSet c) s (({ s.chip with nv := { s.chip.nv with hashes := s.chip.nv.hashes ++ [(c.w 0, callBytes c 1 8)] } } : Chip).ok opFwKeyHashSet c [])) ∧
  (∀ (s : State) (v : Word) (b : List Byte),
      bitAt v.toNat 31 = true → s.chip.ld.boot = true → s.chip.get RB_STRAP_BOOT_SRC = 2 → RunsReach (.loadGo v b) s ((s.chip.set RB_LOAD_LEN_BYTES (bits v.toNat 0 26)).bootImage ((natBytes b).take (bits v.toNat 0 26)))) ∧
  (∀ (s : State) (h : MsgHdr),
      (s.chip.blTake h 5 0 false).2 = true → (s.chip.blTake h 5 0 false).1.on RB_STAT_CONFIRMED = true → (s.chip.blTake h 5 0 false).1.bl.supervised = false → RunsReachW (.bootReq h) s (
      let y := (s.chip.blTake h 5 0 false).1; let b := y.fwSlot y.nv.active; (Work.blPump { s.work with x := Chip.sendImage (b.length / 8184 + 1) 0 b y }))) ∧
  (∀ (s : State) (h : MsgHdr) (o : Word) (b : List Byte),
      (s.chip.blTake h 5 (8 + b.length) false).2 = true → (s.chip.blTake h 5 (8 + b.length) false).1.ld.boot = true → (s.chip.blTake h 5 (8 + b.length) false).1.get RB_STRAP_BOOT_SRC = 3 → (s.chip.blTake h 5 (8 + b.length) false).1.bl.supervised = false → o.toNat = (s.chip.blTake h 5 (8 + b.length) false).1.ld.bytes.length → RunsReachW (.bootData h o b) s (Work.blPump { s.work with x := (s.chip.blTake h 5 (8 + b.length) false).1.moreImage (natBytes b) }))

/-- RESET_BLOCK, RESET_SUBSYSTEM, the heel answers, timeouts and releases, GATE_BLOCK and UNGATE_BLOCK act as R503 to R505, R512 and R520 lay down. -/
def Obligations.BlockResetCommandsComplete : Prop :=
  (∀ (s : State) (c : Call),
      s.chip.dispatchedCall opResetBlock c = true → s.chip.kennel = false → [1, 3, 5, 6, 7].contains (bits (c.w 0) 0 4) = true → (bits (c.w 0) 8 5) < kindCount (bits (c.w 0) 0 4) → bitAt (c.w 0) 17 = false → (c.w 0 != (bits (c.w 0) 0 4) + 256 * (bits (c.w 0) 8 5) + 65536 * bits (c.w 0) 16 2) = false → (s.chip.secUp && s.chip.inUse (bits (c.w 0) 0 4) (bits (c.w 0) 8 5)) = false → s.chip.parked = false → Runs (.resetBlock c) s (s.chip.heelRaise ⟨false, (bits (c.w 0) 0 4), (bits (c.w 0) 8 5), c, bitAt (c.w 0) 16, false, s.chip.inUse (bits (c.w 0) 0 4) (bits (c.w 0) 8 5)⟩)) ∧
  (∀ (s : State) (c : Call),
      s.chip.dispatchedCall opResetSubsystem c = true → s.chip.kennel = false → bits (c.w 0) 0 3 ≠ 7 → bitAt (c.w 0) 17 = false → (c.w 0 != bits (c.w 0) 0 3 + 65536 * bits (c.w 0) 16 2) = false → s.chip.parked = false → Runs (.resetSubsystem c) s (s.chip.heelRaise ⟨true, bits (c.w 0) 0 3, 0, c, bitAt (c.w 0) 16, false, false⟩)) ∧
  (∀ (s : State) (h : HeelRef) (g : Heel),
      (s.chip.rs.heels.find? fun (g : Heel) => g.is h.sub h.kind h.inst && !g.asserted) = some g → s.chip.heelReady g = true → s.chip.parked = false → Runs (.heelAnswer h) s (s.chip.heelAssert g false)) ∧
  (∀ (s : State) (h : HeelRef) (g : Heel),
      (s.chip.rs.heels.find? fun (g : Heel) => g.is h.sub h.kind h.inst && !g.asserted) = some g → s.chip.parked = false → Runs (.heelTimeout h) s (s.chip.heelAssert g true)) ∧
  (∀ (s : State) (h : HeelRef) (g : Heel),
      (s.chip.rs.heels.find? fun (g : Heel) => g.is h.sub h.kind h.inst && g.asserted) = some g → s.chip.parked = false → Runs (.blockResetRelease h) s ((({ s.chip with rs := { s.chip.rs with heels := s.chip.rs.heels.filter fun q => q != g } } : Chip).blockOut h.sub h.kind h.inst).ok g.op g.call [])) ∧
  (∀ (s : State) (c : Call),
      s.chip.dispatchedCall opGateBlock c = true → 6 ≤ c.w 0 → c.w 0 < 16 → s.chip.on DXn_STAT_RUN (c.w 0 - 6) = false → (s.chip.inUse 4 (c.w 0 - 6) && s.chip.secUp) = false → s.chip.parked = false → Runs (.gateBlock c) s (((s.chip.gateDom (c.w 0)).domLock (c.w 0) false).ok opGateBlock c [])) ∧
  (∀ (s : State) (c : Call),
      s.chip.dispatchedCall opGateBlock c = true → c.w 0 < 6 → ((groupCores (c.w 0)).find? fun n => s.chip.inUse 1 n) = none → s.chip.parked = false → Runs (.gateBlock c) s (
      let y := (s.chip.gateDom (c.w 0)).gateCores (c.w 0); (Chip.gateCheck { y with pw := { y.pw with gates := y.pw.gates ++ [(c, c.w 0)] } }))) ∧
  (∀ (s : State) (c : Call),
      s.chip.dispatchedCall opUngateBlock c = true → c.w 0 ≤ 17 → 6 ≤ c.w 0 → bitAt (s.chip.get GL_GATE_DOM) (c.w 0) = true → s.chip.parked = false → Runs (.ungateBlock c) s ((((s.chip.setBit GL_GATE_DOM (c.w 0) false).raise 21).domLock (c.w 0) true).ok opUngateBlock c []))

/-- Each source of R486 takes its reach and sets its cause bit; the requests of R512 are answered and take theirs at the next release. -/
def Obligations.ResetSourcesComplete : Prop :=
  (∀ (s : State) (c : Call),
      s.chip.dispatchedCall opResetWarm c = true → s.chip.parked = false → Runs (.resetWarm c) s (({ s.chip with rs := { s.chip.rs with soon := s.chip.rs.soon ++ [13] } } : Chip).ok opResetWarm c [])) ∧
  (∀ (s : State) (c : Call),
      s.chip.dispatchedCall opResetCold c = true → s.chip.parked = false → Runs (.resetCold c) s (({ s.chip with rs := { s.chip.rs with soon := s.chip.rs.soon ++ [4] } } : Chip).ok opResetCold c [])) ∧
  (∀ (s : State) (c : Call),
      s.chip.dispatchedCall opKennelEnter c = true → s.chip.parked = false → Runs (.kennelEnter c) s (({ s.chip with rs := { s.chip.rs with soon := s.chip.rs.soon ++ [8] } } : Chip).ok opKennelEnter c [])) ∧
  (∀ (s : State),
      RunsReach .railLow s (s.chip.takeLevel 0 3)) ∧
  (∀ (s : State),
      RunsReach .powerOn s (s.chip.dropLevel 0)) ∧
  (∀ (s : State),
      RunsReach .resetNPulse s (s.chip.take 1 2)) ∧
  (∀ (s : State),
      RunsReach .warmNPulse s (s.chip.take 9 1)) ∧
  (∀ (s : State),
      RunsReach .thermalTrip s (s.chip.takeLevel 2 2)) ∧
  (∀ (s : State),
      RunsReach .thermalTripRelease s (s.chip.dropLevel 2)) ∧
  (∀ (s : State),
      RunsReach .nwdogExpiry s (s.chip.take 10 1)) ∧
  (∀ (s : State) (b : Bool),
      RunsReach (.lockstepMismatch b) s (
      let y := s.chip.degrade GL_DEG_CAUSE_LOCKSTEP; (Chip.take { y with rs := { y.rs with owed := y.rs.owed ++ [(12, b2n b)] } } (11 + b2n b) 1))) ∧
  (∀ (s : State),
      s.chip.rs.levels.contains 5 = false → RunsReach .refclkLoss s (
      let y := (s.chip.sat CK_REF_LOSS_COUNT).takeLevel 5 2; { y.flag TB_STAT_VALID false with tb := { y.tb with stopped := true } })) ∧
  (∀ (s : State),
      s.chip.rs.levels.contains 5 = true → RunsReach .refclkRestore s (
      let y := ((s.chip.dropLevel 5).flag TB_STAT_REF_LOST true).raise 486; { y with tb := { y.tb with stopped := false } })) ∧
  (∀ (s : State),
      s.chip.rs.bypass = false → RunsReach .mainPllLoss s (((s.chip.sat CK_PLL_LOSS_MAIN).flag CK_STAT_PLL_LOCK false).take 6 2)) ∧
  (∀ (s : State),
      s.chip.parked = false → Runs .nwdogKick s { s.chip with rs := { s.chip.rs with nwdogAt := s.chip.up } }) ∧
  (∀ (s : State) (h : MsgHdr),
      (s.chip.blTake h 5 0 false).2 = true → (s.chip.blTake h 5 0 false).1.blCfg BL_CFG_COLD_ACCEPT ≠ 0 → RunsReachW (.coldReq h) s (Work.blPump { s.work with x := (s.chip.blTake h 5 0 false).1.take 3 2 })) ∧
  (∀ (s : State) (n : Fin 8),
      s.chip.parked = false → RunsTo (.phyPllLoss (.mem n)) s (s.work.on fun y => ((y.setBit (pllBit (Pll.mem n)).1 (pllBit (Pll.mem n)).2 false).sat CK_PLL_LOSS_PHY).raise 488)) ∧
  (∀ (s : State) (n : Fin 10),
      s.chip.parked = false → RunsTo (.phyPllLoss (.dx n)) s ((s.work.on fun y => ((y.setBit (pllBit (Pll.dx n)).1 (pllBit (Pll.dx n)).2 false).sat CK_PLL_LOSS_PHY).raise 488).on (linkLoss n))) ∧
  (∀ (s : State),
      s.chip.parked = false → RunsTo (.phyPllLoss .bl) s ((s.work.on fun y => ((y.setBit (pllBit (Pll.bl)).1 (pllBit (Pll.bl)).2 false).sat CK_PLL_LOSS_PHY).raise 488).on Chip.blDown)) ∧
  (∀ (s : State) (p : Pll),
      s.chip.parked = false → Runs (.phyPllRelock p) s ((s.chip.setBit (pllBit p).1 (pllBit p).2 true).raise 490)) ∧
  (∀ (s : State) (n : Fin 8),
      s.chip.bit CK_PHY_LOCK_MEM n = false → s.chip.parked = false → Runs (.memPllRelockTimeout n) s ((s.chip.retireChan (2 * n) 2).retireChan (2 * n + 1) 2))

/-- A release, training, the start timeout, start-confirm, a UART frame, the status image and a TAP instruction act as R489 to R502, R510 and R540 lay down. -/
def Obligations.StartCommandsComplete : Prop :=
  (∀ (s : State) (r : Release),
      s.chip.dueReaches.rs.reach ≠ 0 → s.chip.dueReaches.rs.levels = [] → RunsReach (.resetRelease r) s (s.chip.dueReaches.released r)) ∧
  (∀ (s : State) (r : Release) (l : List Nat),
      s.chip.dueReaches.rs.levels = l → l ≠ [] → RunsReach (.resetRelease r) s s.chip.dueReaches) ∧
  (∀ (s : State) (t : Training),
      s.chip.rs.trained = false → s.chip.kennel = false → RunsReach (.trainingDone t) s (let y := ({ s.chip with rs := { s.chip.rs with trained := true } } : Chip).memTrained t
      if y.chansIn < 8 then y.failStart
      else
        let y := (y.loadCfg.set RB_STAT_PHASE 8).startHold
        (y.raiseIf (y.rs.holds != []) 503).hpAuto.startMarked)) ∧
  (∀ (s : State),
      s.chip.starting = true → RunsReach .startTimeout s s.chip.failStart) ∧
  (∀ (s : State) (m : Word),
      s.chip.mayConfirm = true → s.chip.parked = false → RunsTo (.startConfirm m) s (
      let y := ((s.chip.flag RB_STAT_CONFIRMED true).set RB_STAT_PHASE 9).set RB_START_MS_IMAGE (min 65535 m.toNat)
      let y := ((y.set RB_START_MS_CONFIRM y.sinceRelease).raise 497).raiseIf s.chip.rs.failed 498
      let y := y.raiseIf ([5, 6].contains (s.chip.get RB_LAST_SRC)) 491
      let y := { y with rs := { y.rs with failed := false } }
      let y := if s.chip.on RB_STAT_TRIM_DEF then y else y.set RB_STAT_FAILS 0
      (if y.blWanted && (y.on BL_CFG_AUTO && (!y.paired && y.get BL_STAT_ATTACH = 0)) then (({ s.work with x := y } : Work).on Chip.beginAttach).blPump else { s.work with x := y }))) ∧
  (∀ (s : State),
      s.chip.kennel = true → s.chip.parked = false → Runs .statusImageRedraw s (s.chip.emit (.pin 12 ([Config.serial, s.chip.get GL_ID_STEP, s.chip.fwWord, imgVersion (s.chip.fwSlot 0), imgVersion (s.chip.fwSlot 1)] ++
      [s.chip.get RB_CAUSE_SRC, s.chip.get RB_STAT_FAILS, b2n (s.chip.on RB_STAT_KREQ), b2n (s.chip.on RB_STAT_OPT_FAULT)] ++
      [s.chip.word [RB_STRAP_BOOT_SRC, RB_STRAP_CLK_MODE, RB_STRAP_TWIN_ID, RB_STRAP_KENNEL_PORT]] ++
      [s.chip.get TB_SEC_SEC, s.chip.get TB_TICK_TICK, s.chip.ld.bytes.length])))) ∧
  (∀ (s : State) (b : List Byte),
      ((natBytes b).head? = some 0x55 && ((natBytes b).length = 8 + leNat (((natBytes b).drop 2).take 2) && leNat ((natBytes b).drop (4 + leNat (((natBytes b).drop 2).take 2))) = crcOf 0 (((natBytes b).drop 1).take (3 + leNat (((natBytes b).drop 2).take 2))))) = true → (natBytes b).getD 1 0 = 0xA1 → s.chip.uartServes = true → RunsReach (.uartFrame b) s (s.chip.uartPacket (((natBytes b).drop 4).take (leNat (((natBytes b).drop 2).take 2))))) ∧
  (∀ (s : State) (b : List Byte),
      ((natBytes b).head? = some 0x55 && ((natBytes b).length = 8 + leNat (((natBytes b).drop 2).take 2) && leNat ((natBytes b).drop (4 + leNat (((natBytes b).drop 2).take 2))) = crcOf 0 (((natBytes b).drop 1).take (3 + leNat (((natBytes b).drop 2).take 2))))) = true → (natBytes b).getD 1 0 = 0xA4 → s.chip.ld.lastOut ≠ [] → RunsReach (.uartFrame b) s (s.chip.emit (.pin 10 s.chip.ld.lastOut))) ∧
  (∀ (s : State),
      Runs (.tapInstruction .reset) s (({ s.chip with tap := { s.chip.tap with ir := 1, boundary := s.chip.tap.boundary } } : Chip))) ∧
  (∀ (s : State),
      Runs (.tapInstruction .bypass) s (({ s.chip with tap := { s.chip.tap with ir := 0, boundary := s.chip.tap.boundary } } : Chip))) ∧
  (∀ (s : State),
      Runs (.tapInstruction .idcode) s ((({ s.chip with tap := { s.chip.tap with ir := 1, boundary := s.chip.tap.boundary } } : Chip).emit (.pin 11 [1, s.chip.idcode])).took)) ∧
  (∀ (s : State) (b : List Byte),
      Runs (.tapInstruction (.sample b)) s (({ s.chip with tap := { s.chip.tap with ir := 2, boundary := natBytes b } } : Chip))) ∧
  (∀ (s : State) (b : List Byte),
      Runs (.tapInstruction (.extest b)) s (({ s.chip with tap := { s.chip.tap with ir := 3, boundary := natBytes b } } : Chip).emit (.pin 11 (3 :: natBytes b))))

/-- POWER_MODE_SET enters Run, Hold and Park, the queries answer, and DEGRADED_CLEAR and PARK_FACE_SET act as R35, R43, R522 and R527 lay down. -/
def Obligations.PowerCommandsComplete : Prop :=
  (∀ (s : State) (c : Call),
      s.chip.dispatchedCall opPowerModeSet c = true → s.chip.pw.target = none → s.chip.bl.propose = none → c.w 0 = 0 → s.chip.powerDenied 0 = false → s.chip.get GL_MODE_POWER = 1 → s.chip.on GL_MODE_THERM_DIM = false → s.chip.bit GL_MODE_BUSY 0 = false → s.chip.parked = false → RunsTo (.powerModeSet c) s (((s.work.on fun y => { y with pw := { y.pw with dimCmd := false } }).on fun y => (y.setMode GL_MODE_POWER 0).ok opPowerModeSet c []).powerCheck)) ∧
  (∀ (s : State) (c : Call),
      s.chip.dispatchedCall opPowerModeSet c = true → s.chip.pw.target = none → s.chip.bl.propose = none → c.w 0 = 2 → s.chip.powerDenied 2 = false → s.chip.get GL_MODE_POWER ≠ 2 → s.chip.get GL_MODE_PAIR ≠ 1 → s.chip.parked = false → RunsTo (.powerModeSet c) s ((s.work.beginHold (some c)).powerCheck)) ∧
  (∀ (s : State) (c : Call),
      s.chip.dispatchedCall opPowerModeSet c = true → s.chip.pw.target = none → s.chip.bl.propose = none → c.w 0 = 3 → s.chip.powerDenied 3 = false → s.chip.get GL_MODE_POWER ≠ 3 → s.chip.get GL_MODE_PAIR ≠ 1 → s.chip.parked = false → RunsTo (.powerModeSet c) s (((s.work.on fun y => y.beginPark (some c) false)).powerCheck)) ∧
  (∀ (s : State) (c : Call),
      s.chip.dispatchedCall opModeQuery c = true → s.chip.parked = false → Runs (.modeQuery c) s (s.chip.ok opModeQuery c [s.chip.glMode, s.chip.regWord GL_DEG_CAUSE_SIG_DISAGREE 0])) ∧
  (∀ (s : State) (c : Call),
      s.chip.dispatchedCall opDegradedClear c = true → s.chip.on GL_DEG_CAUSE_TRIM_DEFAULT = false → s.chip.on GL_DEG_CAUSE_CHAN_RETIRED = false → s.chip.parked = false → Runs (.degradedClear c) s ((let y := s.chip.clearCauses.dropModes 3; if y.get GL_MODE_INTEG = 1 then y.setMode GL_MODE_INTEG 0 else y).ok opDegradedClear c [])) ∧
  (∀ (s : State) (c : Call),
      s.chip.dispatchedCall opThermalQuery c = true → s.chip.parked = false → Runs (.thermalQuery c) s (s.chip.ok opThermalQuery c ([s.chip.word [GL_THERM_TJ, GL_THERM_HOT]] ++ s.chip.pw.temps))) ∧
  (∀ (s : State) (c : Call),
      s.chip.dispatchedCall opParkFaceSet c = true → c.q 0 = 0 → c.w 2 = 0 → s.chip.parked = false → Runs (.parkFaceSet c) s (({ s.chip with pw := { s.chip.pw with faceRec := [] } } : Chip).ok opParkFaceSet c [])) ∧
  (∀ (s : State) (c : Call),
      s.chip.dispatchedCall opParkFaceSet c = true → c.q 0 ≠ 0 → (s.chip.ownRange c.fn (c.q 0) 1 [0]).isNone = false → 36 ≤ c.w 2 → c.w 2 ≤ 45092 → (s.chip.ownRange c.fn (c.q 0) (c.w 2) [0]).isNone = false → s.chip.faceWrong (readBytes s.mem s.chip (c.q 0) (c.w 2)) = none → c.w 2 = 36 + 11 * fieldLe (readBytes s.mem s.chip (c.q 0) (c.w 2)) 0x16 2 * fieldLe (readBytes s.mem s.chip (c.q 0) (c.w 2)) 0x14 1 / 8 → s.chip.parked = false → Runs (.parkFaceSet c) s (({ s.chip with pw := { s.chip.pw with faceRec := (readBytes s.mem s.chip (c.q 0) (c.w 2)) } } : Chip).ok opParkFaceSet c []))

/-- The agreement of a pair, thermal samples and releases, wakes and the steps of Park act as R35, R36, R368, R517 to R525 lay down. -/
def Obligations.PowerEventsComplete : Prop :=
  (∀ (s : State) (h : MsgHdr) (m : BitVec 8),
      (s.chip.blTake h 5 4 false).2 = true → (s.chip.blTake h 5 4 false).1.follow = false → s.chip.parked = false → RunsTo (.powerPropose h m) s (Work.blPump { s.work with x := (s.chip.blTake h 5 4 false).1.blSend 5 8 [0, 0, 0, 0] })) ∧
  (∀ (s : State) (h : MsgHdr),
      (s.chip.blTake h 5 4 false).2 = true → (s.chip.blTake h 5 4 false).1.follow = true → (s.chip.blTake h 5 4 false).1.kennel = false → (s.chip.blTake h 5 4 false).1.get RJ_SESSION_ROLE = 0 → (s.chip.blTake h 5 4 false).1.pw.target = none → (s.chip.blTake h 5 4 false).1.get GL_MODE_POWER < 2 → s.chip.parked = false → RunsTo (.powerPropose h 2) s (
      let y := (s.chip.blTake h 5 4 false).1.blSend 5 8 [1, 0, 0, 0]; (Work.blPump ((({ s.work with x := { y with bl := { y.bl with agreed := some 2 } } } : Work).beginHold none).powerCheck)))) ∧
  (∀ (s : State) (h : MsgHdr) (c : Call) (m : Nat),
      (s.chip.blTake h 5 4 false).2 = true → (s.chip.blTake h 5 4 false).1.bl.propose = some (c, m) → s.chip.parked = false → RunsTo (.powerReply h false) s (
      let y := (s.chip.blTake h 5 4 false).1; (Work.blPump (({ s.work with x := Chip.deniedMode { y with bl := { y.bl with propose := none } } opPowerModeSet c } : Work).powerCheck)))) ∧
  (∀ (s : State) (h : MsgHdr) (c : Call),
      (s.chip.blTake h 5 4 false).2 = true → (s.chip.blTake h 5 4 false).1.bl.propose = some (c, 2) → ({ (s.chip.blTake h 5 4 false).1 with bl := { (s.chip.blTake h 5 4 false).1.bl with propose := none } } : Chip).powerDenied 2 = false → s.chip.parked = false → RunsTo (.powerReply h true) s (
      let y := (s.chip.blTake h 5 4 false).1; (Work.blPump ((({ s.work with x := { y with bl := { y.bl with propose := none } } } : Work).beginHold (some c)).powerCheck)))) ∧
  (∀ (s : State) (c : Call) (m : Nat),
      s.chip.bl.propose = some (c, m) → s.chip.parked = false → RunsTo .powerReplyTimeout s (({ s.work with x := Chip.deniedMode { s.chip with bl := { s.chip.bl with propose := none } } opPowerModeSet c } : Work).powerCheck)) ∧
  (∀ (s : State) (h : MsgHdr) (m : Nat),
      (s.chip.blTake h 5 0 false).2 = true → (s.chip.blTake h 5 0 false).1.pw.target = some m → 2 ≤ m → s.chip.parked = false → RunsTo (.powerCancel h) s (
      let y := (s.chip.blTake h 5 0 false).1; (Work.blPump { s.work with x := { y with pw := { y.pw with cancel := true }, bl := { y.bl with agreed := none } } }))) ∧
  (∀ (s : State) (t : Temps),
      s.chip.get GL_MODE_POWER ≠ 3 → s.chip.parked = false → RunsTo (.thermalSample t) s (((s.work.on fun y => y.thermal (tempList t)).on Chip.headsResume).powerCheck)) ∧
  (∀ (s : State),
      s.chip.get GL_MODE_POWER ≠ 3 → s.chip.on GL_MODE_THERM_DIM = true → toS 16 (s.chip.get GL_THERM_TJ) < 1050 → s.chip.parked = false → RunsTo (.thermRelease) s ((s.work.on Chip.thermFree).powerCheck)) ∧
  (∀ (s : State) (p : Fin 48) (k : Wake),
      32 ≤ p.val → bitAt (s.chip.get GL_WAKE_EN1_GPIO) (p - 32) = true → RunsTo (.wakeGpio p k) s (s.work.wake k 0 p)) ∧
  (∀ (s : State) (p : Fin 48) (k : Wake),
      p.val < 32 → bitAt (s.chip.get GL_WAKE_EN0_GPIO) p = true → RunsTo (.wakeGpio p k) s (s.work.wake k 0 p)) ∧
  (∀ (s : State) (k : Wake),
      s.chip.alarmDue = true → RunsTo (.wakeAlarm k) s (s.work.wake k 1 0)) ∧
  (∀ (s : State) (k : Wake),
      s.chip.on GL_WAKE_EN1_PCIE = true → RunsTo (.wakePcie k) s ((s.work.on fun y => { y with fn := { y.fn with l1 := false } }).wake k 2 0)) ∧
  (∀ (s : State) (p : Fin 16) (k : Wake),
      s.chip.on GL_WAKE_EN1_TOUCH = true → s.chip.on TPn_STAT_RUN p = true → RunsTo (.wakeTouch p k) s (s.work.wake k 3 0)) ∧
  (∀ (s : State),
      s.chip.pw.wakeLow = true → Runs .twinWakePulseEnd s (({ s.chip with pw := { s.chip.pw with wakeLow := false } } : Chip).emit (.pin 8 [s.chip.get GL_WAKE_EN1_TWIN_OUT, 1]))) ∧
  (∀ (s : State),
      s.chip.get GL_MODE_POWER = 3 → s.chip.pw.faceImg ≠ [] → Runs .parkFaceUpdate s (
      let r := s.chip.faceHeld
      let cells := s.chip.faceCells r
      let dx := fieldLe r 0x10 2
      let dy := fieldLe r 0x12 2
      let w := 5 * fieldLe r 0x14 1 + 4 * fieldLe r 0x15 1
      let h := fieldLe r 0x16 2
      let img := faceRect r cells 0 0 (fieldLe r 8 2) (fieldLe r 0xA 2)
      (({ s.chip with pw := { s.chip.pw with faceImg := img } } : Chip).emit (.pin 9 ([s.chip.kennelPort, fieldLe r 4 2 + dx, fieldLe r 6 2 + dy, w, h] ++ faceRect r cells dx dy w h))))) ∧
  (∀ (s : State),
      s.chip.pw.target = some 3 → s.chip.parked = false → RunsTo (.parkEntryStep) s (s.work.parkStep.powerCheck))

/-- COMMAND_COMPLETE first lets what is due follow, then reports the ring front's outcome (R75). -/
def Obligations.OutcomesComplete : Prop :=
  (∀ (s : State) (f : Fin 65) (k : Fin 4),
      s.chip.parked = false → RunsTo (.commandComplete f k) s (((s.work.on fun y => y.releaseCheck.gateCheck.headsResume).powerCheck).on fun y => commandComplete f k y))

/-- Claims, releases, the journal and the keys and limits of R469 to R485 act as those rules lay down. -/
def Obligations.RoleCommandsComplete : Prop :=
  (∀ (s : State) (c : Call),
      s.chip.dispatchedCall opClaimRole c = true → s.chip.claimMode (bits (c.w 0) 0 2) = false → bits (c.w 0) 0 2 ≠ 0 → bits (c.w 0) 0 2 ≠ 3 → bitAt (c.w 0) 8 = false → c.words.length = 1 → s.chip.on RJ_SESSION_LOCKOUT = false → (s.chip.roleKey (bits (c.w 0) 0 2)).isNone = false → s.chip.parked = false → Runs (.claimRole c) s (
      let chal := (List.range 4).flatMap fun i => beBytesN 8 (Config.freeValue (s.chip.freeCtr + i)).toNat; (({ s.chip with freeCtr := s.chip.freeCtr + 4, rj := { s.chip.rj with challenge := some (chal, s.chip.up) } } : Chip).ok opClaimRole c (bytesWords chal)))) ∧
  (∀ (s : State) (c : Call) (k : List Nat) (ch : List Nat × Nat),
      s.chip.dispatchedCall opClaimRole c = true → s.chip.claimMode (bits (c.w 0) 0 2) = false → bits (c.w 0) 0 2 ≠ 0 → bits (c.w 0) 0 2 ≠ 3 → bitAt (c.w 0) 8 = true → c.words.length = 9 → s.chip.on RJ_SESSION_LOCKOUT = false → s.chip.roleKey (bits (c.w 0) 0 2) = some k → s.chip.rj.challenge = some ch → s.chip.accessWaits = false → s.chip.parked = false → Runs (.claimRole c) s (
      let y := { s.chip with rj := { s.chip.rj with challenge := none } }; (if callBytes c 1 8 = claimResponse k ch.1 (bits (c.w 0) 0 2) ∧ s.chip.up ≤ ch.2 + 30 * tps then (y.openSession (bits (c.w 0) 0 2)).ok opClaimRole c [] else y.claimFails.done opClaimRole c stDeniedRole [bits (c.w 0) 0 2]))) ∧
  (∀ (s : State) (c : Call),
      s.chip.dispatchedCall opReleaseRole c = true → s.chip.get RJ_SESSION_ROLE ≠ 0 → bitAt (c.w 0) 0 = true → s.chip.accessWaits = false → s.chip.parked = false → Runs (.releaseRole c) s ((s.chip.saveCfg.endSession 1).ok opReleaseRole c [])) ∧
  (∀ (s : State) (c : Call),
      s.chip.dispatchedCall opReleaseRole c = true → s.chip.get RJ_SESSION_ROLE ≠ 0 → bitAt (c.w 0) 0 = false → s.chip.accessWaits = false → s.chip.parked = false → Runs (.releaseRole c) s ((s.chip.endSession 2).ok opReleaseRole c [])) ∧
  (∀ (s : State) (c : Call),
      s.chip.dispatchedCall opJournalQuery c = true → s.chip.parked = false → Runs (.journalQuery c) s (s.chip.ok opJournalQuery c [s.chip.get RJ_JOLDEST_SEQ, s.chip.get RJ_JNEXT_SEQ, s.chip.word [RJ_JBUF_BUFFERED, RJ_JBUF_LOST], s.chip.get RJ_JWRAP_COUNT])) ∧
  (∀ (s : State) (c : Call),
      s.chip.dispatchedCall opJournalExport c = true → 0 < c.w 1 → c.w 1 ≤ 4096 → (s.chip.ownRange c.fn (c.q 2) (64 * c.w 1) [0]).isNone = false → bitAt (c.w 4) 0 = false → s.chip.parked = false → RunsW (.journalExport c) s (
      let y := journalFlush s.chip; let first := max (c.w 0) (y.get RJ_JOLDEST_SEQ); let recs := (y.rj.ring.filter fun q => first ≤ recSeq q.2 && recSeq q.2 < c.w 0 + c.w 1).map (·.2); (y.ok opJournalExport c [recs.length, first, 0xFFFFFFFF])) (
      let y := journalFlush s.chip; let first := max (c.w 0) (y.get RJ_JOLDEST_SEQ); let recs := (y.rj.ring.filter fun q => first ≤ recSeq q.2 && recSeq q.2 < c.w 0 + c.w 1).map (·.2); (storeBytes y (c.q 2) recs.flatten))) ∧
  (∀ (s : State) (c : Call),
      s.chip.dispatchedCall opInstallerKeySet c = true → bitAt (c.w 0) 0 = true → s.chip.parked = false → Runs (.installerKeySet c) s ((s.chip.commitKeys fun n => { n with installer := none }).ok opInstallerKeySet c [])) ∧
  (∀ (s : State) (c : Call) (k : List Nat),
      s.chip.dispatchedCall opInstallerKeySet c = true → bitAt (c.w 0) 0 = false → keyUnwrap s.chip.makerKey (callBytes c 1 10) = some k → s.chip.parked = false → Runs (.installerKeySet c) s ((s.chip.commitKeys fun n => { n with installer := some k }).ok opInstallerKeySet c [])) ∧
  (∀ (s : State) (c : Call) (k : List Nat),
      s.chip.dispatchedCall opRoleKeySet c = true → keyUnwrap s.chip.makerKey (callBytes c 0 10) = some k → s.chip.parked = false → Runs (.roleKeySet c) s ((journalFlush (s.chip.ok opRoleKeySet c [])).commitKeys fun n => { n with maker := some k })) ∧
  (∀ (s : State) (c : Call),
      s.chip.dispatchedCall opTwinHashSet c = true → s.chip.parked = false → Runs (.twinHashSet c) s (({ s.chip with bl := { s.chip.bl with twinHash := callBytes c 0 8 } } : Chip).ok opTwinHashSet c [])) ∧
  (∀ (s : State) (c : Call),
      s.chip.dispatchedCall opSafetyLimitSet c = true → s.chip.parked = false → Runs (.safetyLimitSet c) s (({ s.chip with nv := { s.chip.nv with safety := bits (c.w 0) 0 16 } } : Chip).ok opSafetyLimitSet c [])) ∧
  (∀ (s : State),
      s.chip.parked = false → Runs (.sessionIdleTimeout) s (s.chip.endSession 3)) ∧
  (∀ (s : State),
      Runs (.lockoutEnd) s (s.chip.flag RJ_SESSION_LOCKOUT false)) ∧
  (∀ (s : State),
      s.chip.canFlush = true → s.chip.drainJournal.rj.gap = 0 → s.chip.parked = false → Runs (.journalFlush) s (s.chip.drainJournal))

/-- SECURE_RELEASE, PROT_LAYER_LOAD, PROT_KEY_SET, STALE_LIMIT_SET and SECURE_RESTART act as R452 to R463 lay down; only PROT_LAYER_LOAD stores, the record it was given. -/
def Obligations.SecureCommandsComplete : Prop :=
  (∀ (s : State) (c : Call),
      s.chip.dispatchedCall opSecureRelease c = true → bits (c.w 0) 0 4 = 7 → (bits (c.w 0) 8 8) < kindCount 7 → (c.w 0 != 7 + 256 * (bits (c.w 0) 8 8)) = false → s.chip.inUse 7 (bits (c.w 0) 8 8) = true → s.chip.parked = false → Runs (.secureRelease c) s (
      let y := s.chip.cvReleaseUnit (bits (c.w 0) 8 8); (Chip.releaseCheck { y with sw := { y.sw with rel := y.sw.rel ++ [(c, 7, (bits (c.w 0) 8 8))] } }))) ∧
  (∀ (s : State) (c : Call) (u i : Nat) (k : Nat × List Nat),
      s.chip.dispatchedCall opProtLayerLoad c = true → c.w 0 < 16 → s.chip.on HDn_STAT_RUN (c.w 0) = true → s.chip.on CP_HEADn_CFG_PROT (c.w 0) = true → s.chip.protUnit (c.w 0) = some u → (s.chip.ownRange c.fn (c.q 1) 1 [0, 3]).isNone = false → 192 ≤ c.w 3 → (s.chip.ownRange c.fn (c.q 1) (c.w 3) [0, 3]).isNone = false → recordOk (readBytes s.mem s.chip (c.q 1) (c.w 3)) = true → (s.chip.nv.prot.find? fun q => q.1 = fieldLe (readBytes s.mem s.chip (c.q 1) (c.w 3)) 4 1) = some k → ecdsaOk k.2 ((readBytes s.mem s.chip (c.q 1) (c.w 3)).drop (c.w 3 - 64)) ((readBytes s.mem s.chip (c.q 1) (c.w 3)).take (c.w 3 - 64)) = true → s.chip.get SW_PSEQn_SEQ (c.w 0) < fieldLe (readBytes s.mem s.chip (c.q 1) (c.w 3)) 8 4 → s.chip.recordFits (c.w 0) (recordLayer (readBytes s.mem s.chip (c.q 1) (c.w 3)) 0) = true → (s.chip.missing (c.w 0) u (lyBytes2 (recordLayer (readBytes s.mem s.chip (c.q 1) (c.w 3)) 0)) != 0) = false → s.chip.freeIndex = some i → ceilDiv (c.w 3) 1048576 ≤ s.chip.get HB_FREE_MIB_MIB → (s.chip.unitQueue u).length < 4 → s.chip.parked = false → RunsW (.protLayerLoad c) s (
      let e := s.chip.protEntry i (c.w 3)
      let y := { (s.chip.setEntry e).took with sw := { s.chip.sw with alloc := s.chip.sw.alloc ++ [(c.w 0, i)] } }
      let y := (y.set SW_PSEQn_SEQ (fieldLe (readBytes s.mem s.chip (c.q 1) (c.w 3)) 8 4) (c.w 0)).queueUnit (writeCells s.mem (storeBytes y (handleOf e) (readBytes s.mem s.chip (c.q 1) (c.w 3)))) u 128 (.prot (recordLayer (readBytes s.mem s.chip (c.q 1) (c.w 3)) (handleOf e + 0x80)))
      let y := (y.recordWindows (c.w 0) (readBytes s.mem s.chip (c.q 1) (c.w 3))).deferred opProtLayerLoad c [y.get CP_CHANGE_NUM]
      y) (
      let e := s.chip.protEntry i (c.w 3)
      let y := { (s.chip.setEntry e).took with sw := { s.chip.sw with alloc := s.chip.sw.alloc ++ [(c.w 0, i)] } }
      let y := (y.set SW_PSEQn_SEQ (fieldLe (readBytes s.mem s.chip (c.q 1) (c.w 3)) 8 4) (c.w 0)).queueUnit (writeCells s.mem (storeBytes y (handleOf e) (readBytes s.mem s.chip (c.q 1) (c.w 3)))) u 128 (.prot (recordLayer (readBytes s.mem s.chip (c.q 1) (c.w 3)) (handleOf e + 0x80)))
      let y := (y.recordWindows (c.w 0) (readBytes s.mem s.chip (c.q 1) (c.w 3))).deferred opProtLayerLoad c [y.get CP_CHANGE_NUM]
      (storeBytes y (handleOf e) (readBytes s.mem s.chip (c.q 1) (c.w 3))))) ∧
  (∀ (s : State) (c : Call),
      s.chip.dispatchedCall opProtKeySet c = true → (c.w 0 != bits (c.w 0) 0 2 + 256 * bits (c.w 0) 8 1) = false → bitAt (c.w 0) 8 = true → s.chip.parked = false → Runs (.protKeySet c) s ((s.chip.commitKeys fun n => { n with prot := n.prot.filter fun k => k.1 != bits (c.w 0) 0 2 }).ok opProtKeySet c [])) ∧
  (∀ (s : State) (c : Call),
      s.chip.dispatchedCall opProtKeySet c = true → (c.w 0 != bits (c.w 0) 0 2 + 256 * bits (c.w 0) 8 1) = false → bitAt (c.w 0) 8 = false → onCurve (beWord ((callBytes c 1 16).take 32)) (beWord ((callBytes c 1 16).drop 32)) = true → s.chip.parked = false → Runs (.protKeySet c) s ((s.chip.commitKeys fun n => { n with prot := (n.prot.filter fun k => k.1 != bits (c.w 0) 0 2) ++ [(bits (c.w 0) 0 2, callBytes c 1 16)] }).ok opProtKeySet c [])) ∧
  (∀ (s : State) (c : Call),
      s.chip.dispatchedCall opStaleLimitSet c = true → c.w 0 ≤ 500 → c.w 1 ≤ 2 → c.w 3 ≤ 65535 → s.chip.parked = false → Runs (.staleLimitSet c) s (({ s.chip with sw := { s.chip.sw with next := [c.w 0, c.w 1, c.w 2, c.w 3] } } : Chip).ok opStaleLimitSet c [])) ∧
  (∀ (s : State) (c : Call),
      s.chip.dispatchedCall opSecureRestart c = true → s.chip.parked = false → Runs (.secureRestart c) s (s.chip.secureDown 15 (some c)))

/-- GATE and GATE_RET pass between the worlds, the entry lock and the watchdog are written, and the secure world goes down and comes up as R444 to R463 lay down. -/
def Obligations.SecureEventsComplete : Prop :=
  (∀ (s : State) (n : Fin 4) (i m : Word) (r : BitVec 64),
      s.chip.pairSecure (pairOf n) = false → s.chip.on GL_SEC_UP = true → i.toNat ≤ 31 → s.chip.on SW_CTL_ENTRY_LOCK = true → s.chip.on SW_ENTRYe_LO_VALID i.toNat = true → m.toNat = 0xA5C30E7B → s.chip.parked = false → Runs (.gate n i m r) s { s.chip with sw := { s.chip.sw with pairs := updAt s.chip.sw.pairs (pairOf n) fun _ => (true, r.toNat), goes := sparseSet s.chip.sw.goes (pairOf n) (s.chip.gateStart i.toNat) 0 } }) ∧
  (∀ (s : State) (n : Fin 4) (i m : Word) (r : BitVec 64),
      s.chip.pairSecure (pairOf n) = false → s.chip.on GL_SEC_UP = false → s.chip.parked = false → Runs (.gate n i m r) s { s.chip with sw := { s.chip.sw with result := sparseSet s.chip.sw.result (pairOf n) stSecureDown 0 } }) ∧
  (∀ (s : State) (n : Fin 4),
      s.chip.pairSecure (pairOf n) = true → s.chip.sw.cleared.contains (pairOf n) = false → s.chip.parked = false → Runs (.gateRet n) s { s.chip with sw := { s.chip.sw with pairs := updAt s.chip.sw.pairs (pairOf n) (fun q => (false, q.2)), cleared := s.chip.sw.cleared ++ [pairOf n], goes := sparseSet s.chip.sw.goes (pairOf n) (s.chip.sw.pairs.getD (pairOf n) (false, 0)).2 0 } }) ∧
  (∀ (s : State),
      s.chip.parked = false → Runs (.entryLockSet) s (s.chip.flag SW_CTL_ENTRY_LOCK true)) ∧
  (∀ (s : State),
      s.chip.sw.wdog.isSome = true → s.chip.parked = false → Runs .swWdogKick s { s.chip.set SW_WDOG_REMAIN 50 with sw := { s.chip.sw with wdog := some s.chip.up } }) ∧
  (∀ (s : State),
      s.chip.on GL_SEC_UP = true → s.chip.sw.wdog.isSome = true → s.chip.parked = false → Runs (.secureWdogExpiry) s (s.chip.secureDown 14 none)) ∧
  (∀ (s : State),
      s.chip.on GL_SEC_UP = true → s.chip.parked = false → Runs (.secureHalt) s (s.chip.secureDown 14 none)) ∧
  (∀ (s : State),
      s.chip.on GL_SEC_RESTARTING = true → s.chip.parked = false → Runs (.secureRestartTimeout) s (s.chip.secureDown 14 none)) ∧
  (∀ (s : State),
      s.chip.on GL_SEC_UP = false → s.chip.on GL_SEC_HALTED = false → s.chip.kennel = false → s.chip.sw.restart = none → s.chip.parked = false → Runs .secureUp s (
      let y := (((s.chip.flag GL_SEC_UP true).flag GL_SEC_RESTARTING false).flag GL_SAFE_START false).raise 505
      let y := { y with sw := { y.sw with wdog := some s.chip.up, restart := none, removed := [] } }
      let y := (y.updSafe.requeueProt s.mem).onlyIf (y.get RB_STAT_PHASE < 5) fun z => z.set RB_STAT_PHASE 5
      let y := y.onlyIf y.secureWaits Chip.secureEnter
      y)) ∧
  (∀ (s : State) (c : Call) (t : Nat),
      s.chip.on GL_SEC_UP = false → s.chip.on GL_SEC_HALTED = false → s.chip.kennel = false → s.chip.sw.restart = some (some c, t) → s.chip.parked = false → Runs .secureUp s (
      let y := (((s.chip.flag GL_SEC_UP true).flag GL_SEC_RESTARTING false).flag GL_SAFE_START false).raise 505
      let y := { y with sw := { y.sw with wdog := some s.chip.up, restart := none, removed := [] } }
      let y := (y.updSafe.requeueProt s.mem).onlyIf (y.get RB_STAT_PHASE < 5) fun z => z.set RB_STAT_PHASE 5
      let y := y.onlyIf y.secureWaits Chip.secureEnter
      (y.ok opSecureRestart c [(s.chip.up - t) / tpms])))

/-- Submission of a well-formed job makes it Queued and answers with its number; barriers, bin growth, shader modules and pipelines act as R143, R165, R168, R176, R179, R182 and R190 lay down. -/
def Obligations.RenderCommandsComplete : Prop :=
  (∀ (s : State) (c : Call),
      s.chip.dispatchedCall opRenderSubmit c = true → c.q 0 % 256 = 0 → (s.chip.ownRange c.who (c.q 0) 256 guestClasses).isNone = false → renderBad s.mem s.chip c.who (readBytes s.mem s.chip (c.q 0) 256) = none → s.chip.jobRoom c.who false = true → s.chip.parked = false → Runs (.renderSubmit c) s (
      let d := readBytes s.mem s.chip (c.q 0) 256
      let pipes := ((List.range (fieldAt d 0x18 4)).map fun i => drawPipe s.mem s.chip (fieldAt d 0x10 8 + 64 * i)).eraseDups
      let n := s.chip.nextJob c.who
      let j := { jobOf false c.who (s.chip.get FNf_GEN_GEN c.who) n c.ring d (fun a => a) pipes [] with world := c.world }
      let r := s.chip.protSubmit j (d ++ readBytes s.mem s.chip (fieldAt d 0x10 8) (64 * fieldAt d 0x18 4))
      ((r.1.acceptJob { j with handles := jobHandles s.mem s.chip j, pfn := r.2 }).ok opRenderSubmit c [n]))) ∧
  (∀ (s : State) (c : Call),
      s.chip.dispatchedCall opComputeSubmit c = true → c.q 0 % 128 = 0 → (s.chip.ownRange c.who (c.q 0) 128 guestClasses).isNone = false → computeBad s.chip c.who (readBytes s.mem s.chip (c.q 0) 128) = none → s.chip.jobRoom c.who true = true → s.chip.parked = false → Runs (.computeSubmit c) s (
      let d := readBytes s.mem s.chip (c.q 0) 128
      let n := s.chip.nextJob c.who
      let j := { jobOf true c.who (s.chip.get FNf_GEN_GEN c.who) n c.ring d (fun a => a) [fieldAt d 8 2] [] with
        world := c.world, lsize := s.chip.groupSize c.who (fieldAt d 8 2) }
      ((s.chip.acceptJob { j with handles := jobHandles s.mem s.chip j }).ok opComputeSubmit c [n]))) ∧
  (∀ (s : State) (c : Call),
      s.chip.dispatchedCall opRenderBarrier c = true → c.w 0 < 16 → c.w 0 % 4 ≠ 0 → c.w 0 / 4 ≠ 0 → s.chip.parked = false → Runs (.renderBarrier c) s (
      let before := (s.chip.gx.jobs.filter fun j => j.fn = c.who && (j.ring = c.ring.val && (if j.compute then bitAt (c.w 0) 1 else bitAt (c.w 0) 0))).map (·.num)
      let b : RBarrier := ⟨c.who, c.ring.val, bitAt (c.w 0) 2, bitAt (c.w 0) 3, before⟩
      (({ s.chip with gx := { s.chip.gx with barriers := if before = [] then s.chip.gx.barriers else s.chip.gx.barriers ++ [b] } } : Chip).ok opRenderBarrier c []))) ∧
  (∀ (s : State) (c : Call) (j : Job),
      s.chip.dispatchedCall opBinGrow c = true → (s.chip.gx.jobs.find? fun j => j.is c.who (c.w 0) && !j.compute) = some j → c.w 3 = 0 → j.st = .binWait → s.chip.parked = false → Runs (.binGrow c) s ((s.chip.enterSpill j).binGrown c j 0)) ∧
  (∀ (s : State) (c : Call) (j : Job),
      s.chip.dispatchedCall opBinGrow c = true → (s.chip.gx.jobs.find? fun j => j.is c.who (c.w 0) && !j.compute) = some j → c.w 3 = 0 → j.st ≠ .binWait → s.chip.parked = false → Runs (.binGrow c) s (s.chip.binGrown c j 2)) ∧
  (∀ (s : State) (c : Call) (j : Job),
      s.chip.dispatchedCall opBinGrow c = true → (s.chip.gx.jobs.find? fun j => j.is c.who (c.w 0) && !j.compute) = some j → c.w 3 ≠ 0 → hOffset (c.q 1) = 0 → (s.chip.ownRange c.who (c.q 1) 0 [4]).isNone = false → s.chip.pooled (hIndex (c.q 1)) = false → (s.chip.ownRange c.who (c.q 1) (c.w 3 * 65536) [4]).isNone = false → j.pool.length < 32 → j.st = .binWait → j.cores ≠ [] → s.chip.parked = false → Runs (.binGrow c) s (((s.chip.enterPhase { { j with pool := j.pool ++ [(c.q 1, c.w 3)] } with timer := false } .binning).countJobs).binGrown c { j with pool := j.pool ++ [(c.q 1, c.w 3)] } 0)) ∧
  (∀ (s : State) (c : Call) (j : Job),
      s.chip.dispatchedCall opBinGrow c = true → (s.chip.gx.jobs.find? fun j => j.is c.who (c.w 0) && !j.compute) = some j → c.w 3 ≠ 0 → hOffset (c.q 1) = 0 → (s.chip.ownRange c.who (c.q 1) 0 [4]).isNone = false → s.chip.pooled (hIndex (c.q 1)) = false → (s.chip.ownRange c.who (c.q 1) (c.w 3 * 65536) [4]).isNone = false → j.pool.length < 32 → j.st = .binWait → j.cores = [] → s.chip.parked = false → Runs (.binGrow c) s (((s.chip.setJob { { j with pool := j.pool ++ [(c.q 1, c.w 3)] } with timer := false, st := .ready, phase := .binning }).settleJobs.countJobs).binGrown c { j with pool := j.pool ++ [(c.q 1, c.w 3)] } 0)) ∧
  (∀ (s : State) (c : Call) (j : Job),
      s.chip.dispatchedCall opBinGrow c = true → (s.chip.gx.jobs.find? fun j => j.is c.who (c.w 0) && !j.compute) = some j → c.w 3 ≠ 0 → hOffset (c.q 1) = 0 → (s.chip.ownRange c.who (c.q 1) 0 [4]).isNone = false → s.chip.pooled (hIndex (c.q 1)) = false → (s.chip.ownRange c.who (c.q 1) (c.w 3 * 65536) [4]).isNone = false → j.pool.length < 32 → j.st = .spill → s.chip.parked = false → Runs (.binGrow c) s ((s.chip.setJob { j with pool := j.pool ++ [(c.q 1, c.w 3)] }).binGrown c { j with pool := j.pool ++ [(c.q 1, c.w 3)] } 1)) ∧
  (∀ (s : State) (c : Call),
      s.chip.dispatchedCall opShaderLoad c = true → (s.chip.ownRange c.who (c.q 0) (c.w 2) guestClasses).isNone = false → c.w 2 % 4 = 0 → 20 ≤ c.w 2 → c.w 2 ≤ 4194304 → moduleBad (bytesWords (readBytes s.mem s.chip (c.q 0) (c.w 2))) = none → ((s.chip.gx.modules.filter fun m => m.fn = c.who).map (·.num)).length < 1024 → s.chip.parked = false → Runs (.shaderLoad c) s (
      let ws := bytesWords (readBytes s.mem s.chip (c.q 0) (c.w 2))
      let k := s.chip.freeNumber ((s.chip.gx.modules.filter fun m => m.fn = c.who).map (·.num))
      (({ s.chip.took with gx := { s.chip.gx with modules := s.chip.gx.modules ++ [(⟨c.who, k, ws⟩ : Module)] } } : Chip).ok opShaderLoad c [k, (modEntries ws).length]))) ∧
  (∀ (s : State) (c : Call),
      s.chip.dispatchedCall opPipelineCreate c = true → c.q 0 % 64 = 0 → (s.chip.ownRange c.who (c.q 0) 256 guestClasses).isNone = false → s.chip.recordBad c.who (readBytes s.mem s.chip (c.q 0) 256) = none → ((s.chip.gx.pipes.filter fun p => p.fn = c.who).map (·.num)).length < 1024 → s.chip.gx.pipes.length < 16384 → (readBytes s.mem s.chip (c.q 0) 256).getD 4 0 = 1 → s.chip.parked = false → Runs (.pipelineCreate c) s (
      let bs := (readBytes s.mem s.chip (c.q 0) 256)
      let f := fun o n => leNat ((bs.drop o).take n)
      let words := [f 8 2, 0xFFFF].flatMap fun n => match s.chip.shaderMod c.who n with
        | some m => m.words.flatMap wordBytes
        | none => []
      let bare := bs.take 8 ++ ([0, 0] ++ ((bs.drop 10).take 2 ++ ([0, 0] ++ bs.drop 14)))
      let spec := if f 0x10 8 = 0 then [] else readBytes s.mem s.chip (f 0x10 8) (f 0x18 4)
      let hash := sha256 (words ++ (bare ++ (spec ++ wordBytes (s.chip.get GX_COMPILER_VERSION))))
      let r := s.chip.codeFor (beWord hash) c.world
      (match r.2 with
        | .inl n => r.1.done opPipelineCreate c stNoResource [n]
        | .inr hit =>
          let k := r.1.freeNumber ((s.chip.gx.pipes.filter fun p => p.fn = c.who).map (·.num))
          let flags := match s.chip.shaderMod c.who 0xFFFF with
            | some m => fragFlags m.words
            | none => 0
          let p : Pipeline := ⟨c.who, k, true, beWord hash, c.world, (f 8 2, 0xFFFF), bs.getD 5 0,
            (List.range 4).map fun t => f (0xC0 + 16 * t) 2, (List.range 4).map fun s => f (0x1C + 2 * s) 2, bs, flags, false⟩
          let y := { r.1.took with gx := { r.1.gx with pipes := r.1.gx.pipes ++ [p] } }
          ((y.set GX_PIPES_LIVE y.gx.pipes.length).shipPipe hash (words ++ (bs ++ [flags]))).ok opPipelineCreate c [k, b2n hit]))) ∧
  (∀ (s : State) (c : Call),
      s.chip.dispatchedCall opPipelineDestroy c = true → bitAt (c.w 0) 31 = true → (s.chip.shaderMod c.who (bits (c.w 0) 0 16)).isNone = false → (s.chip.gx.pipes.any fun p => p.fn = c.who && (p.mods.1 = bits (c.w 0) 0 16 || p.mods.2 = bits (c.w 0) 0 16)) = false → s.chip.parked = false → Runs (.pipelineDestroy c) s (({ s.chip with gx := { s.chip.gx with modules := s.chip.gx.modules.filter fun m => !(m.fn = c.who && m.num = bits (c.w 0) 0 16) } } : Chip).ok opPipelineDestroy c [])) ∧
  (∀ (s : State) (c : Call),
      s.chip.dispatchedCall opPipelineDestroy c = true → bitAt (c.w 0) 31 = false → (s.chip.pipeline c.who (bits (c.w 0) 0 16)).isNone = false → s.chip.parked = false → Runs (.pipelineDestroy c) s ({ s.chip with gx := { s.chip.gx with pipes := updAll s.chip.gx.pipes (fun p => p.fn = c.who && p.num = bits (c.w 0) 0 16) fun p => { p with dying := true }, destroys := s.chip.gx.destroys ++ [(c, bits (c.w 0) 0 16)] } } : Chip).reapPipes) ∧
  (∀ (s : State) (c : Call),
      s.chip.dispatchedCall opShaderCacheFlush c = true → s.chip.parked = false → Runs (.shaderCacheFlush c) s ((s.chip.setCache (s.chip.gx.cache.filter s.chip.cacheUsed)).ok opShaderCacheFlush c []))

/-- At a dispatch point the Herder accounts the core time used, offloads the job its estimates choose where R135 allows, and assigns free cores to render jobs, then compute jobs, then fill cycles; a preemption point, a preemption timeout and the bin pool running short act as R131 to R135, R153 to R156, R166 and R167 lay down. -/
def Obligations.DispatchCompletes : Prop :=
  (∀ (s : State),
      s.chip.parked = false → RunsTo (.dispatchPoint none) s (let y := ((((s.chip.gx.jobs.filter fun j => j.cores != []).foldl Chip.accrue s.chip).endFill.readyJobs).yieldWaiting)
      let n := y.gx.jobs.length
      let y := dispatchJobs s.mem (fun j => !j.compute) n y
      let y := dispatchJobs s.mem (fun j => j.compute) n y
      let y := fillJob s.mem y.readyJobs
      ({ s.work with x := y.countJobs } : Work).blPump)) ∧
  (∀ (s : State) (r : JobRef) (j : Job),
      ((((s.chip.gx.jobs.filter fun j => j.cores != []).foldl Chip.accrue s.chip).endFill.readyJobs).yieldWaiting).job r.fn.val r.num.toNat = some j → mayOffload s.mem ((((s.chip.gx.jobs.filter fun j => j.cores != []).foldl Chip.accrue s.chip).endFill.readyJobs).yieldWaiting) j = true → s.chip.parked = false → RunsTo (.dispatchPoint (some r)) s (let y := offloadOut s.mem ((((s.chip.gx.jobs.filter fun j => j.cores != []).foldl Chip.accrue s.chip).endFill.readyJobs).yieldWaiting) j
      let n := y.gx.jobs.length
      let y := dispatchJobs s.mem (fun j => !j.compute) n y
      let y := dispatchJobs s.mem (fun j => j.compute) n y
      let y := fillJob s.mem y.readyJobs
      ({ s.work with x := y.countJobs } : Work).blPump)) ∧
  (∀ (s : State) (r : JobRef) (j : Job),
      ((((s.chip.gx.jobs.filter fun j => j.cores != []).foldl Chip.accrue s.chip).endFill.readyJobs).yieldWaiting).job r.fn.val r.num.toNat = some j → mayOffload s.mem ((((s.chip.gx.jobs.filter fun j => j.cores != []).foldl Chip.accrue s.chip).endFill.readyJobs).yieldWaiting) j = false → s.chip.parked = false → RunsTo (.dispatchPoint (some r)) s (let y := ((((s.chip.gx.jobs.filter fun j => j.cores != []).foldl Chip.accrue s.chip).endFill.readyJobs).yieldWaiting)
      let n := y.gx.jobs.length
      let y := dispatchJobs s.mem (fun j => !j.compute) n y
      let y := dispatchJobs s.mem (fun j => j.compute) n y
      let y := fillJob s.mem y.readyJobs
      ({ s.work with x := y.countJobs } : Work).blPump)) ∧
  (∀ (s : State) (r : JobRef) (j : Job),
      s.chip.job r.fn.val r.num.toNat = some j → j.st = .binning → j.cores ≠ [] → (j.pos.2 ≠ 0 ∨ (drawOk s.mem s.chip j j.pos.1 = true ∧ badIndex s.mem s.chip j j.pos.1 = none)) → s.chip.parked = false → RunsTo (.preemptionPoint r .binned) s (let k := binPrims s.mem s.chip j (blockLeft s.mem s.chip j)
      (({ s.work with x := if k.drawCount ≤ k.pos.1 then s.chip.enterPhase k .tiling else s.chip.setJob k } : Work).on fun y => y.atPoint r.fn.val r.num.toNat).coresMoved)) ∧
  (∀ (s : State) (r : JobRef) (j : Job),
      s.chip.job r.fn.val r.num.toNat = some j → j.st = .binning → j.cores ≠ [] → j.pos.2 = 0 ∧ drawOk s.mem s.chip j j.pos.1 = false → s.chip.parked = false → RunsTo (.preemptionPoint r .binned) s (({ s.work with x := s.chip.abortJob j 3 j.pos.1 } : Work).coresMoved)) ∧
  (∀ (s : State) (r : JobRef) (j : Job) (core : Fin 24) (n : Nat),
      s.chip.job r.fn.val r.num.toNat = some j → j.st = .tiling ∨ j.st = .spill → j.cores[j.coreIndex n]? = some core.val → ((List.range j.members).any fun m => (j.left m).contains n) = true → s.chip.parked = false → RunsTo (.preemptionPoint r (.tile core n)) s (((s.work.tileDone r.fn.val r.num.toNat n).on fun y => y.atPoint r.fn.val r.num.toNat).coresMoved)) ∧
  (∀ (s : State) (r : JobRef) (j : Job) (done : Nat),
      s.chip.job r.fn.val r.num.toNat = some j → j.st = .running → s.chip.parked = false → RunsTo (.preemptionPoint r (.workgroups done)) s (((s.work.on fun y => y.setJob { j with finished := max j.finished (min done j.groups) }).on fun y => y.atPoint r.fn.val r.num.toNat).coresMoved)) ∧
  (∀ (s : State) (r : JobRef) (j : Job),
      s.chip.job r.fn.val r.num.toNat = some j → j.preempt = true → j.cores ≠ [] → s.chip.jobHeel j = false → s.chip.parked = false → RunsTo (.preemptTimeout r) s ((s.work.on fun y => (y.raise 101).abortJob j 1 0).coresMoved)) ∧
  (∀ (s : State) (r : JobRef) (j : Job) (u : BinUse),
      s.chip.job r.fn.val r.num.toNat = some j → j.st = .binning → j.cores ≠ [] → j.old = true → s.chip.parked = false → RunsTo (.binPoolFull r u) s ((s.work.on fun y => y.abandonJob j false).coresMoved)) ∧
  (∀ (s : State) (r : JobRef) (j : Job) (u : BinUse),
      s.chip.job r.fn.val r.num.toNat = some j → j.st = .binning → j.cores ≠ [] → j.old = false → (j.pos.2 ≠ 0 ∨ (drawOk s.mem s.chip j j.pos.1 = true ∧ badIndex s.mem s.chip j j.pos.1 = none)) → blockLeft s.mem s.chip j ≠ 0 → j.fn = 127 → j.world = false → s.chip.parked = false → RunsTo (.binPoolFull r u) s (let k := binPrims s.mem s.chip j (min u.prims (blockLeft s.mem s.chip j - 1))
      ({ s.work with x := (s.chip.setJob k).enterSpill k } : Work))) ∧
  (∀ (s : State) (r : JobRef) (j : Job) (u : BinUse),
      s.chip.job r.fn.val r.num.toNat = some j → j.st = .binning → j.cores ≠ [] → j.old = false → (j.pos.2 ≠ 0 ∨ (drawOk s.mem s.chip j j.pos.1 = true ∧ badIndex s.mem s.chip j j.pos.1 = none)) → blockLeft s.mem s.chip j ≠ 0 → (j.fn = 127 && !j.world) = false → s.chip.parked = false → RunsTo (.binPoolFull r u) s (let k := binPrims s.mem s.chip j (min u.prims (blockLeft s.mem s.chip j - 1))
      ({ s.work with x := s.chip.binPause k u (primsRemaining s.mem s.chip k) } : Work).coresMoved)) ∧
  (∀ (s : State) (r : JobRef) (j : Job),
      s.chip.job r.fn.val r.num.toNat = some j → j.st = .binWait → j.timer = true → s.chip.parked = false → Runs (.binGrowTimeout r) s (s.chip.enterSpill j)) ∧
  (∀ (s : State) (r : JobRef) (j : Job),
      s.chip.job r.fn.val r.num.toNat = some j → j.st = .spill → j.cores ≠ [] → s.chip.parked = false → RunsTo (.spillDone r) s (let w := s.work.restDone j
      match w.x.job r.fn.val r.num.toNat with
      | some k => w.on fun y => y.enterPhase { k with prims := [], binned := 0 } .binning
      | none => w))

/-- RENDER_JOB_COMPLETE compares and writes the tile signatures, then ends the job with its fence and notice; COMPUTE_JOB_COMPLETE likewise; a core error resets the core (R144, R191, R194 to R199). -/
def Obligations.JobsComplete : Prop :=
  (∀ (s : State) (r : JobRef) (j : Job),
      s.chip.job r.fn.val r.num.toNat = some j → j.compute = false → j.st = .tiling → j.cores ≠ [] → j.old = true → s.chip.parked = false → RunsTo (.renderJobComplete r.fn r.num) s ((s.work.on fun y => (y.abandonJob j false).countDiscard r.fn.val).coresMoved)) ∧
  (∀ (s : State) (r : JobRef) (j : Job),
      s.chip.job r.fn.val r.num.toNat = some j → j.compute = false → j.st = .tiling → j.cores ≠ [] → j.old = false → s.chip.parked = false → RunsTo (.renderJobComplete r.fn r.num) s (let w := s.work.restDone j
      let w := j.targets.foldl (fun (w : Work) t => w.signHeader j t) w
      let w := w.on fun y => y.accrue ((y.job r.fn.val r.num.toNat).getD j)
      let k := (w.x.job r.fn.val r.num.toNat).getD j
      let w := match k.pfn with
        | some p => w.protDone p.1 p.2 (w.tileSigs k)
        | none => w
      let w := if k.fn = 127 && !k.world then w.offInDone k else w
      ((w.on fun y => y.jobDone k (ticksToUs k.used)).coresMoved).blPump)) ∧
  (∀ (s : State) (r : JobRef) (j : Job),
      s.chip.job r.fn.val r.num.toNat = some j → j.compute = true → j.st = .running → j.old = true → s.chip.parked = false → RunsTo (.computeJobComplete r) s ((s.work.on fun y => (y.abandonJob j false).countDiscard r.fn.val).coresMoved)) ∧
  (∀ (s : State) (r : JobRef) (j : Job),
      s.chip.job r.fn.val r.num.toNat = some j → j.compute = true → j.st = .running → j.old = false → s.chip.parked = false → RunsTo (.computeJobComplete r) s (let w := s.work.on fun y => (y.accrue j).chargeFill j
      let k := (w.x.job r.fn.val r.num.toNat).getD j
      let w := if k.fn = 127 && !k.world then w.offInDone k else w
      ((w.on fun y => y.jobDone k (ticksToUs k.used)).coresMoved).blPump)) ∧
  (∀ (s : State) (core : Fin 24),
      s.chip.parked = false → RunsTo (.gxEccUncorrectable core .corrected) s (s.work.on fun y => (y.sat GXn_ECC_CORR core.val).raise 121)) ∧
  (∀ (s : State) (core : Fin 24),
      s.chip.parked = false → RunsTo (.gxEccUncorrectable core .l1) s (s.work.on fun y => y.flag GXn_ECC_UNCORR true core.val)) ∧
  (∀ (s : State) (core : Fin 24),
      s.chip.parked = false → RunsTo (.gxEccUncorrectable core .state) s ((s.work.on fun y => (((((y.flag GXn_ECC_UNCORR true core.val).raise (128 + core.val)).coreReset core.val).setBit RB_CAUSE_SRC 17 true).blockOut false 1 core.val)).coresMoved))

/-- The messages of offload class 3 act as R350, R369 and R370 lay down: pipelines arrive in segments, a job is answered, its reply, results and end come back, and a cancelled job is abandoned. -/
def Obligations.OffloadCompletes : Prop :=
  (∀ (s : State) (h : MsgHdr) (key : List Byte) (t o : Word) (data : List Byte),
      key.length = 32 → data.length ≤ 8144 → (s.chip.blTake h 3 ((key.map (·.toNat)) ++ (wordBytes t.toNat ++ (wordBytes o.toNat ++ (wordBytes (data.map (·.toNat)).length ++ data.map (·.toNat))))).length false).2 = true → s.chip.parked = false → RunsTo (.offloadPipe h key t o data) s (Work.blPump (((({ s.work with x := (s.chip.blTake h 3 ((key.map (·.toNat)) ++ (wordBytes t.toNat ++ (wordBytes o.toNat ++ (wordBytes (data.map (·.toNat)).length ++ data.map (·.toNat))))).length false).1 } : Work).cvTap 51 ((key.map (·.toNat)) ++ (wordBytes t.toNat ++ (wordBytes o.toNat ++ (wordBytes (data.map (·.toNat)).length ++ data.map (·.toNat))))))).on fun y =>
        let key := key.map (·.toNat)
        let bs := data.map (·.toNat)
        let got := match y.bl.pipes.find? fun p => p.key = key with
          | some p => if o.toNat = 0 then [] else p.bytes
          | none => []
        if o.toNat != got.length then y
        else y.setBl fun b => { b with pipes := (b.pipes.filter fun q => q.key != key) ++
          [(⟨key, got ++ bs, decide (t.toNat ≤ got.length + bs.length)⟩ : ShipPipe)] }))) ∧
  (∀ (s : State) (h : MsgHdr) (m : OffJob),
      m.desc.length = (if m.compute then 128 else 256) → m.pipes.length ≤ 255 → (s.chip.blTake h 3 (offBody m).length false).2 = true → s.chip.parked = false → RunsTo (.offloadJob h m) s (Work.blPump (let w := ((({ s.work with x := (s.chip.blTake h 3 (offBody m).length false).1 } : Work).cvTap 51 (offBody m)))
      w.on fun y =>
        let j := y.offInJob m
        let r := y.offAnswer m j
        let y := y.blSend 3 3 (wordBytes m.ref.toNat ++ [r, 0, 0, 0])
        if r != 0 then y
        else
          let j := { j with handles := ((jobInputs w.mem y j).map fun a => hIndex (y.jobAddr j a)).eraseDups }
          (y.acceptJob j).setBl fun b => { b with
            offIn := b.offIn ++ [⟨m.ref.toNat, j.num, b.copies, m.pipes.map fun p => (p.num.toNat, p.key.map (·.toNat))⟩] }))) ∧
  (∀ (s : State) (h : MsgHdr) (ref : Word),
      (s.chip.blTake h 3 (wordBytes ref.toNat ++ [0, 0, 0, 0]).length false).2 = true → s.chip.parked = false → RunsTo (.offloadReply h ref 0) s (Work.blPump (((({ s.work with x := (s.chip.blTake h 3 (wordBytes ref.toNat ++ [0, 0, 0, 0]).length false).1 } : Work).cvTap 51 (wordBytes ref.toNat ++ [0, 0, 0, 0]))).on fun y => y.setBl fun b => { b with offOut := updAll b.offOut (fun o => o.ref = ref.toNat) fun o => { o with taken := true } }))) ∧
  (∀ (s : State) (h : MsgHdr) (ref : Word) (r : BitVec 8),
      r.toNat ≠ 0 → (s.chip.blTake h 3 (wordBytes ref.toNat ++ [r.toNat, 0, 0, 0]).length false).2 = true → s.chip.parked = false → RunsTo (.offloadReply h ref r) s (Work.blPump (((({ s.work with x := (s.chip.blTake h 3 (wordBytes ref.toNat ++ [r.toNat, 0, 0, 0]).length false).1 } : Work).cvTap 51 (wordBytes ref.toNat ++ [r.toNat, 0, 0, 0]))).on fun y => y.offBack ref.toNat))) ∧
  (∀ (s : State) (h : MsgHdr) (ref : Word) (idx : Fin 8192) (tag : BitVec 16) (off : BitVec 64) (data : List Byte),
      data ≠ [] → data.length ≤ 4096 → (s.chip.blTake h 3 (wordBytes ref.toNat ++ (halfBytes idx.val ++ (halfBytes tag.toNat ++ (longBytes off.toNat ++ (wordBytes (data.map (·.toNat)).length ++ data.map (·.toNat)))))).length false).2 = true → s.chip.parked = false → RunsTo (.offloadResult h ref idx tag off data) s (Work.blPump (((({ s.work with x := (s.chip.blTake h 3 (wordBytes ref.toNat ++ (halfBytes idx.val ++ (halfBytes tag.toNat ++ (longBytes off.toNat ++ (wordBytes (data.map (·.toNat)).length ++ data.map (·.toNat)))))).length false).1 } : Work).cvTap 51 (wordBytes ref.toNat ++ (halfBytes idx.val ++ (halfBytes tag.toNat ++ (longBytes off.toNat ++ (wordBytes (data.map (·.toNat)).length ++ data.map (·.toNat)))))))).on fun y => if y.bl.offOut.any fun o => o.ref = ref.toNat then
        y.setBl fun b => { b with stage := b.stage ++ [(⟨ref.toNat, idx.val, tag.toNat, off.toNat, data.map (·.toNat)⟩ : Staged)] } else y))) ∧
  (∀ (s : State) (h : MsgHdr) (ref : Word) (sp : BitVec 8) (us rs : Word) (o : OffOut),
      (s.chip.blTake h 3 (wordBytes ref.toNat ++ ([1, sp.toNat, 0, 0] ++ (wordBytes us.toNat ++ wordBytes rs.toNat))).length false).2 = true → ((((⟨(s.chip.blTake h 3 (wordBytes ref.toNat ++ ([1, sp.toNat, 0, 0] ++ (wordBytes us.toNat ++ wordBytes rs.toNat))).length false).1, s.mem, []⟩ : Work).cvTap 51 (wordBytes ref.toNat ++ ([1, sp.toNat, 0, 0] ++ (wordBytes us.toNat ++ wordBytes rs.toNat))))).x.bl.offOut.find? fun o => o.ref = ref.toNat) = some o → s.chip.parked = false → let w : Work := Work.blPump ((((⟨(s.chip.blTake h 3 (wordBytes ref.toNat ++ ([1, sp.toNat, 0, 0] ++ (wordBytes us.toNat ++ wordBytes rs.toNat))).length false).1, s.mem, []⟩ : Work).cvTap 51 (wordBytes ref.toNat ++ ([1, sp.toNat, 0, 0] ++ (wordBytes us.toNat ++ wordBytes rs.toNat))))).on fun y => y.offBack ref.toNat); exec (.offloadDone h ref true sp us rs) s = .next { s with chip := w.x, mem := writeCells s.mem w.ws }) ∧
  (∀ (s : State) (h : MsgHdr) (ref : Word) (sp : BitVec 8) (us rs : Word) (o : OffOut),
      (s.chip.blTake h 3 (wordBytes ref.toNat ++ ([0, sp.toNat, 0, 0] ++ (wordBytes us.toNat ++ wordBytes rs.toNat))).length false).2 = true → ((((⟨(s.chip.blTake h 3 (wordBytes ref.toNat ++ ([0, sp.toNat, 0, 0] ++ (wordBytes us.toNat ++ wordBytes rs.toNat))).length false).1, s.mem, []⟩ : Work).cvTap 51 (wordBytes ref.toNat ++ ([0, sp.toNat, 0, 0] ++ (wordBytes us.toNat ++ wordBytes rs.toNat))))).x.bl.offOut.find? fun o => o.ref = ref.toNat) = some o → s.chip.parked = false → let w : Work := Work.blPump (let w := (((⟨(s.chip.blTake h 3 (wordBytes ref.toNat ++ ([0, sp.toNat, 0, 0] ++ (wordBytes us.toNat ++ wordBytes rs.toNat))).length false).1, s.mem, []⟩ : Work).cvTap 51 (wordBytes ref.toNat ++ ([0, sp.toNat, 0, 0] ++ (wordBytes us.toNat ++ wordBytes rs.toNat)))))
      let w := (w.x.bl.stage.filter fun q => q.ref = ref.toNat).foldl Work.unstage w
      let w := w.on fun y => (y.setBl fun b => { b with
        offOut := b.offOut.filter fun p => p.ref != ref.toNat, stage := b.stage.filter fun q => q.ref != ref.toNat }).sat BL_OFFLOAD_SENT
      w.on fun y => match y.job o.fn o.num with
        | some j => y.jobDone { j with spills := sp.toNat } us.toNat
        | none => y); exec (.offloadDone h ref false sp us rs) s = .next { s with chip := w.x, mem := writeCells s.mem w.ws }) ∧
  (∀ (s : State) (h : MsgHdr) (ref : Word),
      (s.chip.blTake h 3 (wordBytes ref.toNat).length false).2 = true → s.chip.parked = false → RunsTo (.offloadCancel h ref) s (Work.blPump (((({ s.work with x := (s.chip.blTake h 3 (wordBytes ref.toNat).length false).1 } : Work).cvTap 51 (wordBytes ref.toNat))).on fun y => match y.bl.offIn.find? fun o => o.ref = ref.toNat with
        | none => y
        | some o =>
          let y := y.setBl fun b => { b with offIn := b.offIn.filter fun p => p.ref != ref.toNat }
          match y.job 127 o.num with
          | some j => if j.cores = [] then y.abandonJob j false else (y.setJob { j with old := true }).requestPreempt fun k => k.is 127 o.num
          | none => y)))

/-- A register write of an aligned word reaches its page, and a Commission-page write while the lock is clear restarts the session's idle time; a write of another size or address, one to a page that is off and one of the normal world to the secure world's registers are counted and change nothing else (R4, R449, R473, R550, R570). TDM_CFG_WRITE is such a write (R306). -/
def Obligations.RegisterWritesComplete : Prop :=
  (∀ (s : State) (d : Bool) (a : BitVec 25) (v : Word),
      s.chip.get GL_MODE_POWER ≠ 3 → s.chip.present 0 = true → a.toNat % 4 = 0 → s.chip.pageOff a.toNat = false → (⟨false, d, 0, a.toNat, v.toNat⟩ : Writer).violates = false → (!s.chip.on RJ_SESSION_LOCK && commissionPage (a.toNat / 4096 * 4096)) = false → RunsReach (.registerWrite ⟨false, d, 0, .bar0, a, 4, v⟩) s (s.chip.pageWrite (⟨false, d, 0, a.toNat, v.toNat⟩ : Writer))) ∧
  (∀ (s : State) (d : Bool) (a : BitVec 25) (v : Word),
      s.chip.get GL_MODE_POWER ≠ 3 → s.chip.present 0 = true → a.toNat % 4 = 0 → s.chip.pageOff a.toNat = false → (⟨false, d, 0, a.toNat, v.toNat⟩ : Writer).violates = false → (!s.chip.on RJ_SESSION_LOCK && commissionPage (a.toNat / 4096 * 4096)) = true → RunsReach (.registerWrite ⟨false, d, 0, .bar0, a, 4, v⟩) s ((s.chip.pageWrite (⟨false, d, 0, a.toNat, v.toNat⟩ : Writer)).roleAct)) ∧
  (∀ (s : State) (d : Bool) (f : Fin 65) (a : BitVec 25) (v : Word),
      s.chip.get GL_MODE_POWER ≠ 3 → s.chip.present 0 = true → a.toNat % 4 = 0 → s.chip.pageOff a.toNat = false → (⟨true, d, 0, a.toNat, v.toNat⟩ : Writer).violates = false → RunsReach (.registerWrite ⟨true, d, f, .bar0, a, 4, v⟩) s (if !s.chip.on RJ_SESSION_LOCK && commissionPage (a.toNat / 4096 * 4096) then (s.chip.pageWrite (⟨true, d, 0, a.toNat, v.toNat⟩ : Writer)).roleAct else s.chip.pageWrite (⟨true, d, 0, a.toNat, v.toNat⟩ : Writer))) ∧
  (∀ (s : State) (d : Bool) (a : BitVec 25) (z : Fin 65) (v : Word),
      s.chip.get GL_MODE_POWER ≠ 3 → s.chip.present 0 = true → z ≠ 4 ∨ a.toNat % 4 ≠ 0 → RunsReach (.registerWrite ⟨false, d, 0, .bar0, a, z, v⟩) s (s.chip.accErr false a.toNat 0)) ∧
  (∀ (s : State) (d : Bool) (a : BitVec 25) (v : Word),
      s.chip.get GL_MODE_POWER ≠ 3 → s.chip.present 0 = true → a.toNat % 4 = 0 → s.chip.pageOff a.toNat = true → RunsReach (.registerWrite ⟨false, d, 0, .bar0, a, 4, v⟩) s (s.chip.accErr false a.toNat 1)) ∧
  (∀ (s : State) (d : Bool) (a : BitVec 25) (v : Word),
      s.chip.get GL_MODE_POWER ≠ 3 → s.chip.present 0 = true → a.toNat % 4 = 0 → s.chip.pageOff a.toNat = false → (⟨false, d, 0, a.toNat, v.toNat⟩ : Writer).violates = true → RunsReach (.registerWrite ⟨false, d, 0, .bar0, a, 4, v⟩) s (s.chip.swViol (⟨false, d, 0, a.toNat, v.toNat⟩ : Writer))) ∧
  (∀ (s : State) (d : Bool) (f : Fin 65) (a : BitVec 25) (v : Word),
      s.chip.get GL_MODE_POWER ≠ 3 → f ≠ 0 → s.chip.present f = true → a.toNat < 65536 → a.toNat % 4 = 0 → RunsReach (.registerWrite ⟨false, d, f, .bar0, a, 4, v⟩) s (s.chip.vfWrite f.val a.toNat v.toNat)) ∧
  (∀ (s : State) (d : Bool) (f : Fin 65) (a : BitVec 25) (z : Fin 65) (v : Word),
      s.chip.get GL_MODE_POWER ≠ 3 → s.chip.present f = true → RunsReach (.registerWrite ⟨false, d, f, .msixControl, a, z, v⟩) s (s.chip.msixCtl f.val v.toNat)) ∧
  (∀ (s : State) (d : Bool) (a : BitVec 25) (v : Word),
      s.chip.get GL_MODE_POWER ≠ 3 → s.chip.present 0 = true → a.toNat < 4096 → a.toNat % 4 = 0 → RunsReach (.registerWrite ⟨false, d, 0, .bar2, a, 4, v⟩) s (s.chip.msixWrite 0 a.toNat v.toNat)) ∧
  (∀ (s : State) (n : Fin 16) (v : Word),
      s.chip.get GL_MODE_POWER ≠ 3 → s.chip.present 0 = true → n.val < 8 → s.chip.kennel = false → s.chip.parked = false → Runs (.tdmCfgWrite false n v) s (
      let y := tdmWrite false n.val v.toNat s.chip; (if !s.chip.on RJ_SESSION_LOCK then y.roleAct else y))) ∧
  (∀ (s : State) (n : Fin 16) (v : Word),
      s.chip.get GL_MODE_POWER ≠ 3 → s.chip.present 0 = true → n.val < 16 → s.chip.kennel = false → s.chip.parked = false → Runs (.tdmCfgWrite true n v) s (
      let y := tdmWrite true n.val v.toNat s.chip; (if !s.chip.on RJ_SESSION_LOCK then y.roleAct else y)))

/-- EPOCH_BOUNDARY takes the shares, counts, migrations and channel states of the epoch (R105, R388), and the Skein streams that waited for the epoch's bytes move again (R332). -/
def Obligations.EpochCompletes : Prop :=
  (∀ (s : State),
      s.chip.parked = false → RunsTo .epochBoundary s ((s.work.on fun y => y.epoch.mcEpoch).pump))

/-- ATTACH begins an attach and answers later, DETACH asks the twin or ends a failed pairing, TWIN_QUERY answers (R353, R367, R374). -/
def Obligations.TwinCommandsComplete : Prop :=
  (∀ (s : State) (c : Call),
      s.chip.dispatchedCall opAttach c = true → c.words.length = 0 → s.chip.on BL_CFG_TWIN_EN = true → s.chip.paired = false → s.chip.get BL_STAT_ATTACH = 0 → s.chip.on GL_DEG_CAUSE_PROOF_FAIL = false → s.chip.parked = false → RunsTo (.attach c) s ((s.work.on fun y => (y.deferred opAttach c []).beginAttach).blPump)) ∧
  (∀ (s : State) (c : Call),
      s.chip.dispatchedCall opDetach c = true → c.words.length = 0 → s.chip.paired = false → s.chip.get BL_STAT_ATTACH ≠ 0 → s.chip.parked = false → RunsTo (.detach c) s ((s.work.on fun y => ((y.attachFail 11).onlyIf (y.lkState 2 = lkUp) (·.blSend 5 3 [])).ok opDetach c []).blPump)) ∧
  (∀ (s : State) (c : Call),
      s.chip.dispatchedCall opDetach c = true → c.words.length = 0 → s.chip.paired = true → s.chip.bl.supervised = false → s.chip.parked = false → RunsW (.detach c) s (((s.chip.setMode GL_MODE_PAIR 0).twinChange 3).ok opDetach c []) []) ∧
  (∀ (s : State) (c : Call),
      s.chip.dispatchedCall opDetach c = true → c.words.length = 0 → s.chip.paired = true → s.chip.bl.supervised = true → s.chip.bl.detachIn = true → s.chip.parked = false → RunsTo (.detach c) s (
      let y := s.chip.setBl fun b => { b with detach := some c }; (({ s.work with x := (y.blSend 5 4 []).setBl fun b => { b with detachGo := true } } : Work).blPump))) ∧
  (∀ (s : State) (c : Call),
      s.chip.dispatchedCall opDetach c = true → c.words.length = 0 → s.chip.paired = true → s.chip.bl.supervised = true → s.chip.bl.detachIn = false → s.chip.parked = false → RunsTo (.detach c) s (
      let y := s.chip.setBl fun b => { b with detach := some c }; (({ s.work with x := y.blSend 5 3 [] } : Work).blPump))) ∧
  (∀ (s : State) (c : Call),
      s.chip.dispatchedCall opTwinQuery c = true → c.words.length = 0 → s.chip.parked = false → Runs (.twinQuery c) s (s.chip.ok opTwinQuery c [s.chip.regWord BL_STAT_LINK 0, s.chip.get BL_TWIN_MODE_MODE, s.chip.get BL_ATTACH_RES_CODE, s.chip.get BL_LEASH_AGE + 65536 * s.chip.get BL_LEASH_MISSED, s.chip.get BL_TIME_OFS_TICKS]))

/-- The leash, its losses, the hung twin and the mode of the twin act as R351, R352, R365 and R371 lay down. -/
def Obligations.LeashCompletes : Prop :=
  (∀ (s : State) (h : MsgHdr) (n : Word) (m : BitVec 24) (t : Stamp) (v : BitVec 8),
      (s.chip.blTake h 0 24 false).2 = true → s.chip.parked = false → RunsTo (.leash h n m t v) s (Work.blPump ({ s.work with x := (let y := (((s.chip.blTake h 0 24 false).1.setBl fun b => { b with hung := false }).set BL_LEASH_RX_COUNT n.toNat); if y.bl.supervised then ((y.leashAge 0).set BL_LEASH_MISSED 0).twinMode m.toNat else y) }))) ∧
  (∀ (s : State),
      s.chip.bl.supervised = false → s.chip.parked = false → RunsTo (.leashSend) s (s.work.blPump)) ∧
  (∀ (s : State),
      s.chip.bl.supervised = true → s.chip.parked = false → RunsTo (.leashSend) s (let y := s.chip.setBl fun b => { b with count := (b.count + 1) % 2 ^ 32 }
      let body := wordBytes y.bl.count ++ (wordBytes y.modeWord ++ (wordBytes (y.get TB_SEC_SEC) ++ (wordBytes (y.get TB_TICK_TICK) ++
        ([y.leashState] ++ List.replicate 7 0))))
      (({ s.work with x := y.blSend 0 1 body } : Work).blPump).on fun z =>
        if z.bl.detachGo then z.detachNow
        else if z.get BL_STAT_ATTACH = 5 && (z.bl.syncSent && z.bl.syncGot) then z.pairUp else z)) ∧
  (∀ (s : State),
      s.chip.bl.supervised = true → s.chip.parked = false → Runs (.leashMissed) s (((s.chip.leashAge (max s.chip.bl.age ((s.chip.get BL_LEASH_MISSED + 1) * 250 * tps / 1000000))).set BL_LEASH_MISSED (min (s.chip.get BL_LEASH_MISSED + 1) 3)).raise 420)) ∧
  (∀ (s : State),
      s.chip.bl.supervised = true → s.chip.parked = false → Runs (.twinLost) s (((s.chip.leashAge (max s.chip.bl.age (750 * tps / 1000000))).set BL_LEASH_MISSED 3).loseTwin)) ∧
  (∀ (s : State),
      s.chip.bl.hung = true → s.chip.lkState 2 = lkUp → s.chip.parked = false → RunsTo (.hungTwin) s (({ s.work with x := (s.chip.blSend 5 10 []).setBl fun b => { b with hung := false } } : Work).blPump)) ∧
  (∀ (s : State) (h : MsgHdr) (m : BitVec 24),
      (s.chip.blTake h 5 4 false).2 = true → s.chip.parked = false → RunsTo (.modeMsg h m) s (Work.blPump ({ s.work with x := (s.chip.blTake h 5 4 false).1.twinMode m.toNat }))) ∧
  (∀ (s : State) (h : MsgHdr) (v : BitVec 8),
      (s.chip.blTake h 5 4 false).2 = true → (s.chip.blTake h 5 4 false).1.paired = true → s.chip.parked = false → RunsTo (.leaveMsg h v) s (Work.blPump (let y := ((s.chip.blTake h 5 4 false).1.set BL_STAT_ATTACH 0).unsupervise
      let y := ((y.setMode GL_MODE_PAIR 0).flag GL_MODE_TWIN_SERVICE false).flag GL_MODE_TWIN_KENNEL false
      { s.work with x := (y.updShadow.endOffload).twinChange 6 }))) ∧
  (∀ (s : State) (h : MsgHdr),
      (s.chip.blTake h 5 0 false).2 = true → (s.chip.blTake h 5 0 false).1.paired = true → ((s.chip.blTake h 5 0 false).1.setBl fun b => { b with detachIn := true }).detachWaits = false → s.chip.parked = false → RunsTo (.detachReq h) s (Work.blPump ({ s.work with x := (s.chip.blTake h 5 0 false).1.setBl fun b => { b with detachIn := true } }))) ∧
  (∀ (s : State) (h : MsgHdr),
      (s.chip.blTake h 5 0 false).2 = true → (s.chip.blTake h 5 0 false).1.paired = false → s.chip.parked = false → RunsTo (.detachReq h) s (Work.blPump ({ s.work with x := (s.chip.blTake h 5 0 false).1.attachFail 11 }))) ∧
  (∀ (s : State) (h : MsgHdr),
      (s.chip.blTake h 5 0 false).2 = true → (s.chip.blTake h 5 0 false).1.paired = true → ((s.chip.blTake h 5 0 false).1.setBl fun b => { b with detachIn := true }).detachWaits = true → s.chip.parked = false → RunsTo (.detachReq h) s (Work.blPump ({ s.work with x := (((s.chip.blTake h 5 0 false).1.setBl fun b => { b with detachIn := true }).blSend 5 4 []).setBl fun b => { b with detachGo := true } }))) ∧
  (∀ (s : State) (h : MsgHdr),
      (s.chip.blTake h 5 0 false).2 = true → (s.chip.blTake h 5 0 false).1.paired = true → (s.chip.blTake h 5 0 false).1.detachWaits = true → s.chip.parked = false → RunsTo (.detachAck h) s (Work.blPump ({ s.work with x := (s.chip.blTake h 5 0 false).1.setBl fun b => { b with detachGo := true } })))

/-- Identity, election, sync and their timeouts act as R353, R354 and R34 lay down. -/
def Obligations.AttachCompletes : Prop :=
  (∀ (s : State) (h : MsgHdr) (m : Hello),
      (s.chip.blTake h 5 64 true).2 = true → s.chip.parked = false → RunsTo (.hello h m) s (let y := (s.chip.blTake h 5 64 true).1.setBl fun b => { b with hello := some m }; ({ s.work with x := if y.get BL_STAT_ATTACH = 2 then y.compat m else y } : Work).blPump)) ∧
  (∀ (s : State) (h : MsgHdr) (l : BitVec 8) (sy : Bool),
      (s.chip.blTake h 5 4 false).2 = true → (s.chip.blTake h 5 4 false).1.get BL_STAT_ATTACH = 4 → (s.chip.blTake h 5 4 false).1.bl.lead = some true → l.toNat = (s.chip.blTake h 5 4 false).1.get RB_STRAP_TWIN_ID → s.chip.parked = false → RunsTo (.electMsg h l sy) s (Work.blPump ({ s.work with x := (s.chip.blTake h 5 4 false).1.startSync sy }))) ∧
  (∀ (s : State) (h : MsgHdr) (l : BitVec 8) (sy : Bool),
      (s.chip.blTake h 5 4 false).2 = true → (s.chip.blTake h 5 4 false).1.get BL_STAT_ATTACH = 4 → (s.chip.blTake h 5 4 false).1.bl.lead ≠ some true → l.toNat ≠ (s.chip.blTake h 5 4 false).1.get RB_STRAP_TWIN_ID → s.chip.parked = false → RunsTo (.electMsg h l sy) s (Work.blPump ({ s.work with x := ((s.chip.blTake h 5 4 false).1.blSend 5 2 [l.toNat, b2n sy, 0, 0]).startSync sy }))) ∧
  (∀ (s : State) (h : MsgHdr) (l : BitVec 8) (sy : Bool),
      (s.chip.blTake h 5 4 false).2 = true → (s.chip.blTake h 5 4 false).1.get BL_STAT_ATTACH = 4 → ((s.chip.blTake h 5 4 false).1.bl.lead = some true) ≠ (l.toNat = (s.chip.blTake h 5 4 false).1.get RB_STRAP_TWIN_ID) → s.chip.parked = false → RunsTo (.electMsg h l sy) s (Work.blPump ({ s.work with x := (s.chip.blTake h 5 4 false).1.attachFail 6 }))) ∧
  (∀ (s : State),
      s.chip.get BL_STAT_ATTACH = 2 → s.chip.bl.hello.isNone = true → s.chip.parked = false → Runs (.helloTimeout) s (s.chip.attachFail 3)) ∧
  (∀ (s : State),
      s.chip.parked = false → Runs (.attachTimeout) s (s.chip.attachFail (if s.chip.get BL_STAT_ATTACH = 1 then 2 else if s.chip.get BL_STAT_ATTACH = 2 then 3 else 8))) ∧
  (∀ (s : State) (h : MsgHdr) (i : Fin 8192) (t : BitVec 16) (k : BitVec 8) (z : Word),
      (s.chip.blTake h 1 (halfBytes i.val ++ (halfBytes t.toNat ++ ([k.toNat, 0, 0, 0] ++ (wordBytes z.toNat ++ [0, 0, 0, 0])))).length false).2 = true → s.chip.parked = false → RunsTo (.mirrorOpen h i t k z) s (Work.blPump (((({ s.work with x := (s.chip.blTake h 1 (halfBytes i.val ++ (halfBytes t.toNat ++ ([k.toNat, 0, 0, 0] ++ (wordBytes z.toNat ++ [0, 0, 0, 0])))).length false).1 } : Work).cvTap 49 (halfBytes i.val ++ (halfBytes t.toNat ++ ([k.toNat, 0, 0, 0] ++ (wordBytes z.toNat ++ [0, 0, 0, 0])))))).on fun y =>
        if y.get BL_STAT_ATTACH < 5 || (y.copyOf i.val t.toNat).isSome then y
        else match y.freeIndex with
          | none => y
          | some n => if y.roomUnits < z.toNat then y
            else ((y.took.setEntry (y.newEntry n 127 (k.toNat % 16) z.toNat 0 false)).setBl fun b => { b with
              copies := b.copies ++ [⟨i.val, t.toNat, n⟩] }).updMirrorIn))) ∧
  (∀ (s : State) (h : MsgHdr) (i : Fin 8192) (t : BitVec 16) (off : BitVec 64) (data : List Byte),
      data ≠ [] → data.length ≤ 4096 → (s.chip.blTake h 1 (halfBytes i.val ++ (halfBytes t.toNat ++ (longBytes off.toNat ++ (wordBytes (data.map (·.toNat)).length ++ data.map (·.toNat))))).length false).2 = true → s.chip.parked = false → RunsTo (.mirrorWrite h i t off data) s (Work.blPump (let w := ((({ s.work with x := (s.chip.blTake h 1 (halfBytes i.val ++ (halfBytes t.toNat ++ (longBytes off.toNat ++ (wordBytes (data.map (·.toNat)).length ++ data.map (·.toNat))))).length false).1 } : Work).cvTap 49 (halfBytes i.val ++ (halfBytes t.toNat ++ (longBytes off.toNat ++ (wordBytes (data.map (·.toNat)).length ++ data.map (·.toNat))))))).on fun y => y.setBl fun b => { b with applied := h.id.toNat + 1 }
      match w.x.copyOf i.val t.toNat with
      | none => w
      | some c => match w.x.entry c.entry with
        | some e => if off.toNat + (data.map (·.toNat)).length ≤ e.size * 65536 then w.store (handleOf e + off.toNat) (data.map (·.toNat)) else w
        | none => w))) ∧
  (∀ (s : State) (h : MsgHdr) (i : Fin 8192) (t : BitVec 16),
      (s.chip.blTake h 1 (halfBytes i.val ++ halfBytes t.toNat).length false).2 = true → s.chip.parked = false → RunsTo (.mirrorClose h i t) s (Work.blPump (((({ s.work with x := (s.chip.blTake h 1 (halfBytes i.val ++ halfBytes t.toNat).length false).1 } : Work).cvTap 49 (halfBytes i.val ++ halfBytes t.toNat))).on fun y => match y.copyOf i.val t.toNat with
        | none => y
        | some c =>
          let y := match y.entry c.entry with
            | some e => y.freeEntry e
            | none => y
          (y.setBl fun b => { b with copies := b.copies.filter fun d => d != c }).updMirrorIn))) ∧
  (∀ (s : State) (h : MsgHdr) (hd : Fin 16) (num : Word) (data : List Byte),
      data.length ≤ 8184 → (s.chip.blTake h 1 ([hd.val, 1] ++ (halfBytes (data.map (·.toNat)).length ++ (wordBytes num.toNat ++ data.map (·.toNat)))).length false).2 = true → s.chip.parked = false → RunsTo (.mirrorState h hd 1 num data) s (Work.blPump (let bs := data.map (·.toNat)
      let ws := bytesWords bs
      ((({ s.work with x := (s.chip.blTake h 1 ([hd.val, 1] ++ (halfBytes (data.map (·.toNat)).length ++ (wordBytes num.toNat ++ data.map (·.toNat)))).length false).1 } : Work).cvTap 49 ([hd.val, 1] ++ (halfBytes (data.map (·.toNat)).length ++ (wordBytes num.toNat ++ data.map (·.toNat)))))).on fun y => y.queue hd.val [⟨num.toNat, hd.val, none, 128, (.background (ws.getD 0 0) (ws.getD 1 0)), false, false, 0⟩]))) ∧
  (∀ (s : State) (h : MsgHdr) (hd : Fin 16) (num : Word) (data : List Byte),
      data.length ≤ 8184 → (s.chip.blTake h 1 ([hd.val, 2] ++ (halfBytes (data.map (·.toNat)).length ++ (wordBytes num.toNat ++ data.map (·.toNat)))).length false).2 = true → s.chip.parked = false → RunsTo (.mirrorState h hd 2 num data) s (Work.blPump (let bs := data.map (·.toNat)
      let ws := bytesWords bs
      ((({ s.work with x := (s.chip.blTake h 1 ([hd.val, 2] ++ (halfBytes (data.map (·.toNat)).length ++ (wordBytes num.toNat ++ data.map (·.toNat)))).length false).1 } : Work).cvTap 49 ([hd.val, 2] ++ (halfBytes (data.map (·.toNat)).length ++ (wordBytes num.toNat ++ data.map (·.toNat)))))).on fun y => y.queue hd.val [⟨num.toNat, hd.val, none, 128, (.tone (ws.getD 0 0) ((ws.drop 1).take 9) (bs.drop 40)), false, false, 0⟩]))) ∧
  (∀ (s : State) (h : MsgHdr) (hd : Fin 16) (num : Word) (data : List Byte),
      data.length ≤ 8184 → (s.chip.blTake h 1 ([hd.val, 4] ++ (halfBytes (data.map (·.toNat)).length ++ (wordBytes num.toNat ++ data.map (·.toNat)))).length false).2 = true → s.chip.parked = false → RunsTo (.mirrorState h hd 4 num data) s (Work.blPump (let bs := data.map (·.toNat)
      let ws := bytesWords bs
      let w := ((({ s.work with x := (s.chip.blTake h 1 ([hd.val, 4] ++ (halfBytes (data.map (·.toNat)).length ++ (wordBytes num.toNat ++ data.map (·.toNat)))).length false).1 } : Work).cvTap 49 ([hd.val, 4] ++ (halfBytes (data.map (·.toNat)).length ++ (wordBytes num.toNat ++ data.map (·.toNat))))))
      match w.x.protUnit hd.val with
      | some u => w.on fun y => y.queue hd.val [⟨num.toNat, hd.val, (some u), 128, (if bs = [] then .protRemove else .prot ws), false, false, 0⟩]
      | none => w))) ∧
  (∀ (s : State) (h : MsgHdr) (hd : Fin 16) (num : Word) (data : List Byte),
      data.length ≤ 8184 → (s.chip.blTake h 1 ([hd.val, 3] ++ (halfBytes (data.map (·.toNat)).length ++ (wordBytes num.toNat ++ data.map (·.toNat)))).length false).2 = true → s.chip.parked = false → RunsTo (.mirrorState h hd 3 num data) s (Work.blPump (let bs := data.map (·.toNat)
      ((({ s.work with x := (s.chip.blTake h 1 ([hd.val, 3] ++ (halfBytes (data.map (·.toNat)).length ++ (wordBytes num.toNat ++ data.map (·.toNat)))).length false).1 } : Work).cvTap 49 ([hd.val, 3] ++ (halfBytes (data.map (·.toNat)).length ++ (wordBytes num.toNat ++ data.map (·.toNat)))))).on fun y => y.setBl fun b => { b with inputs := (b.inputs.filter fun p => p.1 != hd.val) ++ [(hd.val, num.toNat, bs)] }))) ∧
  (∀ (s : State) (h : MsgHdr) (l : Word),
      (s.chip.blTake h 1 (wordBytes l.toNat).length false).2 = true → s.chip.parked = false → RunsTo (.syncDone h l) s (Work.blPump (((({ s.work with x := (s.chip.blTake h 1 (wordBytes l.toNat).length false).1 } : Work).cvTap 49 (wordBytes l.toNat))).on fun y => if y.get BL_STAT_ATTACH = 5 then (y.setBl fun b => { b with syncGot := true }).raise 431 else y))) ∧
  (∀ (s : State),
      (s.chip.on BL_CFG_TWIN_EN && (s.chip.get GL_MODE_POWER != 3 && !s.chip.on GL_DEG_CAUSE_PROOF_FAIL)) = true → s.chip.on BL_CFG_AUTO = true → s.chip.paired = false → s.chip.get BL_STAT_ATTACH = 0 → s.chip.parked = false → RunsTo (.autoAttachTimer) s ((s.work.on Chip.beginAttach).blPump))

/-- The twin's signatures are collected and compared, late ones counted, and the counters aligned as R358 to R361 and R439 lay down. -/
def Obligations.TwinWorkCompletes : Prop :=
  (∀ (s : State) (h : MsgHdr) (hd : Fin 16) (fst : BitVec 16) (pfn : Word) (sigs : List Word),
      sigs ≠ [] → sigs.length ≤ 2045 → (s.chip.blTake h 2 (12 + 4 * sigs.length) false).2 = true → s.chip.parked = false → RunsTo (.sigTiles h hd fst pfn sigs) s (let y := (s.chip.blTake h 2 (12 + 4 * sigs.length) false).1
      let old := match y.bl.theirs.find? fun q => q.head = hd.val && q.pfn = pfn.toNat with
        | some q => q.sigs
        | none => []
      let all := (old.take fst.toNat) ++ (List.replicate (fst.toNat - old.length) 0 ++ (sigs.map (·.toNat) ++ old.drop (fst.toNat + sigs.length)))
      Work.blPump { s.work with x := y.setBl fun b => { b with theirs := (b.theirs.filter fun q => !(q.head = hd.val && q.pfn = pfn.toNat)) ++ [(⟨hd.val, pfn.toNat, all, false, none⟩ : SigSet)] } })) ∧
  (∀ (s : State) (h : MsgHdr) (hd : Fin 16) (n : BitVec 16) (pfn : Word) (b : Bool) (g : Word),
      (s.chip.blTake h 2 16 false).2 = true → s.chip.parked = false → RunsTo (.sigEnd h hd n pfn b g) s (Work.blPump (let y := (s.chip.blTake h 2 16 false).1
      { s.work with x := if !y.paired || !y.critical hd.val then y
        else if y.bl.mine.any fun m => m.head = hd.val && m.pfn = pfn.toNat then y.compareSigs hd.val pfn.toNat n.toNat b
        else y.setBl fun c => { c with theirs := updAll c.theirs (fun t => t.head = hd.val && t.pfn = pfn.toNat) fun t => { t with ended := some (n.toNat, b) } } }))) ∧
  (∀ (s : State) (hd : Fin 16) (pfn : Word),
      (s.chip.bl.mine.any fun m => m.head = hd.val && m.pfn = pfn.toNat) = true → ((s.chip.sigHead hd.val).prev.any fun p => p.1 = pfn.toNat) = false → s.chip.parked = false → Runs (.sigLate hd pfn) s (let z := s.chip.sigHead hd.val
      let y := ((s.chip.sat BL_SIG_LATE_COUNT).raise 429).setBl fun b => { b with theirs := b.theirs.filter fun t => !(t.head = hd.val && t.pfn = pfn.toNat) }
      (y.setSigHead { z with prev := none, clean := 0, missed := z.missed + 1 }).updShadow)) ∧
  (∀ (s : State) (h : MsgHdr) (t : Stamp),
      (s.chip.blTake h 4 8 false).2 = true → s.chip.parked = false → RunsTo (.timeProbe h t) s (Work.blPump ({ s.work with x := (s.chip.blTake h 4 8 false).1.blSend 4 2 (stampBytes t ++ ((s.chip.blTake h 4 8 false).1.stamp ++ (s.chip.blTake h 4 8 false).1.stamp)) }))) ∧
  (∀ (s : State),
      s.chip.bl.supervised = true → s.chip.parked = false → RunsTo (.timeProbeSend) s (({ s.work with x := s.chip.blSend 4 1 s.chip.stamp } : Work).blPump)) ∧
  (∀ (s : State) (h : MsgHdr) (t u v : Stamp),
      (s.chip.blTake h 4 24 false).2 = true → (s.chip.blTake h 4 24 false).1.bl.supervised = true → s.chip.parked = false → RunsTo (.timeEcho h t u v) s (Work.blPump (let d := (stampTicks t - stampTicks u) + (((s.chip.blTake h 4 24 false).1.now : Int) - stampTicks v)
      { s.work with x := (s.chip.blTake h 4 24 false).1.theta (if (s.chip.blTake h 4 24 false).1.follow then d / 2 else -d / 2) })))

/-- Flits, training, timeouts and block lock act as R325 to R329 and R348 lay down; chip B holds its groups after 3 s without a twin (R363). -/
def Obligations.BowlineCompletes : Prop :=
  (∀ (s : State),
      s.chip.lkState 2 = lkUp → s.chip.parked = false → Runs (.bowlineBadFlit .crc) s (((s.chip.sat BL_CRC_ERR_COUNT).lkRaise 2 4).lkNak 2)) ∧
  (∀ (s : State) (q : Fin 1024),
      s.chip.lkState 2 = lkUp → s.chip.parked = false → Runs (.bowlineBadFlit (.order q)) s (if q.val = (s.chip.lk 2).rxSeq then s.chip else (s.chip.lkTake 2 q.val).1)) ∧
  (∀ (s : State),
      s.chip.lkState 2 = lkUp → s.chip.parked = false → Runs (.bowlineBadFlit .reserved) s (s.chip.sat BL_VIOL_COUNT)) ∧
  (∀ (s : State) (h : FlitHdr) (q : Fin 1024),
      s.chip.lkState 2 = lkUp → s.chip.parked = false → RunsTo (.bowlineNak h q) s (((s.work.blHeader h).on (lkNakIn 2 q.val)).blPump)) ∧
  (∀ (s : State) (h : FlitHdr),
      s.chip.lkState 2 = lkUp → s.chip.parked = false → RunsTo (.bowlineIdle h) s ((s.work.blHeader h).blPump)) ∧
  (∀ (s : State) (h : FlitHdr) (gs : List Grant),
      s.chip.lkState 2 = lkUp → s.chip.parked = false → RunsTo (.bowlineCredit h gs) s (let w := (s.work.blHeader h)
      let t := w.x.lkTake 2 h.seq.val
      Work.blPump { w with x := if t.2 then t.1.setBl fun b => { b with
        txCredit := (gs.take 14).foldl (fun (m : List (Nat × Nat)) g => if blCredited (g.stream.val % 8) then
          sparseSet m (g.stream.val % 8) (sparseGet m (g.stream.val % 8) 0 + 4 * g.units.toNat) 0 else m) b.txCredit } else t.1 })) ∧
  (∀ (s : State) (h : FlitHdr) (t : Train),
      s.chip.parked = false → RunsTo (.bowlineTrain h t) s (let w := s.work.on fun y => y.flag BL_STAT_TWIN_SEEN true
      let w := if w.x.lkState 2 = lkRetrain then { w with x := (w.x.lkAck 2 h).1.blAck (w.x.lkAck 2 h).2 } else w
      let r := w.x.lkTrainIn 2 t
      let w := { w with x := r.1 }
      match r.2 with
      | none => w
      | some resumed =>
        let w := if resumed then
            let q := w.x.lkResumed 2 t.expected.val
            { w with x := (q.1.blAck q.2).lkEnter 2 lkUp false }
          else w.on fun y => ((y.lkClear 2).blUpReset).lkEnter 2 lkUp true
        let w := w.on fun y => y.lkRaise 2 0
        (if w.x.get BL_STAT_ATTACH = 1 then w.on Chip.identity else w).blPump)) ∧
  (∀ (s : State) (e : Nat × Nat × Nat × List Nat) (l : List (Nat × Nat × Nat × List Nat)),
      s.chip.lkState 2 = lkUp → (s.chip.lk 2).replay = e :: l → s.chip.parked = false → Runs (.bowlineReplayTimeout) s (s.chip.lkReplay 2 e.1)) ∧
  (∀ (s : State),
      s.chip.lkTraining 2 = true → s.chip.parked = false → Runs (.bowlineLinkTimeout) s (s.chip.blDown)) ∧
  (∀ (s : State),
      s.chip.lkState 2 = lkDown → s.chip.blWanted = true → s.chip.parked = false → Runs (.bowlineRetry) s (s.chip.lkBegin 2 lkTrain false)) ∧
  (∀ (s : State) (l : Fin 8),
      s.chip.lkTraining 2 = true → s.chip.parked = false → Runs (.bowlineBlockLock l) s (let y := s.chip.setLk 2 fun z => { z with lock := putBit z.lock l.val true }; if y.lkLocked 2 && !s.chip.lkLocked 2 then y.sendTrain 2 else y)) ∧
  (∀ (s : State) (l : Fin 8),
      s.chip.parked = false → Runs (.bowlineBlockLockLoss l) s ((s.chip.setLk 2 fun z => { z with lock := putBit z.lock l.val false, phase := 0 }).lkToRetrain 2)) ∧
  (∀ (s : State),
      s.chip.on BL_CFG_TWIN_EN = true → s.chip.get RB_STRAP_TWIN_ID = 1 → s.chip.on BL_STAT_TWIN_SEEN = false → s.chip.kennel = false → Runs (.twinBHoldTimer) s (s.chip.setHold 15))

/-- With a command at the front of the queue, a step is that command's effect on the state with the rest of the queue. -/
def Obligations.StepRunsFront : Prop :=
  ∀ (s : State) (c : Instr) (rest : List Instr), s.pending = c :: rest → step s = exec c { s with pending := rest }

/-- With no command waiting, a step advances the counter by one cycle of the time base, 1 tick, or 32 in Park and while CLK_FAB is stopped (the main PLL not locked, outside bypass), unless a REFCLK loss has stopped it (R429). That a step on an empty queue is such a cycle is the model's own choice (assumption log, row 9). -/
def Obligations.IdleStepCountsOneCycle : Prop :=
  ∀ s : State, s.pending = [] →
    (s.chip.tb.stopped = true → step s = .next s) ∧
    (s.chip.tb.stopped = false →
      ∃ t, step s = .next t ∧ t.pending = [] ∧ t.mem = s.mem ∧
        t.chip.tb.up = s.chip.tb.up + (if s.chip.get GL_MODE_POWER = 3 || !(s.chip.on CK_STAT_PLL_LOCK || s.chip.rs.bypass) then 32 else 1) ∧
        t.chip.get TB_TICK_TICK = (s.chip.now + (if s.chip.get GL_MODE_POWER = 3 || !(s.chip.on CK_STAT_PLL_LOCK || s.chip.rs.bypass) then 32 else 1)) % 1228800000 ∧
        t.chip.get TB_SEC_SEC = (s.chip.now + (if s.chip.get GL_MODE_POWER = 3 || !(s.chip.on CK_STAT_PLL_LOCK || s.chip.rs.bypass) then 32 else 1)) / 1228800000 % 2 ^ 32)

/-- Whatever the state, a command answers a next state with the queue as it found it; only a JTAG debug access while the debug lock is not programmed stops, by name (R540). -/
def Obligations.EveryCommandAnswersNext : Prop :=
  (∀ (i : Instr) (s : State), (∀ code, i ≠ .tapInstruction (.debug code)) → ∃ t, exec i s = .next t ∧ t.pending = s.pending) ∧
  (∀ (s : State) (code : Word), s.chip.nv.debugLock = true → exec (.tapInstruction (.debug code)) s = .next s) ∧
  (∀ (s : State) (code : Word), s.chip.nv.debugLock = false →
    exec (.tapInstruction (.debug code)) s = .refused .debugAccess)

/-- The memory of the state after reset lists nothing, so it is in its canonical form. -/
def Obligations.ResetIsCanonical : Prop :=
  State.reset.Inv ∧ State.reset.mem = []

/-- From every state whose memory is in its canonical form, whatever its blocks and its queue, a step that answers a next state leaves memory in its canonical form: addresses strictly rising, and no byte listed that reads as an unlisted one does. -/
def Obligations.StepKeepsCanonicalMemory : Prop :=
  ∀ s t : State, s.Inv → step s = .next t → t.Inv

/-- A command that is neither one of those that store nor one that may take a reach leaves every byte of memory and the queue; one that may take a reach, and stores nothing, leaves memory as it was or, where the reach lost the placement map, empty. -/
def Obligations.OnlyStoringCommandsStore : Prop :=
  ∀ (i : Instr) (s t : State), storing i = false → exec i s = .next t →
    t.pending = s.pending ∧ (reaching i = false → t.mem = s.mem) ∧ (t.mem = s.mem ∨ t.mem = [])

/-- Bytes stored from a device address on read back from there while the blocks stand, and every other address keeps its byte. -/
def Obligations.StoredBytesReadBack : Prop :=
  ∀ (m : List Host.Cell) (x : Chip) (a : Nat) (bs : List Nat), (∀ b ∈ bs, b < 256) →
    readBytes (writeCells m (storeBytes x a bs)) x a bs.length = bs ∧
    ∀ c, c < a ∨ a + bs.length ≤ c → readByte (writeCells m (storeBytes x a bs)) x c = readByte m x c

/-- Whatever a memory request meets, a byte of memory that it changes lies in the range the request names, inside a valid entry with the tag of its handle that the function it is made for owns, or that the secure world or firmware addresses, and that no withdrawal has taken; a read, a stale request and a refused one change none (R111, R113). -/
def Obligations.RequestStaysInItsAllocation : Prop :=
  ∀ (s t : State) (r : MemReq) (a : Nat), exec (.memoryRequest r) s = .next t → sparseGet t.mem a 0 ≠ sparseGet s.mem a 0 →
    r.data.isSome = true ∧ r.addr.toNat ≤ a ∧ a < r.addr.toNat + r.len ∧
    ∃ q, s.chip.attributed r = some q ∧ q.data = r.data ∧ q.addr = r.addr ∧ q.len = r.len ∧ s.chip.staleReq q = false ∧
    ∃ e, s.chip.entry (hIndex r.addr.toNat) = some e ∧ e.valid = true ∧ e.tag = hTag r.addr.toNat ∧
      (q.world = true ∨ q.fn.val = 127 ∨ e.func = q.fn.val) ∧ (q.world = true ∨ e.world = false) ∧ e.wdrawn = false ∧
      hOffset r.addr.toNat + r.len ≤ e.size * 65536

/-- A doorbell value on a submission ring whose index has a bit at or above SIZE_LOG2, or that would make the occupancy exceed the ring or move the producer pointer back, sets BAD_DB and raises source 32; one on the reply ring that lies behind the consumer pointer or beyond the producer pointer sets BAD_DB; neither has another effect. A value equal to the pointer it moves has none at all, and any other moves the pointer without BAD_DB. -/
def Obligations.DoorbellRule : Prop :=
  (∀ (s : State) (f : Fin 65) (k : Fin 4) (v : Word), s.chip.parked = false → s.chip.present f = true →
    let size := 2 ^ s.chip.get RINGk_CTL_SIZE_LOG2 (5 * f.val + k.val)
    let c := s.chip.get RINGk_HEAD_PTR (5 * f.val + k.val)
    let p := s.chip.get RINGk_TAIL_PTR (5 * f.val + k.val)
    let pos := fun a => (a / 65536 % 2 * size + a % 65536) % (2 * size)
    let d := fun a b => (pos a + 2 * size - pos b) % (2 * size)
    let q := v.toNat % 2 ^ 17
    let bad := 2 ^ s.chip.get RINGk_CTL_SIZE_LOG2 (5 * f.val + k.val) ≤ q % 65536 ∨ size < d q c ∨ d q c < d p c
    (q = p → Runs (.dbRing f k v) s s.chip) ∧
    (q ≠ p → bad → Runs (.dbRing f k v) s ((s.chip.flag RINGk_STAT_BAD_DB true (5 * f.val + k.val)).raise 32)) ∧
    (q ≠ p → ¬ bad → Ends (.dbRing f k v) s fun y => y.get RINGk_TAIL_PTR (5 * f.val + k.val) = q ∧
      y.get RINGk_STAT_BAD_DB (5 * f.val + k.val) = s.chip.get RINGk_STAT_BAD_DB (5 * f.val + k.val) ∧
      y.ev = s.chip.ev)) ∧
  (∀ (s : State) (f : Fin 65) (v : Word), s.chip.parked = false → s.chip.present f = true →
    let size := 2 ^ s.chip.get RINGk_CTL_SIZE_LOG2 (5 * f.val + 4)
    let c := s.chip.get RINGk_HEAD_PTR (5 * f.val + 4)
    let p := s.chip.get RINGk_TAIL_PTR (5 * f.val + 4)
    let pos := fun a => (a / 65536 % 2 * size + a % 65536) % (2 * size)
    let d := fun a b => (pos a + 2 * size - pos b) % (2 * size)
    let q := v.toNat % 2 ^ 17
    let bad := size ≤ q % 65536 ∨ d p c < d p q
    (q = c → Runs (.dbReply f v) s s.chip) ∧
    (q ≠ c → bad → Runs (.dbReply f v) s (s.chip.flag RINGk_STAT_BAD_DB true (5 * f.val + 4))) ∧
    (q ≠ c → ¬ bad → ∃ y, Runs (.dbReply f v) s y ∧ y = (((s.chip.set RINGk_HEAD_PTR q (5 * f.val + 4)).setFull f).retire f
      s.chip.ce.pkts.length).release))

/-- Setting EN with SIZE_LOG2 out of range leaves EN at 0 and sets CFG_ERR; in range, EN is set and on a submission ring both pointers are zero; clearing EN leaves every packet fetched where it is. -/
def Obligations.RingControl : Prop :=
  (∀ (s : State) (f : Fin 65) (k : Fin 5) (n : Fin 32) (wb : Bool), s.chip.parked = false → s.chip.present f = true →
    s.chip.on RINGk_CTL_EN (5 * f.val + k.val) = false →
    (n.val < 4 ∨ (if k.val = 0 then 6 else 16) < n.val → Ends (.ringEnable f k n wb) s fun y =>
      y.on RINGk_CTL_EN (5 * f.val + k.val) = false ∧ y.on RINGk_STAT_CFG_ERR (5 * f.val + k.val) = true) ∧
    (4 ≤ n.val → n.val ≤ (if k.val = 0 then 6 else 16) → k.val ≠ 4 → Ends (.ringEnable f k n wb) s fun y =>
      y.on RINGk_CTL_EN (5 * f.val + k.val) = true ∧ y.get RINGk_CTL_SIZE_LOG2 (5 * f.val + k.val) = n.val ∧
      y.get RINGk_HEAD_PTR (5 * f.val + k.val) = 0 ∧ y.get RINGk_TAIL_PTR (5 * f.val + k.val) = 0)) ∧
  (∀ (s : State) (f : Fin 65) (k : Fin 5), s.chip.parked = false → s.chip.present f = true → Ends (.ringDisable f k) s fun y =>
    y.on RINGk_CTL_EN (5 * f.val + k.val) = false ∧ y.ce.pkts = s.chip.ce.pkts)

/-- A write to a TDM port's or a bridge's CFG that would change a field is ignored, and sets the PEND_RESTART of each running domain it names before or after, while one of those domains runs; while none runs, and the commission lock is clear, it applies. -/
def Obligations.TdmRule : Prop :=
  ∀ (s : State) (bridge : Bool) (n : Fin 16) (v : Word), s.chip.get GL_MODE_POWER ≠ 3 → s.chip.present 0 = true →
    s.chip.kennel = false → (bridge = false → n.val < 8) →
    let fs := if bridge then [AU_BRk_CFG_FROM, AU_BRk_CFG_TO, AU_BRk_CFG_CH]
      else [AU_TDMn_CFG_DOM, AU_TDMn_CFG_LEADER, AU_TDMn_CFG_SLOTS, AU_TDMn_CFG_WIDTH, AU_TDMn_CFG_FMT, AU_TDMn_CFG_BCLK_POL,
        AU_TDMn_CFG_FS_POL]
    let named := if bridge then [AU_BRk_CFG_FROM, AU_BRk_CFG_TO] else [AU_TDMn_CFG_DOM]
    let new := fun (f : Fld) => bits v.toNat f.lsb f.width
    let runs := fun d => d < 3 ∧ s.chip.on AU_DOMx_STAT_RUN d = true ∧ ∃ f ∈ named, s.chip.get f n = d ∨ new f = d
    Ends (.tdmCfgWrite bridge n v) s fun y =>
      ((∃ f ∈ fs, s.chip.get f n ≠ new f) → (∃ d, runs d) → (∀ f ∈ fs, y.get f n = s.chip.get f n) ∧
        ∀ d < 3, y.on AU_DOMx_STAT_PEND_RESTART d = true ↔ s.chip.on AU_DOMx_STAT_PEND_RESTART d = true ∨ runs d) ∧
      ((∀ d, ¬ runs d) → s.chip.on RJ_SESSION_LOCK = false → ∀ f ∈ fs, y.get f n = new f)

/-- A register write that would change a field marked RWL while the commission lock is set leaves the field, and counts in RJ_LOCK_VIOL; where the field is RWH and its stop unit runs, it sets that unit's PEND_RESTART instead; one that carries the held value changes nothing (R476, R570); the TDM ports and bridges have R306 instead. -/
def Obligations.LockedFieldsStay : Prop :=
  ∀ (x : Chip) (w : Writer) (h : Hit), h.f ∈ allFields → h.p < h.f.count → h.q < h.f.icount → h.f.rwl = true →
    h.f.base ≠ 0x1C2000 → h.f.base ≠ 0x1C3000 →
    (h.f.sec = true → w.secure = true) → (h.f.acc = .rw ∨ h.f.acc = .rwh) ∧
    (x.get h.f h.n = h.v → x.writeField w h = x) ∧
    (x.get h.f h.n ≠ h.v → h.f.acc = .rwh → (x.ownerOf h.f h.p).1 = true →
      (x.writeField w h).get h.f h.n = x.get h.f h.n ∧ (x.writeField w h).on (x.ownerOf h.f h.p).2 h.p = true ∧
      (x.writeField w h).get RJ_LOCK_VIOL_COUNT = x.get RJ_LOCK_VIOL_COUNT) ∧
    (x.get h.f h.n ≠ h.v → (h.f.acc = .rwh → (x.ownerOf h.f h.p).1 = false) → x.on RJ_SESSION_LOCK = true →
      (x.writeField w h).get h.f h.n = x.get h.f h.n ∧
      (x.writeField w h).get RJ_LOCK_VIOL_COUNT = min (x.get RJ_LOCK_VIOL_COUNT + 1) (2 ^ RJ_LOCK_VIOL_COUNT.width - 1))

/-- Where a PEND_RESTART flag of a head, a port, an audio domain, a Skein port or a touch port takes a value, its mirror bit takes it, every other mirror bit stays, and source 9 is raised when the flag goes from 0 to 1 (R29, R30). -/
def Obligations.PendRestartMirrors : Prop :=
  ∀ (x : Chip) (b : Bool) (u : Fld × Fld × Nat) (n : Nat),
    u ∈ [(HDn_STAT_PEND_RESTART, GL_PEND0_HEAD, 16), (DXn_STAT_PEND_RESTART, GL_PEND0_PORT, 10),
      (AU_DOMx_STAT_PEND_RESTART, GL_PEND0_AUDIO, 3), (SKn_STAT_PEND_RESTART, GL_PEND0_SKEIN, 2),
      (TPn_STAT_PEND_RESTART, GL_PEND1_TOUCH, 16)] → n < u.2.2 → x.get u.2.1 < 2 ^ u.2.1.width →
    let y := x.setPend u.1 n b
    y.on u.1 n = b ∧ bitAt (y.get u.2.1) n = b ∧
    (∀ m, m ≠ n → m < u.2.2 → bitAt (y.get u.2.1) m = bitAt (x.get u.2.1) m) ∧
    y.ev.raised = x.ev.raised ++ (if b = true ∧ x.on u.1 n = false then [.source 9] else [])

/-- Over its handshake a crossing neither loses nor repeats a pulse that it has accepted: pulses delivered, presented and accumulated add up to those before and the accepted ones of the edge, an edge accepts what its accumulator of 7 has room for, one that brings more sets the crossing's LOST bit, and no other crossing changes (R423, R424). -/
def Obligations.CrossingsCarryPulses : Prop :=
  ∀ (s : State) (c : Fin 25) (n : Fin 16), s.chip.parked = false → c.val < s.chip.cross.length →
    let k := s.chip.crossAt c
    let total := fun (j : Cross) => j.taken + (if j.toggle = j.ack then 0 else j.count) + j.acc
    let sound := fun (j : Cross) => j.acc ≤ 7 ∧ j.stale = false ∧ (j.busy = false → j.toggle = j.ack)
    sound k →
    (Ends (.eventRaise (.pulses c n)) s fun y => sound (y.crossAt c) ∧
      total (y.crossAt c) = total k + min n.val (7 - k.acc) ∧
      (k.acc + n.val ≤ 7 → y.get CK_LOST_FLAGS = s.chip.get CK_LOST_FLAGS) ∧
      (7 < k.acc + n.val → bitAt (y.get CK_LOST_FLAGS) c.val = true) ∧ ∀ d, d ≠ c.val → y.crossAt d = s.chip.crossAt d) ∧
    (Ends (.eventRaise (.taken c)) s fun y => sound (y.crossAt c) ∧ total (y.crossAt c) = total k ∧
      (y.crossAt c).toggle = (y.crossAt c).ack) ∧
    (Ends (.eventRaise (.acked c)) s fun y => sound (y.crossAt c) ∧ total (y.crossAt c) = total k ∧
      (k.toggle = k.ack → (y.crossAt c).busy = false))

/-- A signal leaves the fence it names at the larger of its value and the one signalled, unless the fence is orphaned or free, and leaves every other fence; no fence's value falls (R198, R571, R572). -/
def Obligations.FencesNeverFall : Prop :=
  ∀ (x : Chip) (i v j : Nat),
    x.fenceValue j ≤ (x.signalFence i v).fenceValue j ∧ (j ≠ i → (x.signalFence i v).fenceValue j = x.fenceValue j) ∧
    (∀ f, x.fence i = some f → f.orphan = false → (x.signalFence i v).fenceValue i = max f.value v) ∧
    (∀ f, x.fence i = some f → f.orphan = true → x.signalFence i v = x)

/-- An entry that was never allocated since the reset takes tag 1, a later allocation the tag before it plus one with 0xFFFF followed by 1, and where no valid entry has tag 0 a request to the all-zero handle is refused (R110). -/
def Obligations.TagsAreNeverZero : Prop :=
  (∀ (x : Chip) (i : Nat), (x.entry i = none → x.nextTag i = 1) ∧
    ∀ e, x.entry i = some e → e.tag < 65536 → 1 ≤ x.nextTag i ∧ x.nextTag i ≤ 65535 ∧
      (e.tag = 65535 → x.nextTag i = 1) ∧ (e.tag ≠ 65535 → x.nextTag i = e.tag + 1)) ∧
  (∀ (x : Chip) (r : MemReq), (∀ e ∈ x.hb.map, e.valid = true → e.tag ≠ 0) → r.addr = 0 → ∃ c, x.walkFault r = some c)

/-- After reset the identification, ring, mode, safety, clock and event registers hold what their tables give, no command waits and no allocation stands (R7). -/
def Obligations.ResetValues : Prop :=
  State.reset.pending = [] ∧ State.reset.chip.hb.map = [] ∧ State.reset.chip.get GL_ID_PART = 0x6416 ∧
  State.reset.chip.get GL_ID_STEP = 2 ∧ (∀ n < 325, State.reset.chip.get RINGk_CTL_SIZE_LOG2 n = 4) ∧
  (∀ n < 325, State.reset.chip.get RINGk_CTL_EN n = 0) ∧ State.reset.chip.get GL_MODE_PAIR = 0 ∧
  State.reset.chip.get GL_MODE_POWER = 0 ∧ State.reset.chip.get TB_SEC_SEC = 0 ∧ State.reset.chip.get TB_TICK_TICK = 0 ∧
  State.reset.chip.get EV_CTL_EN = 0 ∧ (∀ n < 128, State.reset.chip.get EV_VECv_COAL_COUNT n = 1) ∧
  ∀ f ∈ allFields, ∀ n, State.reset.chip.get f n = f.resetAt n

/-- In Park, whatever else the state holds, a command of a domain that Park turns off leaves the whole state as it is: no ring is fetched, no register of such a block moves and memory keeps every byte. What may act are the commands of AON and PARK, and of the resets, supplies and pins (R22, R42). -/
def Obligations.ParkHasNoCommandPath : Prop :=
  ∀ (i : Instr) (s : State), s.chip.get GL_MODE_POWER = 3 → inPark i = false → exec i s = .next s
end

