-- ==== Sys2Proof/Laws/Sparse.lean ====
section
/-!
SUPPORT. Laws of sparse tables: what a write leaves at its own key and at every other, and that it keeps the canonical form.
-/
namespace Sys2Proof.Machine

/-- Looking past entries of other keys. -/
theorem sparseGet_append_of_not_mem {α : Type} (l r : List (Nat × α)) (k : Nat) (d : α) (h : ∀ e ∈ l, e.1 ≠ k) :
    sparseGet (l ++ r) k d = sparseGet r k d := by
  induction l with
  | nil => rfl
  | cons e t ih =>
    simp only [List.cons_append, sparseGet]
    rw [if_neg (h e (List.mem_cons_self ..)), ih fun e' he => h e' (List.mem_cons_of_mem _ he)]

/-- A key no entry has reads the default. -/
theorem sparseGet_of_not_mem {α : Type} (l : List (Nat × α)) (k : Nat) (d : α) (h : ∀ e ∈ l, e.1 ≠ k) :
    sparseGet l k d = d := by
  have := sparseGet_append_of_not_mem l [] k d h
  simpa [sparseGet] using this

/-- Dropping entries of other keys changes nothing at a key. -/
theorem sparseGet_filter {α : Type} (l : List (Nat × α)) (p : Nat → Bool) (k : Nat) (d : α) (h : p k = true) :
    sparseGet (l.filter fun e => p e.1) k d = sparseGet l k d := by
  induction l with
  | nil => rfl
  | cons e t ih =>
    by_cases hp : p e.1 = true
    · rw [List.filter_cons_of_pos (by simpa using hp)]
      simp only [sparseGet, ih]
    · rw [List.filter_cons_of_neg (by simpa using hp), ih]
      have hne : e.1 ≠ k := by rintro rfl; exact hp h
      simp [sparseGet, hne]

/-- A write reads back at its own key. -/
theorem sparseGet_sparseSet_same {α : Type} [DecidableEq α] (l : List (Nat × α)) (k : Nat) (v d : α) :
    sparseGet (sparseSet l k v d) k d = v := by
  unfold sparseSet
  rw [List.append_assoc, sparseGet_append_of_not_mem _ _ _ _ (by
    intro e he; have := (List.mem_filter.mp he).2; simp at this; omega)]
  by_cases hv : v = d
  · subst hv
    simp only [if_true, List.nil_append]
    exact sparseGet_of_not_mem _ _ _ (by
      intro e he; have := (List.mem_filter.mp he).2; simp at this; omega)
  · simp [hv, sparseGet]

/-- A write leaves every other key. -/
theorem sparseGet_sparseSet_other {α : Type} [DecidableEq α] (l : List (Nat × α)) (k k' : Nat) (v d d' : α) (h : k' ≠ k) :
    sparseGet (sparseSet l k v d) k' d' = sparseGet l k' d' := by
  unfold sparseSet
  rcases Nat.lt_or_gt_of_ne h with hlt | hgt
  · rw [List.append_assoc]
    have h1 : sparseGet (l.filter (fun e => e.1 < k)) k' d' = sparseGet l k' d' :=
      sparseGet_filter l (fun n => decide (n < k)) k' d' (by simpa using hlt)
    rw [← h1]
    generalize l.filter (fun e => e.1 < k) = a
    have h2 : ∀ e ∈ ((if v = d then [] else [(k, v)]) ++ l.filter fun e => k < e.1), e.1 ≠ k' := by
      intro e he
      rcases List.mem_append.mp he with he | he
      · split at he <;> simp_all; omega
      · have := (List.mem_filter.mp he).2; simp at this; omega
    revert h2
    generalize ((if v = d then [] else [(k, v)]) ++ l.filter fun e => k < e.1) = b
    intro h2
    induction a with
    | nil => simpa [sparseGet] using sparseGet_of_not_mem b k' d' h2
    | cons e t ih => simp only [List.cons_append, sparseGet, ih]
  · rw [List.append_assoc, sparseGet_append_of_not_mem _ _ _ _ (by
      intro e he; have := (List.mem_filter.mp he).2; simp at this; omega)]
    rw [sparseGet_append_of_not_mem _ _ _ _ (by
      intro e he; split at he <;> simp_all; omega)]
    exact sparseGet_filter l (fun n => decide (k < n)) k' d' (by simpa using hgt)

/-- Keys strictly rising, as a relation between every two entries. -/
theorem sparseSorted_iff {α : Type} (l : List (Nat × α)) :
    sparseSorted l = true ↔ l.Pairwise fun a b => a.1 < b.1 := by
  induction l with
  | nil => simp [sparseSorted]
  | cons e t ih => simp [sparseSorted, ih]

/-- A write keeps the keys rising. -/
theorem sparseSorted_sparseSet {α : Type} [DecidableEq α] (l : List (Nat × α)) (k : Nat) (v d : α)
    (h : sparseSorted l = true) : sparseSorted (sparseSet l k v d) = true := by
  rw [sparseSorted_iff] at h ⊢
  unfold sparseSet
  rw [List.append_assoc, List.pairwise_append, List.pairwise_append]
  refine ⟨h.filter _, ⟨?_, h.filter _, ?_⟩, ?_⟩
  · split <;> simp
  · intro a ha b hb
    have hb := (List.mem_filter.mp hb).2
    split at ha <;> simp_all
  · intro a ha b hb
    have ha := (List.mem_filter.mp ha).2
    rcases List.mem_append.mp hb with hb | hb
    · split at hb <;> simp_all
    · have hb := (List.mem_filter.mp hb).2
      simp at ha hb; omega

/-- A write lists no entry at the default. -/
theorem mem_sparseSet_ne {α : Type} [DecidableEq α] (l : List (Nat × α)) (k : Nat) (v d : α)
    (h : ∀ e ∈ l, e.2 ≠ d) : ∀ e ∈ sparseSet l k v d, e.2 ≠ d := by
  intro e he
  unfold sparseSet at he
  rcases List.mem_append.mp he with he | he
  · rcases List.mem_append.mp he with he | he
    · exact h e (List.mem_filter.mp he).1
    · split at he <;> simp_all
  · exact h e (List.mem_filter.mp he).1

/-- Memory keeps its canonical form under a write. -/
theorem Memory.wf_sparseSet (m : List Host.Cell) (a : Nat) (b : Byte) (h : Memory.wf m) : Memory.wf (sparseSet m a b 0) :=
  ⟨sparseSorted_sparseSet m a b 0 h.1, mem_sparseSet_ne m a b 0 h.2⟩

/-- Memory keeps its canonical form under any run of writes. -/
theorem Memory.wf_writeCells (m : List Host.Cell) (ws : List (Nat × Byte)) (h : Memory.wf m) : Memory.wf (writeCells m ws) := by
  unfold writeCells
  induction ws generalizing m with
  | nil => exact h
  | cons w t ih => exact ih _ (Memory.wf_sparseSet m w.1 w.2 h)

/-- Empty memory is canonical. -/
theorem Memory.wf_nil : Memory.wf [] := ⟨rfl, by simp⟩

/-- A byte no write names reads as before. -/
theorem sparseGet_writeCells_other (m : List Host.Cell) (ws : List (Nat × Byte)) (a : Nat) (h : ∀ w ∈ ws, w.1 ≠ a) :
    sparseGet (writeCells m ws) a 0 = sparseGet m a 0 := by
  unfold writeCells
  induction ws generalizing m with
  | nil => rfl
  | cons w t ih =>
    rw [List.foldl_cons, ih _ fun w' hw => h w' (List.mem_cons_of_mem _ hw)]
    exact sparseGet_sparseSet_other m w.1 a w.2 0 0 (fun e => h w (List.mem_cons_self ..) e.symm)

end Sys2Proof.Machine
end

