-- ==== Sys2Proof/Laws/State.lean ====
section
/-!
SUPPORT. Laws of the shared operations over the state: what each leaves unchanged, one lemma a field, and what reading a
register field gives after each.
-/
namespace Sys2Proof.Machine

/-! ### The register file alone takes a write. -/

/-- `set` leaves `ce`. -/
@[simp] theorem Chip.set_ce (x : Chip) (f : Fld) (v n : Nat) : (x.set f v n).ce = x.ce := rfl
/-- `set` leaves `fn`. -/
@[simp] theorem Chip.set_fn (x : Chip) (f : Fld) (v n : Nat) : (x.set f v n).fn = x.fn := rfl
/-- `set` leaves `ev`. -/
@[simp] theorem Chip.set_ev (x : Chip) (f : Fld) (v n : Nat) : (x.set f v n).ev = x.ev := rfl
/-- `set` leaves `cross`. -/
@[simp] theorem Chip.set_cross (x : Chip) (f : Fld) (v n : Nat) : (x.set f v n).cross = x.cross := rfl
/-- `set` leaves `tb`. -/
@[simp] theorem Chip.set_tb (x : Chip) (f : Fld) (v n : Nat) : (x.set f v n).tb = x.tb := rfl
/-- `set` leaves `hb`. -/
@[simp] theorem Chip.set_hb (x : Chip) (f : Fld) (v n : Nat) : (x.set f v n).hb = x.hb := rfl
/-- `set` leaves `gx`. -/
@[simp] theorem Chip.set_gx (x : Chip) (f : Fld) (v n : Nat) : (x.set f v n).gx = x.gx := rfl
/-- `set` leaves `cp`. -/
@[simp] theorem Chip.set_cp (x : Chip) (f : Fld) (v n : Nat) : (x.set f v n).cp = x.cp := rfl
/-- `set` leaves `hd`. -/
@[simp] theorem Chip.set_hd (x : Chip) (f : Fld) (v n : Nat) : (x.set f v n).hd = x.hd := rfl
/-- `set` leaves `dx`. -/
@[simp] theorem Chip.set_dx (x : Chip) (f : Fld) (v n : Nat) : (x.set f v n).dx = x.dx := rfl
/-- `set` leaves `rj`. -/
@[simp] theorem Chip.set_rj (x : Chip) (f : Fld) (v n : Nat) : (x.set f v n).rj = x.rj := rfl
/-- `set` leaves `bl`. -/
@[simp] theorem Chip.set_bl (x : Chip) (f : Fld) (v n : Nat) : (x.set f v n).bl = x.bl := rfl
/-- `set` leaves `th`. -/
@[simp] theorem Chip.set_th (x : Chip) (f : Fld) (v n : Nat) : (x.set f v n).th = x.th := rfl
/-- `set` leaves `hp`. -/
@[simp] theorem Chip.set_hp (x : Chip) (f : Fld) (v n : Nat) : (x.set f v n).hp = x.hp := rfl
/-- `set` leaves `rs`. -/
@[simp] theorem Chip.set_rs (x : Chip) (f : Fld) (v n : Nat) : (x.set f v n).rs = x.rs := rfl
/-- `set` leaves `pw`. -/
@[simp] theorem Chip.set_pw (x : Chip) (f : Fld) (v n : Nat) : (x.set f v n).pw = x.pw := rfl
/-- `set` leaves `sw`. -/
@[simp] theorem Chip.set_sw (x : Chip) (f : Fld) (v n : Nat) : (x.set f v n).sw = x.sw := rfl
/-- `set` leaves `au`. -/
@[simp] theorem Chip.set_au (x : Chip) (f : Fld) (v n : Nat) : (x.set f v n).au = x.au := rfl
/-- `set` leaves `sk`. -/
@[simp] theorem Chip.set_sk (x : Chip) (f : Fld) (v n : Nat) : (x.set f v n).sk = x.sk := rfl
/-- `set` leaves `cv`. -/
@[simp] theorem Chip.set_cv (x : Chip) (f : Fld) (v n : Nat) : (x.set f v n).cv = x.cv := rfl
/-- `set` leaves `mc`. -/
@[simp] theorem Chip.set_mc (x : Chip) (f : Fld) (v n : Nat) : (x.set f v n).mc = x.mc := rfl
/-- `set` leaves `nv`. -/
@[simp] theorem Chip.set_nv (x : Chip) (f : Fld) (v n : Nat) : (x.set f v n).nv = x.nv := rfl
/-- `set` leaves `ld`. -/
@[simp] theorem Chip.set_ld (x : Chip) (f : Fld) (v n : Nat) : (x.set f v n).ld = x.ld := rfl
/-- `set` leaves `tap`. -/
@[simp] theorem Chip.set_tap (x : Chip) (f : Fld) (v n : Nat) : (x.set f v n).tap = x.tap := rfl
/-- `set` leaves `out`. -/
@[simp] theorem Chip.set_out (x : Chip) (f : Fld) (v n : Nat) : (x.set f v n).out = x.out := rfl
/-- `set` leaves `freeCtr`. -/
@[simp] theorem Chip.set_freeCtr (x : Chip) (f : Fld) (v n : Nat) : (x.set f v n).freeCtr = x.freeCtr := rfl

/-! ### A raise waits at the event controller alone. -/

/-- `raise` leaves `regs`. -/
@[simp] theorem Chip.raise_regs (x : Chip) (k : Nat) : (x.raise k).regs = x.regs := rfl
/-- `raise` leaves `ce`. -/
@[simp] theorem Chip.raise_ce (x : Chip) (k : Nat) : (x.raise k).ce = x.ce := rfl
/-- `raise` leaves `fn`. -/
@[simp] theorem Chip.raise_fn (x : Chip) (k : Nat) : (x.raise k).fn = x.fn := rfl
/-- `raise` leaves `cross`. -/
@[simp] theorem Chip.raise_cross (x : Chip) (k : Nat) : (x.raise k).cross = x.cross := rfl
/-- `raise` leaves `tb`. -/
@[simp] theorem Chip.raise_tb (x : Chip) (k : Nat) : (x.raise k).tb = x.tb := rfl
/-- `raise` leaves `hb`. -/
@[simp] theorem Chip.raise_hb (x : Chip) (k : Nat) : (x.raise k).hb = x.hb := rfl
/-- `raise` leaves `gx`. -/
@[simp] theorem Chip.raise_gx (x : Chip) (k : Nat) : (x.raise k).gx = x.gx := rfl
/-- `raise` leaves `cp`. -/
@[simp] theorem Chip.raise_cp (x : Chip) (k : Nat) : (x.raise k).cp = x.cp := rfl
/-- `raise` leaves `hd`. -/
@[simp] theorem Chip.raise_hd (x : Chip) (k : Nat) : (x.raise k).hd = x.hd := rfl
/-- `raise` leaves `dx`. -/
@[simp] theorem Chip.raise_dx (x : Chip) (k : Nat) : (x.raise k).dx = x.dx := rfl
/-- `raise` leaves `rj`. -/
@[simp] theorem Chip.raise_rj (x : Chip) (k : Nat) : (x.raise k).rj = x.rj := rfl
/-- `raise` leaves `bl`. -/
@[simp] theorem Chip.raise_bl (x : Chip) (k : Nat) : (x.raise k).bl = x.bl := rfl
/-- `raise` leaves `th`. -/
@[simp] theorem Chip.raise_th (x : Chip) (k : Nat) : (x.raise k).th = x.th := rfl
/-- `raise` leaves `hp`. -/
@[simp] theorem Chip.raise_hp (x : Chip) (k : Nat) : (x.raise k).hp = x.hp := rfl
/-- `raise` leaves `rs`. -/
@[simp] theorem Chip.raise_rs (x : Chip) (k : Nat) : (x.raise k).rs = x.rs := rfl
/-- `raise` leaves `pw`. -/
@[simp] theorem Chip.raise_pw (x : Chip) (k : Nat) : (x.raise k).pw = x.pw := rfl
/-- `raise` leaves `sw`. -/
@[simp] theorem Chip.raise_sw (x : Chip) (k : Nat) : (x.raise k).sw = x.sw := rfl
/-- `raise` leaves `au`. -/
@[simp] theorem Chip.raise_au (x : Chip) (k : Nat) : (x.raise k).au = x.au := rfl
/-- `raise` leaves `sk`. -/
@[simp] theorem Chip.raise_sk (x : Chip) (k : Nat) : (x.raise k).sk = x.sk := rfl
/-- `raise` leaves `cv`. -/
@[simp] theorem Chip.raise_cv (x : Chip) (k : Nat) : (x.raise k).cv = x.cv := rfl
/-- `raise` leaves `mc`. -/
@[simp] theorem Chip.raise_mc (x : Chip) (k : Nat) : (x.raise k).mc = x.mc := rfl
/-- `raise` leaves `nv`. -/
@[simp] theorem Chip.raise_nv (x : Chip) (k : Nat) : (x.raise k).nv = x.nv := rfl
/-- `raise` leaves `ld`. -/
@[simp] theorem Chip.raise_ld (x : Chip) (k : Nat) : (x.raise k).ld = x.ld := rfl
/-- `raise` leaves `tap`. -/
@[simp] theorem Chip.raise_tap (x : Chip) (k : Nat) : (x.raise k).tap = x.tap := rfl
/-- `raise` leaves `out`. -/
@[simp] theorem Chip.raise_out (x : Chip) (k : Nat) : (x.raise k).out = x.out := rfl
/-- `raise` leaves `freeCtr`. -/
@[simp] theorem Chip.raise_freeCtr (x : Chip) (k : Nat) : (x.raise k).freeCtr = x.freeCtr := rfl

/-- `raise` leaves every register field. -/
@[simp] theorem Chip.raise_get (x : Chip) (k : Nat) (g : Fld) (m : Nat) : (x.raise k).get g m = x.get g m := rfl

/-! ### What leaves the block is listed alone. -/

/-- `emit` leaves `regs`. -/
@[simp] theorem Chip.emit_regs (x : Chip) (o : Out) : (x.emit o).regs = x.regs := rfl
/-- `emit` leaves `ce`. -/
@[simp] theorem Chip.emit_ce (x : Chip) (o : Out) : (x.emit o).ce = x.ce := rfl
/-- `emit` leaves `fn`. -/
@[simp] theorem Chip.emit_fn (x : Chip) (o : Out) : (x.emit o).fn = x.fn := rfl
/-- `emit` leaves `ev`. -/
@[simp] theorem Chip.emit_ev (x : Chip) (o : Out) : (x.emit o).ev = x.ev := rfl
/-- `emit` leaves `cross`. -/
@[simp] theorem Chip.emit_cross (x : Chip) (o : Out) : (x.emit o).cross = x.cross := rfl
/-- `emit` leaves `tb`. -/
@[simp] theorem Chip.emit_tb (x : Chip) (o : Out) : (x.emit o).tb = x.tb := rfl
/-- `emit` leaves `hb`. -/
@[simp] theorem Chip.emit_hb (x : Chip) (o : Out) : (x.emit o).hb = x.hb := rfl
/-- `emit` leaves `gx`. -/
@[simp] theorem Chip.emit_gx (x : Chip) (o : Out) : (x.emit o).gx = x.gx := rfl
/-- `emit` leaves `cp`. -/
@[simp] theorem Chip.emit_cp (x : Chip) (o : Out) : (x.emit o).cp = x.cp := rfl
/-- `emit` leaves `hd`. -/
@[simp] theorem Chip.emit_hd (x : Chip) (o : Out) : (x.emit o).hd = x.hd := rfl
/-- `emit` leaves `dx`. -/
@[simp] theorem Chip.emit_dx (x : Chip) (o : Out) : (x.emit o).dx = x.dx := rfl
/-- `emit` leaves `rj`. -/
@[simp] theorem Chip.emit_rj (x : Chip) (o : Out) : (x.emit o).rj = x.rj := rfl
/-- `emit` leaves `bl`. -/
@[simp] theorem Chip.emit_bl (x : Chip) (o : Out) : (x.emit o).bl = x.bl := rfl
/-- `emit` leaves `th`. -/
@[simp] theorem Chip.emit_th (x : Chip) (o : Out) : (x.emit o).th = x.th := rfl
/-- `emit` leaves `hp`. -/
@[simp] theorem Chip.emit_hp (x : Chip) (o : Out) : (x.emit o).hp = x.hp := rfl
/-- `emit` leaves `rs`. -/
@[simp] theorem Chip.emit_rs (x : Chip) (o : Out) : (x.emit o).rs = x.rs := rfl
/-- `emit` leaves `pw`. -/
@[simp] theorem Chip.emit_pw (x : Chip) (o : Out) : (x.emit o).pw = x.pw := rfl
/-- `emit` leaves `sw`. -/
@[simp] theorem Chip.emit_sw (x : Chip) (o : Out) : (x.emit o).sw = x.sw := rfl
/-- `emit` leaves `au`. -/
@[simp] theorem Chip.emit_au (x : Chip) (o : Out) : (x.emit o).au = x.au := rfl
/-- `emit` leaves `sk`. -/
@[simp] theorem Chip.emit_sk (x : Chip) (o : Out) : (x.emit o).sk = x.sk := rfl
/-- `emit` leaves `cv`. -/
@[simp] theorem Chip.emit_cv (x : Chip) (o : Out) : (x.emit o).cv = x.cv := rfl
/-- `emit` leaves `mc`. -/
@[simp] theorem Chip.emit_mc (x : Chip) (o : Out) : (x.emit o).mc = x.mc := rfl
/-- `emit` leaves `nv`. -/
@[simp] theorem Chip.emit_nv (x : Chip) (o : Out) : (x.emit o).nv = x.nv := rfl
/-- `emit` leaves `ld`. -/
@[simp] theorem Chip.emit_ld (x : Chip) (o : Out) : (x.emit o).ld = x.ld := rfl
/-- `emit` leaves `tap`. -/
@[simp] theorem Chip.emit_tap (x : Chip) (o : Out) : (x.emit o).tap = x.tap := rfl
/-- `emit` leaves `freeCtr`. -/
@[simp] theorem Chip.emit_freeCtr (x : Chip) (o : Out) : (x.emit o).freeCtr = x.freeCtr := rfl

/-- `emit` leaves every register field. -/
@[simp] theorem Chip.emit_get (x : Chip) (o : Out) (g : Fld) (m : Nat) : (x.emit o).get g m = x.get g m := rfl

/-! ### A free value taken advances its counter alone. -/

/-- `took` leaves `regs`. -/
@[simp] theorem Chip.took_regs (x : Chip) : x.took.regs = x.regs := rfl
/-- `took` leaves `ce`. -/
@[simp] theorem Chip.took_ce (x : Chip) : x.took.ce = x.ce := rfl
/-- `took` leaves `fn`. -/
@[simp] theorem Chip.took_fn (x : Chip) : x.took.fn = x.fn := rfl
/-- `took` leaves `ev`. -/
@[simp] theorem Chip.took_ev (x : Chip) : x.took.ev = x.ev := rfl
/-- `took` leaves `cross`. -/
@[simp] theorem Chip.took_cross (x : Chip) : x.took.cross = x.cross := rfl
/-- `took` leaves `tb`. -/
@[simp] theorem Chip.took_tb (x : Chip) : x.took.tb = x.tb := rfl
/-- `took` leaves `hb`. -/
@[simp] theorem Chip.took_hb (x : Chip) : x.took.hb = x.hb := rfl
/-- `took` leaves `gx`. -/
@[simp] theorem Chip.took_gx (x : Chip) : x.took.gx = x.gx := rfl
/-- `took` leaves `cp`. -/
@[simp] theorem Chip.took_cp (x : Chip) : x.took.cp = x.cp := rfl
/-- `took` leaves `hd`. -/
@[simp] theorem Chip.took_hd (x : Chip) : x.took.hd = x.hd := rfl
/-- `took` leaves `dx`. -/
@[simp] theorem Chip.took_dx (x : Chip) : x.took.dx = x.dx := rfl
/-- `took` leaves `rj`. -/
@[simp] theorem Chip.took_rj (x : Chip) : x.took.rj = x.rj := rfl
/-- `took` leaves `bl`. -/
@[simp] theorem Chip.took_bl (x : Chip) : x.took.bl = x.bl := rfl
/-- `took` leaves `th`. -/
@[simp] theorem Chip.took_th (x : Chip) : x.took.th = x.th := rfl
/-- `took` leaves `hp`. -/
@[simp] theorem Chip.took_hp (x : Chip) : x.took.hp = x.hp := rfl
/-- `took` leaves `rs`. -/
@[simp] theorem Chip.took_rs (x : Chip) : x.took.rs = x.rs := rfl
/-- `took` leaves `pw`. -/
@[simp] theorem Chip.took_pw (x : Chip) : x.took.pw = x.pw := rfl
/-- `took` leaves `sw`. -/
@[simp] theorem Chip.took_sw (x : Chip) : x.took.sw = x.sw := rfl
/-- `took` leaves `au`. -/
@[simp] theorem Chip.took_au (x : Chip) : x.took.au = x.au := rfl
/-- `took` leaves `sk`. -/
@[simp] theorem Chip.took_sk (x : Chip) : x.took.sk = x.sk := rfl
/-- `took` leaves `cv`. -/
@[simp] theorem Chip.took_cv (x : Chip) : x.took.cv = x.cv := rfl
/-- `took` leaves `mc`. -/
@[simp] theorem Chip.took_mc (x : Chip) : x.took.mc = x.mc := rfl
/-- `took` leaves `nv`. -/
@[simp] theorem Chip.took_nv (x : Chip) : x.took.nv = x.nv := rfl
/-- `took` leaves `ld`. -/
@[simp] theorem Chip.took_ld (x : Chip) : x.took.ld = x.ld := rfl
/-- `took` leaves `tap`. -/
@[simp] theorem Chip.took_tap (x : Chip) : x.took.tap = x.tap := rfl
/-- `took` leaves `out`. -/
@[simp] theorem Chip.took_out (x : Chip) : x.took.out = x.out := rfl

/-- `took` leaves every register field. -/
@[simp] theorem Chip.took_get (x : Chip) (g : Fld) (m : Nat) : x.took.get g m = x.get g m := rfl

/-! ### Register fields -/

/-- A field reads back what was written, cut to its width. -/
@[simp] theorem Chip.get_set_same (x : Chip) (f : Fld) (v n : Nat) : (x.set f v n).get f n = v % 2 ^ f.width :=
  sparseGet_sparseSet_same ..

/-- Every other key keeps its value. -/
theorem Chip.get_set_of_key_ne (x : Chip) (f g : Fld) (v n m : Nat) (h : g.key m ≠ f.key n) :
    (x.set f v n).get g m = x.get g m := sparseGet_sparseSet_other _ _ _ _ _ _ h

/-- Keys of two fields, or of two instances below 2,048, differ. -/
theorem Fld.key_ne (f g : Fld) (n m : Nat) (hn : n < 2048) (hm : m < 2048) (h : f.id ≠ g.id ∨ n ≠ m) : g.key m ≠ f.key n := by
  unfold Fld.key; omega

/-- Every other field or instance keeps its value. -/
theorem Chip.get_set_other (x : Chip) (f g : Fld) (v n m : Nat) (hn : n < 2048) (hm : m < 2048) (h : f.id ≠ g.id ∨ n ≠ m) :
    (x.set f v n).get g m = x.get g m := Chip.get_set_of_key_ne x f g v n m (Fld.key_ne f g n m hn hm h)

/-- A flag is a write of 0 or 1. -/
theorem Chip.flag_eq (x : Chip) (f : Fld) (b : Bool) (n : Nat) : x.flag f b n = x.set f (b2n b) n := rfl

/-- The register file keeps its canonical order. -/
theorem Chip.set_sorted (x : Chip) (f : Fld) (v n : Nat) (h : sparseSorted x.regs = true) :
    sparseSorted (x.set f v n).regs = true := sparseSorted_sparseSet _ _ _ _ h

end Sys2Proof.Machine
end

