-- ==== Sys2Proof/Laws/Lift.lean ====
section
/-!
SUPPORT. Laws of the liftings: what a command can do to the queue and to memory, by the lifting its meaning uses.
-/
namespace Sys2Proof.Machine

/-- What every command keeps: it answers a next state, the queue stays, and memory stays canonical. -/
def Keeps (s : State) (o : Host.Outcome State Fault Refusal) : Prop :=
  ∃ t, o = .next t ∧ t.pending = s.pending ∧ (Memory.wf s.mem → Memory.wf t.mem)

/-- A state kept whole is kept. -/
theorem Keeps.same (s : State) : Keeps s (.next s) := ⟨_, rfl, rfl, id⟩

/-- A command of a domain that Park leaves on changes the blocks alone. -/
theorem State.onAon_keeps (s : State) (f : Chip → Chip) : Keeps s (s.onAon f) := ⟨_, rfl, rfl, id⟩

/-- Out of Park a command on the blocks alone leaves queue and memory. -/
theorem State.onChip_eq (s : State) (f : Chip → Chip) (hp : s.chip.parked = false) :
    s.onChip f = .next { s with chip := f s.chip } := by simp only [State.onChip, hp, Bool.false_eq_true, if_false]

/-- In Park it has no effect. -/
theorem State.onChip_parked (s : State) (f : Chip → Chip) (hp : s.chip.parked = true) : s.onChip f = .next s := by
  simp only [State.onChip, hp, if_true]

/-- Out of Park a command that reads memory changes the blocks alone. -/
theorem State.onChipM_eq (s : State) (f : List Host.Cell → Chip → Chip) (hp : s.chip.parked = false) :
    s.onChipM f = .next { s with chip := f s.mem s.chip } := by
  simp only [State.onChipM, hp, Bool.false_eq_true, if_false]

/-- In Park it has no effect. -/
theorem State.onChipM_parked (s : State) (f : List Host.Cell → Chip → Chip) (hp : s.chip.parked = true) :
    s.onChipM f = .next s := by simp only [State.onChipM, hp, if_true]

/-- Out of Park a command on memory is what it is in a domain that is always on. -/
theorem State.onBoth_eq (s : State) (f : List Host.Cell → Chip → Chip × List (Nat × Byte)) (hp : s.chip.parked = false) :
    s.onBoth f = s.onAonBoth f := by simp only [State.onBoth, hp, Bool.false_eq_true, if_false]

/-- In Park it has no effect. -/
theorem State.onBoth_parked (s : State) (f : List Host.Cell → Chip → Chip × List (Nat × Byte)) (hp : s.chip.parked = true) :
    s.onBoth f = .next s := by simp only [State.onBoth, hp, if_true]

/-- `onChip` keeps. -/
theorem State.onChip_keeps (s : State) (f : Chip → Chip) : Keeps s (s.onChip f) := by
  cases hp : s.chip.parked
  · rw [s.onChip_eq f hp]; exact s.onAon_keeps f
  · rw [s.onChip_parked f hp]; exact .same s

/-- `onChipM` keeps. -/
theorem State.onChipM_keeps (s : State) (f : List Host.Cell → Chip → Chip) : Keeps s (s.onChipM f) := by
  cases hp : s.chip.parked
  · rw [s.onChipM_eq f hp]; exact ⟨_, rfl, rfl, id⟩
  · rw [s.onChipM_parked f hp]; exact .same s

/-- `onAonBoth` keeps. -/
theorem State.onAonBoth_keeps (s : State) (f : List Host.Cell → Chip → Chip × List (Nat × Byte)) : Keeps s (s.onAonBoth f) :=
  ⟨_, rfl, rfl, Memory.wf_writeCells _ _⟩

/-- `onBoth` keeps. -/
theorem State.onBoth_keeps (s : State) (f : List Host.Cell → Chip → Chip × List (Nat × Byte)) : Keeps s (s.onBoth f) := by
  cases hp : s.chip.parked
  · rw [s.onBoth_eq f hp]; exact s.onAonBoth_keeps f
  · rw [s.onBoth_parked f hp]; exact .same s

/-- `onAonWork` keeps. -/
theorem State.onAonWork_keeps (s : State) (f : Work → Work) : Keeps s (s.onAonWork f) := s.onAonBoth_keeps _

/-- `onSkein` keeps. -/
theorem State.onSkein_keeps (s : State) (f : Work → Work) : Keeps s (s.onSkein f) := s.onBoth_keeps _

/-- `onReach` keeps; a reach that loses memory leaves it empty. -/
theorem State.onReach_keeps (s : State) (f : Chip → Chip) : Keeps s (s.onReach f) := by
  refine ⟨_, rfl, rfl, fun h => ?_⟩
  dsimp only
  split
  · exact Memory.wf_nil
  · exact h

/-- `onReachW` keeps. -/
theorem State.onReachW_keeps (s : State) (f : Work → Work) : Keeps s (s.onReachW f) := by
  refine ⟨_, rfl, rfl, fun h => ?_⟩
  dsimp only
  split
  · exact Memory.wf_nil
  · exact Memory.wf_writeCells _ _ h

/-- A byte that a command on memory does not write reads as before. -/
theorem State.onBoth_frame (s t : State) (f : List Host.Cell → Chip → Chip × List (Nat × Byte)) (h : s.onBoth f = .next t)
    (a : Nat) (ha : ∀ w ∈ (f s.mem s.chip).2, w.1 ≠ a) : sparseGet t.mem a 0 = sparseGet s.mem a 0 := by
  cases hp : s.chip.parked
  · rw [s.onBoth_eq f hp] at h; cases h; exact sparseGet_writeCells_other _ _ _ ha
  · rw [s.onBoth_parked f hp] at h; cases h; rfl

end Sys2Proof.Machine
end

