-- ==== Sys2Proof/Laws/Complete.lean ====
section
/-!
SUPPORT. How a completion follows from what the command's work leaves, by the lifting its meaning uses.
-/
namespace Sys2Proof.Machine

/-- A command on the blocks alone completes with what it makes of them. -/
theorem runs_onChip {i : Instr} {s : State} {f : Chip → Chip} {y : Chip} (hp : s.chip.parked = false)
    (he : exec i s = s.onChip f) (e : f s.chip = y) : Runs i s y := by
  subst e; exact he.trans (s.onChip_eq f hp)

/-- A command of a domain that Park leaves on completes with what it makes of the blocks. -/
theorem runs_onAon {i : Instr} {s : State} {f : Chip → Chip} {y : Chip} (he : exec i s = s.onAon f) (e : f s.chip = y) :
    Runs i s y := by subst e; exact he

/-- A command that moves data completes with what its work leaves. -/
theorem runsTo_onSkein {i : Instr} {s : State} {f : Work → Work} {w : Work} (hp : s.chip.parked = false)
    (he : exec i s = s.onSkein f) (e : f s.work = w) : RunsTo i s w := by
  subst e; exact he.trans (s.onBoth_eq (runWork f) hp)

/-- A command that may take a reach completes with what it makes of the blocks. -/
theorem runsReach_onReach {i : Instr} {s : State} {f : Chip → Chip} {y : Chip} (he : exec i s = s.onReach f)
    (e : f s.chip = y) : RunsReach i s y := by subst e; exact he

/-- A message that is to be acted on has its effect, and what can be sent follows. -/
theorem blMsg_taken {h : MsgHdr} {cls n : Nat} {f : Work → Work} {w : Work} (ht : (w.x.blTake h cls n false).2 = true) :
    blMsg h cls n f w = (f { w with x := (w.x.blTake h cls n false).1 }).blPump := by
  simp only [blMsg, ht, if_true]

/-- One that is not is only noted as received. -/
theorem blMsg_dropped {h : MsgHdr} {cls n : Nat} {f : Work → Work} {w : Work} (ht : (w.x.blTake h cls n false).2 = false) :
    blMsg h cls n f w = ({ w with x := (w.x.blTake h cls n false).1 } : Work).blPump := by
  simp only [blMsg, ht, Bool.false_eq_true, if_false]

/-- The same of a message that an ingress tap of Conveyor sees. -/
theorem blTapped_taken {h : MsgHdr} {cls : Nat} {body : List Nat} {f : Work → Work} {w : Work}
    (ht : (w.x.blTake h cls body.length false).2 = true) :
    blTapped h cls body f w =
      (f (({ w with x := (w.x.blTake h cls body.length false).1 } : Work).cvTap (if cls = 1 then 49 else 51) body)).blPump := by
  simp only [blTapped]; exact blMsg_taken ht

/-- A draw whose record and indexes are right begins with no effect, as does one in progress. -/
theorem drawBegin_right {mem : List Host.Cell} {x : Chip} {j : Job}
    (h : j.pos.2 ≠ 0 ∨ (drawOk mem x j j.pos.1 = true ∧ badIndex mem x j j.pos.1 = none)) : drawBegin mem x j = (x, true) := by
  unfold drawBegin
  by_cases p : j.pos.2 = 0
  · obtain h | h := h
    · exact absurd p h
    · simp [p, h.1, h.2]
  · simp [p]

/-- A wrong draw record ends its job when the draw begins (R143). -/
theorem drawBegin_wrong {mem : List Host.Cell} {x : Chip} {j : Job} (p : j.pos.2 = 0) (h : drawOk mem x j j.pos.1 = false) :
    drawBegin mem x j = (x.abortJob j 3 j.pos.1, false) := by
  unfold drawBegin; simp [p, h]

end Sys2Proof.Machine
end

