-- ==== Sys2Proof/Laws/Link.lean ====
section
/-!
SUPPORT. Laws of the link layer: what a flit without an acknowledgement brings beside its payload, and what taking the
expected flit leaves of the streams.
-/
namespace Sys2Proof.Machine

/-- A fold whose step changes nothing changes nothing. -/
theorem foldl_id {α β : Type} (f : β → α → β) (l : List α) (b : β) (h : ∀ a, f b a = b) : l.foldl f b = b := by
  induction l with
  | nil => rfl
  | cons a l ih => rw [List.foldl_cons, h, ih]

/-- A part of an element that the change keeps is kept wherever the element lies. -/
theorem getD_updAt {α β : Type} (g : α → β) (f : α → α) (d : α) (h : ∀ a, g (f a) = g a) (l : List α) (i j : Nat) :
    g ((updAt l i f).getD j d) = g (l.getD j d) := by
  induction l generalizing i j with
  | nil => rfl
  | cons a l ih =>
    cases i <;> cases j
    · exact h a
    · rfl
    · rfl
    · simp only [updAt, List.getD_cons_succ]; exact ih _ _

/-- Nothing acknowledged, nothing done. -/
theorem Work.acked_nil (w : Work) (p : Nat) : w.acked p [] = w := by
  refine foldl_id _ _ _ fun t => ?_
  cases t.eg with
  | none => rfl
  | some o => cases h : o.endSeq <;> simp [h]

/-- A flit without an acknowledgement brings its payload alone. -/
theorem Work.header_noAck (w : Work) (p : Nat) (h : FlitHdr) (ha : h.ackV = false) : w.header p h = w := by
  simp only [Work.header, Chip.lkAck, ha, Bool.not_false, Bool.true_or, if_true, Work.acked_nil]

/-- The flit expected is taken. -/
theorem Chip.lkTake_next (x : Chip) (l : Nat) : x.lkTake l (x.lk l).rxSeq =
    (x.setLk l fun s => { s with rxSeq := (s.rxSeq + 1) % 1024, ackV := true, nakAt := none }, true) := by
  simp only [Chip.lkTake, if_true]

/-- A link's own state lies beside its port's streams. -/
theorem Chip.setLk_streams (x : Chip) (l p : Nat) (f : LinkSt → LinkSt) : ((x.setLk l f).sp p).streams = (x.sp p).streams := by
  unfold Chip.setLk
  split
  · rfl
  · exact getD_updAt SkPort.streams (fun q => { q with link := f q.link }) _ (fun _ => rfl) _ _ _

/-- A close received lasts through a change that keeps it. -/
theorem Chip.setLk_close (x : Chip) (l p : Nat) (f : LinkSt → LinkSt) (h : ∀ s, (f s).farClose = s.farClose) :
    ((x.setLk l f).lk p).farClose = (x.lk p).farClose := by
  unfold Chip.setLk Chip.lk
  by_cases hl : l = 2 <;> by_cases hq : p = 2
  · simp only [hl, hq, if_true, h]
  · simp only [hl, hq, if_true, if_false]
  · simp only [hl, hq, if_true, if_false]
  · simp only [hl, hq, if_false]
    exact getD_updAt (fun q : SkPort => q.link.farClose) (fun q => { q with link := f q.link }) _ (fun _ => h _) _ _ _

/-- Registers are not a link's own state. -/
@[simp] theorem Chip.setLk_get (x : Chip) (l : Nat) (f : LinkSt → LinkSt) (g : Fld) (n : Nat) :
    (x.setLk l f).get g n = x.get g n := by unfold Chip.setLk; split <;> rfl

/-- A stream's credit is not a link's own state. -/
theorem Chip.setLk_skCredit (x : Chip) (l p s : Nat) (f : LinkSt → LinkSt) : (x.setLk l f).skCredit p s = x.skCredit p s := by
  simp only [Chip.skCredit, Chip.strm, Chip.setLk_streams, Chip.setLk_get]

end Sys2Proof.Machine
end

