-- ==== Sys2Proof/Tests/Slice0.lean ====
section
/-!
SUPPORT. The model's own tests: what a few commands do on small states, ill-formed commands refused, and for every
statement with hypotheses a state that meets them.
-/
namespace Sys2Proof.Machine

set_option Elab.async false

/-- A command of function `f` on ring 1. -/
def call (ws : List Word) (f : Fin 65 := 0) : Call := ⟨f, 1, 0, 0, 0, true, ws, false⟩

/-- A state whose engine has dispatched one packet. -/
def wit (o : Op) (ws : List Word) (f : Fin 65) (setup : Chip → Chip) : State :=
  { chip := setup { ({} : Chip) with ce := { pkts := [⟨o.code, call ws f, none, .dispatched⟩] } } }

/-- An allocation of F0: entry 1, tag 3, 1 MiB of class `cls`. -/
def sampleEntry (cls : Nat := 0) (mig kind order pin : Nat := 0) : MapEntry :=
  { idx := 1, valid := true, world := false, order := order, cls := cls, func := 0, mig := mig, kind := kind, mirror := false,
    wdrawn := false, tag := 3, pin := pin, pattern := 0, latency := false, chanset := 65535, bgrp := 0, charge := 0, pbase := 0,
    size := 16, tchanset := 0, torder := 0, tbgrp := 0, tpbase := 0, act := 0, migs := 0, held := false, lost := 0,
    freeing := false }

/-- The blocks with that allocation. -/
def withEntry (x : Chip) (e : MapEntry := sampleEntry) : Chip := { x with hb := { x.hb with map := [e] } }

/-- A layer of function 3 on unit 5. -/
def sampleLayer : Layer := ⟨5, 3, 0, [], false, false⟩

/-- A firmware image with an empty stage 1 and the main part "main", signed with the private key 2, written by hand outside the
model. -/
def goodImage : List Nat := [1, 0, 81, 70, 7, 0, 0, 0, 1, 0, 0, 0, 0, 0, 0, 0, 0, 0, 0, 0, 4, 0, 0, 0, 0, 0, 0, 0, 0,
  0, 0, 0, 227, 176, 196, 66, 152, 252, 28, 20, 154, 251, 244, 200, 153, 111, 185, 36, 39, 174, 65, 228, 100, 155, 147,
  76, 164, 149, 153, 27, 120, 82, 184, 85, 13, 110, 64, 121, 227, 103, 3, 235, 211, 124, 0, 114, 47, 88, 145, 210, 139,
  14, 40, 17, 220, 17, 75, 18, 146, 21, 18, 58, 220, 206, 54, 5, 124, 242, 123, 24, 141, 3, 79, 126, 138, 82, 56, 3, 4,
  181, 26, 195, 192, 137, 105, 226, 119, 242, 27, 53, 166, 11, 72, 252, 71, 102, 153, 120, 7, 119, 85, 16, 219, 142,
  208, 64, 41, 61, 154, 198, 159, 116, 48, 219, 186, 125, 173, 230, 60, 233, 130, 41, 158, 4, 183, 157, 34, 120, 115,
  209, 107, 23, 209, 242, 225, 44, 66, 71, 248, 188, 230, 229, 99, 164, 64, 242, 119, 3, 125, 129, 45, 235, 51, 160,
  244, 161, 57, 69, 216, 152, 194, 150, 214, 244, 5, 113, 230, 66, 23, 20, 71, 13, 65, 56, 223, 76, 83, 33, 149, 86,
  71, 119, 235, 97, 104, 47, 193, 87, 100, 18, 220, 113, 72, 81, 0, 0, 0, 0, 0, 0, 0, 0, 0, 0, 0, 0, 0, 0, 0, 0, 0, 0,
  0, 0, 0, 0, 0, 0, 0, 0, 0, 0, 0, 0, 0, 0, 109, 97, 105, 110]

/-- The hash of its key. -/
def goodKeyHash : List Nat := [208, 122, 235, 19, 72, 64, 177, 82, 66, 225, 45, 74, 6, 206, 58, 180, 147, 203, 208, 32,
  235, 195, 189, 90, 174, 205, 130, 47, 81, 224, 195, 216]

/-- The blocks with that hash in key slot 0, in force, and the image in the slot that is not active. -/
def imageChip (x : Chip) : Chip :=
  let y := x.set RB_FW_KEY 0
  { y with nv := { y.nv with hashes := [(0, goodKeyHash)], slots := [[], goodImage] } }

/-- The signature of the image verifies: hashes and signature were computed outside the model. -/
theorem test_image_signature :
    ecdsaOk ((goodImage.drop 0x60).take 64) ((goodImage.drop 0xA0).take 64) (goodImage.take 0xA0) = true := by
  decide +kernel

/-- The image is valid wherever that key hash is in force and the floor is 0. -/
theorem image_valid (x : Chip) (hk : x.keyHash = goodKeyHash) (hf : x.get RB_FW_FLOOR = 0) : x.imgWrong goodImage = 0 := by
  have h1 : (goodImage = []) = False := by decide +kernel
  have h2 : imgHeader goodImage = true := by decide +kernel
  have h3 : imgHashes goodImage = true := by decide +kernel
  have h4 : sha256 ((goodImage.drop 0x60).take 64) = goodKeyHash := by decide +kernel
  have h5 : ¬ fieldLe goodImage 8 1 < 0 := by decide +kernel
  simp only [Chip.imgWrong, Chip.imgKey, h1, h2, h3, h4, hk, hf, h5, test_image_signature, decide_true, Bool.and_self,
    Bool.not_true, if_false, Bool.false_eq_true]


/-- The blocks with Bowline up and credit in hand for every class. -/
def blUp (x : Chip) : Chip :=
  let y := x.set BL_STAT_LINK lkUp
  { y with bl := { y.bl with rxCredit := [(0, 99), (1, 99), (2, 99), (3, 99), (4, 99), (5, 99), (6, 99)] } }

/-- A signed content record of one pixel for key slot 3, sequence 5, written by hand outside the model: its key was chosen
for its signature. -/
def goodRecord : List Nat := [1, 0, 67, 80, 3, 1, 1, 0, 5, 0, 0, 0, 0, 0, 0, 0, 1, 0, 1, 0, 0, 1, 0, 0, 0, 1, 0, 0, 0,
  0, 0, 0, 0, 0, 0, 0, 1, 0, 1, 0, 2, 0, 0, 0, 0, 0, 0, 0, 0, 0, 0, 0, 0, 0, 0, 0, 0, 0, 0, 0, 0, 0, 0, 0, 0, 0, 0, 0,
  0, 0, 0, 0, 0, 0, 0, 0, 0, 0, 0, 0, 0, 0, 0, 0, 0, 0, 0, 0, 0, 0, 0, 0, 0, 0, 0, 0, 0, 0, 0, 0, 0, 0, 0, 0, 0, 0, 0,
  0, 0, 0, 0, 0, 0, 0, 0, 0, 0, 0, 0, 0, 0, 0, 0, 0, 0, 0, 0, 0, 0, 0, 0, 0, 0, 0, 0, 0, 0, 0, 0, 0, 0, 0, 0, 0, 0, 0,
  0, 0, 0, 0, 0, 0, 0, 0, 0, 0, 0, 0, 0, 0, 0, 0, 0, 0, 0, 0, 0, 0, 0, 0, 0, 0, 0, 0, 0, 0, 0, 0, 0, 0, 0, 0, 0, 0, 0,
  0, 0, 0, 0, 0, 0, 0, 0, 0, 0, 0, 0, 0, 0, 0, 0, 0, 0, 0, 0, 0, 0, 0, 0, 0, 0, 0, 0, 0, 0, 0, 0, 0, 0, 0, 0, 0, 0, 0,
  0, 0, 0, 0, 0, 0, 0, 0, 0, 0, 0, 0, 0, 0, 0, 0, 0, 0, 0, 0, 0, 0, 0, 0, 0, 0, 0, 0, 0, 0, 0, 0, 0, 0, 0, 0, 0, 0, 0,
  0, 0, 0, 0, 0, 0, 0, 0, 0, 0, 0, 0, 0, 0, 0, 0, 0, 0, 0, 0, 0, 0, 0, 0, 0, 0, 0, 0, 0, 0, 0, 0, 0, 0, 0, 0, 0, 0, 0,
  0, 0, 0, 0, 0, 0, 0, 0, 0, 0, 0, 0, 0, 0, 0, 0, 0, 0, 0, 0, 0, 0, 0, 0, 0, 0, 0, 0, 0, 0, 0, 0, 0, 0, 0, 0, 0, 0, 0,
  0, 0, 0, 0, 0, 0, 0, 0, 0, 0, 0, 0, 0, 0, 0, 0, 0, 0, 0, 0, 0, 0, 0, 0, 0, 0, 0, 0, 0, 0, 0, 0, 0, 0, 0, 0, 0, 0, 0,
  0, 0, 0, 0, 60, 197, 89, 238, 191, 6, 71, 208, 199, 132, 31, 19, 53, 213, 227, 180, 62, 46, 43, 84, 77, 42, 161, 74,
  208, 145, 155, 192, 151, 71, 82, 44, 60, 197, 89, 238, 191, 6, 71, 208, 199, 132, 31, 19, 53, 213, 227, 180, 62, 46,
  43, 84, 77, 42, 161, 74, 208, 145, 155, 192, 151, 71, 82, 44]

/-- Its public key. -/
def goodRecordKey : List Nat := [187, 208, 141, 220, 120, 186, 211, 180, 193, 235, 248, 214, 211, 202, 95, 98, 33, 191,
  8, 217, 218, 211, 235, 38, 219, 12, 74, 67, 21, 77, 18, 136, 196, 220, 102, 144, 24, 251, 183, 210, 136, 119, 55,
  186, 226, 224, 160, 18, 46, 142, 168, 155, 226, 106, 239, 161, 127, 11, 131, 183, 58, 148, 162, 133]

/-- The blocks with that key, an allocation that holds the record, and head 15 running with its protected unit 5. -/
def recordChip (x : Chip) : Chip :=
  let y := (((x.set HDn_STAT_RUN 1 15).set CP_HEADn_CFG_PROT 1 15).set CP_Ln_OWNER_BOUND 1 5).set CP_Ln_OWNER_HEAD 15 5
  let y := (((y.set CP_Ln_OWNER_WORLD 1 5).set HDn_HTIME0_HACTIVE 64 15).set HDn_VTIME0_VACTIVE 32 15).set HB_FREE_MIB_MIB 9
  let y := { y with nv := { y.nv with prot := [(3, goodRecordKey)] } }
  withEntry y (sampleEntry 3)

/-- A render job of F0, number 5, tiling on core 0. -/
def sampleJob : Job :=
  { compute := false, fn := 0, gen := 0, world := false, num := 5, ring := 1, st := .tiling, phase := .tiling, portable := false,
    doneNotice := true, wait := none, signal := none, area := (0, 0, 32, 32), targets := [], ds := 0, draws := 0, drawCount := 1,
    pipes := [0], res := 0, pool := [], spills := 0, faulted := false, onTwin := false, members := 1, cores := [0], since := 0,
    used := 0, deps := [], preempt := false, timer := false, old := false, groups := 0, lsize := 1, finished := 0, pos := (0, 0), binned := 0,
    prims := [], done := [], visited := [], elided := [], handles := [], spillDue := false, samples := 1, desc := [],
    filled := false }

/-- The blocks with one job. -/
def withJob (x : Chip) (j : Job) : Chip := { x with gx := { x.gx with jobs := [j] } }

/-- Little-endian bytes. -/
def le (n v : Nat) : List Nat := (List.range n).map fun i => v / 256 ^ i % 256

/-- A render job of 32 × 32 pixels without targets, its draw record at 0x1000 of its own allocation (R143). -/
def renderDesc : List Nat :=
  le 4 1 ++ (le 4 0 ++ (le 4 0 ++ (le 2 32 ++ (le 2 32 ++ (le 8 (131080 * 2 ^ 32 + 0x1000) ++ (le 4 1 ++ (le 4 0 ++
    (le 8 (196612 * 2 ^ 32) ++ (le 4 17 ++ (le 4 0 ++ (le 16 0 ++ (le 2 0xFFFF ++ (le 158 0 ++
      (le 8 (131080 * 2 ^ 32 + 0x2000) ++ le 24 0))))))))))))))

/-- A compute job of one group. -/
def computeDesc : List Nat :=
  le 4 1 ++ (le 4 0 ++ (le 4 1 ++ (le 4 1 ++ (le 4 1 ++ (le 4 1 ++ (le 8 (131080 * 2 ^ 32 + 0x2000) ++ (le 8 0 ++ (le 8 0 ++
    (le 16 0 ++ (le 2 0xFFFF ++ le 62 0))))))))))

/-- The blocks with the two allocations and the two pipelines that those jobs name. -/
def renderChip (x : Chip) : Chip :=
  { x with
    hb := { x.hb with map := [{ sampleEntry 4 with size := 17 }, { sampleEntry with idx := 2, tag := 2 }] }
    gx := { x.gx with pipes := [⟨0, 0, false, 0, false, (7, 65535), 1, [], [], [], 0, false⟩, ⟨0, 1, true, 0, false, (7, 65535), 1, [], [], [], 0, false⟩] } }

/-- A SPIR-V module: its header, the Shader capability, and a compute entry point. -/
def moduleWords : List Nat := [0x07230203, 0x00010000, 0, 2, 0, 0x00020011, 1, 0x0005000F, 5, 1, 0x6E69616D, 0]

/-- Its bytes. -/
def moduleBytes : List Nat := moduleWords.flatMap (le 4)

/-- A compute pipeline record for module 7. -/
def pipeRecord : List Nat := le 4 1 ++ (le 4 1 ++ (le 4 7 ++ le 244 0))

/-- A compute job that may be offloaded: its resource table is empty. -/
def offJob : Job :=
  { sampleJob with compute := true, st := .ready, phase := .running, portable := true, drawCount := 0, cores := [], members := 0, res := 196612 * 2 ^ 32 }

/-- A paired chip that offloads, with that job, its mirrored allocation and its shipped pipeline. -/
def offChip (x : Chip) : Chip :=
  let y := (x.set GL_MODE_PAIR 1).set HB_CTL_OFFLOAD_EN 1
  withJob { y with
    hb := { y.hb with map := [{ sampleEntry with mirror := true }] }
    gx := { y.gx with pipes := [⟨0, 0, true, 0, false, (7, 65535), 1, [], [], [], 0, false⟩] }
    bl := { y.bl with supervised := true, shipped := [List.replicate 32 0] } } offJob

/-- The descriptor of a compute job whose resource table is the allocation with index 1 and tag 3. -/
def compDesc : List Nat := le 24 0 ++ (le 8 (196612 * 2 ^ 32) ++ le 96 0)

/-- A paired chip that takes offloaded jobs, holding a copy of that allocation. -/
def offInChip (x : Chip) : Chip :=
  let y := withEntry (x.set GL_MODE_PAIR 1)
  { y with bl := { y.bl with
    supervised := true, copies := [⟨1, 3, 1⟩], applied := 1, cfg := [(BL_CFG_OFFLOAD_IN.key 0, 1)] } }

/-- Fence 4095 of F0. -/
def sampleFence (orphan : Bool) : Fence := ⟨4095, 0, orphan, false, 5, []⟩

/-- Head 15 running with 32 lines, served by forward composition. -/
def lineChip : Chip :=
  (((({} : Chip).set HDn_STAT_STATE 2 15).set HDn_VTIME0_VACTIVE 32 15).flag CP_HEADn_STAT_FWD true 15).flag CP_HEADn_STAT_STORE true 15

/-- A forward line that fits its line 31. -/
def lineSlot : LineSlot := (lineChip.keyOf 15 31 ((lineChip.head 15).frame false).scene, [])

/-- The hypotheses of each clause of EngineCommandsComplete are met. -/
theorem witness_EngineCommandsComplete :
    (∃ (s : State) (c : Call), s.chip.dispatchedCall opNop c = true ∧ s.chip.parked = false) ∧
    (∃ (s : State) (c : Call), s.chip.dispatchedCall opVersionQuery c = true ∧ s.chip.parked = false) ∧
    (∃ (s : State) (c : Call), s.chip.dispatchedCall opBarrier c = true ∧ s.chip.parked = false) ∧
    (∃ (s : State) (c : Call) (i : Nat), s.chip.dispatchedCall opFenceAlloc c = true ∧ s.chip.freeFence = some i ∧ s.chip.parked = false) ∧
    (∃ (s : State) (c : Call) (f : Fence), s.chip.dispatchedCall opFenceFree c = true ∧ s.chip.fence (c.w 0) = some f ∧ c.w 0 < 4096 ∧ s.chip.ownsFence c.fn f.id = true ∧ s.chip.skeinNamesFence f.id = false ∧ s.chip.parked = false) ∧
    (∃ (s : State) (c : Call), s.chip.dispatchedCall opFenceSignal c = true ∧ c.w 0 < 4096 ∧ s.chip.ownsFence c.fn (c.w 0) = true ∧ s.chip.parked = false) ∧
    (∃ (s : State) (c : Call) (f : Fence), s.chip.dispatchedCall opFenceShare c = true ∧ c.w 0 < 4096 ∧ s.chip.ownsFence c.fn (c.w 0) = true ∧ c.w 1 ≤ 64 ∧ s.chip.get FNf_STAT_STATE (c.w 1) ≠ 0 ∧ s.chip.fence (c.w 0) = some f ∧ c.w 1 ≠ c.fn.val ∧ f.grants.contains (c.w 1) = false ∧ s.chip.parked = false) :=
  ⟨⟨(wit opNop [] 0 id), (call [] 0), by decide +kernel⟩, ⟨(wit opVersionQuery [] 0 id), (call [] 0), by decide +kernel⟩, ⟨(wit opBarrier [] 0 id), (call [] 0), by decide +kernel⟩, ⟨(wit opFenceAlloc [] 0 id), (call [] 0), 0, by decide +kernel⟩, ⟨(wit opFenceFree [0] 0 (fun x => { x with ce := { x.ce with fences := [⟨0, 0, false, false, 5, []⟩] } })), (call [0] 0), ⟨0, 0, false, false, 5, []⟩, by decide +kernel⟩, ⟨(wit opFenceSignal [0, 7, 0] 0 (fun x => { x with ce := { x.ce with fences := [⟨0, 0, false, false, 5, []⟩] } })), (call [0, 7, 0] 0), by decide +kernel⟩, ⟨(wit opFenceShare [0, 64] 0 (fun x => ({ x with ce := { x.ce with fences := [⟨0, 0, false, false, 5, []⟩] } } : Chip).set FNf_STAT_STATE 2 64)), (call [0, 64] 0), ⟨0, 0, false, false, 5, []⟩, by decide +kernel⟩⟩

/-- The hypotheses of each clause of RingCommandsComplete are met. -/
theorem witness_RingCommandsComplete :
    (∃ (s : State) (fn : Fin 65) (k : Fin 4) (value : Word), s.chip.present fn = true ∧ value.toNat % 2 ^ 17 ≠ s.chip.get RINGk_TAIL_PTR (ringIx fn k) ∧ ptrTooLarge (s.chip.ringSize fn k) (value.toNat % 2 ^ 17) = false ∧ ptrDist (s.chip.ringSize fn k) (value.toNat % 2 ^ 17) (s.chip.get RINGk_HEAD_PTR (ringIx fn k)) ≤ s.chip.ringSize fn k ∧ ptrDist (s.chip.ringSize fn k) (s.chip.get RINGk_TAIL_PTR (ringIx fn k)) (s.chip.get RINGk_HEAD_PTR (ringIx fn k)) ≤ ptrDist (s.chip.ringSize fn k) (value.toNat % 2 ^ 17) (s.chip.get RINGk_HEAD_PTR (ringIx fn k)) ∧ (s.chip.set RINGk_TAIL_PTR (value.toNat % 2 ^ 17) (ringIx fn k)).ringUsed fn k < sparseGet s.chip.ce.need (ringIx fn k) 0 ∧ s.chip.parked = false) ∧
    (∃ (s : State) (fn : Fin 65) (value : Word), s.chip.present fn = true ∧ value.toNat % 2 ^ 17 ≠ s.chip.get RINGk_HEAD_PTR (ringIx fn 4) ∧ ptrTooLarge (s.chip.ringSize fn 4) (value.toNat % 2 ^ 17) = false ∧ ptrDist (s.chip.ringSize fn 4) (s.chip.get RINGk_TAIL_PTR (ringIx fn 4)) (value.toNat % 2 ^ 17) ≤ ptrDist (s.chip.ringSize fn 4) (s.chip.get RINGk_TAIL_PTR (ringIx fn 4)) (s.chip.get RINGk_HEAD_PTR (ringIx fn 4)) ∧ s.chip.parked = false) ∧
    (∃ (s : State) (fn : Fin 65) (k : Fin 5) (size : Fin 32) (wbEn : Bool), s.chip.present fn = true ∧ (s.chip.flag RINGk_CTL_WB_EN wbEn (ringIx fn k)).on RINGk_CTL_EN (ringIx fn k) = false ∧ 4 ≤ size.val ∧ size.val ≤ ringMaxLog k ∧ k.val ≠ 4 ∧ s.chip.parked = false) ∧
    (∃ (s : State) (fn : Fin 65) (_ : Fin 5), s.chip.present fn = true ∧ s.chip.parked = false) ∧
    (∃ (s : State) (p : Packet) (f : Fin 65) (k : Fin 4), s.chip.chooseRing = some (f.val, k.val) ∧ p.plen.toNat ≤ 1024 ∧ packetSlots p.plen.toNat ≤ s.chip.ringSize f k ∧ packetSlots p.plen.toNat ≤ s.chip.ringUsed f k ∧ (bitAt p.flags.toNat 3 = true → crcOf 0 (packetBytes p) = p.crc.toNat) ∧ s.chip.parked = false) ∧
    (∃ (s : State) (fn : Fin 65) (k : Fin 4) (i : Nat), (s.chip.ce.pkts.findIdx? fun p => p.call.fn = fn.val && (p.call.ring = k.val && (p.isWaiting && p.wait.isSome))) = some i ∧ s.chip.parked = false) ∧
    (∃ (s : State) (fn : Fin 65) (k : Fin 4) (i : Nat) (p : Pkt) (o : Op), (s.chip.ce.pkts.findIdx? fun p => p.call.fn = fn.val && (p.call.ring = k.val && (p.isDispatched && !execExempt p))) = some i ∧ s.chip.ce.pkts[i]? = some p ∧ opOf p.opcode = some o ∧ s.chip.parked = false) :=
  ⟨⟨{ chip := (({} : Chip).set FNf_STAT_STATE 2 0).onlyIf true fun x => { x with ce := { x.ce with need := [(0, 4)] } } }, 0, 0, 3, by decide +kernel⟩, ⟨{ chip := (({} : Chip).set FNf_STAT_STATE 2 0).set RINGk_TAIL_PTR 3 4 }, 0, 2, by decide +kernel⟩, ⟨{ chip := ({} : Chip).set FNf_STAT_STATE 2 0 }, 0, 1, 16, true, by decide +kernel⟩, ⟨{ chip := ({} : Chip).set FNf_STAT_STATE 2 0 }, 0, 1, by decide +kernel⟩, ⟨{ chip := ((((({} : Chip).set FNf_STAT_STATE 2 0).set RINGk_CTL_EN 1 1).set RINGk_CTL_EN 1 4).set RINGk_TAIL_PTR 1 1) }, ⟨0, 1, 0, 0, 0, 0, 0, []⟩, 0, 1, by decide +kernel⟩, ⟨{ chip := { ({} : Chip) with ce := { pkts := [⟨0, call [], some (0, 1), .waiting⟩] } } }, 0, 1, 0, by decide +kernel⟩, ⟨{ chip := { ({} : Chip) with ce := { pkts := [⟨opAlloc.code, call [], none, .dispatched⟩] } } }, 0, 1, 0, ⟨opAlloc.code, call [], none, .dispatched⟩, opAlloc, by decide +kernel⟩⟩

/-- The hypotheses of each clause of FunctionCommandsComplete are met. -/
theorem witness_FunctionCommandsComplete :
    (∃ (s : State) (c : Call), s.chip.dispatchedCall opFnEnable c = true ∧ c.words.length = 1 ∧ s.chip.fnNamed c 1 = true ∧ s.chip.parked = false) ∧
    (∃ (s : State) (c : Call), s.chip.dispatchedCall opFnDisable c = true ∧ c.words.length = 1 ∧ s.chip.fnNamed c 1 = true ∧ s.chip.get FNf_STAT_STATE (c.w 0) ≠ 1 ∧ s.chip.parked = false) ∧
    (∃ (s : State) (c : Call), s.chip.dispatchedCall opShareSet c = true ∧ c.words.length = 8 ∧ s.chip.fnNamed c 0 = true ∧ c.w 1 < 64 ∧ shareWrong (shareOf fun i => c.w (i + 2)) (c.w 1) = none ∧ s.chip.parked = false) ∧
    (∃ (s : State) (c : Call), s.chip.dispatchedCall opShareQuery c = true ∧ c.words.length = 1 ∧ c.w 0 ≤ 64 ∧ s.chip.parked = false) ∧
    (∃ (s : State) (c : Call), s.chip.dispatchedCall opFnQuery c = true ∧ c.words.length = 1 ∧ c.w 0 ≤ 64 ∧ s.chip.parked = false) ∧
    (∃ (s : State) (c : Call), s.chip.dispatchedCall opDefaultShareSet c = true ∧ c.words.length = 6 ∧ shareWrong (shareOf c.w) 63 = none ∧ s.chip.parked = false) ∧
    (∃ (s : State) (c : Call), s.chip.dispatchedCall opHoldTimeSet c = true ∧ c.words.length = 1 ∧ c.w 0 ≤ 500 ∧ s.chip.parked = false) ∧
    (∃ (s : State) (c : Call), s.chip.dispatchedCall opMemSizeSet c = true ∧ c.w 0 = 512 ∨ c.w 0 = 1024 ∨ c.w 0 = 2048 ∨ c.w 0 = 4096 ∧ s.chip.parked = false) :=
  ⟨⟨(wit opFnEnable [64] 0 (fun x => x.set FNf_STAT_STATE 1 64)), (call [64] 0), by decide +kernel⟩, ⟨(wit opFnDisable [64] 0 (fun x => x.set FNf_STAT_STATE 2 64)), (call [64] 0), by decide +kernel⟩, ⟨(wit opShareSet [64, 63, 255, 120000, 65536, 48800, 64, 4096] 0 (fun x => x.set FNf_STAT_STATE 2 64)), (call [64, 63, 255, 120000, 65536, 48800, 64, 4096] 0), by decide +kernel⟩, ⟨(wit opShareQuery [64] 0 id), (call [64] 0), by decide +kernel⟩, ⟨(wit opFnQuery [64] 0 id), (call [64] 0), by decide +kernel⟩, ⟨(wit opDefaultShareSet [255, 120000, 65536, 48800, 64, 4096] 0 id), (call [255, 120000, 65536, 48800, 64, 4096] 0), by decide +kernel⟩, ⟨(wit opHoldTimeSet [500] 0 id), (call [500] 0), by decide +kernel⟩, ⟨(wit opMemSizeSet [4096] 0 id), (call [4096] 0), by decide +kernel⟩⟩

/-- The hypotheses of each clause of FunctionEventsComplete are met. -/
theorem witness_FunctionEventsComplete :
    (∃ s : State, s.chip.parked = false) ∧
    (∃ s : State, s.chip.parked = false) ∧
    (∃ (s : State) (vf : Fin 64), s.chip.get FNf_STAT_STATE (vf.val + 1) ≠ 0 ∧ s.chip.parked = false) ∧
    (∃ s : State, s.chip.parked = false) ∧
    (∃ (s : State) (fn : Fin 65) (d : Drain), (s.chip.fn.drains.find? fun d => d.fn = fn.val) = some d ∧ s.chip.pieces fn = 0 ∧ s.chip.parked = false) ∧
    (∃ (s : State) (fn : Fin 65) (d : Drain), (s.chip.fn.drains.find? fun d => d.fn = fn.val) = some d ∧ d.slow = false ∧ s.chip.parked = false) ∧
    (∃ (s : State) (fn : Fin 65) (l : Layer), (s.chip.cp.layers.find? fun l => l.fn = fn.val && (!l.expired && s.chip.on CP_Ln_STAT_HELD l.unit)) = some l ∧ s.chip.parked = false) :=
  ⟨⟨{}, by decide +kernel⟩, ⟨{}, by decide +kernel⟩, ⟨{ chip := ({} : Chip).set FNf_STAT_STATE 2 64 }, 63, by decide +kernel⟩, ⟨{}, by decide +kernel⟩, ⟨{ chip := { ({} : Chip) with fn := { drains := [⟨3, 1, 0, 0, false⟩] } } }, 3, ⟨3, 1, 0, 0, false⟩, by decide +kernel⟩, ⟨{ chip := { ({} : Chip) with fn := { drains := [⟨3, 1, 0, 0, false⟩] } } }, 3, ⟨3, 1, 0, 0, false⟩, by decide +kernel⟩, ⟨{ chip := { ({} : Chip) with cp := { layers := [sampleLayer] } }.set CP_Ln_STAT_HELD 1 5 }, 3, sampleLayer, by decide +kernel⟩⟩

/-- The hypotheses of each clause of HerderCommandsComplete are met. -/
theorem witness_HerderCommandsComplete :
    (∃ (s : State) (c : Call) (i : Nat), s.chip.dispatchedCall opAlloc c = true ∧ c.world = false ∧ 0 < c.q 0 ∧ c.q 0 ≤ 17179869184 ∧ bits (c.w 2) 0 4 < 7 ∧ c.w 2 = bits (c.w 2) 0 4 + (if bitAt (c.w 2) 8 then 256 else 0) ∧ hintOk (c.w 3) = true ∧ s.chip.get FNf_MEM_USE_MIB c.fn + ceilDiv (c.q 0) 1048576 ≤ s.chip.get FNf_MEM_QUOTA_MIB c.fn ∧ ceilDiv (c.q 0) 65536 ≤ s.chip.roomUnits ∧ s.chip.entryRoom c.fn = true ∧ s.chip.freeIndex = some i ∧ s.chip.parked = false) ∧
    (∃ (s : State) (c : Call) (e : MapEntry), s.chip.dispatchedCall opFreeHandle c = true ∧ s.chip.ownHandle c 0 = some e ∧ s.chip.layerShows e.idx = false ∧ s.chip.changeNames e.idx = false ∧ s.chip.skeinBound e.idx = false ∧ (s.chip.abortMig e).entry e.idx = some e ∧ (s.chip.abortMig e).freeWaits e = false ∧ s.chip.parked = false) ∧
    (∃ (s : State) (c : Call) (e : MapEntry), s.chip.dispatchedCall opHandleQuery c = true ∧ s.chip.ownHandle c 0 = some e ∧ s.chip.parked = false) ∧
    (∃ (s : State) (c : Call) (e d : MapEntry), s.chip.dispatchedCall opPlaceHint c = true ∧ s.chip.ownHandle c 0 = some e ∧ hintOk (c.w 2) = true ∧ d = { e with pattern := bits (c.w 2) 0 3, latency := bitAt (c.w 2) 3 } ∧ hintOrder d d.pattern = d.order ∧ s.chip.parked = false) ∧
    (∃ (s : State) (c : Call) (e : MapEntry), s.chip.dispatchedCall opPlacePin c = true ∧ s.chip.ownHandle c 0 = some e ∧ e.pin < 255 ∧ 0 < e.pin ∧ e.kind ≠ 0 ∧ s.chip.entry e.idx = some e ∧ s.chip.parked = false) ∧
    (∃ (s : State) (c : Call) (e : MapEntry), s.chip.dispatchedCall opPlaceUnpin c = true ∧ s.chip.ownHandle c 0 = some e ∧ 0 < e.pin ∧ s.chip.parked = false) ∧
    (∃ (s : State) (c : Call), s.chip.dispatchedCall opCopyHandle c = true ∧ (s.chip.ownRange c.fn (c.q 0) (c.q 4) guestClasses).isNone = false ∧ (s.chip.ownRange c.fn (c.q 2) (c.q 4) guestClasses).isNone = false ∧ 0 < c.q 4 ∧ c.q 2 + c.q 4 ≤ c.q 0 ∨ c.q 0 + c.q 4 ≤ c.q 2 ∧ s.chip.inHold = false ∧ s.chip.parked = false) :=
  ⟨⟨(wit opAlloc [65536, 0, 0, 0] 0 (fun x => (x.set FNf_MEM_QUOTA_MIB 64 0).set HB_MEM_CFG_MIB 512)), (call [65536, 0, 0, 0] 0), 0, by decide +kernel⟩, ⟨(wit opFreeHandle [0, 196612] 0 withEntry), (call [0, 196612] 0), sampleEntry, by decide +kernel⟩, ⟨(wit opHandleQuery [0, 196612] 0 withEntry), (call [0, 196612] 0), sampleEntry, by decide +kernel⟩, ⟨(wit opPlaceHint [0, 196612, 0] 0 (fun x => withEntry x { sampleEntry with order := hintOrder sampleEntry 0 })), (call [0, 196612, 0] 0), { sampleEntry with order := hintOrder sampleEntry 0 }, { sampleEntry with order := hintOrder sampleEntry 0 }, by decide +kernel⟩, ⟨(wit opPlacePin [0, 196612] 0 (fun x => withEntry x (sampleEntry 0 0 1 0 254))), (call [0, 196612] 0), sampleEntry 0 0 1 0 254, by decide +kernel⟩, ⟨(wit opPlaceUnpin [0, 196612] 0 (fun x => withEntry x (sampleEntry 0 0 0 0 1))), (call [0, 196612] 0), sampleEntry 0 0 0 0 1, by decide +kernel⟩, ⟨(wit opCopyHandle [0, 196612, 4096, 196612, 4096, 0] 0 withEntry), (call [0, 196612, 4096, 196612, 4096, 0] 0), by decide +kernel⟩⟩

/-- The hypotheses of each clause of MemoryEventsComplete are met. -/
theorem witness_MemoryEventsComplete :
    (∃ (s : State) (q r : MemReq) (e : MapEntry), s.chip.inHold = false ∧ s.chip.attributed q = some r ∧ s.chip.staleReq r = false ∧ s.chip.walkFault r = none ∧ s.chip.entry (hIndex r.addr.toNat) = some e ∧ s.chip.parked = false) ∧
    (∃ (s : State) (i : Fin 8192) (e : MapEntry), s.chip.entry i = some e ∧ e.mig = 1 ∧ e.kind = 2 ∨ s.chip.migOk = true ∧ s.chip.parked = false) ∧
    (∃ (s : State) (i : Fin 8192) (e : MapEntry), s.chip.entry i = some e ∧ e.mig = 3 ∧ s.chip.parked = false) ∧
    (∃ (s : State) (ch : Fin 16) (_ hot : Bool) (_ : Fin 9), ch.val % 2 = 0 ∧ (s.chip.flag MCn_REFCFG_HOT_A hot (ch.val / 2)).on MCn_CHk_STAT_SR ch = true ∧ s.chip.parked = false) ∧
    (∃ s : State, s.chip.parked = false) ∧
    (∃ s : State, s.chip.parked = false) ∧
    (∃ (s : State) (ch : Fin 16) (ok : Bool), s.chip.get MCn_CHk_STAT_STATE ch = 2 ∧ ok = true ∧ s.chip.parked = false) :=
  ⟨⟨{ chip := withEntry {} }, ⟨0x30, 0, 0, false, 1, BitVec.ofNat 64 (1 <<< 34 + 3 <<< 48), 64, none, false, []⟩, ⟨0x30, 0, 0, false, 1, BitVec.ofNat 64 (1 <<< 34 + 3 <<< 48), 64, none, false, []⟩, sampleEntry, by decide +kernel⟩, ⟨{ chip := withEntry {} (sampleEntry 0 1) }, 1, sampleEntry 0 1, by decide +kernel⟩, ⟨{ chip := withEntry {} (sampleEntry 0 3) }, 1, sampleEntry 0 3, by decide +kernel⟩, ⟨{ chip := ({} : Chip).set MCn_CHk_STAT_SR 1 0 }, 0, true, true, 8, by decide +kernel⟩, ⟨{}, by decide +kernel⟩, ⟨{}, by decide +kernel⟩, ⟨{ chip := ({} : Chip).set MCn_CHk_STAT_STATE 2 15 }, 15, true, by decide +kernel⟩⟩

/-- The hypotheses of each clause of CheckValueCommandsComplete are met. -/
theorem witness_CheckValueCommandsComplete :
    (∃ (s : State) (c : Call) (u : Nat), s.chip.dispatchedCall opCvBind c = true ∧ c.world = false ∧ c.w 0 < 4096 ∧ bits (c.w 0) 8 2 = 0 ∧ tapMode (bits (c.w 0) 0 6) 0 = true ∧ tapAllowed c.who (bits (c.w 0) 0 6) 0 = true ∧ c.w 1 ≤ 64 ∧ c.fn = 0 ∨ c.w 1 = c.fn ∧ s.chip.get FNf_STAT_STATE (c.w 1) ≠ 0 ∧ tapIsStream (bits (c.w 0) 0 6) = false ∧ c.w 2 = 0 ∧ (if bits (c.w 0) 0 6 < 16 then bits (c.w 3) 0 16 < bits (c.w 4) 0 16 ∧ bits (c.w 3) 16 16 < bits (c.w 4) 16 16 ∧ bits (c.w 4) 0 16 ≤ s.chip.get HDn_HTIME0_HACTIVE (bits (c.w 0) 0 6) ∧ bits (c.w 4) 16 16 ≤ s.chip.get HDn_VTIME0_VACTIVE (bits (c.w 0) 0 6) else c.q 3 = 0) ∧ c.q 5 = 0 ∧ c.w 7 = 0 ∧ (List.range 24).find? (fun u => !s.chip.on CVn_CFG_BOUND u) = some u ∧ (s.chip.tapUnits (bits (c.w 0) 0 6)).length < 2 ∧ s.chip.parked = false) ∧
    (∃ (s : State) (c : Call) (u : Nat), s.chip.dispatchedCall opCvRead c = true ∧ u < 24 ∧ c.w 0 = u ∧ s.chip.cvNamed c.who u = true ∧ s.chip.parked = false) ∧
    (∃ (s : State) (c : Call) (u : Nat), s.chip.dispatchedCall opCvRead c = true ∧ u < 24 ∧ c.w 0 = u + 256 ∧ s.chip.cvNamed c.who u = true ∧ s.chip.parked = false) ∧
    (∃ (s : State) (c : Call), s.chip.dispatchedCall opCvWrite c = true ∧ s.chip.cvNamed c.who (c.w 0) = true ∧ s.chip.get CVn_CFG_MODE (c.w 0) = 0 ∧ c.w 1 < 2 ^ (s.chip.cvPoly (c.w 0)).width ∧ s.chip.parked = false) ∧
    (∃ (s : State) (c : Call), s.chip.dispatchedCall opCvRelease c = true ∧ s.chip.cvNamed c.who (c.w 0) = true ∧ s.chip.get CVn_CFG_MODE (c.w 0) = 0 ∧ s.chip.parked = false) ∧
    (∃ (s : State) (u : Fin 24) (_ : List PathErr), s.chip.get CVn_CFG_TAP u < 16 ∧ s.chip.scanning (s.chip.get CVn_CFG_TAP u) = true ∧ s.chip.on CVn_CFG_BOUND u = true ∧ (s.chip.cvUnit u).inReset = false ∧ (s.chip.cvUnit u).spoiled = false ∧ s.chip.parked = false) :=
  ⟨⟨(wit opCvBind [48, 0, 0, 0, 0, 0, 0, 0] 0 (fun x => x.set FNf_STAT_STATE 2 0)), (call [48, 0, 0, 0, 0, 0, 0, 0] 0), 0, by decide +kernel⟩, ⟨(wit opCvRead [23] 0 (fun x => x.set CVn_CFG_BOUND 1 23)), (call [23] 0), 23, by decide +kernel⟩, ⟨(wit opCvRead [279] 0 (fun x => x.set CVn_CFG_BOUND 1 23)), (call [279] 0), 23, by decide +kernel⟩, ⟨(wit opCvWrite [23, 65535] 0 (fun x => x.set CVn_CFG_BOUND 1 23)), (call [23, 65535] 0), by decide +kernel⟩, ⟨(wit opCvRelease [23] 0 (fun x => x.set CVn_CFG_BOUND 1 23)), (call [23] 0), by decide +kernel⟩, ⟨{ chip := ((({} : Chip).set CVn_CFG_BOUND 1 23).set CVn_CFG_TAP 15 23).set HDn_STAT_STATE 2 15 }, 23, [⟨0, 1⟩], by decide +kernel⟩⟩

/-- The hypotheses of each clause of TimeBaseCommandsComplete are met. -/
theorem witness_TimeBaseCommandsComplete :
    (∃ (s : State) (c : Call), s.chip.dispatchedCall opTimeQuery c = true ∧ s.chip.parked = false) ∧
    (∃ (s : State) (c : Call), s.chip.dispatchedCall opPpsModeSet c = true ∧ c.w 0 < 8 ∧ s.chip.parked = false) ∧
    (∃ (s : State) (c : Call), s.chip.dispatchedCall opTimeSet c = true ∧ s.chip.follow = false ∧ bitAt (c.w 2) 0 = true ∧ c.w 2 < 4 ∧ s.chip.parked = false) ∧
    (∃ (s : State) (r : RegRead), s.chip.present 0 = true ∧ (if r.core then 0 else r.fn.val) = 0 ∧ r.space = .bar0 ∧ r.size = 4 ∧ r.addr.toNat % 4 = 0 ∧ r.addr.toNat ≠ 0x240000 ∧ s.chip.pageOff r.addr.toNat = false ∧ (⟨r.core, r.world, 0, r.addr.toNat, 0⟩ : Writer).violates = false ∧ s.chip.parked = false) ∧
    (∃ (s : State) (r : RegRead), s.chip.present 0 = true ∧ (if r.core then 0 else r.fn.val) = 0 ∧ r.space = .bar0 ∧ r.size = 4 ∧ r.addr = 0x240000 ∧ s.chip.kennel = false ∧ s.chip.parked = false) ∧
    (∃ (s : State) (rising : Bool) (l : Nat), s.chip.get TB_PPS_CFG_MODE ≠ 0 ∧ rising ≠ s.chip.on TB_PPS_CFG_EDGE ∧ s.chip.tb.lastEdge = some l ∧ ((s.chip.up - l : Nat) : Int) < halfSec) ∧
    (∃ (s : State), s.chip.on TB_STAT_PPS_OK = true ∧ (((s.chip.flag TB_STAT_PPS_OK false).raise 482).follow) = true) ∧
    (∃ (s : State), s.chip.tb.stopped = false ∧ 0 < toS 32 (s.chip.get TB_TRIM_TPS)) :=
  ⟨⟨(wit opTimeQuery [] 0 id), (call [] 0), by decide +kernel⟩, ⟨(wit opPpsModeSet [7] 0 id), (call [7] 0), by decide +kernel⟩, ⟨(wit opTimeSet [4294967295, 0, 1] 0 id), (call [4294967295, 0, 1] 0), by decide +kernel⟩, ⟨{}, ⟨true, true, 5, .bar0, 0x270000, 4⟩, by decide +kernel⟩, ⟨{}, ⟨false, false, 0, .bar0, 0x240000, 4⟩, by decide +kernel⟩, ⟨{ chip := { ({} : Chip) with tb := { lastEdge := some 0 } }.set TB_PPS_CFG_MODE 1 }, true, 0, by decide +kernel⟩, ⟨{ chip := (({} : Chip).set TB_STAT_PPS_OK 1).set GL_MODE_PAIR 2 }, by decide +kernel⟩, ⟨{ chip := ({} : Chip).set TB_TRIM_TPS 245760 }, by decide +kernel⟩⟩

/-- The hypotheses of each clause of ComposerCommandsComplete are met. -/
theorem witness_ComposerCommandsComplete :
    (∃ (s : State) (c : Call), s.chip.dispatchedCall opLayerSet c = true ∧ s.chip.ownsUnit c.fn (c.w 0) = true ∧ s.chip.layerWrong c.fn ((List.range 11).map fun i => c.w (i + 1)) = none ∧ (s.chip.unitQueue (c.w 0)).length < 4 ∧ s.chip.fnFetch32 c.fn (c.w 0) + s.chip.unitRate32 (s.chip.get CP_Ln_OWNER_HEAD (c.w 0)) (lyBytes2 ((List.range 11).map fun i => c.w (i + 1))) ≤ s.chip.get FNf_FETCH_QUOTA_MBPS c.fn * 1000000 * 2 ^ 32 ∧ s.chip.missing (s.chip.get CP_Ln_OWNER_HEAD (c.w 0)) (c.w 0) (lyBytes2 ((List.range 11).map fun i => c.w (i + 1))) = 0 ∧ s.chip.parked = false) ∧
    (∃ (s : State) (c : Call), s.chip.dispatchedCall opLayerRemove c = true ∧ s.chip.ownsUnit c.fn (c.w 0) = true ∧ (s.chip.unitQueue (c.w 0)).length < 4 ∧ s.chip.parked = false) ∧
    (∃ (s : State) (c : Call), s.chip.dispatchedCall opFlip c = true ∧ s.chip.flipWrong c 0 = none ∧ s.chip.flipRoom (c.w 0) (c.w 3) = true ∧ s.chip.parked = false) ∧
    (∃ (s : State) (c : Call), s.chip.dispatchedCall opFlipGroup c = true ∧ 2 ≤ c.w 0 ∧ c.w 0 ≤ 8 ∧ (c.words.length != 1 + 6 * c.w 0) = false ∧ (!(((List.range (c.w 0)).map fun j => 1 + 6 * j).map c.w).Nodup || ((((((List.range (c.w 0)).map fun j => 1 + 6 * j).map c.w).filter fun u => s.chip.on CP_Ln_OWNER_BOUND u && decide (u < 96)).map fun u => s.chip.get CP_Ln_OWNER_HEAD u).any (fun h => h != (((((List.range (c.w 0)).map fun j => 1 + 6 * j).map c.w).filter fun u => s.chip.on CP_Ln_OWNER_BOUND u && decide (u < 96)).map fun u => s.chip.get CP_Ln_OWNER_HEAD u).headD 0) || ((((List.range (c.w 0)).map fun j => 1 + 6 * j).map c.w).any fun u => s.chip.ownsUnit c.fn u && s.chip.on CP_Ln_STAT_HELD u))) = false ∧ (((List.range (c.w 0)).map fun j => 1 + 6 * j).findSome? fun i => s.chip.flipWrong c i) = none ∧ (((List.range (c.w 0)).map fun j => 1 + 6 * j).any fun i => !s.chip.flipRoom (c.w i) (c.w (i + 3))) = false ∧ s.chip.parked = false) ∧
    (∃ (s : State) (c : Call), s.chip.dispatchedCall opFlipQuery c = true ∧ s.chip.ownsUnit c.fn (c.w 0) = true ∧ s.chip.parked = false) ∧
    (∃ (s : State) (c : Call), s.chip.dispatchedCall opToneMapSet c = true ∧ s.chip.toneWrong c = none ∧ s.chip.parked = false) ∧
    (∃ (s : State) (c : Call), s.chip.dispatchedCall opBackgroundSet c = true ∧ c.w 0 < 16 ∧ s.chip.parked = false) ∧
    (∃ (s : State) (c : Call) (u : Nat), s.chip.dispatchedCall opLayerAssign c = true ∧ (s.chip.headUnits (bits (c.w 0) 0 4))[bits (c.w 0) 4 3]? = some u ∧ c.w 0 < 128 ∧ s.chip.on HDn_STAT_RUN (bits (c.w 0) 0 4) = true ∧ s.chip.on CP_Ln_OWNER_WORLD u = false ∧ (s.chip.layer u).isSome = false ∧ (c.w 1 != 127 && (64 < c.w 1 || s.chip.get FNf_STAT_STATE (c.w 1) = 0)) = false ∧ s.chip.parked = false) :=
  ⟨⟨(wit opLayerSet [5, 0, 196612, 1, 256, 0, 0, 0, 0, 1048592, 0, 1048592] 0 (fun x => withEntry ({ x.set CP_Ln_OWNER_BOUND 1 5 with cp := { x.cp with assign := [(5, 0)] } }) (sampleEntry 3))), (call [5, 0, 196612, 1, 256, 0, 0, 0, 0, 1048592, 0, 1048592] 0), by decide +kernel⟩, ⟨(wit opLayerRemove [5] 0 (fun x => withEntry ({ x.set CP_Ln_OWNER_BOUND 1 5 with cp := { x.cp with assign := [(5, 0)] } }) (sampleEntry 3))), (call [5] 0), by decide +kernel⟩, ⟨(wit opFlip [5, 0, 196612, 65536, 0, 0] 0 (fun x => withEntry ({ x.set CP_Ln_OWNER_BOUND 1 5 with cp := { x.cp with assign := [(5, 0)], layers := [⟨5, 0, x.genOf 0, [0, 196612, 1, 256, 0, 0, 0, 0, 1048592, 0, 1048592], false, false⟩] } }) (sampleEntry 3))), (call [5, 0, 196612, 65536, 0, 0] 0), by decide +kernel⟩, ⟨(wit opFlipGroup [2, 5, 0, 196612, 65536, 0, 0, 6, 0, 196612, 65536, 0, 0] 0 (fun x => withEntry ({ (x.set CP_Ln_OWNER_BOUND 1 5).set CP_Ln_OWNER_BOUND 1 6 with cp := { x.cp with assign := [(5, 0), (6, 0)], layers := [⟨5, 0, x.genOf 0, [0, 196612, 1, 256, 0, 0, 0, 0, 1048592, 0, 1048592], false, false⟩, ⟨6, 0, x.genOf 0, [0, 196612, 1, 256, 0, 0, 0, 0, 1048592, 0, 1048592], false, false⟩] } }) (sampleEntry 3))), (call [2, 5, 0, 196612, 65536, 0, 0, 6, 0, 196612, 65536, 0, 0] 0), by decide +kernel⟩, ⟨(wit opFlipQuery [5] 0 (fun x => withEntry ({ x.set CP_Ln_OWNER_BOUND 1 5 with cp := { x.cp with assign := [(5, 0)] } }) (sampleEntry 3))), (call [5] 0), by decide +kernel⟩, ⟨(wit opToneMapSet [15, 3, 0, 0, 0, 0, 0, 0, 0, 0, 0, 0, 65535] 0 id), (call [15, 3, 0, 0, 0, 0, 0, 0, 0, 0, 0, 0, 65535] 0), by decide +kernel⟩, ⟨(wit opBackgroundSet [15, 1, 2] 0 id), (call [15, 1, 2] 0), by decide +kernel⟩, ⟨(wit opLayerAssign [0, 127] 0 (fun x => (x.set CP_Ln_OWNER_BOUND 1 5).set HDn_STAT_RUN 1 0)), (call [0, 127] 0), 5, by decide +kernel⟩⟩

/-- The hypotheses of each clause of CommitEventsComplete are met. -/
theorem witness_CommitEventsComplete :
    (∃ (s : State) (h : Fin 16), s.chip.on HDn_ARM_ARM h = false ∧ s.chip.parked = false) ∧
    (∃ (s : State) (h : Fin 16), s.chip.on HDn_SARM_ARM h = false ∧ s.chip.parked = false) ∧
    (∃ s : State, s.chip.parked = false) ∧
    (∃ (s : State) (h : Fin 16) (_ : LateArms), s.chip.scanning h = true ∧ s.chip.parked = false) :=
  ⟨⟨{}, 15, by decide +kernel⟩, ⟨{}, 15, by decide +kernel⟩, ⟨{}, by decide +kernel⟩, ⟨{ chip := ({} : Chip).set HDn_STAT_STATE 2 15 }, 15, ⟨false, false, []⟩, by decide +kernel⟩⟩

/-- The hypotheses of each clause of HeadCommandsComplete are met. -/
theorem witness_HeadCommandsComplete :
    (∃ (s : State) (c : Call), s.chip.dispatchedCall opStartHead c = true ∧ c.w 0 < 16 ∧ s.chip.startHeadRefusal (c.w 0) = none ∧ s.chip.parked = false) ∧
    (∃ (s : State) (c : Call), s.chip.dispatchedCall opStopHead c = true ∧ c.w 0 < 16 ∧ s.chip.get HDn_STAT_STATE (c.w 0) ≠ 0 ∧ s.chip.get HDn_STAT_STATE (c.w 0) ≠ 4 ∧ s.chip.parked = false) ∧
    (∃ (s : State) (c : Call), s.chip.dispatchedCall opStopHead c = true ∧ c.w 0 < 16 ∧ s.chip.get HDn_STAT_STATE (c.w 0) = 4 ∧ s.chip.parked = false) ∧
    (∃ (s : State) (c : Call) (q : Nat × Nat), s.chip.dispatchedCall opHeadQuery c = true ∧ c.w 0 < 16 ∧ s.chip.portOf (c.w 0) = some q ∧ s.chip.parked = false) ∧
    (∃ (s : State) (c : Call), s.chip.dispatchedCall opVrrPorchSet c = true ∧ c.w 0 < 16 ∧ s.chip.on HDn_STAT_RUN (c.w 0) = true ∧ s.chip.get HDn_VRR_VFP_MIN (c.w 0) ≤ c.w 1 ∧ c.w 1 ≤ s.chip.get HDn_VRR_VFP_MAX (c.w 0) ∧ s.chip.on HDn_ARM_ARM (c.w 0) = false ∧ s.chip.parked = false) ∧
    (∃ (s : State) (c : Call) (q : Nat × Nat), s.chip.dispatchedCall opSelfRefreshSet c = true ∧ c.w 0 < 16 ∧ s.chip.on HDn_STAT_RUN (c.w 0) = true ∧ s.chip.portOf (c.w 0) = some q ∧ s.chip.on DXn_STAT_RUN q.1 = true ∧ c.w 1 = 1 ∧ s.chip.srBarred (c.w 0) = false ∧ s.chip.srSupport q.1 = true ∧ s.chip.get HDn_STAT_SR (c.w 0) = 0 ∧ s.chip.parked = false) :=
  ⟨⟨(wit opStartHead [15] 0 (fun x => (((((((((((((((x.set HDn_PIXINC_INC 1 15).set HDn_HTIME0_HACTIVE 64 15).set HDn_HTIME0_HTOTAL 88 15).set HDn_HTIME1_HFP 8 15).set HDn_HTIME1_HSW 8 15).set HDn_VTIME0_VACTIVE 32 15).set HDn_VTIME0_VSW 1 15).set HDn_VTIME1_VBP 1 15).set HDn_VRR_VFP_MIN 1 15).set HDn_VRR_VFP_MAX 2 15).set HDn_VFP_NEXT 1 15).set HDn_COMMIT_LINE 0 15).set CP_HEADn_CFG_UNITS 2 15).set CP_HEADn_CFG_FETCH_DEPTH 4 15).set CP_POOL_FREE 96))), (call [15] 0), by decide +kernel⟩, ⟨(wit opStopHead [15] 0 (fun x => x.set HDn_STAT_STATE 2 15)), (call [15] 0), by decide +kernel⟩, ⟨(wit opStopHead [15] 0 (fun x => x.set HDn_STAT_STATE 4 15)), (call [15] 0), by decide +kernel⟩, ⟨(wit opHeadQuery [15] 0 (fun x => (((x.set DXn_MAP_VALID 1 36).set DXn_MAP_HEAD 15 36).set DXn_STAT_RUN 1 9))), (call [15] 0), (9, 0), by decide +kernel⟩, ⟨(wit opVrrPorchSet [15, 7] 0 (fun x => (x.set HDn_STAT_RUN 1 15).set HDn_VRR_VFP_MAX 7 15)), (call [15, 7] 0), by decide +kernel⟩, ⟨(wit opSelfRefreshSet [15, 1] 0 (fun x => (((((x.set DXn_MAP_VALID 1 36).set DXn_MAP_HEAD 15 36).set DXn_STAT_RUN 1 9).set DXn_CTL_TYPE 1 9).set HDn_STAT_RUN 1 15).setPort 9 fun p => { p with srSink := true })), (call [15, 1] 0), (9, 0), by decide +kernel⟩⟩

/-- The hypotheses of each clause of HeadEventsComplete are met. -/
theorem witness_HeadEventsComplete :
    (∃ (s : State) (h : Fin 16), s.chip.scanning h = true ∧ s.chip.parked = false) ∧
    (∃ (s : State) (h : Fin 16), s.chip.get HDn_STAT_STATE h = 3 ∧ s.chip.parked = false) ∧
    (∃ (s : State) (h : Fin 16), s.chip.get HDn_STAT_STATE h = 2 ∧ (s.chip.head h).suspend = true ∧ s.chip.parked = false) ∧
    (∃ (s : State) (h : Fin 16) (n : Fin 4320) (_ : Bool) (c : LineSlot), s.chip.scanning h = true ∧ n.val < s.chip.get HDn_VTIME0_VACTIVE h ∧ s.chip.sends h n (s.chip.ahead h n) = true ∧ s.chip.forwards h = true ∧ (s.chip.slots h n).cur = some c ∧ c.1 = s.chip.keyOf h n ((s.chip.head h).frame (s.chip.ahead h n)).scene ∧ s.chip.parked = false) ∧
    (∃ (s : State) (h : Fin 16) (n : Fin 4320), s.chip.scanning h = true ∧ n.val < s.chip.get HDn_VTIME0_VACTIVE h ∧ s.chip.sends h n (s.chip.ahead h n) = true ∧ s.chip.forwards h = false ∧ s.chip.parked = false) ∧
    (∃ (s : State) (h : Fin 16) (n : Fin 4320), s.chip.scanning h = true ∧ n.val < s.chip.get HDn_VTIME0_VACTIVE h ∧ s.chip.sends h n (s.chip.ahead h n) = true ∧ s.chip.forwards h = false ∧ s.chip.parked = false) ∧
    (∃ (s : State) (h : Fin 16) (n : Fin 4320) (_ : Fin 7680), s.chip.scanning h = true ∧ n.val < s.chip.get HDn_VTIME0_VACTIVE h ∧ s.chip.parked = false) ∧
    (∃ (s : State) (h : Fin 16) (k : Fin 4) (_ : List PathErr), s.chip.scanning h = true ∧ s.chip.windowLive h k = true ∧ (s.chip.head h).noCompareNow = false ∧ bitAt ((s.chip.head h).windows.getD 13 0) k = true ∧ (s.chip.head h).cmpLeft ≠ 1 ∧ s.chip.parked = false) :=
  ⟨⟨{ chip := ({} : Chip).set HDn_STAT_STATE 1 15 }, 15, by decide +kernel⟩, ⟨{ chip := ({} : Chip).set HDn_STAT_STATE 3 15 }, 15, by decide +kernel⟩, ⟨{ chip := (({} : Chip).set HDn_STAT_STATE 2 15).setHead 15 fun q => { q with suspend := true } }, 15, by decide +kernel⟩, ⟨{ chip := lineChip.setSlots { lineChip.slots 15 31 with cur := some lineSlot } }, 15, 31, true, lineSlot, by decide +kernel⟩, ⟨{ chip := (({} : Chip).set HDn_STAT_STATE 2 15).set HDn_VTIME0_VACTIVE 32 15 }, 15, 31, by decide +kernel⟩, ⟨{ chip := (({} : Chip).set HDn_STAT_STATE 2 15).set HDn_VTIME0_VACTIVE 32 15 }, 15, 31, by decide +kernel⟩, ⟨{ chip := (({} : Chip).set HDn_STAT_STATE 2 15).set HDn_VTIME0_VACTIVE 32 15 }, 15, 31, 7, by decide +kernel⟩, ⟨{ chip := (((({} : Chip).set HDn_STAT_STATE 2 15).set HDn_HTIME0_HACTIVE 64 15).set HDn_VTIME0_VACTIVE 32 15).setHead 15 fun q => { q with windows := [0, 0, 0, 0, 0, 0, 0, 0, 0, 0, 65537, 0, 8, 8] } }, 15, 3, [⟨0, 1⟩], by decide +kernel⟩⟩

/-- The hypotheses of each clause of PortCommandsComplete are met. -/
theorem witness_PortCommandsComplete :
    (∃ (s : State) (c : Call), s.chip.dispatchedCall opStartPort c = true ∧ c.w 0 < 10 ∧ s.chip.on DXn_STAT_RUN (c.w 0) = false ∧ s.chip.heldBlock 4 (c.w 0) = false ∧ s.chip.portRefusal (c.w 0) = none ∧ s.chip.parked = false) ∧
    (∃ (s : State) (c : Call), s.chip.dispatchedCall opStopPort c = true ∧ c.w 0 < 10 ∧ s.chip.on DXn_STAT_RUN (c.w 0) = true ∧ s.chip.parked = false) ∧
    (∃ (s : State) (c : Call), s.chip.dispatchedCall opPortQuery c = true ∧ c.w 0 < 10 ∧ s.chip.get DXn_CTL_TYPE (c.w 0) ≠ 4 ∧ s.chip.parked = false) ∧
    (∃ (s : State) (p : Fin 10), s.chip.on DXn_STAT_RUN p = true ∧ s.chip.on DXn_STAT_LINK_UP p = true ∧ s.chip.parked = false) ∧
    (∃ (s : State) (p : Fin 10), s.chip.on DXn_STAT_RUN p = true ∧ s.chip.isDp p = true ∧ s.chip.on DXn_STAT_HPD p = true ∧ s.chip.on DXn_STAT_LINK_UP p = false ∧ (s.chip.port p).training = false ∧ (s.chip.port p).off = false ∧ s.chip.parked = false) ∧
    (∃ (s : State) (p : Fin 10), s.chip.isDp p = true ∧ s.chip.on DXn_STAT_HPD p = true ∧ s.chip.parked = false) ∧
    (∃ (s : State) (p : Fin 10) (lanes : Fin 8) (rate : Fin 16) (_ : Bool), s.chip.on DXn_STAT_RUN p = true ∧ (s.chip.port p).training = true ∧ s.chip.carries p lanes rate (s.chip.mapped p) = true ∧ s.chip.parked = false) :=
  ⟨⟨(wit opStartPort [9] 0 (fun x => (x.set DXn_CTL_TYPE 4 9).set DXn_CTL_LANES 1 9)), (call [9] 0), by decide +kernel⟩, ⟨(wit opStopPort [9] 0 (fun x => x.set DXn_STAT_RUN 1 9)), (call [9] 0), by decide +kernel⟩, ⟨(wit opPortQuery [9] 0 (fun x => x.set DXn_CTL_TYPE 2 9)), (call [9] 0), by decide +kernel⟩, ⟨{ chip := (({} : Chip).set DXn_STAT_RUN 1 9).set DXn_STAT_LINK_UP 1 9 }, 9, by decide +kernel⟩, ⟨{ chip := (({} : Chip).set DXn_STAT_RUN 1 0).set DXn_STAT_HPD 1 0 }, 0, by decide +kernel⟩, ⟨{ chip := (({} : Chip).set DXn_STAT_RUN 1 0).set DXn_STAT_HPD 1 0 }, 0, by decide +kernel⟩, ⟨{ chip := (({} : Chip).set DXn_STAT_RUN 1 0).setPort 0 fun q => { q with training := true } }, 0, 4, 3, true, by decide +kernel⟩⟩

/-- The hypotheses of each clause of TouchCommandsComplete are met. -/
theorem witness_TouchCommandsComplete :
    (∃ (s : State) (c : Call), s.chip.dispatchedCall opStartTouch c = true ∧ c.w 0 < 16 ∧ s.chip.on TPn_STAT_RUN (c.w 0) = false ∧ s.chip.heldBlock 5 (c.w 0) = false ∧ s.chip.touchWrong (c.w 0) = none ∧ s.chip.get TPn_CFG_BUS (c.w 0) ≠ 1 ∧ s.chip.parked = false) ∧
    (∃ (s : State) (c : Call), s.chip.dispatchedCall opStopTouch c = true ∧ c.w 0 < 16 ∧ s.chip.tpState (c.w 0) = tpReading ∧ s.chip.parked = false) ∧
    (∃ (s : State) (c : Call), s.chip.dispatchedCall opStopTouch c = true ∧ c.w 0 < 16 ∧ s.chip.tpState (c.w 0) ≠ tpReading ∧ s.chip.tpState (c.w 0) ≠ tpStopped ∧ s.chip.parked = false) ∧
    (∃ (s : State) (n : Fin 16), s.chip.tpState n = tpWaiting ∧ s.chip.noWork 5 n = false ∧ s.chip.parked = false) ∧
    (∃ (s : State) (n : Fin 16) (_ : List Byte), s.chip.tpState n = tpReading ∧ s.chip.parked = false) ∧
    (∃ (s : State) (n : Fin 16), s.chip.tpState n = tpReading ∧ (s.chip.tp n).fails < 2 ∧ s.chip.parked = false) ∧
    (∃ (s : State) (n : Fin 16), s.chip.tpState n = tpReading ∧ 2 ≤ (s.chip.tp n).fails ∧ s.chip.parked = false) ∧
    (∃ (s : State) (n : Fin 16), s.chip.tpState n = tpReading ∧ (s.chip.tp n).fails < 2 ∧ s.chip.parked = false) ∧
    (∃ (s : State) (n : Fin 16), s.chip.tpState n = tpReading ∧ 2 ≤ (s.chip.tp n).fails ∧ s.chip.parked = false) ∧
    (∃ (s : State) (n : Fin 16), s.chip.tpState n = tpRetrying ∧ s.chip.parked = false) ∧
    (∃ (s : State) (c : Call), s.chip.dispatchedCall opHitRegionWrite c = true ∧ ((c.words.length - 1) / 4 != bits (c.w 0) 8 8) = false ∧ s.chip.hitWrong c = none ∧ s.chip.on HDn_STAT_RUN (bits (c.w 0) 0 4) = false ∧ bits (c.w 0) 8 8 ≠ 0 ∧ (s.chip.newRecs c.who (bits (c.w 0) 0 4) ((List.range (bits (c.w 0) 8 8)).map (hitWords c)))[if c.world then 256 - ((s.chip.th.hits.filter fun e => e.func = c.who).length + (s.chip.pendingHits.filter fun k => k.1 = c.who).length) else min (1024 - ((s.chip.th.hits.filter fun e => e.func = c.who).length + (s.chip.pendingHits.filter fun k => k.1 = c.who).length)) (3840 - ((s.chip.th.hits.filter fun e => !e.world).length + s.chip.pendingHits.length))]? = none ∧ s.chip.parked = false) ∧
    (∃ (s : State) (c : Call), s.chip.dispatchedCall opHitRegionClear c = true ∧ c.w 0 < 16 ∧ c.w 1 < 65535 ∧ s.chip.on HDn_STAT_RUN (c.w 0) = false ∧ s.chip.parked = false) :=
  ⟨⟨(wit opStartTouch [15] 0 (fun x => ((x.set TPn_CFG_POLL 1 15).set TPn_TPL2_MAX_REC 1 15).set TPn_TPL4_X 0 15)), (call [15] 0), by decide +kernel⟩, ⟨(wit opStopTouch [15] 0 (fun x => x.set TPn_STAT_STATE tpReading 15)), (call [15] 0), by decide +kernel⟩, ⟨(wit opStopTouch [15] 0 (fun x => x.set TPn_STAT_STATE tpWaiting 15)), (call [15] 0), by decide +kernel⟩, ⟨{ chip := ({} : Chip).set TPn_STAT_STATE tpWaiting 15 }, 15, by decide +kernel⟩, ⟨{ chip := ({} : Chip).set TPn_STAT_STATE tpReading 15 }, 15, [1, 2], by decide +kernel⟩, ⟨{ chip := ({} : Chip).set TPn_STAT_STATE tpReading 15 }, 15, by decide +kernel⟩, ⟨{ chip := (({} : Chip).set TPn_STAT_STATE tpReading 15).setTp 15 fun q => { q with fails := 2 } }, 15, by decide +kernel⟩, ⟨{ chip := ({} : Chip).set TPn_STAT_STATE tpReading 15 }, 15, by decide +kernel⟩, ⟨{ chip := (({} : Chip).set TPn_STAT_STATE tpReading 15).setTp 15 fun q => { q with fails := 2 } }, 15, by decide +kernel⟩, ⟨{ chip := ({} : Chip).set TPn_STAT_STATE tpRetrying 15 }, 15, by decide +kernel⟩, ⟨(wit opHitRegionWrite [271, 5, 0, 655370, 0] 0 id), (call [271, 5, 0, 655370, 0] 0), by decide +kernel⟩, ⟨(wit opHitRegionClear [15, 5] 0 id), (call [15, 5] 0), by decide +kernel⟩⟩

/-- The hypotheses of each clause of HapticCommandsComplete are met. -/
theorem witness_HapticCommandsComplete :
    (∃ (s : State) (c : Call), s.chip.dispatchedCall opHapticPlay c = true ∧ c.world = false ∧ (c.fn != 0 && s.chip.get HPn_OWNER_FUNC (bits (c.w 0) 0 4) != c.fn) = false ∧ s.chip.playable (bits (c.w 0) 0 4) (bits (c.w 0) 8 8) = true ∧ c.w 1 ≤ 255 ∧ s.chip.noWork 6 (bits (c.w 0) 0 4) = false ∧ s.chip.parking = false ∧ s.chip.hpPhase (bits (c.w 0) 0 4) = hpIdle ∧ s.chip.parked = false) ∧
    (∃ (s : State) (c : Call), s.chip.dispatchedCall opHapticWaveLoad c = true ∧ s.chip.wavePlays (bits (c.w 0) 0 8) = false ∧ bits (c.w 0) 8 2 = 2 ∧ bits (c.w 0) 10 3 ≤ 2 ∧ bits (c.w 0) 20 4 ≤ 8 ∧ (s.chip.ownRange c.fn (c.q 1) (2 * c.w 3) guestClasses).isNone = false ∧ 0 < c.w 3 ∧ ((s.chip.hp.waves.filter fun p => p.1 != (bits (c.w 0) 0 8)).map fun p => p.2.length).sum + c.w 3 ≤ 131072 ∧ s.chip.parked = false) ∧
    (∃ (s : State) (c : Call) (n : Nat), s.chip.dispatchedCall opHapticCalibrate c = true ∧ c.w 0 < 65536 ∧ ((List.range 16).filter fun n => bitAt (c.w 0) n) = [n] ∧ (s.chip.hpPhase n = hpIdle || s.chip.hpPhase n = hpFault) = true ∧ s.chip.noWork 6 n = false ∧ s.chip.parked = false) ∧
    (∃ (s : State) (c : Call), s.chip.dispatchedCall opHapticLimitSet c = true ∧ c.w 0 < 65536 ∧ 60 ≤ bits (c.w 2) 0 9 ∧ bits (c.w 2) 16 9 ≤ 400 ∧ bits (c.w 2) 0 9 < bits (c.w 2) 16 9 ∧ 24 ≤ bits (c.w 3) 0 7 ∧ bits (c.w 3) 0 7 ≤ 96 ∧ s.chip.parked = false) ∧
    (∃ (s : State) (_ : Fin 16) (v : Word), bitAt v.toNat 16 = true ∧ s.chip.parked = false) :=
  ⟨⟨(wit opHapticPlay [67343, 255] 0 (fun x => ({ x with hp := { x.hp with waves := [(7, [1, 2])] } }).set HP_WAVEw_MODE 2 7)), (call [67343, 255] 0), by decide +kernel⟩, ⟨(wit opHapticWaveLoad [1024 + 512 + 7, 0, 196612, 2] 0 withEntry), (call [1024 + 512 + 7, 0, 196612, 2] 0), by decide +kernel⟩, ⟨(wit opHapticCalibrate [32768] 0 id), (call [32768] 0), 15, by decide +kernel⟩, ⟨(wit opHapticLimitSet [65535, 1, 26214460, 96] 0 id), (call [65535, 1, 26214460, 96] 0), by decide +kernel⟩, ⟨{}, 15, 131071, by decide +kernel⟩⟩

/-- The hypotheses of each clause of HapticEventsComplete are met. -/
theorem witness_HapticEventsComplete :
    (∃ (s : State) (n : Fin 16), (s.chip.hpCh n).armed = true ∧ s.chip.parked = false) ∧
    (∃ (s : State) (n : Fin 16) (e : Nat), (s.chip.hpCh n).toBrake = some e ∧ s.chip.hpPhase n = hpAttack ∧ (s.chip.hpCh n).armed = false ∧ s.chip.parked = false) ∧
    (∃ (s : State) (n : Fin 16), s.chip.hpPhase n = hpAttack ∧ (s.chip.hpCh n).armed = false ∧ s.chip.parked = false) ∧
    (∃ (s : State) (n : Fin 16), s.chip.hpPhase n = hpSustain ∧ s.chip.parked = false) ∧
    (∃ (s : State) (n : Fin 16), s.chip.hpPhase n = hpBrake ∧ s.chip.parked = false) ∧
    (∃ (s : State) (n : Fin 16) (p : BitVec 12), (s.chip.hpCh n).window = true ∧ p.toNat < s.chip.get HPn_LIMIT_OPEN_THR n * 4 ∧ s.chip.parked = false) ∧
    (∃ (s : State) (n : Fin 16) (p : BitVec 12), (s.chip.hpCh n).window = true ∧ s.chip.get HPn_LIMIT_OPEN_THR n * 4 ≤ p.toNat ∧ s.chip.parked = false) ∧
    (∃ (s : State) (n : Fin 16) (g : Gap) (t : Trig), (s.chip.hpCh n).cur = some t ∧ s.chip.hpPhase n = hpSustain ∧ s.chip.on HPn_CFG_TYPE n = false ∧ (s.chip.hpCh n).first = true ∧ g.emf.toNat * 10 * s.chip.get HPn_LIMIT_AMP_MAX n < s.chip.get HPn_F0_BEMF_REF n * g.drive.toNat ∧ s.chip.parked = false) ∧
    (∃ (s : State) (n : Fin 16) (g : Gap) (t : Trig), (s.chip.hpCh n).cur = some t ∧ s.chip.hpPhase n = hpBrake ∧ s.chip.waveMode t.wave = 1 ∧ g.emf.toNat * 20 < s.chip.get HPn_F0_BEMF_REF n ∧ s.chip.parked = false) ∧
    (∃ (s : State) (n : Fin 16) (m : RingDown), s.chip.hpPhase n = hpCalib ∧ m.peak.toNat < s.chip.get HPn_LIMIT_OPEN_THR n * 4 ∧ s.chip.parked = false) ∧
    (∃ (s : State) (n : Fin 16) (m : RingDown), s.chip.hpPhase n = hpCalib ∧ s.chip.get HPn_LIMIT_OPEN_THR n * 4 ≤ m.peak.toNat ∧ s.chip.on HPn_CFG_TYPE n = false ∧ 4 ≤ m.crossings ∧ s.chip.get HPn_FBAND_FMIN n * 10 ≤ m.freq ∧ m.freq ≤ s.chip.get HPn_FBAND_FMAX n * 10 ∧ s.chip.parked = false) :=
  ⟨⟨{ chip := (({} : Chip).set HPn_STAT_PHASE hpAttack 15).setHp 15 fun q => { q with armed := true } }, 15, by decide +kernel⟩, ⟨{ chip := (({} : Chip).set HPn_STAT_PHASE hpAttack 15).setHp 15 fun q => { q with toBrake := some 1 } }, 15, 1, by decide +kernel⟩, ⟨{ chip := (({} : Chip).set HPn_STAT_PHASE hpAttack 15) }, 15, by decide +kernel⟩, ⟨{ chip := (({} : Chip).set HPn_STAT_PHASE hpSustain 15) }, 15, by decide +kernel⟩, ⟨{ chip := (({} : Chip).set HPn_STAT_PHASE hpBrake 15) }, 15, by decide +kernel⟩, ⟨{ chip := (({} : Chip).set HPn_LIMIT_OPEN_THR 2 15).setHp 15 fun q => { q with window := true } }, 15, 7, by decide +kernel⟩, ⟨{ chip := (({} : Chip).set HPn_LIMIT_OPEN_THR 2 15).setHp 15 fun q => { q with window := true } }, 15, 8, by decide +kernel⟩, ⟨{ chip := ((({} : Chip).set HPn_STAT_PHASE hpSustain 15).set HPn_F0_BEMF_REF 9 15).setHp 15 (fun (q : HpSt) => { q with cur := some ⟨7, 255, 0, 1, false⟩, first := true }) }, 15, ⟨none, 0, 5⟩, ⟨7, 255, 0, 1, false⟩, by decide +kernel⟩, ⟨{ chip := (((({} : Chip).set HPn_STAT_PHASE hpBrake 15).set HPn_F0_BEMF_REF 9 15).set HP_WAVEw_MODE 1 7).setHp 15 (fun (q : HpSt) => { q with cur := some ⟨7, 255, 0, 1, false⟩, first := true }) }, 15, ⟨none, 0, 5⟩, ⟨7, 255, 0, 1, false⟩, by decide +kernel⟩, ⟨{ chip := ((({} : Chip).set HPn_STAT_PHASE hpCalib 15).set HPn_LIMIT_OPEN_THR 2 15) }, 15, ⟨7, 0, 0, 0⟩, by decide +kernel⟩, ⟨{ chip := (((({} : Chip).set HPn_STAT_PHASE hpCalib 15).set HPn_LIMIT_OPEN_THR 2 15).set HPn_FBAND_FMAX 300 15).set HPn_FBAND_FMIN 60 15 }, 15, ⟨8, 4, 2000, 7⟩, by decide +kernel⟩⟩

/-- The hypotheses of each clause of AudioCommandsComplete are met. -/
theorem witness_AudioCommandsComplete :
    (∃ (s : State) (c : Call), s.chip.dispatchedCall opStartAudio c = true ∧ c.w 0 < 3 ∧ s.chip.on AU_DOMx_STAT_RUN (c.w 0) = false ∧ s.chip.heldSub 2 = false ∧ s.chip.rs.bypass = false ∧ s.chip.domRefusal (c.w 0) = none ∧ s.chip.parked = false) ∧
    (∃ (s : State) (c : Call), s.chip.dispatchedCall opStopAudio c = true ∧ c.w 0 < 3 ∧ s.chip.on AU_DOMx_STAT_RUN (c.w 0) = true ∧ s.chip.parked = false) ∧
    (∃ (s : State) (c : Call) (g : AGraph), s.chip.dispatchedCall opAudioGraphLoad c = true ∧ c.w 0 < 3 ∧ (s.chip.ownRange c.fn (c.q 1) (c.w 3) (List.range 16)).isNone = false ∧ 16 ≤ c.w 3 ∧ (c.w 3 != 16 + 8 * (leNat (((readBytes s.mem s.chip (c.q 1) (c.w 3)).drop 4).take 2) + leNat (((readBytes s.mem s.chip (c.q 1) (c.w 3)).drop 6).take 2))) = false ∧ (s.chip.adom (c.w 0)).route = 0 ∧ (s.chip.readGraph (c.w 0) (readBytes s.mem s.chip (c.q 1) (c.w 3))).toOption = some g ∧ s.chip.on AU_DOMx_STAT_RUN (c.w 0) = false ∧ g.slots ≤ s.chip.get AU_STORE_FREE + s.chip.progSlots (c.w 0) ∧ s.chip.parked = false) ∧
    (∃ (s : State) (c : Call) (e : AStream) (p : Nat × Nat), s.chip.dispatchedCall opAudioGainSet c = true ∧ (bits (c.w 0) 1 7 != 0 || (bits (c.w 0) 10 6 != 0 || bits (c.w 0) 22 10 != 0)) = false ∧ bitAt (c.w 0) 0 = false ∧ s.chip.stream (bits (c.w 0) 16 6) = some e ∧ (s.chip.get AU_EPe_OWNER_FUNC (bits (c.w 0) 16 6) != c.fn || (e.fn != c.fn || e.gen != s.chip.genOf c.fn)) = false ∧ c.w 2 < 65536 ∧ gainOk (c.w 2) = true ∧ s.chip.epNamed (bits (c.w 0) 16 6) = some p ∧ s.chip.parked = false) ∧
    (∃ (s : State) (c : Call), s.chip.dispatchedCall opAudioStreamOpen c = true ∧ bits (c.w 0) 6 2 = 0 ∧ bitAt (c.w 0) 14 = false ∧ bits (c.w 0) 15 1 = 0 ∧ bits (c.w 0) 24 8 = 0 ∧ bits (c.w 0) 12 2 ≠ 3 ∧ s.chip.get AU_EPe_OWNER_FUNC (bits (c.w 0) 0 6) = c.fn ∧ (s.chip.stream (bits (c.w 0) 0 6)).isSome = false ∧ s.chip.epNamed (bits (c.w 0) 0 6) = none ∧ (s.chip.ownRange c.fn (c.q 1) (streamBytes (clampN (c.w 3) 2 10) (bits (c.w 0) 9 3) (bits (c.w 0) 12 2)) [6]).isNone = false ∧ hOffset (c.q 1) = 0 ∧ 2 ≤ c.w 3 ∧ c.w 3 ≤ 10 ∧ c.w 4 < 65536 ∧ gainOk (c.w 4) = true ∧ s.chip.get FNf_AUDIO_USE c.fn < s.chip.get FNf_AUDIO_QUOTA c.fn ∧ s.chip.parked = false) ∧
    (∃ (s : State) (c : Call) (e : AStream), s.chip.dispatchedCall opAudioStreamClose c = true ∧ c.w 0 < 64 ∧ s.chip.stream (c.w 0) = some e ∧ (e.fn != c.fn || (e.gen != s.chip.genOf c.fn || s.chip.on AU_EPe_STAT_SKEIN e.ep)) = false ∧ s.chip.on AU_EPe_STAT_CLOSING e.ep = false ∧ s.chip.parked = false) ∧
    (∃ (s : State) (c : Call) (d : Nat), s.chip.dispatchedCall opTonePlay c = true ∧ s.chip.genDom 7 (bits (c.w 0) 0 4) = some d ∧ (s.chip.get AU_TONEg_OWNER_FUNC (bits (c.w 0) 0 4) != c.fn && c.fn != 0) = false ∧ bitAt (c.w 5) 31 = false ∧ toneWrong c (s.chip.get AU_DOMx_RATE_HZ d) = none ∧ s.chip.get AU_TONEg_STAT_PHASE (bits (c.w 0) 0 4) = 0 ∧ s.chip.parked = false) ∧
    (∃ (s : State) (c : Call) (d : Nat), s.chip.dispatchedCall opBeepPlay c = true ∧ s.chip.genDom 8 (bits (c.w 0) 0 3) = some d ∧ (s.chip.get AU_BEEPb_OWNER_FUNC (bits (c.w 0) 0 3) != c.fn && c.fn != 0) = false ∧ 100 ≤ c.w 1 ∧ 20 * c.w 1 ≤ 9 * s.chip.get AU_DOMx_RATE_HZ d ∧ 5 ≤ bits (c.w 2) 0 16 ∧ bits (c.w 2) 0 16 ≤ 2000 ∧ bits (c.w 2) 16 8 ≠ 0 ∧ (s.chip.au.beeps.getD (bits (c.w 0) 0 3) {}).cur = none ∧ s.chip.parked = false) :=
  ⟨⟨(wit opStartAudio [1] 0 (fun x => (x.setAdom 1 fun q => { q with graph := some ⟨[], []⟩ }).set AU_DOMx_RATE_HZ 16000 1)), (call [1] 0), by decide +kernel⟩, ⟨(wit opStopAudio [1] 0 (fun x => x.set AU_DOMx_STAT_RUN 1 1)), (call [1] 0), by decide +kernel⟩, ⟨{ (wit opAudioGraphLoad [1, 0, 196612, 24] 0 withEntry) with mem := writeCells [] (storeBytes (wit opAudioGraphLoad [1, 0, 196612, 24] 0 withEntry).chip (196612 * 2 ^ 32) [1, 0, 0, 0, 1, 0, 0, 0, 0, 0, 0, 0, 0, 0, 0, 0, 1, 0, 7, 0, 0, 0, 0, 0]) }, (call [1, 0, 196612, 24] 0), ⟨[⟨1, 7, 0⟩], []⟩, by decide +kernel⟩, ⟨(wit opAudioGainSet [4128768, 0, 2400] 0 (fun x => (({ x with au := { x.au with streams := [⟨63, 0, x.genOf 0, 0, 2, 0, 0, 0, 0, false, [], {}, [], false⟩] } }).setAdom 1 fun q => { q with graph := some ⟨[⟨1, 4, 63⟩], []⟩ }))), (call [4128768, 0, 2400] 0), ⟨63, 0, 0, 0, 2, 0, 0, 0, 0, false, [], {}, [], false⟩, (1, 1), by decide +kernel⟩, ⟨(wit opAudioStreamOpen [319, 0, 196612, 2, 2400] 0 (fun x => withEntry (x.set FNf_AUDIO_QUOTA 1 0) (sampleEntry 6))), (call [319, 0, 196612, 2, 2400] 0), by decide +kernel⟩, ⟨(wit opAudioStreamClose [63] 0 (fun x => { x with au := { x.au with streams := [⟨63, 0, x.genOf 0, 0, 2, 0, 0, 0, 0, false, [], {}, [], false⟩] } })), (call [63] 0), ⟨63, 0, 0, 0, 2, 0, 0, 0, 0, false, [], {}, [], false⟩, by decide +kernel⟩, ⟨(wit opTonePlay [3, 440, 0, 16842752, 1, 0] 0 (fun x => (((x.set AU_DOMx_STAT_RUN 1 0).set AU_DOMx_RATE_HZ 48000 0).setAdom 0 fun q => { q with graph := some { nodes := [⟨1, 7, 3⟩, ⟨2, 8, 3⟩], edges := [⟨1, 2, 0, false, false, {}⟩] } }))), (call [3, 440, 0, 16842752, 1, 0] 0), 0, by decide +kernel⟩, ⟨(wit opBeepPlay [3, 440, 67536] 0 (fun x => (((x.set AU_DOMx_STAT_RUN 1 0).set AU_DOMx_RATE_HZ 48000 0).setAdom 0 fun q => { q with graph := some { nodes := [⟨1, 7, 3⟩, ⟨2, 8, 3⟩], edges := [⟨1, 2, 0, false, false, {}⟩] } }))), (call [3, 440, 67536] 0), 0, by decide +kernel⟩⟩

/-- The hypotheses of each clause of AudioEventsComplete are met. -/
theorem witness_AudioEventsComplete :
    (∃ (s : State) (d : Fin 3) (_ : List TdmIn), s.chip.domLive d = true ∧ s.chip.parked = false) ∧
    (∃ (s : State) (d : Fin 3), s.chip.on AU_DOMx_STAT_RUN d = true ∧ (s.chip.adom d).halted = false ∧ s.chip.parked = false) ∧
    (∃ (s : State) (e : Fin 64) (q : AStream), s.chip.stream e = some q ∧ s.chip.on AU_EPe_STAT_CLOSING e = false ∧ s.chip.parked = false) ∧
    (∃ (s : State) (e : Fin 64) (q : AStream), s.chip.stream e = some q ∧ s.chip.on AU_EPe_STAT_CLOSING e = true ∧ s.chip.parked = false) ∧
    (∃ s : State, s.chip.parked = false) ∧
    (∃ s : State, s.chip.parked = false) ∧
    (∃ (s : State) (d : Fin 3), (s.chip.adom d).halted = false ∧ (s.chip.adom d).route = 1 ∧ s.chip.parked = false) ∧
    (∃ (s : State) (d : Fin 3), (s.chip.adom d).halted = false ∧ (s.chip.adom d).route = 3 ∧ s.chip.parked = false) ∧
    (∃ (s : State), s.chip.on AU_DOMx_STAT_RUN 2 = true ∧ s.chip.on AU_DOMx_CTL_SRC 2 = false ∧ s.chip.on AU_DOMx_STAT_CLK_OK 2 = true ∧ s.chip.parked = false) ∧
    (∃ (s : State), s.chip.on AU_DOMx_STAT_RUN 2 = true ∧ s.chip.on AU_DOMx_CTL_SRC 2 = false ∧ s.chip.on AU_DOMx_STAT_CLK_OK 2 = false ∧ s.chip.parked = false) ∧
    (∃ (s : State) (b : Fin 16), s.chip.bridgeFed b = true ∧ s.chip.parked = false) ∧
    (∃ (s : State) (g : Fin 16) (p : Pattern), (s.chip.au.tones.getD g {}).cur = some p ∧ s.chip.get AU_TONEg_STAT_PHASE g = 1 ∧ s.chip.parked = false) ∧
    (∃ (s : State) (g : Fin 16) (p : Pattern), (s.chip.au.tones.getD g {}).cur = some p ∧ s.chip.get AU_TONEg_STAT_PHASE g = 2 ∧ bits (p.words.getD 4 0) 0 16 ≠ 0 ∧ s.chip.parked = false) ∧
    (∃ (s : State) (g : Fin 16) (p : Pattern), (s.chip.au.tones.getD g {}).cur = some p ∧ s.chip.get AU_TONEg_STAT_PHASE g = 4 ∧ (s.chip.au.tones.getD g {}).reps = some 1 ∧ s.chip.parked = false) ∧
    (∃ (s : State) (g : Fin 8) (p : Pattern), (s.chip.au.beeps.getD g {}).cur = some p ∧ (s.chip.au.beeps.getD g {}).gap = false ∧ (s.chip.au.beeps.getD g {}).next = none ∧ (s.chip.au.beeps.getD g {}).stop = false ∧ 2 ≤ (s.chip.au.beeps.getD g {}).left ∧ s.chip.parked = false) ∧
    (∃ (s : State) (g : Fin 8) (p q : Pattern), (s.chip.au.beeps.getD g {}).cur = some p ∧ (s.chip.au.beeps.getD g {}).gap = false ∧ (s.chip.au.beeps.getD g {}).next = some q ∧ s.chip.parked = false) ∧
    (∃ (s : State) (g : Fin 8), (s.chip.au.beeps.getD g {}).gap = true ∧ s.chip.parked = false) ∧
    (∃ (s : State) (v : Word), bitAt v.toNat 0 = true ∧ s.chip.parked = false) :=
  ⟨⟨{ chip := ((({} : Chip).set AU_DOMx_STAT_RUN 1 0).setAdom 0 fun q => { q with graph := some { nodes := [⟨1, 7, 3⟩, ⟨2, 8, 3⟩], edges := [⟨1, 2, 0, false, false, {}⟩] } }) }, 0, [], by decide +kernel⟩, ⟨{ chip := ((({} : Chip).set AU_DOMx_STAT_RUN 1 0).setAdom 0 fun q => { q with graph := some { nodes := [⟨1, 7, 3⟩, ⟨2, 8, 3⟩], edges := [⟨1, 2, 0, false, false, {}⟩] } }) }, 0, by decide +kernel⟩, ⟨(let y : Chip := {}; { chip := { y with au := { y.au with streams := [⟨63, 0, 0, 0, 2, 0, 0, 0, 0, false, [], { left := 9 }, [], false⟩] } } }), 63, ⟨63, 0, 0, 0, 2, 0, 0, 0, 0, false, [], { left := 9 }, [], false⟩, by decide +kernel⟩, ⟨(let y : Chip := ({} : Chip).set AU_EPe_STAT_CLOSING 1 63; { chip := { y with au := { y.au with streams := [⟨63, 0, 0, 0, 2, 0, 0, 0, 0, false, [], { left := 9 }, [], false⟩] } } }), 63, ⟨63, 0, 0, 0, 2, 0, 0, 0, 0, false, [], { left := 9 }, [], false⟩, by decide +kernel⟩, ⟨{}, by decide +kernel⟩, ⟨{}, by decide +kernel⟩, ⟨{ chip := ((({} : Chip).set AU_DOMx_STAT_RUN 1 0).setAdom 0 fun q => { q with graph := some { nodes := [⟨1, 7, 3⟩, ⟨2, 8, 3⟩], edges := [⟨1, 2, 0, false, false, {}⟩] }, route := 1 }) }, 0, by decide +kernel⟩, ⟨{ chip := ((({} : Chip).set AU_DOMx_STAT_RUN 1 0).setAdom 0 fun q => { q with graph := some { nodes := [⟨1, 7, 3⟩, ⟨2, 8, 3⟩], edges := [⟨1, 2, 0, false, false, {}⟩] }, route := 3 }) }, 0, by decide +kernel⟩, ⟨{ chip := ((({} : Chip).set AU_DOMx_STAT_RUN 1 2).set AU_DOMx_CTL_SRC 0 2).set AU_DOMx_STAT_CLK_OK 1 2 }, by decide +kernel⟩, ⟨{ chip := (({} : Chip).set AU_DOMx_STAT_RUN 1 2).set AU_DOMx_CTL_SRC 0 2 }, by decide +kernel⟩, ⟨{ chip := ((({} : Chip).set AU_DOMx_STAT_RUN 1 0).set AU_BRk_CFG_FROM 0 15).set AU_BRk_CFG_TO 0 15 }, 15, by decide +kernel⟩, ⟨(let y : Chip := ({} : Chip).set AU_TONEg_STAT_PHASE 1 3; { chip := { y with au := { y.au with tones := updAt y.au.tones 3 fun q => { q with cur := some ⟨[3, 440, 0, 0, 1, 1], 0, 1⟩, reps := some 1 } } } }), 3, ⟨[3, 440, 0, 0, 1, 1], 0, 1⟩, by decide +kernel⟩, ⟨(let y : Chip := ({} : Chip).set AU_TONEg_STAT_PHASE 2 3; { chip := { y with au := { y.au with tones := updAt y.au.tones 3 fun q => { q with cur := some ⟨[3, 440, 0, 0, 1, 1], 0, 1⟩, reps := some 1 } } } }), 3, ⟨[3, 440, 0, 0, 1, 1], 0, 1⟩, by decide +kernel⟩, ⟨(let y : Chip := ({} : Chip).set AU_TONEg_STAT_PHASE 4 3; { chip := { y with au := { y.au with tones := updAt y.au.tones 3 fun q => { q with cur := some ⟨[3, 440, 0, 0, 1, 1], 0, 1⟩, reps := some 1 } } } }), 3, ⟨[3, 440, 0, 0, 1, 1], 0, 1⟩, by decide +kernel⟩, ⟨(let y : Chip := {}; { chip := { y with au := { y.au with beeps := updAt y.au.beeps 7 fun q => { q with cur := some ⟨[7, 440, 67536], 0, 1⟩, left := 2 } } } }), 7, ⟨[7, 440, 67536], 0, 1⟩, by decide +kernel⟩, ⟨(let y : Chip := {}; { chip := { y with au := { y.au with beeps := updAt y.au.beeps 7 fun q => { q with cur := some ⟨[7, 440, 67536], 0, 1⟩, left := 2, next := some ⟨[7, 441, 67536], 0, 1⟩ } } } }), 7, ⟨[7, 440, 67536], 0, 1⟩, ⟨[7, 441, 67536], 0, 1⟩, by decide +kernel⟩, ⟨(let y : Chip := {}; { chip := { y with au := { y.au with beeps := updAt y.au.beeps 7 fun q => { q with cur := some ⟨[7, 440, 67536], 0, 1⟩, left := 2, gap := true } } } }), 7, by decide +kernel⟩, ⟨{}, 4294967295, by decide +kernel⟩⟩

/-- The hypotheses of each clause of SkeinCommandsComplete are met. -/
theorem witness_SkeinCommandsComplete :
    (∃ (s : State) (c : Call), s.chip.dispatchedCall opStartSkein c = true ∧ c.words.length = 1 ∧ c.w 0 < 2 ∧ s.chip.on SKn_STAT_RUN (c.w 0) = false ∧ bits (c.w 0) 0 1 = c.w 0 ∧ s.chip.heldSub (4 + c.w 0) = false ∧ s.chip.skRefusal (c.w 0) = none ∧ s.chip.parked = false) ∧
    (∃ (s : State) (c : Call), s.chip.dispatchedCall opSkeinStreamUnbind c = true ∧ c.words.length = 1 ∧ s.chip.on SKn_STAT_RUN (skArgs c).1 = false ∧ skStray c 0 = false ∧ s.chip.skKind (skArgs c).1 (skArgs c).2 ≠ 0 ∧ s.chip.parked = false) ∧
    (∃ (s : State) (c : Call), s.chip.dispatchedCall opSkeinQuery c = true ∧ c.words.length = 1 ∧ skStray c (2 ^ 31) = false ∧ bitAt (c.w 0) 31 = false ∧ (c.fn != 0 && (s.chip.skKind (skArgs c).1 (skArgs c).2 = 0 || s.chip.skFn (skArgs c).1 (skArgs c).2 != c.fn)) = false ∧ s.chip.parked = false) ∧
    (∃ (s : State) (c : Call), s.chip.dispatchedCall opSkeinStreamBind c = true ∧ c.words.length = 6 ∧ s.chip.on SKn_STAT_RUN (skArgs c).1 = false ∧ skStray c 0x1F0000 = false ∧ s.chip.skKind (skArgs c).1 (skArgs c).2 = 0 ∧ bits (c.w 0) 16 3 = 1 ∧ c.w 1 ≤ 64 ∧ s.chip.get FNf_STAT_STATE (c.w 1) ≠ 0 ∧ hOffset (c.q 2) = 0 ∧ (s.chip.ownRange (c.w 1) (c.q 2) (4096 + (bits (c.w 4) 0 6 + 1) * bits (c.w 4) 16 14 * 4096) [1, 3, 5]).isNone = false ∧ bits (c.w 4) 16 14 ≠ 0 ∧ (bitAt (c.w 0) 20 && !s.chip.ownsFence (c.w 1) (bits (c.w 5) 16 12)) = false ∧ s.chip.parked = false) ∧
    (∃ (s : State) (c : Call), s.chip.dispatchedCall opStopSkein c = true ∧ c.words.length = 1 ∧ c.w 0 < 2 ∧ s.chip.on SKn_STAT_RUN (bits (c.w 0) 0 1) = true ∧ s.chip.parked = false) :=
  ⟨⟨(wit opStartSkein [1] 0 id), (call [1] 0), by decide +kernel⟩, ⟨(wit opSkeinStreamUnbind [16129] 0 (fun x => x.set SKn_STs_CFG_KIND 1 127)), (call [16129] 0), by decide +kernel⟩, ⟨(wit opSkeinQuery [16129] 0 id), (call [16129] 0), by decide +kernel⟩, ⟨(wit opSkeinStreamBind [81665, 0, 0, 196612, 65536, 0] 0 (fun x => withEntry (x.set FNf_STAT_STATE 2 0) (sampleEntry 1))), (call [81665, 0, 0, 196612, 65536, 0] 0), by decide +kernel⟩, ⟨(wit opStopSkein [1] 0 (fun x => x.set SKn_STAT_RUN 1 1)), (call [1] 0), by decide +kernel⟩⟩

/-- The hypotheses of each clause of SkeinEventsComplete are met. -/
theorem witness_SkeinEventsComplete :
    (∃ (s : State) (p : Fin 2) (h : FlitHdr) (_ : List Byte), h.ackV = false ∧ s.chip.skHears p = true ∧ h.seq.val = (s.chip.lk p).rxSeq ∧ skIn (s.chip.skKind p h.stream) = true ∧ s.chip.skCredit p h.stream ≠ 0 ∧ s.chip.parked = false) ∧
    (∃ (s : State) (p : Fin 2) (h : FlitHdr) (_ : List Byte), s.chip.skHears p = true ∧ ((s.work.header p h).x.lkTake p h.seq.val).2 = true ∧ skIn (((s.work.header p h).x.lkTake p h.seq.val).1.skKind p h.stream) = true ∧ ((s.work.header p h).x.lkTake p h.seq.val).1.skCredit p h.stream ≠ 0 ∧ s.chip.parked = false) ∧
    (∃ (s : State) (p : Fin 2) (h : FlitHdr) (_ : Word), h.ackV = false ∧ s.chip.skHears p = true ∧ h.seq.val = (s.chip.lk p).rxSeq ∧ skIn (s.chip.skKind p h.stream) = true ∧ s.chip.skCredit p h.stream ≠ 0 ∧ s.chip.parked = false) ∧
    (∃ (s : State) (p : Fin 2) (h : FlitHdr) (_ : Word), s.chip.skHears p = true ∧ ((s.work.header p h).x.lkTake p h.seq.val).2 = true ∧ skIn (((s.work.header p h).x.lkTake p h.seq.val).1.skKind p h.stream) = true ∧ ((s.work.header p h).x.lkTake p h.seq.val).1.skCredit p h.stream ≠ 0 ∧ s.chip.parked = false) ∧
    (∃ (s : State) (p : Fin 2) (h : FlitHdr) (_ : Word), h.ackV = false ∧ s.chip.skHears p = true ∧ h.seq.val = (s.chip.lk p).rxSeq ∧ skIn (s.chip.skKind p h.stream) = true ∧ s.chip.skCredit p h.stream ≠ 0 ∧ s.chip.parked = false) ∧
    (∃ (s : State) (p : Fin 2) (h : FlitHdr) (_ : Word), s.chip.skHears p = true ∧ ((s.work.header p h).x.lkTake p h.seq.val).2 = true ∧ skIn (((s.work.header p h).x.lkTake p h.seq.val).1.skKind p h.stream) = true ∧ ((s.work.header p h).x.lkTake p h.seq.val).1.skCredit p h.stream ≠ 0 ∧ s.chip.parked = false) ∧
    (∃ (s : State) (p : Fin 2) (h : FlitHdr) (_ : List Grant), h.ackV = false ∧ s.chip.skHears p = true ∧ h.seq.val = (s.chip.lk p).rxSeq ∧ (s.chip.lk p).farClose = false ∧ s.chip.parked = false) ∧
    (∃ (s : State) (p : Fin 2) (h : FlitHdr) (_ : List Grant), s.chip.skHears p = true ∧ ((s.work.header p h).x.lkTake p h.seq.val).2 = true ∧ (((s.work.header p h).x.lkTake p h.seq.val).1.lk p).farClose = false ∧ s.chip.parked = false) ∧
    (∃ (s : State) (p : Fin 2) (_ : FlitHdr) (_ : Fin 1024), s.chip.skHears p = true ∧ s.chip.parked = false) ∧
    (∃ (s : State) (p : Fin 2) (_ : FlitHdr), s.chip.skHears p = true ∧ s.chip.parked = false) ∧
    (∃ (s : State) (p : Fin 2) (_ : FlitHdr), s.chip.skHears p = true ∧ s.chip.parked = false) ∧
    (∃ (s : State) (p : Fin 2) (_ : FlitHdr) (t : Train), s.chip.lkState p = lkTrain ∧ s.chip.lkLocked p = true ∧ t.lanes.toNat = s.chip.lkLanes p ∧ t.phase = true ∧ s.chip.parked = false) ∧
    (∃ (s : State) (p : Fin 2), s.chip.lkState p = lkUp ∧ s.chip.parked = false) ∧
    (∃ (s : State) (p : Fin 2) (e : Nat × Nat × Nat × List Nat) (r : List (Nat × Nat × Nat × List Nat)), s.chip.lkState p = lkUp ∧ (s.chip.lk p).replay = e :: r ∧ s.chip.parked = false) ∧
    (∃ (s : State) (p : Fin 2) (l : Fin 8), l.val < s.chip.lkLanes p ∧ s.chip.parked = false) ∧
    (∃ (s : State) (p : Fin 2) (l : Fin 8), s.chip.lkTraining p = true ∧ l.val < s.chip.lkLanes p ∧ s.chip.parked = false) ∧
    (∃ (s : State) (p : Fin 2), s.chip.lkTraining p = true ∧ s.chip.parked = false) ∧
    (∃ (s : State) (p : Fin 2), s.chip.lkState p = lkDown ∧ s.chip.on SKn_STAT_RUN p = true ∧ (s.chip.lk p).suspend = false ∧ s.chip.parked = false) ∧
    (∃ (s : State) (p : Fin 2), s.chip.lkState p = lkStopping ∧ s.chip.parked = false) ∧
    (∃ (s : State) (p : Fin 2) (t : Fin 64), s.chip.skKind p t = 3 ∧ s.chip.lkState p = lkUp ∧ (s.chip.lk p).farClose = false ∧ (s.chip.strm p t).eg.isSome = false ∧ s.chip.on SKn_STs_BIND_ORPHAN (stIx p t) = false ∧ leNat ((s.work.ringRead p t (s.chip.skHandle p t) 8).2.take 4) ≠ leNat ((s.work.ringRead p t (s.chip.skHandle p t) 8).2.drop 4) ∧ s.chip.parked = false) :=
  ⟨⟨{ chip := (((({} : Chip).set SKn_STAT_LINK lkUp 1).set SKn_STs_CFG_KIND 1 127).set SKn_STs_CREDIT_UNITS 4 127).setSp 1 fun q => { q with streams := [{ st := 63 }] } }, 1, ⟨63, 0, 0, false⟩, [1], by decide +kernel⟩, ⟨{ chip := (((({} : Chip).set SKn_STAT_LINK lkUp 1).set SKn_STs_CFG_KIND 1 127).set SKn_STs_CREDIT_UNITS 4 127).setSp 1 fun q => { q with streams := [{ st := 63 }] } }, 1, ⟨63, 0, 0, false⟩, [1], by decide +kernel⟩, ⟨{ chip := (((({} : Chip).set SKn_STAT_LINK lkUp 1).set SKn_STs_CFG_KIND 1 127).set SKn_STs_CREDIT_UNITS 4 127).setSp 1 fun q => { q with streams := [{ st := 63 }] } }, 1, ⟨63, 0, 0, false⟩, 5, by decide +kernel⟩, ⟨{ chip := (((({} : Chip).set SKn_STAT_LINK lkUp 1).set SKn_STs_CFG_KIND 1 127).set SKn_STs_CREDIT_UNITS 4 127).setSp 1 fun q => { q with streams := [{ st := 63 }] } }, 1, ⟨63, 0, 0, false⟩, 5, by decide +kernel⟩, ⟨{ chip := (((({} : Chip).set SKn_STAT_LINK lkUp 1).set SKn_STs_CFG_KIND 1 127).set SKn_STs_CREDIT_UNITS 4 127).setSp 1 fun q => { q with streams := [{ st := 63 }] } }, 1, ⟨63, 0, 0, false⟩, 5, by decide +kernel⟩, ⟨{ chip := (((({} : Chip).set SKn_STAT_LINK lkUp 1).set SKn_STs_CFG_KIND 1 127).set SKn_STs_CREDIT_UNITS 4 127).setSp 1 fun q => { q with streams := [{ st := 63 }] } }, 1, ⟨63, 0, 0, false⟩, 5, by decide +kernel⟩, ⟨{ chip := (((({} : Chip).set SKn_STAT_LINK lkUp 1).set SKn_STs_CFG_KIND 1 127).set SKn_STs_CREDIT_UNITS 4 127).setSp 1 fun q => { q with streams := [{ st := 63 }] } }, 1, ⟨63, 0, 0, false⟩, [⟨63, 2⟩], by decide +kernel⟩, ⟨{ chip := (((({} : Chip).set SKn_STAT_LINK lkUp 1).set SKn_STs_CFG_KIND 1 127).set SKn_STs_CREDIT_UNITS 4 127).setSp 1 fun q => { q with streams := [{ st := 63 }] } }, 1, ⟨63, 0, 0, false⟩, [⟨63, 2⟩], by decide +kernel⟩, ⟨{ chip := (((({} : Chip).set SKn_STAT_LINK lkUp 1).set SKn_STs_CFG_KIND 1 127).set SKn_STs_CREDIT_UNITS 4 127).setSp 1 fun q => { q with streams := [{ st := 63 }] } }, 1, ⟨63, 0, 0, false⟩, 0, by decide +kernel⟩, ⟨{ chip := (((({} : Chip).set SKn_STAT_LINK lkUp 1).set SKn_STs_CFG_KIND 1 127).set SKn_STs_CREDIT_UNITS 4 127).setSp 1 fun q => { q with streams := [{ st := 63 }] } }, 1, ⟨63, 0, 0, false⟩, by decide +kernel⟩, ⟨{ chip := (((({} : Chip).set SKn_STAT_LINK lkUp 1).set SKn_STs_CFG_KIND 1 127).set SKn_STs_CREDIT_UNITS 4 127).setSp 1 fun q => { q with streams := [{ st := 63 }] } }, 1, ⟨63, 0, 0, false⟩, by decide +kernel⟩, ⟨{ chip := (({} : Chip).set SKn_STAT_LINK lkTrain 1).setLk 1 fun q => { q with lock := 255 } }, 1, ⟨63, 0, 0, false⟩, ⟨true, 8, false, 0, 0⟩, by decide +kernel⟩, ⟨{ chip := (((({} : Chip).set SKn_STAT_LINK lkUp 1).set SKn_STs_CFG_KIND 1 127).set SKn_STs_CREDIT_UNITS 4 127).setSp 1 fun q => { q with streams := [{ st := 63 }] } }, 1, by decide +kernel⟩, ⟨{ chip := (({} : Chip).set SKn_STAT_LINK lkUp 1).setLk 1 fun q => { q with replay := [(7, 1, 63, [])] } }, 1, (7, 1, 63, []), [], by decide +kernel⟩, ⟨{}, 1, 3, by decide +kernel⟩, ⟨{ chip := (({} : Chip).set SKn_STAT_LINK lkTrain 1).setLk 1 fun q => { q with lock := 255 } }, 1, 3, by decide +kernel⟩, ⟨{ chip := (({} : Chip).set SKn_STAT_LINK lkTrain 1).setLk 1 fun q => { q with lock := 255 } }, 1, by decide +kernel⟩, ⟨{ chip := ({} : Chip).set SKn_STAT_RUN 1 1 }, 1, by decide +kernel⟩, ⟨{ chip := ({} : Chip).set SKn_STAT_LINK lkStopping 1 }, 1, by decide +kernel⟩, ⟨(let y : Chip := withEntry (((((({} : Chip).set SKn_STAT_LINK lkUp 1).set SKn_STs_CFG_KIND 3 127).set SKn_STs_RING_SLOT 1 127).set SKn_STs_HANDLE_HI_HANDLE 196612 127).setSp 1 fun q => { q with streams := [{ st := 63 }] }) (sampleEntry 1); { chip := y, mem := writeCells [] (storeBytes y (196612 * 2 ^ 32) [1]) }), 1, 63, by decide +kernel⟩⟩

/-- The hypotheses of each clause of EventCommandsComplete are met. -/
theorem witness_EventCommandsComplete :
    (∃ (s : State) (_ : Fin 512), s.chip.kennel = false ∧ s.chip.get GL_MODE_POWER ≠ 3) ∧
    (∃ (s : State) (_ : Fin 65), s.chip.kennel = false ∧ s.chip.get GL_MODE_POWER ≠ 3) ∧
    (∃ (s : State) (f : Fin 65) (v : Fin 128), (s.chip.ev.counts.any fun c => c.fn = f.val && c.vec = v.val) = true ∧ (s.chip.coalesce f v).2 ≠ 0 ∧ s.chip.on EV_CTL_EN = true ∧ s.chip.parked = false) ∧
    (∃ s : State, s.chip.parked = false) ∧
    (∃ s : State, s.chip.parked = false) ∧
    (∃ s : State, s.chip.parked = false) ∧
    (∃ s : State, s.chip.parked = false) :=
  ⟨⟨{}, 511, by decide +kernel⟩, ⟨{}, 64, by decide +kernel⟩, ⟨(let y : Chip := (({} : Chip).set EV_FNf_TIME 1 3).set EV_CTL_EN 1; { chip := { y with ev := { y.ev with counts := [⟨3, 1, 1, false⟩] } } }), 3, 1, by decide +kernel⟩, ⟨{}, by decide +kernel⟩, ⟨{}, by decide +kernel⟩, ⟨{}, by decide +kernel⟩, ⟨{}, by decide +kernel⟩⟩

/-- The hypotheses of each clause of FirmwareCommandsComplete are met. -/
theorem witness_FirmwareCommandsComplete :
    (∃ (s : State) (c : Call) (e : MapEntry), s.chip.dispatchedCall opFwSlotWrite c = true ∧ s.chip.kennel = false ∧ s.chip.on RB_FW_BUSY = false ∧ s.chip.ownEntry c.fn (c.q 0) = some e ∧ e.cls = 0 ∧ 256 ≤ c.w 2 ∧ c.w 2 ≤ 33554432 ∧ (s.chip.ownRange c.fn (c.q 0) (c.w 2) [0]).isNone = false ∧ s.chip.parked = false) ∧
    (∃ (s : State) (c : Call), s.chip.dispatchedCall opFwSlotCommit c = true ∧ s.chip.kennel = false ∧ s.chip.on RB_FW_BUSY = false ∧ s.chip.imgWrong (s.chip.fwSlot (1 - s.chip.nv.active)) = 0 ∧ s.chip.parked = false) ∧
    (∃ (s : State) (c : Call), s.chip.dispatchedCall opFwQuery c = true ∧ s.chip.parked = false) ∧
    (∃ (s : State) (c : Call) (_ : List Byte), s.chip.dispatchedCall opRecoveryLoad c = true ∧ s.chip.on RB_STAT_OPT_FAULT = false ∧ s.chip.on RB_FW_BUSY = false ∧ c.w 0 = 3 ∧ s.chip.parked = false) ∧
    (∃ (s : State) (c : Call) (_ : List Byte), s.chip.dispatchedCall opRecoveryLoad c = true ∧ s.chip.on RB_STAT_OPT_FAULT = false ∧ s.chip.on RB_FW_BUSY = false ∧ c.w 0 = 0 ∧ s.chip.parked = false) ∧
    (∃ (s : State) (c : Call) (_ : List Byte), s.chip.dispatchedCall opRecoveryLoad c = true ∧ s.chip.on RB_STAT_OPT_FAULT = false ∧ s.chip.on RB_FW_BUSY = false ∧ c.w 0 = 1 ∧ s.chip.parked = false) ∧
    (∃ (s : State) (c : Call), s.chip.dispatchedCall opFuseProgram c = true ∧ c.w 0 = 1 ∧ s.chip.parked = false) ∧
    (∃ (s : State) (c : Call), s.chip.dispatchedCall opFwKeyHashSet c = true ∧ c.w 0 ≤ 3 ∧ (s.chip.nv.hashes.any fun h => c.w 0 ≤ h.1) = false ∧ s.chip.parked = false) ∧
    (∃ (s : State) (v : Word) (_ : List Byte), bitAt v.toNat 31 = true ∧ s.chip.ld.boot = true ∧ s.chip.get RB_STRAP_BOOT_SRC = 2) ∧
    (∃ (s : State) (h : MsgHdr), (s.chip.blTake h 5 0 false).2 = true ∧ (s.chip.blTake h 5 0 false).1.on RB_STAT_CONFIRMED = true ∧ (s.chip.blTake h 5 0 false).1.bl.supervised = false) ∧
    (∃ (s : State) (h : MsgHdr) (o : Word) (b : List Byte), (s.chip.blTake h 5 (8 + b.length) false).2 = true ∧ (s.chip.blTake h 5 (8 + b.length) false).1.ld.boot = true ∧ (s.chip.blTake h 5 (8 + b.length) false).1.get RB_STRAP_BOOT_SRC = 3 ∧ (s.chip.blTake h 5 (8 + b.length) false).1.bl.supervised = false ∧ o.toNat = (s.chip.blTake h 5 (8 + b.length) false).1.ld.bytes.length) :=
  ⟨⟨(wit opFwSlotWrite [0, 196612, 256] 0 withEntry), (call [0, 196612, 256] 0), sampleEntry, by decide +kernel⟩, ⟨(wit opFwSlotCommit [] 0 imageChip), (call [] 0), ⟨by decide +kernel, by decide +kernel, by decide +kernel, image_valid _ (by decide +kernel) (by decide +kernel), by decide +kernel⟩⟩, ⟨(wit opFwQuery [] 0 id), (call [] 0), by decide +kernel⟩, ⟨(wit opRecoveryLoad [3] 0 id), (call [3] 0), [], by decide +kernel⟩, ⟨(wit opRecoveryLoad [0, 0, 0, 260] 0 id), (call [0, 0, 0, 260] 0), [], by decide +kernel⟩, ⟨(wit opRecoveryLoad [1, 0, 0, 260] 0 id), (call [1, 0, 0, 260] 0), [], by decide +kernel⟩, ⟨(wit opFuseProgram [1, 1] 0 id), (call [1, 1] 0), by decide +kernel⟩, ⟨(wit opFwKeyHashSet [3, 1, 2, 3, 4, 5, 6, 7, 8] 0 id), (call [3, 1, 2, 3, 4, 5, 6, 7, 8] 0), by decide +kernel⟩, ⟨(let y : Chip := ({} : Chip).set RB_STRAP_BOOT_SRC 2; { chip := { y with ld := { y.ld with boot := true } } }), 2147483904, [], by decide +kernel⟩, ⟨{ chip := blUp (({} : Chip).set RB_STAT_CONFIRMED 1) }, ⟨0, 0, false, 1⟩, by decide +kernel⟩, ⟨(let y : Chip := blUp (({} : Chip).set RB_STRAP_BOOT_SRC 3); { chip := { y with ld := { y.ld with boot := true } } }), ⟨0, 0, false, 1⟩, 0, [1], by decide +kernel⟩⟩

/-- The hypotheses of each clause of BlockResetCommandsComplete are met. -/
theorem witness_BlockResetCommandsComplete :
    (∃ (s : State) (c : Call), s.chip.dispatchedCall opResetBlock c = true ∧ s.chip.kennel = false ∧ [1, 3, 5, 6, 7].contains (bits (c.w 0) 0 4) = true ∧ (bits (c.w 0) 8 5) < kindCount (bits (c.w 0) 0 4) ∧ bitAt (c.w 0) 17 = false ∧ (c.w 0 != (bits (c.w 0) 0 4) + 256 * (bits (c.w 0) 8 5) + 65536 * bits (c.w 0) 16 2) = false ∧ (s.chip.secUp && s.chip.inUse (bits (c.w 0) 0 4) (bits (c.w 0) 8 5)) = false ∧ s.chip.parked = false) ∧
    (∃ (s : State) (c : Call), s.chip.dispatchedCall opResetSubsystem c = true ∧ s.chip.kennel = false ∧ bits (c.w 0) 0 3 ≠ 7 ∧ bitAt (c.w 0) 17 = false ∧ (c.w 0 != bits (c.w 0) 0 3 + 65536 * bits (c.w 0) 16 2) = false ∧ s.chip.parked = false) ∧
    (∃ (s : State) (h : HeelRef) (g : Heel), (s.chip.rs.heels.find? fun (g : Heel) => g.is h.sub h.kind h.inst && !g.asserted) = some g ∧ s.chip.heelReady g = true ∧ s.chip.parked = false) ∧
    (∃ (s : State) (h : HeelRef) (g : Heel), (s.chip.rs.heels.find? fun (g : Heel) => g.is h.sub h.kind h.inst && !g.asserted) = some g ∧ s.chip.parked = false) ∧
    (∃ (s : State) (h : HeelRef) (g : Heel), (s.chip.rs.heels.find? fun (g : Heel) => g.is h.sub h.kind h.inst && g.asserted) = some g ∧ s.chip.parked = false) ∧
    (∃ (s : State) (c : Call), s.chip.dispatchedCall opGateBlock c = true ∧ 6 ≤ c.w 0 ∧ c.w 0 < 16 ∧ s.chip.on DXn_STAT_RUN (c.w 0 - 6) = false ∧ (s.chip.inUse 4 (c.w 0 - 6) && s.chip.secUp) = false ∧ s.chip.parked = false) ∧
    (∃ (s : State) (c : Call), s.chip.dispatchedCall opGateBlock c = true ∧ c.w 0 < 6 ∧ ((groupCores (c.w 0)).find? fun n => s.chip.inUse 1 n) = none ∧ s.chip.parked = false) ∧
    (∃ (s : State) (c : Call), s.chip.dispatchedCall opUngateBlock c = true ∧ c.w 0 ≤ 17 ∧ 6 ≤ c.w 0 ∧ bitAt (s.chip.get GL_GATE_DOM) (c.w 0) = true ∧ s.chip.parked = false) :=
  ⟨⟨(wit opResetBlock [3843] 0 id), (call [3843] 0), by decide +kernel⟩, ⟨(wit opResetSubsystem [65541] 0 id), (call [65541] 0), by decide +kernel⟩, ⟨(let y : Chip := {}; { chip := { y with rs := { y.rs with heels := [⟨false, 3, 15, call [3843], true, false, false⟩] } } }), ⟨false, 3, 15⟩, ⟨false, 3, 15, call [3843], true, false, false⟩, by decide +kernel⟩, ⟨(let y : Chip := {}; { chip := { y with rs := { y.rs with heels := [⟨false, 3, 15, call [3843], true, false, false⟩] } } }), ⟨false, 3, 15⟩, ⟨false, 3, 15, call [3843], true, false, false⟩, by decide +kernel⟩, ⟨(let y : Chip := {}; { chip := { y with rs := { y.rs with heels := [⟨false, 3, 15, call [3843], false, true, false⟩] } } }), ⟨false, 3, 15⟩, ⟨false, 3, 15, call [3843], false, true, false⟩, by decide +kernel⟩, ⟨(wit opGateBlock [15] 0 id), (call [15] 0), by decide +kernel⟩, ⟨(wit opGateBlock [5] 0 id), (call [5] 0), by decide +kernel⟩, ⟨(wit opUngateBlock [17] 0 (fun x => x.set GL_GATE_DOM 131072)), (call [17] 0), by decide +kernel⟩⟩

/-- The hypotheses of each clause of ResetSourcesComplete are met. -/
theorem witness_ResetSourcesComplete :
    (∃ (s : State) (c : Call), s.chip.dispatchedCall opResetWarm c = true ∧ s.chip.parked = false) ∧
    (∃ (s : State) (c : Call), s.chip.dispatchedCall opResetCold c = true ∧ s.chip.parked = false) ∧
    (∃ (s : State) (c : Call), s.chip.dispatchedCall opKennelEnter c = true ∧ s.chip.parked = false) ∧
    (∃ (s : State), s.chip.rs.levels.contains 5 = false) ∧
    (∃ (s : State), s.chip.rs.levels.contains 5 = true) ∧
    (∃ (s : State), s.chip.rs.bypass = false) ∧
    (∃ s : State, s.chip.parked = false) ∧
    (∃ (s : State) (h : MsgHdr), (s.chip.blTake h 5 0 false).2 = true ∧ (s.chip.blTake h 5 0 false).1.blCfg BL_CFG_COLD_ACCEPT ≠ 0) ∧
    (∃ s : State, s.chip.parked = false) ∧
    (∃ s : State, s.chip.parked = false) ∧
    (∃ s : State, s.chip.parked = false) ∧
    (∃ s : State, s.chip.parked = false) ∧
    (∃ (s : State) (n : Fin 8), s.chip.bit CK_PHY_LOCK_MEM n = false ∧ s.chip.parked = false) :=
  ⟨⟨(wit opResetWarm [] 0 id), (call [] 0), by decide +kernel⟩, ⟨(wit opResetCold [] 0 id), (call [] 0), by decide +kernel⟩, ⟨(wit opKennelEnter [] 0 id), (call [] 0), by decide +kernel⟩, ⟨{}, by decide +kernel⟩, ⟨(let y : Chip := {}; { chip := { y with rs := { y.rs with levels := [5] } } }), by decide +kernel⟩, ⟨{}, by decide +kernel⟩, ⟨{}, by decide +kernel⟩, ⟨(let y : Chip := blUp (({} : Chip).set BL_CFG_COLD_ACCEPT 1); { chip := y.takeBlCfg }), ⟨0, 0, false, 1⟩, by decide +kernel⟩, ⟨{}, by decide +kernel⟩, ⟨{}, by decide +kernel⟩, ⟨{}, by decide +kernel⟩, ⟨{}, by decide +kernel⟩, ⟨{}, 7, by decide +kernel⟩⟩

/-- The hypotheses of each clause of StartCommandsComplete are met. -/
theorem witness_StartCommandsComplete :
    (∃ (s : State) (_ : Release), s.chip.dueReaches.rs.reach ≠ 0 ∧ s.chip.dueReaches.rs.levels = []) ∧
    (∃ (s : State) (_ : Release) (l : List Nat), s.chip.dueReaches.rs.levels = l ∧ l ≠ []) ∧
    (∃ (s : State) (_ : Training), s.chip.rs.trained = false ∧ s.chip.kennel = false) ∧
    (∃ (s : State), s.chip.starting = true) ∧
    (∃ (s : State) (_ : Word), s.chip.mayConfirm = true ∧ s.chip.parked = false) ∧
    (∃ (s : State), s.chip.kennel = true ∧ s.chip.parked = false) ∧
    (∃ (s : State) (b : List Byte), ((natBytes b).head? = some 0x55 && ((natBytes b).length = 8 + leNat (((natBytes b).drop 2).take 2) && leNat ((natBytes b).drop (4 + leNat (((natBytes b).drop 2).take 2))) = crcOf 0 (((natBytes b).drop 1).take (3 + leNat (((natBytes b).drop 2).take 2))))) = true ∧ (natBytes b).getD 1 0 = 0xA1 ∧ s.chip.uartServes = true) ∧
    (∃ (s : State) (b : List Byte), ((natBytes b).head? = some 0x55 && ((natBytes b).length = 8 + leNat (((natBytes b).drop 2).take 2) && leNat ((natBytes b).drop (4 + leNat (((natBytes b).drop 2).take 2))) = crcOf 0 (((natBytes b).drop 1).take (3 + leNat (((natBytes b).drop 2).take 2))))) = true ∧ (natBytes b).getD 1 0 = 0xA4 ∧ s.chip.ld.lastOut ≠ []) :=
  ⟨⟨(let y : Chip := {}; { chip := { y with rs := { y.rs with reach := 2, levels := [] } } }), ⟨0, 0, false, false, true, false, false⟩, by decide +kernel⟩, ⟨(let y : Chip := {}; { chip := { y with rs := { y.rs with reach := 2, levels := [0] } } }), ⟨0, 0, false, false, true, false, false⟩, [0], by decide +kernel⟩, ⟨{}, ⟨List.replicate 16 5, 4096, false, 1⟩, by decide +kernel⟩, ⟨(let y : Chip := {}; { chip := { y with rs := { y.rs with reach := 0, timed := true } } }), by decide +kernel⟩, ⟨(let y : Chip := (({} : Chip).set CK_STAT_PLL_LOCK 1).set GL_SEC_UP 1; { chip := { y with rs := { y.rs with trained := true, loaded := true } } }), 5, by decide +kernel⟩, ⟨{ chip := (({} : Chip).set RB_STAT_KENNEL 1).setMode GL_MODE_INTEG 2 }, by decide +kernel⟩, ⟨{ chip := (({} : Chip).set RB_STAT_KENNEL 1).setMode GL_MODE_INTEG 2 }, [85, 161, 16, 0, 0, 0, 0, 0, 0, 0, 0, 0, 0, 0, 0, 0, 0, 0, 0, 0, 64, 8, 81, 31], by decide +kernel⟩, ⟨(let y : Chip := {}; { chip := { y with ld := { y.ld with lastOut := [1] } } }), [85, 164, 0, 0, 55, 139, 217, 148], by decide +kernel⟩⟩

/-- The hypotheses of each clause of PowerCommandsComplete are met. -/
theorem witness_PowerCommandsComplete :
    (∃ (s : State) (c : Call), s.chip.dispatchedCall opPowerModeSet c = true ∧ s.chip.pw.target = none ∧ s.chip.bl.propose = none ∧ c.w 0 = 0 ∧ s.chip.powerDenied 0 = false ∧ s.chip.get GL_MODE_POWER = 1 ∧ s.chip.on GL_MODE_THERM_DIM = false ∧ s.chip.bit GL_MODE_BUSY 0 = false ∧ s.chip.parked = false) ∧
    (∃ (s : State) (c : Call), s.chip.dispatchedCall opPowerModeSet c = true ∧ s.chip.pw.target = none ∧ s.chip.bl.propose = none ∧ c.w 0 = 2 ∧ s.chip.powerDenied 2 = false ∧ s.chip.get GL_MODE_POWER ≠ 2 ∧ s.chip.get GL_MODE_PAIR ≠ 1 ∧ s.chip.parked = false) ∧
    (∃ (s : State) (c : Call), s.chip.dispatchedCall opPowerModeSet c = true ∧ s.chip.pw.target = none ∧ s.chip.bl.propose = none ∧ c.w 0 = 3 ∧ s.chip.powerDenied 3 = false ∧ s.chip.get GL_MODE_POWER ≠ 3 ∧ s.chip.get GL_MODE_PAIR ≠ 1 ∧ s.chip.parked = false) ∧
    (∃ (s : State) (c : Call), s.chip.dispatchedCall opModeQuery c = true ∧ s.chip.parked = false) ∧
    (∃ (s : State) (c : Call), s.chip.dispatchedCall opDegradedClear c = true ∧ s.chip.on GL_DEG_CAUSE_TRIM_DEFAULT = false ∧ s.chip.on GL_DEG_CAUSE_CHAN_RETIRED = false ∧ s.chip.parked = false) ∧
    (∃ (s : State) (c : Call), s.chip.dispatchedCall opThermalQuery c = true ∧ s.chip.parked = false) ∧
    (∃ (s : State) (c : Call), s.chip.dispatchedCall opParkFaceSet c = true ∧ c.q 0 = 0 ∧ c.w 2 = 0 ∧ s.chip.parked = false) ∧
    (∃ (s : State) (c : Call), s.chip.dispatchedCall opParkFaceSet c = true ∧ c.q 0 ≠ 0 ∧ (s.chip.ownRange c.fn (c.q 0) 1 [0]).isNone = false ∧ 36 ≤ c.w 2 ∧ c.w 2 ≤ 45092 ∧ (s.chip.ownRange c.fn (c.q 0) (c.w 2) [0]).isNone = false ∧ s.chip.faceWrong (readBytes s.mem s.chip (c.q 0) (c.w 2)) = none ∧ c.w 2 = 36 + 11 * fieldLe (readBytes s.mem s.chip (c.q 0) (c.w 2)) 0x16 2 * fieldLe (readBytes s.mem s.chip (c.q 0) (c.w 2)) 0x14 1 / 8 ∧ s.chip.parked = false) :=
  ⟨⟨(wit opPowerModeSet [0] 0 (fun x => x.set GL_MODE_POWER 1)), (call [0] 0), by decide +kernel⟩, ⟨(wit opPowerModeSet [2] 0 id), (call [2] 0), by decide +kernel⟩, ⟨(wit opPowerModeSet [3] 0 id), (call [3] 0), by decide +kernel⟩, ⟨(wit opModeQuery [] 0 id), (call [] 0), by decide +kernel⟩, ⟨(wit opDegradedClear [] 0 (fun x => (x.set GL_MODE_INTEG 1).set GL_DEG_CAUSE_LOCKSTEP 1)), (call [] 0), by decide +kernel⟩, ⟨(wit opThermalQuery [] 0 id), (call [] 0), by decide +kernel⟩, ⟨(wit opParkFaceSet [0, 0, 0] 0 id), (call [0, 0, 0] 0), by decide +kernel⟩, ⟨{ (wit opParkFaceSet [0, 196612, 124] 0 (fun x => withEntry (((x.set HDn_HTIME0_HACTIVE 64 0).set HDn_VTIME0_VACTIVE 32 0)))) with mem := writeCells [] (storeBytes (wit opParkFaceSet [0, 196612, 124] 0 (fun x => withEntry (((x.set HDn_HTIME0_HACTIVE 64 0).set HDn_VTIME0_VACTIVE 32 0)))).chip (196612 * 2 ^ 32) [1, 0, 67, 70, 0, 0, 0, 0, 64, 0, 16, 0, 0, 0, 0, 0, 0, 0, 0, 0, 8, 1, 8, 0, 0, 0, 0, 0, 0, 0, 0, 0, 0, 0, 0, 0, 0, 0, 0, 0, 0, 0, 0, 0, 0, 0, 0, 0, 0, 0, 0, 0, 0, 0, 0, 0, 0, 0, 0, 0, 0, 0, 0, 0, 0, 0, 0, 0, 0, 0, 0, 0, 0, 0, 0, 0, 0, 0, 0, 0, 0, 0, 0, 0, 0, 0, 0, 0, 0, 0, 0, 0, 0, 0, 0, 0, 0, 0, 0, 0, 0, 0, 0, 0, 0, 0, 0, 0, 0, 0, 0, 0, 0, 0, 0, 0, 0, 0, 0, 0, 251, 2, 40, 58]) }, (call [0, 196612, 124] 0), by decide +kernel⟩⟩

/-- The hypotheses of each clause of PowerEventsComplete are met. -/
theorem witness_PowerEventsComplete :
    (∃ (s : State) (h : MsgHdr) (_ : BitVec 8), (s.chip.blTake h 5 4 false).2 = true ∧ (s.chip.blTake h 5 4 false).1.follow = false ∧ s.chip.parked = false) ∧
    (∃ (s : State) (h : MsgHdr), (s.chip.blTake h 5 4 false).2 = true ∧ (s.chip.blTake h 5 4 false).1.follow = true ∧ (s.chip.blTake h 5 4 false).1.kennel = false ∧ (s.chip.blTake h 5 4 false).1.get RJ_SESSION_ROLE = 0 ∧ (s.chip.blTake h 5 4 false).1.pw.target = none ∧ (s.chip.blTake h 5 4 false).1.get GL_MODE_POWER < 2 ∧ s.chip.parked = false) ∧
    (∃ (s : State) (h : MsgHdr) (c : Call) (m : Nat), (s.chip.blTake h 5 4 false).2 = true ∧ (s.chip.blTake h 5 4 false).1.bl.propose = some (c, m) ∧ s.chip.parked = false) ∧
    (∃ (s : State) (h : MsgHdr) (c : Call), (s.chip.blTake h 5 4 false).2 = true ∧ (s.chip.blTake h 5 4 false).1.bl.propose = some (c, 2) ∧ ({ (s.chip.blTake h 5 4 false).1 with bl := { (s.chip.blTake h 5 4 false).1.bl with propose := none } } : Chip).powerDenied 2 = false ∧ s.chip.parked = false) ∧
    (∃ (s : State) (c : Call) (m : Nat), s.chip.bl.propose = some (c, m) ∧ s.chip.parked = false) ∧
    (∃ (s : State) (h : MsgHdr) (m : Nat), (s.chip.blTake h 5 0 false).2 = true ∧ (s.chip.blTake h 5 0 false).1.pw.target = some m ∧ 2 ≤ m ∧ s.chip.parked = false) ∧
    (∃ (s : State) (_ : Temps), s.chip.get GL_MODE_POWER ≠ 3 ∧ s.chip.parked = false) ∧
    (∃ (s : State), s.chip.get GL_MODE_POWER ≠ 3 ∧ s.chip.on GL_MODE_THERM_DIM = true ∧ toS 16 (s.chip.get GL_THERM_TJ) < 1050 ∧ s.chip.parked = false) ∧
    (∃ (s : State) (p : Fin 48) (_ : Wake), 32 ≤ p.val ∧ bitAt (s.chip.get GL_WAKE_EN1_GPIO) (p - 32) = true) ∧
    (∃ (s : State) (p : Fin 48) (_ : Wake), p.val < 32 ∧ bitAt (s.chip.get GL_WAKE_EN0_GPIO) p = true) ∧
    (∃ (s : State) (_ : Wake), s.chip.alarmDue = true) ∧
    (∃ (s : State) (_ : Wake), s.chip.on GL_WAKE_EN1_PCIE = true) ∧
    (∃ (s : State) (p : Fin 16) (_ : Wake), s.chip.on GL_WAKE_EN1_TOUCH = true ∧ s.chip.on TPn_STAT_RUN p = true) ∧
    (∃ (s : State), s.chip.pw.wakeLow = true) ∧
    (∃ (s : State), s.chip.get GL_MODE_POWER = 3 ∧ s.chip.pw.faceImg ≠ []) ∧
    (∃ (s : State), s.chip.pw.target = some 3 ∧ s.chip.parked = false) :=
  ⟨⟨{ chip := blUp {} }, ⟨0, 0, false, 1⟩, 2, by decide +kernel⟩, ⟨{ chip := blUp (({} : Chip).set GL_MODE_PAIR 2) }, ⟨0, 0, false, 1⟩, by decide +kernel⟩, ⟨(let y : Chip := blUp {}; { chip := { y with bl := { y.bl with propose := some (call [2], 2) } } }), ⟨0, 0, false, 1⟩, call [2], 2, by decide +kernel⟩, ⟨(let y : Chip := blUp {}; { chip := { y with bl := { y.bl with propose := some (call [2], 2) } } }), ⟨0, 0, false, 1⟩, call [2], by decide +kernel⟩, ⟨(let y : Chip := {}; { chip := { y with bl := { y.bl with propose := some (call [2], 2) } } }), call [2], 2, by decide +kernel⟩, ⟨(let y : Chip := blUp {}; { chip := { y with pw := { y.pw with target := some 3 } } }), ⟨0, 0, false, 1⟩, 3, by decide +kernel⟩, ⟨{}, ⟨250, 250, 250, 250, 250, 250, 250, 250⟩, by decide +kernel⟩, ⟨{ chip := ({} : Chip).set GL_MODE_THERM_DIM 1 }, by decide +kernel⟩, ⟨{ chip := ({} : Chip).set GL_WAKE_EN1_GPIO 32768 }, 47, ⟨⟨250, 250, 250, 250, 250, 250, 250, 250⟩, 0⟩, by decide +kernel⟩, ⟨{ chip := ({} : Chip).set GL_WAKE_EN0_GPIO 2147483648 }, 31, ⟨⟨250, 250, 250, 250, 250, 250, 250, 250⟩, 0⟩, by decide +kernel⟩, ⟨{ chip := ({} : Chip).set GL_WAKE_EN1_ALARM 1 }, ⟨⟨250, 250, 250, 250, 250, 250, 250, 250⟩, 0⟩, by decide +kernel⟩, ⟨{ chip := ({} : Chip).set GL_WAKE_EN1_PCIE 1 }, ⟨⟨250, 250, 250, 250, 250, 250, 250, 250⟩, 0⟩, by decide +kernel⟩, ⟨{ chip := (({} : Chip).set GL_WAKE_EN1_TOUCH 1).set TPn_STAT_RUN 1 15 }, 15, ⟨⟨250, 250, 250, 250, 250, 250, 250, 250⟩, 0⟩, by decide +kernel⟩, ⟨(let y : Chip := {}; { chip := { y with pw := { y.pw with wakeLow := true } } }), by decide +kernel⟩, ⟨(let y : Chip := ({} : Chip).set GL_MODE_POWER 3; { chip := { y with pw := { y.pw with faceImg := [1] } } }), by decide +kernel⟩, ⟨(let y : Chip := {}; { chip := { y with pw := { y.pw with target := some 3, stage := 1 } } }), by decide +kernel⟩⟩

/-- The hypotheses of each clause of OutcomesComplete are met. -/
theorem witness_OutcomesComplete :
    (∃ s : State, s.chip.parked = false) :=
  ⟨{}, by decide +kernel⟩

/-- The hypotheses of each clause of RoleCommandsComplete are met. -/
theorem witness_RoleCommandsComplete :
    (∃ (s : State) (c : Call), s.chip.dispatchedCall opClaimRole c = true ∧ s.chip.claimMode (bits (c.w 0) 0 2) = false ∧ bits (c.w 0) 0 2 ≠ 0 ∧ bits (c.w 0) 0 2 ≠ 3 ∧ bitAt (c.w 0) 8 = false ∧ c.words.length = 1 ∧ s.chip.on RJ_SESSION_LOCKOUT = false ∧ (s.chip.roleKey (bits (c.w 0) 0 2)).isNone = false ∧ s.chip.parked = false) ∧
    (∃ (s : State) (c : Call) (k : List Nat) (ch : List Nat × Nat), s.chip.dispatchedCall opClaimRole c = true ∧ s.chip.claimMode (bits (c.w 0) 0 2) = false ∧ bits (c.w 0) 0 2 ≠ 0 ∧ bits (c.w 0) 0 2 ≠ 3 ∧ bitAt (c.w 0) 8 = true ∧ c.words.length = 9 ∧ s.chip.on RJ_SESSION_LOCKOUT = false ∧ s.chip.roleKey (bits (c.w 0) 0 2) = some k ∧ s.chip.rj.challenge = some ch ∧ s.chip.accessWaits = false ∧ s.chip.parked = false) ∧
    (∃ (s : State) (c : Call), s.chip.dispatchedCall opReleaseRole c = true ∧ s.chip.get RJ_SESSION_ROLE ≠ 0 ∧ bitAt (c.w 0) 0 = true ∧ s.chip.accessWaits = false ∧ s.chip.parked = false) ∧
    (∃ (s : State) (c : Call), s.chip.dispatchedCall opReleaseRole c = true ∧ s.chip.get RJ_SESSION_ROLE ≠ 0 ∧ bitAt (c.w 0) 0 = false ∧ s.chip.accessWaits = false ∧ s.chip.parked = false) ∧
    (∃ (s : State) (c : Call), s.chip.dispatchedCall opJournalQuery c = true ∧ s.chip.parked = false) ∧
    (∃ (s : State) (c : Call), s.chip.dispatchedCall opJournalExport c = true ∧ 0 < c.w 1 ∧ c.w 1 ≤ 4096 ∧ (s.chip.ownRange c.fn (c.q 2) (64 * c.w 1) [0]).isNone = false ∧ bitAt (c.w 4) 0 = false ∧ s.chip.parked = false) ∧
    (∃ (s : State) (c : Call), s.chip.dispatchedCall opInstallerKeySet c = true ∧ bitAt (c.w 0) 0 = true ∧ s.chip.parked = false) ∧
    (∃ (s : State) (c : Call) (k : List Nat), s.chip.dispatchedCall opInstallerKeySet c = true ∧ bitAt (c.w 0) 0 = false ∧ keyUnwrap s.chip.makerKey (callBytes c 1 10) = some k ∧ s.chip.parked = false) ∧
    (∃ (s : State) (c : Call) (k : List Nat), s.chip.dispatchedCall opRoleKeySet c = true ∧ keyUnwrap s.chip.makerKey (callBytes c 0 10) = some k ∧ s.chip.parked = false) ∧
    (∃ (s : State) (c : Call), s.chip.dispatchedCall opTwinHashSet c = true ∧ s.chip.parked = false) ∧
    (∃ (s : State) (c : Call), s.chip.dispatchedCall opSafetyLimitSet c = true ∧ s.chip.parked = false) ∧
    (∃ s : State, s.chip.parked = false) ∧
    (∃ (s : State), s.chip.canFlush = true ∧ s.chip.drainJournal.rj.gap = 0 ∧ s.chip.parked = false) :=
  ⟨⟨(wit opClaimRole [2] 0 id), (call [2] 0), by decide +kernel⟩, ⟨(wit opClaimRole [257, 0, 0, 0, 0, 0, 0, 0, 0] 0 (fun x => { x with nv := { x.nv with installer := some [] }, rj := { x.rj with challenge := some ([], 0) } })), (call [257, 0, 0, 0, 0, 0, 0, 0, 0] 0), [], ([], 0), by decide +kernel⟩, ⟨(wit opReleaseRole [1] 0 (fun x => x.set RJ_SESSION_ROLE 1)), (call [1] 0), by decide +kernel⟩, ⟨(wit opReleaseRole [0] 0 (fun x => x.set RJ_SESSION_ROLE 1)), (call [0] 0), by decide +kernel⟩, ⟨(wit opJournalQuery [] 0 id), (call [] 0), by decide +kernel⟩, ⟨(wit opJournalExport [0, 2, 0, 196612, 0] 0 withEntry), (call [0, 2, 0, 196612, 0] 0), by decide +kernel⟩, ⟨(wit opInstallerKeySet [1] 0 id), (call [1] 0), by decide +kernel⟩, ⟨(wit opInstallerKeySet [0, 83151144, 4094736580, 1555287243, 653821947, 3800454975, 651366104, 3891316683, 1005885722, 2609617147, 568132218] 0 (fun x => { x with nv := { x.nv with maker := some [0, 1, 2, 3, 4, 5, 6, 7, 8, 9, 10, 11, 12, 13, 14, 15, 16, 17, 18, 19, 20, 21, 22, 23, 24, 25, 26, 27, 28, 29, 30, 31] } })), (call [0, 83151144, 4094736580, 1555287243, 653821947, 3800454975, 651366104, 3891316683, 1005885722, 2609617147, 568132218] 0), [0, 17, 34, 51, 68, 85, 102, 119, 136, 153, 170, 187, 204, 221, 238, 255, 0, 1, 2, 3, 4, 5, 6, 7, 8, 9, 10, 11, 12, 13, 14, 15], by decide +kernel⟩, ⟨(wit opRoleKeySet [83151144, 4094736580, 1555287243, 653821947, 3800454975, 651366104, 3891316683, 1005885722, 2609617147, 568132218] 0 (fun x => { x with nv := { x.nv with maker := some [0, 1, 2, 3, 4, 5, 6, 7, 8, 9, 10, 11, 12, 13, 14, 15, 16, 17, 18, 19, 20, 21, 22, 23, 24, 25, 26, 27, 28, 29, 30, 31] } })), (call [83151144, 4094736580, 1555287243, 653821947, 3800454975, 651366104, 3891316683, 1005885722, 2609617147, 568132218] 0), [0, 17, 34, 51, 68, 85, 102, 119, 136, 153, 170, 187, 204, 221, 238, 255, 0, 1, 2, 3, 4, 5, 6, 7, 8, 9, 10, 11, 12, 13, 14, 15], by decide +kernel⟩, ⟨(wit opTwinHashSet [] 0 id), (call [] 0), by decide +kernel⟩, ⟨(wit opSafetyLimitSet [] 0 id), (call [] 0), by decide +kernel⟩, ⟨{}, by decide +kernel⟩, ⟨{ chip := ({} : Chip).set GL_SEC_UP 1 }, by decide +kernel⟩⟩

/-- The hypotheses of each clause of SecureCommandsComplete are met. -/
theorem witness_SecureCommandsComplete :
    (∃ (s : State) (c : Call), s.chip.dispatchedCall opSecureRelease c = true ∧ bits (c.w 0) 0 4 = 7 ∧ (bits (c.w 0) 8 8) < kindCount 7 ∧ (c.w 0 != 7 + 256 * (bits (c.w 0) 8 8)) = false ∧ s.chip.inUse 7 (bits (c.w 0) 8 8) = true ∧ s.chip.parked = false) ∧
    (∃ (s : State) (c : Call) (u i : Nat) (k : Nat × List Nat), s.chip.dispatchedCall opProtLayerLoad c = true ∧ c.w 0 < 16 ∧ s.chip.on HDn_STAT_RUN (c.w 0) = true ∧ s.chip.on CP_HEADn_CFG_PROT (c.w 0) = true ∧ s.chip.protUnit (c.w 0) = some u ∧ (s.chip.ownRange c.fn (c.q 1) 1 [0, 3]).isNone = false ∧ 192 ≤ c.w 3 ∧ (s.chip.ownRange c.fn (c.q 1) (c.w 3) [0, 3]).isNone = false ∧ recordOk (readBytes s.mem s.chip (c.q 1) (c.w 3)) = true ∧ (s.chip.nv.prot.find? fun q => q.1 = fieldLe (readBytes s.mem s.chip (c.q 1) (c.w 3)) 4 1) = some k ∧ ecdsaOk k.2 ((readBytes s.mem s.chip (c.q 1) (c.w 3)).drop (c.w 3 - 64)) ((readBytes s.mem s.chip (c.q 1) (c.w 3)).take (c.w 3 - 64)) = true ∧ s.chip.get SW_PSEQn_SEQ (c.w 0) < fieldLe (readBytes s.mem s.chip (c.q 1) (c.w 3)) 8 4 ∧ s.chip.recordFits (c.w 0) (recordLayer (readBytes s.mem s.chip (c.q 1) (c.w 3)) 0) = true ∧ (s.chip.missing (c.w 0) u (lyBytes2 (recordLayer (readBytes s.mem s.chip (c.q 1) (c.w 3)) 0)) != 0) = false ∧ s.chip.freeIndex = some i ∧ ceilDiv (c.w 3) 1048576 ≤ s.chip.get HB_FREE_MIB_MIB ∧ (s.chip.unitQueue u).length < 4 ∧ s.chip.parked = false) ∧
    (∃ (s : State) (c : Call), s.chip.dispatchedCall opProtKeySet c = true ∧ (c.w 0 != bits (c.w 0) 0 2 + 256 * bits (c.w 0) 8 1) = false ∧ bitAt (c.w 0) 8 = true ∧ s.chip.parked = false) ∧
    (∃ (s : State) (c : Call), s.chip.dispatchedCall opProtKeySet c = true ∧ (c.w 0 != bits (c.w 0) 0 2 + 256 * bits (c.w 0) 8 1) = false ∧ bitAt (c.w 0) 8 = false ∧ onCurve (beWord ((callBytes c 1 16).take 32)) (beWord ((callBytes c 1 16).drop 32)) = true ∧ s.chip.parked = false) ∧
    (∃ (s : State) (c : Call), s.chip.dispatchedCall opStaleLimitSet c = true ∧ c.w 0 ≤ 500 ∧ c.w 1 ≤ 2 ∧ c.w 3 ≤ 65535 ∧ s.chip.parked = false) ∧
    (∃ (s : State) (c : Call), s.chip.dispatchedCall opSecureRestart c = true ∧ s.chip.parked = false) :=
  ⟨⟨(wit opSecureRelease [5895] 0 (fun x => (x.set CVn_CFG_BOUND 1 23).set CVn_CFG_WORLD 1 23)), (call [5895] 0), by decide +kernel⟩, ⟨{ (wit opProtLayerLoad [15, 0, 196612, 448] 0 (fun x => recordChip x)) with mem := writeCells [] (storeBytes (wit opProtLayerLoad [15, 0, 196612, 448] 0 (fun x => recordChip x)).chip (196612 * 2 ^ 32) goodRecord) }, (call [15, 0, 196612, 448] 0), 5, 0, (3, goodRecordKey), by decide +kernel⟩, ⟨(wit opProtKeySet [259] 0 id), (call [259] 0), by decide +kernel⟩, ⟨(wit opProtKeySet [3, 3700281531, 3033774712, 3606637505, 1650445011, 3641229089, 652989402, 1128926427, 2282900757, 2422660292, 3535272728, 3124197256, 312533218, 2611514926, 2716822242, 3078818687, 2242024506] 0 id), (call [3, 3700281531, 3033774712, 3606637505, 1650445011, 3641229089, 652989402, 1128926427, 2282900757, 2422660292, 3535272728, 3124197256, 312533218, 2611514926, 2716822242, 3078818687, 2242024506] 0), by decide +kernel⟩, ⟨(wit opStaleLimitSet [500, 2, 1, 65535] 0 id), (call [500, 2, 1, 65535] 0), by decide +kernel⟩, ⟨(wit opSecureRestart [] 0 id), (call [] 0), by decide +kernel⟩⟩

/-- The hypotheses of each clause of SecureEventsComplete are met. -/
theorem witness_SecureEventsComplete :
    (∃ (s : State) (n : Fin 4) (i m : Word) (_ : BitVec 64), s.chip.pairSecure (pairOf n) = false ∧ s.chip.on GL_SEC_UP = true ∧ i.toNat ≤ 31 ∧ s.chip.on SW_CTL_ENTRY_LOCK = true ∧ s.chip.on SW_ENTRYe_LO_VALID i.toNat = true ∧ m.toNat = 0xA5C30E7B ∧ s.chip.parked = false) ∧
    (∃ (s : State) (n : Fin 4) (_ _ : Word) (_ : BitVec 64), s.chip.pairSecure (pairOf n) = false ∧ s.chip.on GL_SEC_UP = false ∧ s.chip.parked = false) ∧
    (∃ (s : State) (n : Fin 4), s.chip.pairSecure (pairOf n) = true ∧ s.chip.sw.cleared.contains (pairOf n) = false ∧ s.chip.parked = false) ∧
    (∃ s : State, s.chip.parked = false) ∧
    (∃ (s : State), s.chip.sw.wdog.isSome = true ∧ s.chip.parked = false) ∧
    (∃ (s : State), s.chip.on GL_SEC_UP = true ∧ s.chip.sw.wdog.isSome = true ∧ s.chip.parked = false) ∧
    (∃ (s : State), s.chip.on GL_SEC_UP = true ∧ s.chip.parked = false) ∧
    (∃ (s : State), s.chip.on GL_SEC_RESTARTING = true ∧ s.chip.parked = false) ∧
    (∃ (s : State), s.chip.on GL_SEC_UP = false ∧ s.chip.on GL_SEC_HALTED = false ∧ s.chip.kennel = false ∧ s.chip.sw.restart = none ∧ s.chip.parked = false) ∧
    (∃ (s : State) (c : Call) (t : Nat), s.chip.on GL_SEC_UP = false ∧ s.chip.on GL_SEC_HALTED = false ∧ s.chip.kennel = false ∧ s.chip.sw.restart = some (some c, t) ∧ s.chip.parked = false) :=
  ⟨⟨{ chip := ((({} : Chip).set GL_SEC_UP 1).set SW_CTL_ENTRY_LOCK 1).set SW_ENTRYe_LO_VALID 1 31 }, 3, 31, 0xA5C30E7B, 7, by decide +kernel⟩, ⟨{}, 3, 31, 0xA5C30E7B, 7, by decide +kernel⟩, ⟨(let y : Chip := {}; { chip := { y with sw := { y.sw with pairs := [(true, 5), (true, 5)] } } }), 3, by decide +kernel⟩, ⟨{}, by decide +kernel⟩, ⟨(let y : Chip := {}; { chip := { y with sw := { y.sw with wdog := some 0 } } }), by decide +kernel⟩, ⟨(let y : Chip := ({} : Chip).set GL_SEC_UP 1; { chip := { y with sw := { y.sw with wdog := some 0 } } }), by decide +kernel⟩, ⟨{ chip := ({} : Chip).set GL_SEC_UP 1 }, by decide +kernel⟩, ⟨{ chip := ({} : Chip).set GL_SEC_RESTARTING 1 }, by decide +kernel⟩, ⟨{}, by decide +kernel⟩, ⟨(let y : Chip := {}; { chip := { y with sw := { y.sw with restart := some (some (call []), 0) } } }), call [], 0, by decide +kernel⟩⟩

/-- The hypotheses of each clause of RenderCommandsComplete are met. -/
theorem witness_RenderCommandsComplete :
    (∃ (s : State) (c : Call), s.chip.dispatchedCall opRenderSubmit c = true ∧ c.q 0 % 256 = 0 ∧ (s.chip.ownRange c.who (c.q 0) 256 guestClasses).isNone = false ∧ renderBad s.mem s.chip c.who (readBytes s.mem s.chip (c.q 0) 256) = none ∧ s.chip.jobRoom c.who false = true ∧ s.chip.parked = false) ∧
    (∃ (s : State) (c : Call), s.chip.dispatchedCall opComputeSubmit c = true ∧ c.q 0 % 128 = 0 ∧ (s.chip.ownRange c.who (c.q 0) 128 guestClasses).isNone = false ∧ computeBad s.chip c.who (readBytes s.mem s.chip (c.q 0) 128) = none ∧ s.chip.jobRoom c.who true = true ∧ s.chip.parked = false) ∧
    (∃ (s : State) (c : Call), s.chip.dispatchedCall opRenderBarrier c = true ∧ c.w 0 < 16 ∧ c.w 0 % 4 ≠ 0 ∧ c.w 0 / 4 ≠ 0 ∧ s.chip.parked = false) ∧
    (∃ (s : State) (c : Call) (j : Job), s.chip.dispatchedCall opBinGrow c = true ∧ (s.chip.gx.jobs.find? fun j => j.is c.who (c.w 0) && !j.compute) = some j ∧ c.w 3 = 0 ∧ j.st = .binWait ∧ s.chip.parked = false) ∧
    (∃ (s : State) (c : Call) (j : Job), s.chip.dispatchedCall opBinGrow c = true ∧ (s.chip.gx.jobs.find? fun j => j.is c.who (c.w 0) && !j.compute) = some j ∧ c.w 3 = 0 ∧ j.st ≠ .binWait ∧ s.chip.parked = false) ∧
    (∃ (s : State) (c : Call) (j : Job), s.chip.dispatchedCall opBinGrow c = true ∧ (s.chip.gx.jobs.find? fun j => j.is c.who (c.w 0) && !j.compute) = some j ∧ c.w 3 ≠ 0 ∧ hOffset (c.q 1) = 0 ∧ (s.chip.ownRange c.who (c.q 1) 0 [4]).isNone = false ∧ s.chip.pooled (hIndex (c.q 1)) = false ∧ (s.chip.ownRange c.who (c.q 1) (c.w 3 * 65536) [4]).isNone = false ∧ j.pool.length < 32 ∧ j.st = .binWait ∧ j.cores ≠ [] ∧ s.chip.parked = false) ∧
    (∃ (s : State) (c : Call) (j : Job), s.chip.dispatchedCall opBinGrow c = true ∧ (s.chip.gx.jobs.find? fun j => j.is c.who (c.w 0) && !j.compute) = some j ∧ c.w 3 ≠ 0 ∧ hOffset (c.q 1) = 0 ∧ (s.chip.ownRange c.who (c.q 1) 0 [4]).isNone = false ∧ s.chip.pooled (hIndex (c.q 1)) = false ∧ (s.chip.ownRange c.who (c.q 1) (c.w 3 * 65536) [4]).isNone = false ∧ j.pool.length < 32 ∧ j.st = .binWait ∧ j.cores = [] ∧ s.chip.parked = false) ∧
    (∃ (s : State) (c : Call) (j : Job), s.chip.dispatchedCall opBinGrow c = true ∧ (s.chip.gx.jobs.find? fun j => j.is c.who (c.w 0) && !j.compute) = some j ∧ c.w 3 ≠ 0 ∧ hOffset (c.q 1) = 0 ∧ (s.chip.ownRange c.who (c.q 1) 0 [4]).isNone = false ∧ s.chip.pooled (hIndex (c.q 1)) = false ∧ (s.chip.ownRange c.who (c.q 1) (c.w 3 * 65536) [4]).isNone = false ∧ j.pool.length < 32 ∧ j.st = .spill ∧ s.chip.parked = false) ∧
    (∃ (s : State) (c : Call), s.chip.dispatchedCall opShaderLoad c = true ∧ (s.chip.ownRange c.who (c.q 0) (c.w 2) guestClasses).isNone = false ∧ c.w 2 % 4 = 0 ∧ 20 ≤ c.w 2 ∧ c.w 2 ≤ 4194304 ∧ moduleBad (bytesWords (readBytes s.mem s.chip (c.q 0) (c.w 2))) = none ∧ ((s.chip.gx.modules.filter fun m => m.fn = c.who).map (·.num)).length < 1024 ∧ s.chip.parked = false) ∧
    (∃ (s : State) (c : Call), s.chip.dispatchedCall opPipelineCreate c = true ∧ c.q 0 % 64 = 0 ∧ (s.chip.ownRange c.who (c.q 0) 256 guestClasses).isNone = false ∧ s.chip.recordBad c.who (readBytes s.mem s.chip (c.q 0) 256) = none ∧ ((s.chip.gx.pipes.filter fun p => p.fn = c.who).map (·.num)).length < 1024 ∧ s.chip.gx.pipes.length < 16384 ∧ (readBytes s.mem s.chip (c.q 0) 256).getD 4 0 = 1 ∧ s.chip.parked = false) ∧
    (∃ (s : State) (c : Call), s.chip.dispatchedCall opPipelineDestroy c = true ∧ bitAt (c.w 0) 31 = true ∧ (s.chip.shaderMod c.who (bits (c.w 0) 0 16)).isNone = false ∧ (s.chip.gx.pipes.any fun p => p.fn = c.who && (p.mods.1 = bits (c.w 0) 0 16 || p.mods.2 = bits (c.w 0) 0 16)) = false ∧ s.chip.parked = false) ∧
    (∃ (s : State) (c : Call), s.chip.dispatchedCall opPipelineDestroy c = true ∧ bitAt (c.w 0) 31 = false ∧ (s.chip.pipeline c.who (bits (c.w 0) 0 16)).isNone = false ∧ s.chip.parked = false) ∧
    (∃ (s : State) (c : Call), s.chip.dispatchedCall opShaderCacheFlush c = true ∧ s.chip.parked = false) :=
  ⟨⟨{ (wit opRenderSubmit [0, 131080] 0 (fun x => renderChip x)) with mem := writeCells [] (storeBytes (wit opRenderSubmit [0, 131080] 0 (fun x => renderChip x)).chip (131080 * 2 ^ 32) renderDesc) }, (call [0, 131080] 0), by decide +kernel⟩, ⟨{ (wit opComputeSubmit [0, 131080] 0 (fun x => renderChip x)) with mem := writeCells [] (storeBytes (wit opComputeSubmit [0, 131080] 0 (fun x => renderChip x)).chip (131080 * 2 ^ 32) computeDesc) }, (call [0, 131080] 0), by decide +kernel⟩, ⟨(wit opRenderBarrier [15] 0 id), (call [15] 0), by decide +kernel⟩, ⟨(wit opBinGrow [5, 0, 0, 0] 0 (fun x => withJob x { sampleJob with st := .binWait })), (call [5, 0, 0, 0] 0), { sampleJob with st := .binWait }, by decide +kernel⟩, ⟨(wit opBinGrow [5, 0, 0, 0] 0 (fun x => withJob x sampleJob)), (call [5, 0, 0, 0] 0), sampleJob, by decide +kernel⟩, ⟨(wit opBinGrow [5, 0, 196612, 16] 0 (fun x => withEntry (withJob x { sampleJob with st := .binWait }) (sampleEntry 4))), (call [5, 0, 196612, 16] 0), { sampleJob with st := .binWait }, by decide +kernel⟩, ⟨(wit opBinGrow [5, 0, 196612, 16] 0 (fun x => withEntry (withJob x { sampleJob with st := .binWait, cores := [] }) (sampleEntry 4))), (call [5, 0, 196612, 16] 0), { sampleJob with st := .binWait, cores := [] }, by decide +kernel⟩, ⟨(wit opBinGrow [5, 0, 196612, 16] 0 (fun x => withEntry (withJob x { sampleJob with st := .spill }) (sampleEntry 4))), (call [5, 0, 196612, 16] 0), { sampleJob with st := .spill }, by decide +kernel⟩, ⟨{ (wit opShaderLoad [0, 196612, 48] 0 (fun x => withEntry x)) with mem := writeCells [] (storeBytes (wit opShaderLoad [0, 196612, 48] 0 (fun x => withEntry x)).chip (196612 * 2 ^ 32) moduleBytes) }, (call [0, 196612, 48] 0), by decide +kernel⟩, ⟨{ (wit opPipelineCreate [0, 196612] 0 (fun x => withEntry { x with gx := { x.gx with modules := [⟨0, 7, moduleWords⟩] } })) with mem := writeCells [] (storeBytes (wit opPipelineCreate [0, 196612] 0 (fun x => withEntry { x with gx := { x.gx with modules := [⟨0, 7, moduleWords⟩] } })).chip (196612 * 2 ^ 32) pipeRecord) }, (call [0, 196612] 0), by decide +kernel⟩, ⟨(wit opPipelineDestroy [0x80000007] 0 (fun x => { x with gx := { x.gx with modules := [⟨0, 7, []⟩] } })), (call [0x80000007] 0), by decide +kernel⟩, ⟨(wit opPipelineDestroy [7] 0 (fun x => { x with gx := { x.gx with pipes := [⟨0, 7, true, 0, false, (7, 65535), 0, [], [], [], 0, false⟩] } })), (call [7] 0), by decide +kernel⟩, ⟨(wit opShaderCacheFlush [] 0 id), (call [] 0), by decide +kernel⟩⟩

/-- The hypotheses of each clause of DispatchCompletes are met. -/
theorem witness_DispatchCompletes :
    (∃ s : State, s.chip.parked = false) ∧
    (∃ (s : State) (r : JobRef) (j : Job), ((((s.chip.gx.jobs.filter fun j => j.cores != []).foldl Chip.accrue s.chip).endFill.readyJobs).yieldWaiting).job r.fn.val r.num.toNat = some j ∧ mayOffload s.mem ((((s.chip.gx.jobs.filter fun j => j.cores != []).foldl Chip.accrue s.chip).endFill.readyJobs).yieldWaiting) j = true ∧ s.chip.parked = false) ∧
    (∃ (s : State) (r : JobRef) (j : Job), ((((s.chip.gx.jobs.filter fun j => j.cores != []).foldl Chip.accrue s.chip).endFill.readyJobs).yieldWaiting).job r.fn.val r.num.toNat = some j ∧ mayOffload s.mem ((((s.chip.gx.jobs.filter fun j => j.cores != []).foldl Chip.accrue s.chip).endFill.readyJobs).yieldWaiting) j = false ∧ s.chip.parked = false) ∧
    (∃ (s : State) (r : JobRef) (j : Job), s.chip.job r.fn.val r.num.toNat = some j ∧ j.st = .binning ∧ j.cores ≠ [] ∧ (j.pos.2 ≠ 0 ∨ (drawOk s.mem s.chip j j.pos.1 = true ∧ badIndex s.mem s.chip j j.pos.1 = none)) ∧ s.chip.parked = false) ∧
    (∃ (s : State) (r : JobRef) (j : Job), s.chip.job r.fn.val r.num.toNat = some j ∧ j.st = .binning ∧ j.cores ≠ [] ∧ j.pos.2 = 0 ∧ drawOk s.mem s.chip j j.pos.1 = false ∧ s.chip.parked = false) ∧
    (∃ (s : State) (r : JobRef) (j : Job) (core : Fin 24) (n : Nat), s.chip.job r.fn.val r.num.toNat = some j ∧ j.st = .tiling ∨ j.st = .spill ∧ j.cores[j.coreIndex n]? = some core.val ∧ ((List.range j.members).any fun m => (j.left m).contains n) = true ∧ s.chip.parked = false) ∧
    (∃ (s : State) (r : JobRef) (j : Job) (_ : Nat), s.chip.job r.fn.val r.num.toNat = some j ∧ j.st = .running ∧ s.chip.parked = false) ∧
    (∃ (s : State) (r : JobRef) (j : Job), s.chip.job r.fn.val r.num.toNat = some j ∧ j.preempt = true ∧ j.cores ≠ [] ∧ s.chip.jobHeel j = false ∧ s.chip.parked = false) ∧
    (∃ (s : State) (r : JobRef) (j : Job) (_ : BinUse), s.chip.job r.fn.val r.num.toNat = some j ∧ j.st = .binning ∧ j.cores ≠ [] ∧ j.old = true ∧ s.chip.parked = false) ∧
    (∃ (s : State) (r : JobRef) (j : Job) (_ : BinUse), s.chip.job r.fn.val r.num.toNat = some j ∧ j.st = .binning ∧ j.cores ≠ [] ∧ j.old = false ∧ (j.pos.2 ≠ 0 ∨ (drawOk s.mem s.chip j j.pos.1 = true ∧ badIndex s.mem s.chip j j.pos.1 = none)) ∧ blockLeft s.mem s.chip j ≠ 0 ∧ j.fn = 127 ∧ j.world = false ∧ s.chip.parked = false) ∧
    (∃ (s : State) (r : JobRef) (j : Job) (_ : BinUse), s.chip.job r.fn.val r.num.toNat = some j ∧ j.st = .binning ∧ j.cores ≠ [] ∧ j.old = false ∧ (j.pos.2 ≠ 0 ∨ (drawOk s.mem s.chip j j.pos.1 = true ∧ badIndex s.mem s.chip j j.pos.1 = none)) ∧ blockLeft s.mem s.chip j ≠ 0 ∧ (j.fn = 127 && !j.world) = false ∧ s.chip.parked = false) ∧
    (∃ (s : State) (r : JobRef) (j : Job), s.chip.job r.fn.val r.num.toNat = some j ∧ j.st = .binWait ∧ j.timer = true ∧ s.chip.parked = false) ∧
    (∃ (s : State) (r : JobRef) (j : Job), s.chip.job r.fn.val r.num.toNat = some j ∧ j.st = .spill ∧ j.cores ≠ [] ∧ s.chip.parked = false) :=
  ⟨⟨{}, by decide +kernel⟩, ⟨{ chip := offChip {} }, ⟨0, 5⟩, offJob, by decide +kernel⟩, ⟨{ chip := withJob {} sampleJob }, ⟨0, 5⟩, sampleJob, by decide +kernel⟩, ⟨{ chip := withJob {} { sampleJob with st := .binning, pos := (0, 1) } }, ⟨0, 5⟩, { sampleJob with st := .binning, pos := (0, 1) }, by decide +kernel⟩, ⟨{ chip := withJob {} { sampleJob with st := .binning } }, ⟨0, 5⟩, { sampleJob with st := .binning }, by decide +kernel⟩, ⟨{ chip := withJob {} sampleJob }, ⟨0, 5⟩, sampleJob, 0, 0, by decide +kernel⟩, ⟨{ chip := withJob {} { sampleJob with st := .running } }, ⟨0, 5⟩, { sampleJob with st := .running }, 1, by decide +kernel⟩, ⟨{ chip := withJob {} { sampleJob with preempt := true } }, ⟨0, 5⟩, { sampleJob with preempt := true }, by decide +kernel⟩, ⟨{ chip := withJob {} { sampleJob with st := .binning, old := true } }, ⟨0, 5⟩, { sampleJob with st := .binning, old := true }, ⟨1, 0, 1⟩, by decide +kernel⟩, ⟨(let y := withEntry (withJob {} { sampleJob with st := .binning, fn := 127, draws := 196612 * 2 ^ 32 }); { chip := y, mem := writeCells [] (storeBytes y (196612 * 2 ^ 32) (le 4 0 ++ (le 4 3 ++ le 4 1))) }), ⟨127, 5⟩, { sampleJob with st := .binning, fn := 127, draws := 196612 * 2 ^ 32 }, ⟨1, 0, 0⟩, by decide +kernel⟩, ⟨(let z : Chip := {}; let y := withEntry (withJob { z with gx := { z.gx with pipes := [⟨127, 0, false, 0, false, (7, 65535), 1, [], [], [], 0, false⟩] } } { sampleJob with st := .binning, fn := 127, world := true, draws := 196612 * 2 ^ 32 }); { chip := y, mem := writeCells [] (storeBytes y (196612 * 2 ^ 32) (le 4 0 ++ (le 4 3 ++ le 4 1))) }), ⟨127, 5⟩, { sampleJob with st := .binning, fn := 127, world := true, draws := 196612 * 2 ^ 32 }, ⟨1, 0, 0⟩, by decide +kernel⟩, ⟨{ chip := withJob {} { sampleJob with st := .binWait, timer := true } }, ⟨0, 5⟩, { sampleJob with st := .binWait, timer := true }, by decide +kernel⟩, ⟨{ chip := withJob {} { sampleJob with st := .spill } }, ⟨0, 5⟩, { sampleJob with st := .spill }, by decide +kernel⟩⟩

/-- The hypotheses of each clause of JobsComplete are met. -/
theorem witness_JobsComplete :
    (∃ (s : State) (r : JobRef) (j : Job), s.chip.job r.fn.val r.num.toNat = some j ∧ j.compute = false ∧ j.st = .tiling ∧ j.cores ≠ [] ∧ j.old = true ∧ s.chip.parked = false) ∧
    (∃ (s : State) (r : JobRef) (j : Job), s.chip.job r.fn.val r.num.toNat = some j ∧ j.compute = false ∧ j.st = .tiling ∧ j.cores ≠ [] ∧ j.old = false ∧ s.chip.parked = false) ∧
    (∃ (s : State) (r : JobRef) (j : Job), s.chip.job r.fn.val r.num.toNat = some j ∧ j.compute = true ∧ j.st = .running ∧ j.old = true ∧ s.chip.parked = false) ∧
    (∃ (s : State) (r : JobRef) (j : Job), s.chip.job r.fn.val r.num.toNat = some j ∧ j.compute = true ∧ j.st = .running ∧ j.old = false ∧ s.chip.parked = false) ∧
    (∃ s : State, s.chip.parked = false) ∧
    (∃ s : State, s.chip.parked = false) ∧
    (∃ s : State, s.chip.parked = false) :=
  ⟨⟨{ chip := withJob {} { sampleJob with old := true } }, ⟨0, 5⟩, { sampleJob with old := true }, by decide +kernel⟩, ⟨{ chip := withJob {} sampleJob }, ⟨0, 5⟩, sampleJob, by decide +kernel⟩, ⟨{ chip := withJob {} { sampleJob with compute := true, st := .running, old := true } }, ⟨0, 5⟩, { sampleJob with compute := true, st := .running, old := true }, by decide +kernel⟩, ⟨{ chip := withJob {} { sampleJob with compute := true, st := .running } }, ⟨0, 5⟩, { sampleJob with compute := true, st := .running }, by decide +kernel⟩, ⟨{}, by decide +kernel⟩, ⟨{}, by decide +kernel⟩, ⟨{}, by decide +kernel⟩⟩

/-- The hypotheses of each clause of OffloadCompletes are met. -/
theorem witness_OffloadCompletes :
    (∃ (s : State) (h : MsgHdr) (key : List Byte) (t o : Word) (data : List Byte), key.length = 32 ∧ data.length ≤ 8144 ∧ (s.chip.blTake h 3 ((key.map (·.toNat)) ++ (wordBytes t.toNat ++ (wordBytes o.toNat ++ (wordBytes (data.map (·.toNat)).length ++ data.map (·.toNat))))).length false).2 = true ∧ s.chip.parked = false) ∧
    (∃ (s : State) (h : MsgHdr) (m : OffJob), m.desc.length = (if m.compute then 128 else 256) ∧ m.pipes.length ≤ 255 ∧ (s.chip.blTake h 3 (offBody m).length false).2 = true ∧ s.chip.parked = false) ∧
    (∃ (s : State) (h : MsgHdr) (ref : Word), (s.chip.blTake h 3 (wordBytes ref.toNat ++ [0, 0, 0, 0]).length false).2 = true ∧ s.chip.parked = false) ∧
    (∃ (s : State) (h : MsgHdr) (ref : Word) (r : BitVec 8), r.toNat ≠ 0 ∧ (s.chip.blTake h 3 (wordBytes ref.toNat ++ [r.toNat, 0, 0, 0]).length false).2 = true ∧ s.chip.parked = false) ∧
    (∃ (s : State) (h : MsgHdr) (ref : Word) (idx : Fin 8192) (tag : BitVec 16) (off : BitVec 64) (data : List Byte), data ≠ [] ∧ data.length ≤ 4096 ∧ (s.chip.blTake h 3 (wordBytes ref.toNat ++ (halfBytes idx.val ++ (halfBytes tag.toNat ++ (longBytes off.toNat ++ (wordBytes (data.map (·.toNat)).length ++ data.map (·.toNat)))))).length false).2 = true ∧ s.chip.parked = false) ∧
    (∃ (s : State) (h : MsgHdr) (ref : Word) (sp : BitVec 8) (us rs : Word) (o : OffOut), (s.chip.blTake h 3 (wordBytes ref.toNat ++ ([1, sp.toNat, 0, 0] ++ (wordBytes us.toNat ++ wordBytes rs.toNat))).length false).2 = true ∧ ((((⟨(s.chip.blTake h 3 (wordBytes ref.toNat ++ ([1, sp.toNat, 0, 0] ++ (wordBytes us.toNat ++ wordBytes rs.toNat))).length false).1, s.mem, []⟩ : Work).cvTap 51 (wordBytes ref.toNat ++ ([1, sp.toNat, 0, 0] ++ (wordBytes us.toNat ++ wordBytes rs.toNat))))).x.bl.offOut.find? fun o => o.ref = ref.toNat) = some o ∧ s.chip.parked = false) ∧
    (∃ (s : State) (h : MsgHdr) (ref : Word) (sp : BitVec 8) (us rs : Word) (o : OffOut), (s.chip.blTake h 3 (wordBytes ref.toNat ++ ([0, sp.toNat, 0, 0] ++ (wordBytes us.toNat ++ wordBytes rs.toNat))).length false).2 = true ∧ ((((⟨(s.chip.blTake h 3 (wordBytes ref.toNat ++ ([0, sp.toNat, 0, 0] ++ (wordBytes us.toNat ++ wordBytes rs.toNat))).length false).1, s.mem, []⟩ : Work).cvTap 51 (wordBytes ref.toNat ++ ([0, sp.toNat, 0, 0] ++ (wordBytes us.toNat ++ wordBytes rs.toNat))))).x.bl.offOut.find? fun o => o.ref = ref.toNat) = some o ∧ s.chip.parked = false) ∧
    (∃ (s : State) (h : MsgHdr) (ref : Word), (s.chip.blTake h 3 (wordBytes ref.toNat).length false).2 = true ∧ s.chip.parked = false) :=
  ⟨⟨{ chip := blUp ({}) }, ⟨0, 0, false, 1⟩, List.replicate 32 0, 4, 0, [1, 2, 3, 4], by decide +kernel⟩, ⟨{ chip := blUp (offInChip {}) }, ⟨0, 0, false, 1⟩, ⟨1, true, 0, (compDesc).map (BitVec.ofNat 8), []⟩, by decide +kernel⟩, ⟨{ chip := blUp ({}) }, ⟨0, 0, false, 1⟩, 7, by decide +kernel⟩, ⟨{ chip := blUp ({}) }, ⟨0, 0, false, 1⟩, 7, 4, by decide +kernel⟩, ⟨{ chip := blUp ((let y : Chip := {}; { y with bl := { y.bl with offOut := [⟨7, 0, 5, true, 0⟩] } })) }, ⟨0, 0, false, 1⟩, 7, 1, 3, 0, [9], by decide +kernel⟩, ⟨{ chip := blUp (let y : Chip := {}; { y with bl := { y.bl with offOut := [⟨7, 0, 5, true, 0⟩] } }) }, ⟨0, 0, false, 1⟩, 7, 2, 9, 0, ⟨7, 0, 5, true, 0⟩, by decide +kernel⟩, ⟨{ chip := blUp (let y : Chip := {}; { y with bl := { y.bl with offOut := [⟨7, 0, 5, true, 0⟩] } }) }, ⟨0, 0, false, 1⟩, 7, 2, 9, 0, ⟨7, 0, 5, true, 0⟩, by decide +kernel⟩, ⟨{ chip := blUp ({}) }, ⟨0, 0, false, 1⟩, 7, by decide +kernel⟩⟩

/-- The hypotheses of each clause of RegisterWritesComplete are met. -/
theorem witness_RegisterWritesComplete :
    (∃ (s : State) (d : Bool) (a : BitVec 25) (v : Word), s.chip.get GL_MODE_POWER ≠ 3 ∧ s.chip.present 0 = true ∧ a.toNat % 4 = 0 ∧ s.chip.pageOff a.toNat = false ∧ (⟨false, d, 0, a.toNat, v.toNat⟩ : Writer).violates = false ∧ (!s.chip.on RJ_SESSION_LOCK && commissionPage (a.toNat / 4096 * 4096)) = false) ∧
    (∃ (s : State) (d : Bool) (a : BitVec 25) (v : Word), s.chip.get GL_MODE_POWER ≠ 3 ∧ s.chip.present 0 = true ∧ a.toNat % 4 = 0 ∧ s.chip.pageOff a.toNat = false ∧ (⟨false, d, 0, a.toNat, v.toNat⟩ : Writer).violates = false ∧ (!s.chip.on RJ_SESSION_LOCK && commissionPage (a.toNat / 4096 * 4096)) = true) ∧
    (∃ (s : State) (d : Bool) (_ : Fin 65) (a : BitVec 25) (v : Word), s.chip.get GL_MODE_POWER ≠ 3 ∧ s.chip.present 0 = true ∧ a.toNat % 4 = 0 ∧ s.chip.pageOff a.toNat = false ∧ (⟨true, d, 0, a.toNat, v.toNat⟩ : Writer).violates = false) ∧
    (∃ (s : State) (_ : Bool) (a : BitVec 25) (z : Fin 65) (_ : Word), s.chip.get GL_MODE_POWER ≠ 3 ∧ s.chip.present 0 = true ∧ z ≠ 4 ∨ a.toNat % 4 ≠ 0) ∧
    (∃ (s : State) (_ : Bool) (a : BitVec 25) (_ : Word), s.chip.get GL_MODE_POWER ≠ 3 ∧ s.chip.present 0 = true ∧ a.toNat % 4 = 0 ∧ s.chip.pageOff a.toNat = true) ∧
    (∃ (s : State) (d : Bool) (a : BitVec 25) (v : Word), s.chip.get GL_MODE_POWER ≠ 3 ∧ s.chip.present 0 = true ∧ a.toNat % 4 = 0 ∧ s.chip.pageOff a.toNat = false ∧ (⟨false, d, 0, a.toNat, v.toNat⟩ : Writer).violates = true) ∧
    (∃ (s : State) (_ : Bool) (f : Fin 65) (a : BitVec 25) (_ : Word), s.chip.get GL_MODE_POWER ≠ 3 ∧ f ≠ 0 ∧ s.chip.present f = true ∧ a.toNat < 65536 ∧ a.toNat % 4 = 0) ∧
    (∃ (s : State) (_ : Bool) (f : Fin 65) (_ : BitVec 25) (_ : Fin 65) (_ : Word), s.chip.get GL_MODE_POWER ≠ 3 ∧ s.chip.present f = true) ∧
    (∃ (s : State) (_ : Bool) (a : BitVec 25) (_ : Word), s.chip.get GL_MODE_POWER ≠ 3 ∧ s.chip.present 0 = true ∧ a.toNat < 4096 ∧ a.toNat % 4 = 0) ∧
    (∃ (s : State) (n : Fin 16) (_ : Word), s.chip.get GL_MODE_POWER ≠ 3 ∧ s.chip.present 0 = true ∧ n.val < 8 ∧ s.chip.kennel = false ∧ s.chip.parked = false) ∧
    (∃ (s : State) (n : Fin 16) (_ : Word), s.chip.get GL_MODE_POWER ≠ 3 ∧ s.chip.present 0 = true ∧ n.val < 16 ∧ s.chip.kennel = false ∧ s.chip.parked = false) :=
  ⟨⟨{}, false, 0x100, 5, by decide +kernel⟩, ⟨{ chip := ({} : Chip).set RJ_SESSION_LOCK 0 }, false, 0x140000, 5, by decide +kernel⟩, ⟨{}, true, 0, 0x270000, 1, by decide +kernel⟩, ⟨{}, false, 0x102, 4, 5, by decide +kernel⟩, ⟨{ chip := ({} : Chip).set GL_GATE_DOM 64 }, false, 0x180000, 5, by decide +kernel⟩, ⟨{}, false, 0x270000, 5, by decide +kernel⟩, ⟨(let y : Chip := {}; { chip := y.set FNf_STAT_STATE 1 2 }), false, 2, 8, 5, by decide +kernel⟩, ⟨{}, false, 0, 0, 2, 0x8000, by decide +kernel⟩, ⟨{}, false, 12, 0, by decide +kernel⟩, ⟨{}, 3, 5, by decide +kernel⟩, ⟨{}, 3, 5, by decide +kernel⟩⟩

/-- The hypotheses of each clause of EpochCompletes are met. -/
theorem witness_EpochCompletes :
    (∃ s : State, s.chip.parked = false) :=
  ⟨{}, by decide +kernel⟩

/-- The hypotheses of each clause of TwinCommandsComplete are met. -/
theorem witness_TwinCommandsComplete :
    (∃ (s : State) (c : Call), s.chip.dispatchedCall opAttach c = true ∧ c.words.length = 0 ∧ s.chip.on BL_CFG_TWIN_EN = true ∧ s.chip.paired = false ∧ s.chip.get BL_STAT_ATTACH = 0 ∧ s.chip.on GL_DEG_CAUSE_PROOF_FAIL = false ∧ s.chip.parked = false) ∧
    (∃ (s : State) (c : Call), s.chip.dispatchedCall opDetach c = true ∧ c.words.length = 0 ∧ s.chip.paired = false ∧ s.chip.get BL_STAT_ATTACH ≠ 0 ∧ s.chip.parked = false) ∧
    (∃ (s : State) (c : Call), s.chip.dispatchedCall opDetach c = true ∧ c.words.length = 0 ∧ s.chip.paired = true ∧ s.chip.bl.supervised = false ∧ s.chip.parked = false) ∧
    (∃ (s : State) (c : Call), s.chip.dispatchedCall opDetach c = true ∧ c.words.length = 0 ∧ s.chip.paired = true ∧ s.chip.bl.supervised = true ∧ s.chip.bl.detachIn = true ∧ s.chip.parked = false) ∧
    (∃ (s : State) (c : Call), s.chip.dispatchedCall opDetach c = true ∧ c.words.length = 0 ∧ s.chip.paired = true ∧ s.chip.bl.supervised = true ∧ s.chip.bl.detachIn = false ∧ s.chip.parked = false) ∧
    (∃ (s : State) (c : Call), s.chip.dispatchedCall opTwinQuery c = true ∧ c.words.length = 0 ∧ s.chip.parked = false) :=
  ⟨⟨(wit opAttach [] 0 (fun x => x.set BL_CFG_TWIN_EN 1)), (call [] 0), by decide +kernel⟩, ⟨(wit opDetach [] 0 (fun x => x.set BL_STAT_ATTACH 2)), (call [] 0), by decide +kernel⟩, ⟨(wit opDetach [] 0 (fun x => x.set GL_MODE_PAIR 1)), (call [] 0), by decide +kernel⟩, ⟨(wit opDetach [] 0 (fun x => let y := x.set GL_MODE_PAIR 1; { y with bl := { y.bl with supervised := true, detachIn := true } })), (call [] 0), by decide +kernel⟩, ⟨(wit opDetach [] 0 (fun x => let y := x.set GL_MODE_PAIR 1; { y with bl := { y.bl with supervised := true, detachIn := false } })), (call [] 0), by decide +kernel⟩, ⟨(wit opTwinQuery [] 0 id), (call [] 0), by decide +kernel⟩⟩

/-- The hypotheses of each clause of LeashCompletes are met. -/
theorem witness_LeashCompletes :
    (∃ (s : State) (h : MsgHdr) (_ : Word) (_ : BitVec 24) (_ : Stamp) (_ : BitVec 8), (s.chip.blTake h 0 24 false).2 = true ∧ s.chip.parked = false) ∧
    (∃ (s : State), s.chip.bl.supervised = false ∧ s.chip.parked = false) ∧
    (∃ (s : State), s.chip.bl.supervised = true ∧ s.chip.parked = false) ∧
    (∃ (s : State), s.chip.bl.supervised = true ∧ s.chip.parked = false) ∧
    (∃ (s : State), s.chip.bl.supervised = true ∧ s.chip.parked = false) ∧
    (∃ (s : State), s.chip.bl.hung = true ∧ s.chip.lkState 2 = lkUp ∧ s.chip.parked = false) ∧
    (∃ (s : State) (h : MsgHdr) (_ : BitVec 24), (s.chip.blTake h 5 4 false).2 = true ∧ s.chip.parked = false) ∧
    (∃ (s : State) (h : MsgHdr) (_ : BitVec 8), (s.chip.blTake h 5 4 false).2 = true ∧ (s.chip.blTake h 5 4 false).1.paired = true ∧ s.chip.parked = false) ∧
    (∃ (s : State) (h : MsgHdr), (s.chip.blTake h 5 0 false).2 = true ∧ (s.chip.blTake h 5 0 false).1.paired = true ∧ ((s.chip.blTake h 5 0 false).1.setBl fun b => { b with detachIn := true }).detachWaits = false ∧ s.chip.parked = false) ∧
    (∃ (s : State) (h : MsgHdr), (s.chip.blTake h 5 0 false).2 = true ∧ (s.chip.blTake h 5 0 false).1.paired = false ∧ s.chip.parked = false) ∧
    (∃ (s : State) (h : MsgHdr), (s.chip.blTake h 5 0 false).2 = true ∧ (s.chip.blTake h 5 0 false).1.paired = true ∧ ((s.chip.blTake h 5 0 false).1.setBl fun b => { b with detachIn := true }).detachWaits = true ∧ s.chip.parked = false) ∧
    (∃ (s : State) (h : MsgHdr), (s.chip.blTake h 5 0 false).2 = true ∧ (s.chip.blTake h 5 0 false).1.paired = true ∧ (s.chip.blTake h 5 0 false).1.detachWaits = true ∧ s.chip.parked = false) :=
  ⟨⟨{ chip := blUp ((let y : Chip := {}; { y with bl := { y.bl with supervised := true } })) }, ⟨0, 0, false, 1⟩, 9, 0, ⟨0, 0⟩, 0, by decide +kernel⟩, ⟨{}, by decide +kernel⟩, ⟨{ chip := (let y : Chip := {}; { y with bl := { y.bl with supervised := true } }) }, by decide +kernel⟩, ⟨{ chip := (let y : Chip := {}; { y with bl := { y.bl with supervised := true } }) }, by decide +kernel⟩, ⟨{ chip := (let y : Chip := {}; { y with bl := { y.bl with supervised := true } }) }, by decide +kernel⟩, ⟨{ chip := (let y : Chip := blUp {}; { y with bl := { y.bl with hung := true } }) }, by decide +kernel⟩, ⟨{ chip := blUp ({}) }, ⟨0, 0, false, 1⟩, 9, by decide +kernel⟩, ⟨{ chip := blUp (({} : Chip).set GL_MODE_PAIR 1) }, ⟨0, 0, false, 1⟩, 1, by decide +kernel⟩, ⟨{ chip := blUp (({} : Chip).set GL_MODE_PAIR 1) }, ⟨0, 0, false, 1⟩, by decide +kernel⟩, ⟨{ chip := blUp ({}) }, ⟨0, 0, false, 1⟩, by decide +kernel⟩, ⟨{ chip := blUp ((let y : Chip := ({} : Chip).set GL_MODE_PAIR 1; { y with bl := { y.bl with detach := some (call []) }, ce := { y.ce with pkts := [⟨opDetach.code, call [], none, .dispatched⟩] } })) }, ⟨0, 0, false, 1⟩, by decide +kernel⟩, ⟨{ chip := blUp ((let y : Chip := ({} : Chip).set GL_MODE_PAIR 1; { y with bl := { y.bl with detach := some (call []) }, ce := { y.ce with pkts := [⟨opDetach.code, call [], none, .dispatched⟩] } })) }, ⟨0, 0, false, 1⟩, by decide +kernel⟩⟩

/-- The hypotheses of each clause of AttachCompletes are met. -/
theorem witness_AttachCompletes :
    (∃ (s : State) (h : MsgHdr) (_ : Hello), (s.chip.blTake h 5 64 true).2 = true ∧ s.chip.parked = false) ∧
    (∃ (s : State) (h : MsgHdr) (l : BitVec 8) (_ : Bool), (s.chip.blTake h 5 4 false).2 = true ∧ (s.chip.blTake h 5 4 false).1.get BL_STAT_ATTACH = 4 ∧ (s.chip.blTake h 5 4 false).1.bl.lead = some true ∧ l.toNat = (s.chip.blTake h 5 4 false).1.get RB_STRAP_TWIN_ID ∧ s.chip.parked = false) ∧
    (∃ (s : State) (h : MsgHdr) (l : BitVec 8) (_ : Bool), (s.chip.blTake h 5 4 false).2 = true ∧ (s.chip.blTake h 5 4 false).1.get BL_STAT_ATTACH = 4 ∧ (s.chip.blTake h 5 4 false).1.bl.lead ≠ some true ∧ l.toNat ≠ (s.chip.blTake h 5 4 false).1.get RB_STRAP_TWIN_ID ∧ s.chip.parked = false) ∧
    (∃ (s : State) (h : MsgHdr) (l : BitVec 8) (_ : Bool), (s.chip.blTake h 5 4 false).2 = true ∧ (s.chip.blTake h 5 4 false).1.get BL_STAT_ATTACH = 4 ∧ ((s.chip.blTake h 5 4 false).1.bl.lead = some true) ≠ (l.toNat = (s.chip.blTake h 5 4 false).1.get RB_STRAP_TWIN_ID) ∧ s.chip.parked = false) ∧
    (∃ (s : State), s.chip.get BL_STAT_ATTACH = 2 ∧ s.chip.bl.hello.isNone = true ∧ s.chip.parked = false) ∧
    (∃ s : State, s.chip.parked = false) ∧
    (∃ (s : State) (h : MsgHdr) (i : Fin 8192) (t : BitVec 16) (k : BitVec 8) (z : Word), (s.chip.blTake h 1 (halfBytes i.val ++ (halfBytes t.toNat ++ ([k.toNat, 0, 0, 0] ++ (wordBytes z.toNat ++ [0, 0, 0, 0])))).length false).2 = true ∧ s.chip.parked = false) ∧
    (∃ (s : State) (h : MsgHdr) (i : Fin 8192) (t : BitVec 16) (off : BitVec 64) (data : List Byte), data ≠ [] ∧ data.length ≤ 4096 ∧ (s.chip.blTake h 1 (halfBytes i.val ++ (halfBytes t.toNat ++ (longBytes off.toNat ++ (wordBytes (data.map (·.toNat)).length ++ data.map (·.toNat))))).length false).2 = true ∧ s.chip.parked = false) ∧
    (∃ (s : State) (h : MsgHdr) (i : Fin 8192) (t : BitVec 16), (s.chip.blTake h 1 (halfBytes i.val ++ halfBytes t.toNat).length false).2 = true ∧ s.chip.parked = false) ∧
    (∃ (s : State) (h : MsgHdr) (hd : Fin 16) (num : Word) (data : List Byte), data.length ≤ 8184 ∧ (s.chip.blTake h 1 ([hd.val, 1] ++ (halfBytes (data.map (·.toNat)).length ++ (wordBytes num.toNat ++ data.map (·.toNat)))).length false).2 = true ∧ s.chip.parked = false) ∧
    (∃ (s : State) (h : MsgHdr) (hd : Fin 16) (num : Word) (data : List Byte), data.length ≤ 8184 ∧ (s.chip.blTake h 1 ([hd.val, 2] ++ (halfBytes (data.map (·.toNat)).length ++ (wordBytes num.toNat ++ data.map (·.toNat)))).length false).2 = true ∧ s.chip.parked = false) ∧
    (∃ (s : State) (h : MsgHdr) (hd : Fin 16) (num : Word) (data : List Byte), data.length ≤ 8184 ∧ (s.chip.blTake h 1 ([hd.val, 4] ++ (halfBytes (data.map (·.toNat)).length ++ (wordBytes num.toNat ++ data.map (·.toNat)))).length false).2 = true ∧ s.chip.parked = false) ∧
    (∃ (s : State) (h : MsgHdr) (hd : Fin 16) (num : Word) (data : List Byte), data.length ≤ 8184 ∧ (s.chip.blTake h 1 ([hd.val, 3] ++ (halfBytes (data.map (·.toNat)).length ++ (wordBytes num.toNat ++ data.map (·.toNat)))).length false).2 = true ∧ s.chip.parked = false) ∧
    (∃ (s : State) (h : MsgHdr) (l : Word), (s.chip.blTake h 1 (wordBytes l.toNat).length false).2 = true ∧ s.chip.parked = false) ∧
    (∃ (s : State), (s.chip.on BL_CFG_TWIN_EN && (s.chip.get GL_MODE_POWER != 3 && !s.chip.on GL_DEG_CAUSE_PROOF_FAIL)) = true ∧ s.chip.on BL_CFG_AUTO = true ∧ s.chip.paired = false ∧ s.chip.get BL_STAT_ATTACH = 0 ∧ s.chip.parked = false) :=
  ⟨⟨{ chip := blUp {} }, ⟨0, 0, false, 1⟩, ⟨0, 0, 0, 0, 0, 0, [], 0⟩, by decide +kernel⟩, ⟨{ chip := blUp ((let y : Chip := (({} : Chip).set BL_STAT_ATTACH 4); { y with bl := { y.bl with lead := some true } })) }, ⟨0, 0, false, 1⟩, 0, true, by decide +kernel⟩, ⟨{ chip := blUp ((let y : Chip := (({} : Chip).set BL_STAT_ATTACH 4); { y with bl := { y.bl with lead := some false } })) }, ⟨0, 0, false, 1⟩, 1, true, by decide +kernel⟩, ⟨{ chip := blUp ((let y : Chip := (({} : Chip).set BL_STAT_ATTACH 4); { y with bl := { y.bl with lead := some true } })) }, ⟨0, 0, false, 1⟩, 1, true, ⟨by decide +kernel, by decide +kernel, by simp only [ne_eq, eq_iff_iff]; decide +kernel⟩⟩, ⟨{ chip := ({} : Chip).set BL_STAT_ATTACH 2 }, by decide +kernel⟩, ⟨{}, by decide +kernel⟩, ⟨{ chip := blUp ((({} : Chip).set BL_STAT_ATTACH 5).set HB_MEM_CFG_MIB 1024) }, ⟨0, 0, false, 1⟩, 1, 3, 0, 16, by decide +kernel⟩, ⟨{ chip := blUp ({}) }, ⟨0, 0, false, 1⟩, 1, 3, 0, [9], by decide +kernel⟩, ⟨{ chip := blUp ((let y : Chip := {}; { y with bl := { y.bl with copies := [⟨1, 3, 1⟩] } })) }, ⟨0, 0, false, 1⟩, 1, 3, by decide +kernel⟩, ⟨{ chip := blUp ({}) }, ⟨0, 0, false, 1⟩, 3, 9, [1, 2, 3, 4], by decide +kernel⟩, ⟨{ chip := blUp ({}) }, ⟨0, 0, false, 1⟩, 3, 9, [1, 2, 3, 4], by decide +kernel⟩, ⟨{ chip := blUp ((({} : Chip).set CP_Ln_OWNER_BOUND 1 5).set CP_Ln_OWNER_WORLD 1 5 |>.set CP_HEADn_CFG_PROT 1 3 |>.set CP_Ln_OWNER_HEAD 3 5) }, ⟨0, 0, false, 1⟩, 3, 9, [1, 2, 3, 4], by decide +kernel⟩, ⟨{ chip := blUp ({}) }, ⟨0, 0, false, 1⟩, 3, 9, [1, 2, 3, 4], by decide +kernel⟩, ⟨{ chip := blUp (({} : Chip).set BL_STAT_ATTACH 5) }, ⟨0, 0, false, 1⟩, 7, by decide +kernel⟩, ⟨{ chip := (({} : Chip).set BL_CFG_TWIN_EN 1).set BL_CFG_AUTO 1 }, by decide +kernel⟩⟩

/-- The hypotheses of each clause of TwinWorkCompletes are met. -/
theorem witness_TwinWorkCompletes :
    (∃ (s : State) (h : MsgHdr) (_ : Fin 16) (_ : BitVec 16) (_ : Word) (sigs : List Word), sigs ≠ [] ∧ sigs.length ≤ 2045 ∧ (s.chip.blTake h 2 (12 + 4 * sigs.length) false).2 = true ∧ s.chip.parked = false) ∧
    (∃ (s : State) (h : MsgHdr) (_ : Fin 16) (_ : BitVec 16) (_ : Word) (_ : Bool) (_ : Word), (s.chip.blTake h 2 16 false).2 = true ∧ s.chip.parked = false) ∧
    (∃ (s : State) (hd : Fin 16) (pfn : Word), (s.chip.bl.mine.any fun m => m.head = hd.val && m.pfn = pfn.toNat) = true ∧ ((s.chip.sigHead hd.val).prev.any fun p => p.1 = pfn.toNat) = false ∧ s.chip.parked = false) ∧
    (∃ (s : State) (h : MsgHdr) (_ : Stamp), (s.chip.blTake h 4 8 false).2 = true ∧ s.chip.parked = false) ∧
    (∃ (s : State), s.chip.bl.supervised = true ∧ s.chip.parked = false) ∧
    (∃ (s : State) (h : MsgHdr) (_ _ _ : Stamp), (s.chip.blTake h 4 24 false).2 = true ∧ (s.chip.blTake h 4 24 false).1.bl.supervised = true ∧ s.chip.parked = false) :=
  ⟨⟨{ chip := blUp {} }, ⟨0, 0, false, 1⟩, 3, 0, 7, [9], by decide +kernel⟩, ⟨{ chip := blUp ((let y : Chip := ({} : Chip).set GL_MODE_PAIR 1; { y with bl := { y.bl with cfg := [(BL_CFG_CRIT.key 0, 8)] } })) }, ⟨0, 0, false, 1⟩, 3, 4, 7, false, 0, by decide +kernel⟩, ⟨(let y : Chip := {}; { chip := y.setBl fun b => { b with mine := [⟨3, 7, [], false, none⟩] } }), 3, 7, by decide +kernel⟩, ⟨{ chip := blUp ({}) }, ⟨0, 0, false, 1⟩, ⟨1, 2⟩, by decide +kernel⟩, ⟨{ chip := (let y : Chip := {}; { y with bl := { y.bl with supervised := true } }) }, by decide +kernel⟩, ⟨{ chip := blUp ((let y : Chip := {}; { y with bl := { y.bl with supervised := true } })) }, ⟨0, 0, false, 1⟩, ⟨1, 2⟩, ⟨1, 2⟩, ⟨1, 2⟩, by decide +kernel⟩⟩

/-- The hypotheses of each clause of BowlineCompletes are met. -/
theorem witness_BowlineCompletes :
    (∃ (s : State), s.chip.lkState 2 = lkUp ∧ s.chip.parked = false) ∧
    (∃ (s : State) (_ : Fin 1024), s.chip.lkState 2 = lkUp ∧ s.chip.parked = false) ∧
    (∃ (s : State), s.chip.lkState 2 = lkUp ∧ s.chip.parked = false) ∧
    (∃ (s : State) (_ : FlitHdr) (_ : Fin 1024), s.chip.lkState 2 = lkUp ∧ s.chip.parked = false) ∧
    (∃ (s : State) (_ : FlitHdr), s.chip.lkState 2 = lkUp ∧ s.chip.parked = false) ∧
    (∃ (s : State) (_ : FlitHdr) (_ : List Grant), s.chip.lkState 2 = lkUp ∧ s.chip.parked = false) ∧
    (∃ s : State, s.chip.parked = false) ∧
    (∃ (s : State) (e : Nat × Nat × Nat × List Nat) (l : List (Nat × Nat × Nat × List Nat)), s.chip.lkState 2 = lkUp ∧ (s.chip.lk 2).replay = e :: l ∧ s.chip.parked = false) ∧
    (∃ (s : State), s.chip.lkTraining 2 = true ∧ s.chip.parked = false) ∧
    (∃ (s : State), s.chip.lkState 2 = lkDown ∧ s.chip.blWanted = true ∧ s.chip.parked = false) ∧
    (∃ (s : State) (_ : Fin 8), s.chip.lkTraining 2 = true ∧ s.chip.parked = false) ∧
    (∃ s : State, s.chip.parked = false) ∧
    (∃ (s : State), s.chip.on BL_CFG_TWIN_EN = true ∧ s.chip.get RB_STRAP_TWIN_ID = 1 ∧ s.chip.on BL_STAT_TWIN_SEEN = false ∧ s.chip.kennel = false) :=
  ⟨⟨{ chip := blUp {} }, by decide +kernel⟩, ⟨{ chip := blUp {} }, 0, by decide +kernel⟩, ⟨{ chip := blUp {} }, by decide +kernel⟩, ⟨{ chip := blUp {} }, ⟨0, 0, 0, false⟩, 0, by decide +kernel⟩, ⟨{ chip := blUp {} }, ⟨0, 0, 0, false⟩, by decide +kernel⟩, ⟨{ chip := blUp {} }, ⟨0, 0, 0, false⟩, [], by decide +kernel⟩, ⟨{}, by decide +kernel⟩, ⟨{ chip := (let y : Chip := blUp {}; { y with bl := { y.bl with link := { y.bl.link with replay := [(0, 0, 0, [])] } } }) }, (0, 0, 0, []), [], by decide +kernel⟩, ⟨{ chip := ({} : Chip).set BL_STAT_LINK lkTrain }, by decide +kernel⟩, ⟨{ chip := (let y : Chip := {}; { y with bl := { y.bl with cfg := [(BL_CFG_TWIN_EN.key 0, 1)] } }) }, by decide +kernel⟩, ⟨{ chip := ({} : Chip).set BL_STAT_LINK lkTrain }, 0, by decide +kernel⟩, ⟨{}, by decide +kernel⟩, ⟨{ chip := (({} : Chip).set BL_CFG_TWIN_EN 1).set RB_STRAP_TWIN_ID 1 }, by decide +kernel⟩⟩

/-! ### The statements of rules: their hypotheses are met -/

/-- StepRunsFront. -/
theorem witness_StepRunsFront : ∃ (s : State) (c : Instr) (rest : List Instr), s.pending = c :: rest :=
  ⟨{ pending := [.evCtlEnable] }, .evCtlEnable, [], rfl⟩

/-- IdleStepCountsOneCycle, both clauses. -/
theorem witness_IdleStepCountsOneCycle : (∃ s : State, s.pending = [] ∧ s.chip.tb.stopped = true) ∧
    ∃ s : State, s.pending = [] ∧ s.chip.tb.stopped = false :=
  ⟨⟨(let y : Chip := {}; { chip := { y with tb := { y.tb with stopped := true } } }), by decide +kernel⟩,
    ⟨State.reset, by decide +kernel⟩⟩

/-- EveryCommandAnswersNext, its clauses. -/
theorem witness_EveryCommandAnswersNext : (∃ i : Instr, ∀ code, i ≠ .tapInstruction (.debug code)) ∧
    (∃ s : State, s.chip.nv.debugLock = true) ∧ ∃ s : State, s.chip.nv.debugLock = false :=
  ⟨⟨.evCtlEnable, fun _ h => nomatch h⟩,
    ⟨(let y : Chip := {}; { chip := { y with nv := { y.nv with debugLock := true } } }), by decide +kernel⟩,
    ⟨State.reset, by decide +kernel⟩⟩

/-- StepKeepsCanonicalMemory. -/
theorem witness_StepKeepsCanonicalMemory : ∃ s t : State, s.Inv ∧ step s = .next t :=
  ⟨{ pending := [.evCtlEnable], mem := [(5, 7)] }, _, by decide +kernel, rfl⟩

/-- OnlyStoringCommandsStore, both kinds of command. -/
theorem witness_OnlyStoringCommandsStore :
    (∃ (i : Instr) (s t : State), storing i = false ∧ exec i s = .next t ∧ reaching i = false) ∧
      ∃ (i : Instr) (s t : State), storing i = false ∧ exec i s = .next t ∧ reaching i = true :=
  ⟨⟨.evCtlEnable, {}, _, rfl, rfl, rfl⟩, ⟨.powerOn, {}, _, rfl, rfl, rfl⟩⟩

/-- StoredBytesReadBack, at the greatest byte and both sides of the range. -/
theorem witness_StoredBytesReadBack : ∃ (bs : List Nat) (a c d : Nat),
    (∀ b ∈ bs, b < 256) ∧ c < a ∧ a + bs.length ≤ d := ⟨[0, 255], 1, 0, 3, by decide⟩

/-- RequestStaysInItsAllocation: a write that changes a byte. -/
theorem witness_RequestStaysInItsAllocation : ∃ (s t : State) (r : MemReq) (a : Nat),
    exec (.memoryRequest r) s = .next t ∧ sparseGet t.mem a 0 ≠ sparseGet s.mem a 0 := by
  refine ⟨{ chip := withEntry {} }, _, ⟨0x30, 0, 0, false, 1, BitVec.ofNat 64 (1 <<< 34 + 3 <<< 48), 1, some [9], false, []⟩,
    1 <<< 34 + 3 <<< 48, rfl, ?_⟩
  decide +kernel

/-- DoorbellRule: F0 is present after reset, and of ring 1's sixteen slots a value equal, one refused and one accepted. -/
theorem witness_DoorbellRule : ∃ s : State, s.chip.parked = false ∧ s.chip.present 0 = true ∧ s.chip.get RINGk_CTL_SIZE_LOG2 1 = 4 ∧
    s.chip.get RINGk_TAIL_PTR 1 = 0 ∧ s.chip.get RINGk_HEAD_PTR 1 = 0 ∧
    (∃ t, exec (.dbRing 0 1 0) s = .next t ∧ t = s) ∧
    (∃ t, exec (.dbRing 0 1 16) s = .next t ∧ t.chip = (s.chip.flag RINGk_STAT_BAD_DB true 1).raise 32) ∧
    (∃ t, exec (.dbRing 0 1 65536) s = .next t ∧ t.chip.get RINGk_TAIL_PTR 1 = 65536) ∧
    (∃ t, exec (.dbReply 0 0) s = .next t ∧ t = s) ∧
    (∃ t, exec (.dbReply 0 1) s = .next t ∧ t.chip = s.chip.flag RINGk_STAT_BAD_DB true 4) ∧
    ∃ s' t : State, s'.chip.parked = false ∧ s'.chip.present 0 = true ∧ exec (.dbReply 0 2) s' = .next t ∧ t.chip.get RINGk_HEAD_PTR 4 = 2 :=
  ⟨State.reset, by decide +kernel, by decide +kernel, by decide +kernel, by decide +kernel, by decide +kernel,
    ⟨_, rfl, by decide +kernel⟩, ⟨_, rfl, by decide +kernel⟩, ⟨_, rfl, by decide +kernel⟩, ⟨_, rfl, by decide +kernel⟩,
    ⟨_, rfl, by decide +kernel⟩,
    { chip := ({} : Chip).set RINGk_TAIL_PTR 3 4 }, _, by decide +kernel, by decide +kernel, rfl, by decide +kernel⟩

/-- ParkHasNoCommandPath: a state in Park, and a command that it leaves without effect. -/
theorem witness_ParkHasNoCommandPath : ∃ (i : Instr) (s : State), s.chip.get GL_MODE_POWER = 3 ∧ inPark i = false :=
  ⟨.evCtlEnable, { chip := ({} : Chip).set GL_MODE_POWER 3 }, by decide +kernel⟩

/-- RingControl, at both ends of the range. -/
theorem witness_RingControl : ∃ (s : State) (f : Fin 65) (k : Fin 5) (n m : Fin 32), s.chip.parked = false ∧ s.chip.present f = true ∧
    s.chip.on RINGk_CTL_EN (5 * f.val + k.val) = false ∧ (if k.val = 0 then 6 else 16) < n.val ∧
    m.val = (if k.val = 0 then 6 else 16) ∧ k.val ≠ 4 := ⟨State.reset, 0, 0, 7, 6, by decide +kernel⟩

/-- TdmRule: a write that a running domain refuses, and one that applies. -/
theorem witness_TdmRule : ∃ s u : State, s.chip.get GL_MODE_POWER ≠ 3 ∧ s.chip.present 0 = true ∧ s.chip.kennel = false ∧
    s.chip.on AU_DOMx_STAT_RUN 1 = true ∧ s.chip.get AU_TDMn_CFG_DOM 7 ≠ bits 1 AU_TDMn_CFG_DOM.lsb AU_TDMn_CFG_DOM.width ∧
    bits 1 AU_TDMn_CFG_DOM.lsb AU_TDMn_CFG_DOM.width = 1 ∧
    u.chip.get GL_MODE_POWER ≠ 3 ∧ u.chip.present 0 = true ∧ u.chip.kennel = false ∧ u.chip.on RJ_SESSION_LOCK = false ∧
    ∀ d < 3, u.chip.on AU_DOMx_STAT_RUN d = false :=
  ⟨{ chip := ({} : Chip).set AU_DOMx_STAT_RUN 1 1 }, { chip := ({} : Chip).set RJ_SESSION_LOCK 0 }, by decide +kernel⟩

/-- LockedFieldsStay, each clause: head 15's HACTIVE written its own value, another while it runs, another while it stands. -/
theorem witness_LockedFieldsStay : HDn_HTIME0_HACTIVE ∈ allFields ∧ HDn_HTIME0_HACTIVE.rwl = true ∧
    HDn_HTIME0_HACTIVE.acc = .rwh ∧ 15 < HDn_HTIME0_HACTIVE.count ∧ 0 < HDn_HTIME0_HACTIVE.icount ∧
    HDn_HTIME0_HACTIVE.sec = false ∧ HDn_HTIME0_HACTIVE.base ≠ 0x1C2000 ∧ HDn_HTIME0_HACTIVE.base ≠ 0x1C3000 ∧
    (∃ x : Chip, x.get HDn_HTIME0_HACTIVE 15 ≠ 64 ∧ (x.ownerOf HDn_HTIME0_HACTIVE 15).1 = true) ∧
    ∃ x : Chip, x.get HDn_HTIME0_HACTIVE 15 ≠ 64 ∧ (x.ownerOf HDn_HTIME0_HACTIVE 15).1 = false ∧
      x.on RJ_SESSION_LOCK = true :=
  ⟨by decide +kernel, by decide +kernel, by decide +kernel, by decide +kernel, by decide +kernel, by decide +kernel,
    by decide +kernel, by decide +kernel, ⟨({} : Chip).set HDn_STAT_RUN 1 15, by decide +kernel⟩, ⟨{}, by decide +kernel⟩⟩

/-- PendRestartMirrors, at the last touch port. -/
theorem witness_PendRestartMirrors : ∃ x : Chip, x.get GL_PEND1_TOUCH < 2 ^ GL_PEND1_TOUCH.width ∧ 15 < 16 ∧
    x.on TPn_STAT_PEND_RESTART 15 = false := ⟨{}, by decide +kernel⟩

/-- CrossingsCarryPulses: an edge that fits, at the accumulator's bound, and one that does not. -/
theorem witness_CrossingsCarryPulses : ∃ (s : State) (c : Fin 25) (n m : Fin 16), s.chip.parked = false ∧ c.val < s.chip.cross.length ∧
    (s.chip.crossAt c).acc ≤ 7 ∧ (s.chip.crossAt c).stale = false ∧
    ((s.chip.crossAt c).busy = false → (s.chip.crossAt c).toggle = (s.chip.crossAt c).ack) ∧
    (s.chip.crossAt c).acc + n.val = 7 ∧ 7 < (s.chip.crossAt c).acc + m.val :=
  ⟨State.reset, 24, 7, 8, by decide +kernel⟩

/-- FencesNeverFall: a fence owned, and one orphaned. -/
theorem witness_FencesNeverFall : (∃ (x : Chip) (f : Fence), x.fence 4095 = some f ∧ f.orphan = false) ∧
    ∃ (x : Chip) (f : Fence), x.fence 4095 = some f ∧ f.orphan = true :=
  ⟨⟨(let y : Chip := {}; { y with ce := { y.ce with fences := [sampleFence false] } }), sampleFence false, by decide +kernel⟩,
    ⟨(let y : Chip := {}; { y with ce := { y.ce with fences := [sampleFence true] } }), sampleFence true, by decide +kernel⟩⟩

/-- TagsAreNeverZero: an entry never allocated, one at the last tag and one at the last index, and a request to zero. -/
theorem witness_TagsAreNeverZero : ({} : Chip).entry 8191 = none ∧
    (∃ (x : Chip) (e : MapEntry), x.entry 1 = some e ∧ e.tag < 65536 ∧ e.tag = 65535) ∧
    (∃ (x : Chip) (e : MapEntry), x.entry 1 = some e ∧ e.tag < 65536 ∧ e.tag ≠ 65535) ∧
    ∃ (x : Chip) (r : MemReq), (∀ e ∈ x.hb.map, e.valid = true → e.tag ≠ 0) ∧ r.addr = 0 :=
  ⟨by decide +kernel, ⟨withEntry {} { sampleEntry with tag := 65535 }, { sampleEntry with tag := 65535 }, by decide +kernel⟩,
    ⟨withEntry {}, sampleEntry, by decide +kernel⟩,
    ⟨withEntry {}, ⟨0, 0, 0, false, 0, 0, 64, none, false, []⟩, by decide +kernel⟩⟩

/-! ### Well-formed commands -/

/-- A call of 1,025 words is ill-formed (R59). -/
theorem test_wf_call : (Instr.nop (call (List.replicate 1024 0))).wf = true ∧ (Instr.nop (call (List.replicate 1025 0))).wf = false := by
  decide +kernel

/-- A packet's words are as many as it says (R59). -/
theorem test_wf_packet : (Instr.packetFetch ⟨0, 1, 0, 0, 1, 0, 0, [7]⟩).wf = true ∧
    (Instr.packetFetch ⟨0, 1, 0, 0, 2, 0, 0, [7]⟩).wf = false := by decide +kernel

/-- A write carries the bytes it stores, and names a function (R15, R573). -/
theorem test_wf_request : (Instr.memoryRequest ⟨0, 127, 0, false, 3, 0, 1, some [7], false, []⟩).wf = true ∧
    (Instr.memoryRequest ⟨0, 0, 0, false, 3, 0, 2, some [7], false, []⟩).wf = false ∧
    (Instr.memoryRequest ⟨0, 65, 0, false, 3, 0, 0, none, false, []⟩).wf = false ∧
     (Instr.memoryRequest ⟨0, 0, 0, false, 1, 0, 0, none, false, []⟩).wf = false ∧
     (Instr.memoryRequest ⟨0xFF, 0, 0, false, 4, 0, 0, none, false, []⟩).wf = false := by decide +kernel

/-- PCI Express does not reach the secure world (R444, R448). -/
theorem test_wf_register : (Instr.registerWrite ⟨true, true, 0, .bar0, 0, 4, 0⟩).wf = true ∧
    (Instr.registerWrite ⟨false, true, 0, .bar0, 0, 4, 0⟩).wf = false := by decide +kernel

/-- Jobs belong to functions 0 to 64 or to the firmware (R168). -/
theorem test_wf_job : (Instr.spillDone ⟨64, 0⟩).wf = true ∧ (Instr.spillDone ⟨65, 0⟩).wf = false ∧
    (Instr.dispatchPoint (some ⟨126, 0⟩)).wf = false := by decide +kernel

/-- Hashes have 32 bytes, and messages carry at most their class's data (R350, R509). -/
theorem test_wf_messages : (Instr.hello ⟨0, 0, false, 0⟩ ⟨0, 0, 0, 0, 0, 0, List.replicate 31 0, 0⟩).wf = false ∧
    (Instr.offloadPipe ⟨0, 0, false, 0⟩ (List.replicate 33 0) 0 0 []).wf = false ∧
    (Instr.offloadJob ⟨0, 0, false, 0⟩ ⟨0, true, 0, [], [⟨0, []⟩]⟩).wf = false ∧
    (Instr.mirrorWrite ⟨0, 0, false, 0⟩ 0 0 0 (List.replicate 4097 0)).wf = false ∧
    (Instr.bootData ⟨0, 0, false, 0⟩ 0 (List.replicate 8185 0)).wf = false := by decide +kernel

/-! ### What commands do: values from the spec's own examples and tables -/

/-- The blocks a command leaves. -/
def after (i : Instr) (s : State) : Chip :=
  match exec i s with
  | .next t => t.chip
  | _ => s.chip

/-- The worked example of chapter 3: on a ring of 256 slots at slot 250, the doorbell 0x1_000D is accepted and makes 19 slots. -/
theorem test_doorbell_example :
    let x := ((({} : Chip).set RINGk_CTL_SIZE_LOG2 8 1).set RINGk_HEAD_PTR 0xFA 1).set RINGk_TAIL_PTR 0xFA 1
    let y := after (.dbRing 0 1 0x1000D) { chip := x }
    y.get RINGk_TAIL_PTR 1 = 0x1000D ∧ y.ringUsed 0 1 = 19 ∧ y.on RINGk_STAT_BAD_DB 1 = false := by decide +kernel

/-- The worked example of chapter 23, as a write: with SK1 gated, 0x0020_1920 counts in GL_ACCERR with CAUSE 1. -/
theorem test_gated_write :
    let y := after (.registerWrite ⟨false, false, 0, .bar0, 0x201920, 4, 5⟩) { chip := ({} : Chip).set GL_GATE_DOM 0x20000 }
    y.get GL_ACCERR_COUNT = 1 ∧ y.get GL_ACCERR_ADDR_ADDR = 0x201920 ∧ y.get GL_ACCERR_ADDR_CAUSE = 1 ∧
      y.get GL_ACCERR_ADDR_CORE = 0 := by decide +kernel

/-- Step 1 of the worked example of chapter 2: a new VACTIVE written while HD3 runs is ignored, and sets HD3's PEND_RESTART, bit
3 of GL_PEND0 and event 9. -/
theorem test_running_head :
    let x := ((({} : Chip).set HDn_STAT_RUN 1 3).set HDn_VTIME0_VACTIVE 1080 3).set RJ_SESSION_LOCK 0
    let y := after (.registerWrite ⟨false, false, 0, .bar0, BitVec.ofNat 25 (0x143000 + HDn_VTIME0_VACTIVE.off), 4, 2160⟩) { chip := x }
    y.get HDn_VTIME0_VACTIVE 3 = 1080 ∧ y.on HDn_STAT_PEND_RESTART 3 = true ∧ y.get GL_PEND0_HEAD = 8 ∧
      y.ev.raised = [.source 9] := by decide +kernel

/-- A signal below a fence's value is counted and raises 119 (R198). -/
theorem test_signal_back :
    let y := ({ ({} : Chip) with ce := { fences := [{ sampleFence false with value := 9 }] } } : Chip).signalFence 4095 8
    y.fenceValue 4095 = 9 ∧ y.get GX_FENCE_BACK_CNT_COUNT = 1 ∧ y.ev.raised = [.source 119] := by decide +kernel

/-- The counter wraps from tick 1,228,799,999 into the next second (R429). -/
theorem test_tick_wraps :
    let y := ((({} : Chip).set CK_STAT_PLL_LOCK 1).set TB_TICK_TICK 1228799999).tick
    y.get TB_TICK_TICK = 0 ∧ y.get TB_SEC_SEC = 1 := by decide +kernel

/-- The check column of the table of codes (R399), over "123456789". -/
theorem test_codes : (List.range 4).map (fun c => crcOf c [49, 50, 51, 52, 53, 54, 55, 56, 57]) =
    [0xE3069283, 0xCBF43926, 0x29B1, 0x4B] := by decide +kernel

/-- "abc" under SHA-256, from FIPS 180-4. -/
theorem test_sha256 : beWord (sha256 [97, 98, 99]) = 0xBA7816BF8F01CFEA414140DE5DAE2223B00361A396177A9CB410FF61F20015AD := by
  decide +kernel

/-- Offsets worked from R186: texel (68, 5) of a TILED_64 image 128 wide, and of a TILED_4K one, at 4 bytes. -/
theorem test_tiled : texOffset 2 128 0 4 100 33 = ((3 * 2 + 1) * 1024 + 1 * 32 + 4) * 4 ∧
    texOffset 1 128 0 4 68 5 = ((1 * 256 + 3) * 16 + 1 * 4 + 0) * 4 := by decide +kernel

/-- An allocation's first handle carries tag 1 at entry 0 (R109, R110). -/
theorem test_first_tag : handleOf (({} : Chip).newEntry 0 0 0 1 0 false) = 2 ^ 48 := by decide +kernel

/-- Four pulses reach a busy crossing whose accumulator stands at 5: it stays at 7, two are lost and its LOST bit is set
(R423). -/
theorem test_lost_pulses :
    let y := crossEdge 3 4 (({} : Chip).setCross 3 fun k => { k with acc := 5, toggle := true, busy := true, count := 1 })
    (y.crossAt 3).acc = 7 ∧ y.get CK_LOST_FLAGS = 8 ∧ y.get CK_LOST_CNT_COUNT = 1 := by decide +kernel

/-- GL_ID reads as the table of chapter 23 gives it; a register that no table names reads zero (R5); an access of two bytes reads zero
and is counted (R4). -/
theorem test_reads :
    (({} : Chip).readReg ⟨false, false, 0, .bar0, 0, 4⟩).2 = 0x26416 ∧ (({} : Chip).readReg ⟨false, false, 0, .bar0, 0xFC, 4⟩).2 = 0 ∧
      (({} : Chip).readReg ⟨false, false, 0, .bar0, 0, 2⟩).2 = 0 ∧
      (({} : Chip).readReg ⟨false, false, 0, .bar0, 0, 2⟩).1.get GL_ACCERR_COUNT = 1 := by decide +kernel

/-- A debug access is refused by name while the debug lock is not programmed, and has no effect once it is (R540). -/
theorem test_debug : exec (.tapInstruction (.debug 5)) State.reset = .refused .debugAccess := rfl

end Sys2Proof.Machine
end

section
/-!
SUPPORT. What the register file reads at reset, for every field of the map (R7), and the settling of ResetValues.
-/
namespace Sys2Proof.Machine

/-- At reset every field reads its Reset value: no register has been written (log row 4). -/
@[simp] theorem State.reset_get (f : Fld) (n : Nat) : State.reset.chip.get f n = f.resetAt n := rfl

/-- A field whose table gives one Reset value has it at every number. -/
theorem Fld.resetAt_of_single {f : Fld} {v : Nat} (h : f.resets = [v]) (n : Nat) : f.resetAt n = v := by
  simp [Fld.resetAt, h, Nat.mod_one]

/-- At reset a field with one Reset value reads it at every number. -/
theorem State.reset_get_of_single {f : Fld} {v : Nat} (h : f.resets = [v]) (n : Nat) : State.reset.chip.get f n = v :=
  (State.reset_get f n).trans (Fld.resetAt_of_single h n)

/-- Settles O59: the register file is empty at reset, so each field reads the value of its own Reset column. -/
theorem resetValues : Obligations.ResetValues := by
  unfold Obligations.ResetValues
  exact ⟨rfl, rfl, State.reset_get_of_single rfl 0, State.reset_get_of_single rfl 0,
    fun n _ => State.reset_get_of_single rfl n, fun n _ => State.reset_get_of_single rfl n, State.reset_get_of_single rfl 0,
    State.reset_get_of_single rfl 0, State.reset_get_of_single rfl 0, State.reset_get_of_single rfl 0,
    State.reset_get_of_single rfl 0, fun n _ => State.reset_get_of_single rfl n, fun f _ n => State.reset_get f n⟩

end Sys2Proof.Machine
end

section
/-!
SUPPORT. Register writes (R4, R449, R473, R547 to R551, R570): one rule for each way a write is answered, and the two pages of
audio port configuration (R306), which no other page and no secure field overlaps.
-/
namespace Sys2Proof.Machine

/-! ### Where a write goes (R4, R547, R548) -/

/-- A write to Message Control passes at any size (log row 110). -/
theorem registerWrite_msixControl {x : Chip} (hp : x.get GL_MODE_POWER ≠ 3) {d : Bool} {f : Fin 65} (hf : x.present f = true)
    (a : BitVec 25) (z : Fin 65) (v : Word) :
    registerWrite ⟨false, d, f, .msixControl, a, z, v⟩ x = x.msixCtl f.val v.toNat := by
  simp [registerWrite, hp, hf]

/-- In the manager window, an access that is no aligned word is counted. -/
theorem registerWrite_misshapen {x : Chip} (hp : x.get GL_MODE_POWER ≠ 3) (h0 : x.present 0 = true) {d : Bool}
    {a : BitVec 25} {z : Fin 65} (v : Word) (hz : z ≠ 4 ∨ a.toNat % 4 ≠ 0) :
    registerWrite ⟨false, d, 0, .bar0, a, z, v⟩ x = x.accErr false a.toNat 0 := by
  have hz' : z.val ≠ 4 ∨ a.toNat % 4 ≠ 0 := hz.imp_left fun h e => h (Fin.ext e)
  simp [registerWrite, hp, h0, hz']

/-- An aligned word of F0 or of a control core goes to the manager window. -/
theorem registerWrite_window {x : Chip} (hp : x.get GL_MODE_POWER ≠ 3) (h0 : x.present 0 = true) {c d : Bool} {f : Fin 65}
    (hf : c = true ∨ f = 0) {a : BitVec 25} (ha : a.toNat % 4 = 0) (v : Word) :
    registerWrite ⟨c, d, f, .bar0, a, 4, v⟩ x = x.windowWrite ⟨c, d, 0, a.toNat, v.toNat⟩ := by
  have hfn : (if c then 0 else f.val) = 0 := by obtain rfl | rfl := hf <;> simp
  simp [registerWrite, hfn, hp, h0, ha]

/-- An aligned word of a virtual function goes to its own window. -/
theorem registerWrite_vf {x : Chip} (hp : x.get GL_MODE_POWER ≠ 3) {d : Bool} {f : Fin 65} (hne : f ≠ 0)
    (hf : x.present f = true) {a : BitVec 25} (hlt : a.toNat < 65536) (ha : a.toNat % 4 = 0) (v : Word) :
    registerWrite ⟨false, d, f, .bar0, a, 4, v⟩ x = x.vfWrite f.val a.toNat v.toNat := by
  have hlt' : ¬ 65536 ≤ a.toNat := by omega
  simp [registerWrite, hp, hf, hne, hlt', ha]

/-- An aligned word in F0's MSI-X table goes to the table. -/
theorem registerWrite_bar2 {x : Chip} (hp : x.get GL_MODE_POWER ≠ 3) (h0 : x.present 0 = true) {d : Bool} {a : BitVec 25}
    (hlt : a.toNat < 4096) (ha : a.toNat % 4 = 0) (v : Word) :
    registerWrite ⟨false, d, 0, .bar2, a, 4, v⟩ x = x.msixWrite 0 a.toNat v.toNat := by
  simp [registerWrite, hp, h0, hlt, ha]

/-! ### What the manager window answers (R449, R473, R550) -/

/-- A write to a page that is off is counted. -/
theorem Chip.windowWrite_off {x : Chip} {w : Writer} (ho : x.pageOff w.addr = true) :
    x.windowWrite w = x.accErr w.core w.addr 1 := by
  simp only [Chip.windowWrite, ho, if_true]

/-- A write of the normal world to the secure world's registers is counted. -/
theorem Chip.windowWrite_violates {x : Chip} {w : Writer} (ho : x.pageOff w.addr = false) (hv : w.violates = true) :
    x.windowWrite w = x.swViol w := by
  simp only [Chip.windowWrite, ho, hv, Bool.false_eq_true, if_false, if_true]

/-- Any other reaches its page; on a Commission page with the lock clear it restarts the session's idle time. -/
theorem Chip.windowWrite_taken {x : Chip} {w : Writer} (ho : x.pageOff w.addr = false) (hv : w.violates = false) :
    x.windowWrite w = if !x.on RJ_SESSION_LOCK && commissionPage (w.addr / 4096 * 4096) then (x.pageWrite w).roleAct
      else x.pageWrite w := by
  simp only [Chip.windowWrite, ho, hv, Bool.false_eq_true, if_false]

/-! ### The secure world's fields -/

/-- A field has no place below its first register. -/
theorem Fld.places_below {f : Fld} {a : Nat} (h : a < f.base + f.off) : f.places a = [] := by
  simp only [Fld.places, h, if_true]

/-- A field of a repeated page has no place past its last page. -/
theorem Fld.places_above {f : Fld} {a : Nat} (hs : 0 < f.stride) (h : f.base + f.off + f.stride * f.count ≤ a) :
    f.places a = [] := by
  have hd : f.count ≤ (a - (f.base + f.off)) / f.stride := by
    rw [Nat.le_div_iff_mul_le hs, Nat.mul_comm]; omega
  have hlo : ¬ a < f.base + f.off := by omega
  simp [Fld.places, hlo, hs.ne', hd]

/-- The secure world's fields lie below the audio pages or above them. -/
theorem secFields_outside_audio : ∀ f ∈ allFields, f.sec = true →
    0x1C4000 ≤ f.base ∨ (0 < f.stride ∧ f.base + f.off + f.stride * f.count ≤ 0x1C0000) := by decide +kernel

/-- The fields met at an address are those of the map that have a place there. -/
theorem mem_allFields_of_hitsAt {a v : Nat} {h : Hit} (hh : h ∈ hitsAt a v) : h.f ∈ allFields ∧ h.f.places a ≠ [] := by
  obtain ⟨f, hf, p, hp, rfl⟩ : ∃ f ∈ allFields, ∃ p ∈ f.places a, _ = h := by
    simpa only [hitsAt, List.mem_flatMap, List.mem_map] using hh
  exact ⟨hf, List.ne_nil_of_mem hp⟩

/-- No field met on an audio page is the secure world's. -/
theorem hitsAt_audio_not_sec {a v : Nat} (hlo : 0x1C0000 ≤ a) (hhi : a < 0x1C4000) : ∀ h ∈ hitsAt a v, h.f.sec = false := by
  intro h hh
  obtain ⟨hf, hp⟩ := mem_allFields_of_hitsAt hh
  by_contra hs
  obtain hb | ⟨hpos, hb⟩ := secFields_outside_audio h.f hf (by simpa using hs)
  · exact hp (Fld.places_below (by omega))
  · exact hp (Fld.places_above hpos (by omega))

/-! ### The audio pages (R306, R550) -/

/-- Either world may write the audio pages. -/
theorem Writer.violates_audio {w : Writer} (hlo : 0x1C0000 ≤ w.addr) (hhi : w.addr < 0x1C4000) : w.violates = false := by
  have hpage : w.addr / 0x10000 ≠ 0x27 := by omega
  have hsec : ((hitsAt w.addr w.value).any fun h => h.f.sec) = false :=
    List.any_eq_false.2 fun h hh => by simp [hitsAt_audio_not_sec hlo hhi h hh]
  simp only [Writer.violates, hsec, hpage, decide_false, Bool.or_false, Bool.and_false]

/-- Outside Kennel the audio pages are on. -/
theorem Chip.pageOff_audio {x : Chip} {a : Nat} (hk : x.kennel = false) (hlo : 0x1C0000 ≤ a) (hhi : a < 0x1C4000) :
    x.pageOff a = false := by
  have hrender : ¬ a / 0x1000 < 0xA0 := by omega
  have hport : ¬ a / 0x1000 < 0x18A := by omega
  have hskein : a / 0x1000 ≠ 0x200 ∧ a / 0x1000 ≠ 0x201 := by omega
  simp only [Chip.pageOff, hk, hrender, hport, hskein, Bool.false_eq_true, decide_false, Bool.and_false, Bool.or_false, if_false]

/-- The offset of a TDM port's CFG, or of a bridge's, in the manager window (R306). -/
def tdmCfgOffset (bridge : Bool) (n : Nat) : Nat := if bridge then 0x1C3000 + 0x20 * n else 0x1C2000 + 0x40 * n

/-- The CFG of each of the 16 numbers is an aligned word of the two pages. -/
theorem tdmCfgOffset_mem (bridge : Bool) {n : Nat} (hn : n < 16) :
    0x1C2000 ≤ tdmCfgOffset bridge n ∧ tdmCfgOffset bridge n < 0x1C4000 ∧ tdmCfgOffset bridge n % 4 = 0 := by
  cases bridge <;> simp only [tdmCfgOffset, Bool.false_eq_true, if_false, if_true] <;> omega

/-- Either page takes the CFG at its offset, of 8 TDM ports and 16 bridges. -/
theorem Chip.pageWrite_tdmCfg {x : Chip} {w : Writer} {bridge : Bool} {n : Nat} (hn : n < if bridge then 16 else 8)
    (ha : w.addr = tdmCfgOffset bridge n) : x.pageWrite w = tdmWrite bridge n w.value x := by
  cases bridge with
  | false =>
    simp only [tdmCfgOffset, Bool.false_eq_true, if_false] at hn ha
    have hpage : w.addr / 0x1000 = 0x1C2 := by omega
    have hblock : w.addr / 0x10000 = 0x1C := by omega
    have hreg : w.addr % 0x40 = 0 := by omega
    have hport : w.addr % 0x1000 / 0x40 = n := by omega
    simp [Chip.pageWrite, hpage, hblock, hreg, hport, hn]
  | true =>
    simp only [tdmCfgOffset, if_true] at hn ha
    have hpage : w.addr / 0x1000 = 0x1C3 := by omega
    have hblock : w.addr / 0x10000 = 0x1C := by omega
    have hreg : w.addr % 0x20 = 0 := by omega
    have hbridge : w.addr % 0x1000 / 0x20 = n := by omega
    simp [Chip.pageWrite, hpage, hblock, hreg, hbridge, hn]

/-- Both pages of audio port configuration are of the Commission lock class. -/
theorem commissionPage_audio {a : Nat} (hlo : 0x1C2000 ≤ a) (hhi : a < 0x1C4000) : commissionPage (a / 4096 * 4096) = true := by
  have hbase : 0x1C1000 ≤ a / 4096 * 4096 ∧ a / 4096 * 4096 < 0x1C4000 := by omega
  simp only [commissionPage, hbase, decide_true, Bool.and_self, Bool.or_true]

/-- F0 writes a register of the audio port configuration: it reaches its page, and restarts the idle time while the lock is
clear. -/
theorem registerWrite_audio {x : Chip} (hp : x.get GL_MODE_POWER ≠ 3) (h0 : x.present 0 = true) (hk : x.kennel = false)
    {a : BitVec 25} (hlo : 0x1C2000 ≤ a.toNat) (hhi : a.toNat < 0x1C4000) (ha : a.toNat % 4 = 0) (v : Word) :
    registerWrite ⟨false, false, 0, .bar0, a, 4, v⟩ x =
      if !x.on RJ_SESSION_LOCK then (x.pageWrite ⟨false, false, 0, a.toNat, v.toNat⟩).roleAct
      else x.pageWrite ⟨false, false, 0, a.toNat, v.toNat⟩ := by
  have hlo' : 0x1C0000 ≤ a.toNat := by omega
  rw [registerWrite_window hp h0 (.inr rfl) ha,
    Chip.windowWrite_taken (Chip.pageOff_audio hk hlo' hhi) (Writer.violates_audio hlo' hhi), commissionPage_audio hlo hhi,
    Bool.and_true]

/-! ### The commands -/

/-- REGISTER_WRITE completes with what the write makes of the blocks. -/
theorem runsReach_registerWrite {w : RegWrite} {s : State} {y : Chip} (e : registerWrite w s.chip = y) :
    RunsReach (.registerWrite w) s y := runsReach_onReach (f := registerWrite w) rfl e

/-- TDM_CFG_WRITE completes with what the write of the CFG makes of the blocks. -/
theorem runs_tdmCfgWrite {s : State} {bridge : Bool} {n : Fin 16} (v : Word) (hn : n.val < if bridge then 16 else 8)
    (hp : s.chip.get GL_MODE_POWER ≠ 3) (h0 : s.chip.present 0 = true) (hk : s.chip.kennel = false)
    (hpark : s.chip.parked = false) :
    Runs (.tdmCfgWrite bridge n v) s
      (let y := tdmWrite bridge n.val v.toNat s.chip; if !s.chip.on RJ_SESSION_LOCK then y.roleAct else y) := by
  obtain ⟨hlo, hhi, h4⟩ := tdmCfgOffset_mem bridge n.isLt
  have ha : (BitVec.ofNat 25 (tdmCfgOffset bridge n)).toNat = tdmCfgOffset bridge n := by rw [BitVec.toNat_ofNat]; omega
  refine runs_onChip (f := registerWrite ⟨false, false, 0, .bar0, BitVec.ofNat 25 (tdmCfgOffset bridge n), 4, v⟩) hpark rfl ?_
  rw [registerWrite_audio hp h0 hk (by omega) (by omega) (by omega), Chip.pageWrite_tdmCfg hn ha]

/-- Settles O36: each clause is one rule of where a write goes, followed by one of what the window answers. -/
theorem registerWritesComplete : Obligations.RegisterWritesComplete := by
  unfold Obligations.RegisterWritesComplete
  refine ⟨?plain, ?commission, ?core, ?misshapen, ?off, ?violates, ?vf, ?msixControl, ?msixTable, ?port, ?bridge⟩
  case plain =>
    intro s d a v hp h0 ha ho hv hc
    exact runsReach_registerWrite (by rw [registerWrite_window hp h0 (.inr rfl) ha, Chip.windowWrite_taken ho hv, hc]; rfl)
  case commission =>
    intro s d a v hp h0 ha ho hv hc
    exact runsReach_registerWrite (by rw [registerWrite_window hp h0 (.inr rfl) ha, Chip.windowWrite_taken ho hv, hc]; rfl)
  case core =>
    intro s d f a v hp h0 ha ho hv
    exact runsReach_registerWrite ((registerWrite_window hp h0 (.inl rfl) ha v).trans (Chip.windowWrite_taken ho hv))
  case misshapen => exact fun s d a z v hp h0 hz => runsReach_registerWrite (registerWrite_misshapen hp h0 v hz)
  case off =>
    intro s d a v hp h0 ha ho
    exact runsReach_registerWrite ((registerWrite_window hp h0 (.inr rfl) ha v).trans (Chip.windowWrite_off ho))
  case violates =>
    intro s d a v hp h0 ha ho hv
    exact runsReach_registerWrite ((registerWrite_window hp h0 (.inr rfl) ha v).trans (Chip.windowWrite_violates ho hv))
  case vf => exact fun s d f a v hp hne hf hlt ha => runsReach_registerWrite (registerWrite_vf hp hne hf hlt ha v)
  case msixControl => exact fun s d f a z v hp hf => runsReach_registerWrite (registerWrite_msixControl hp hf a z v)
  case msixTable => exact fun s d a v hp h0 hlt ha => runsReach_registerWrite (registerWrite_bar2 hp h0 hlt ha v)
  case port => exact fun s n v hp h0 hn hk hpark => runs_tdmCfgWrite v hn hp h0 hk hpark
  case bridge => exact fun s n v hp h0 hn hk hpark => runs_tdmCfgWrite v hn hp h0 hk hpark

end Sys2Proof.Machine
end

section
/-!
SUPPORT. Park has no command path (R22, R42): each command of a domain that is off uses a lifting that Park holds, and the case
split over the commands by their lifting settles ParkHasNoCommandPath.
-/
namespace Sys2Proof.Machine

/-- In Park a command that moves link data has no effect. -/
theorem State.onSkein_parked (s : State) (f : Work → Work) (hp : s.chip.parked = true) : s.onSkein f = .next s :=
  s.onBoth_parked _ hp

/-- In Park the edges of a crossing have no effect: among the raises only those of a source or a reply act there (R22). -/
theorem execEventRaise_parked {r : EventRef} {s : State} (hp : s.chip.parked = true)
    (h : inPark (.eventRaise r) = false) : execEventRaise r s = .next s := by
  cases r with
  | source | reply => cases h
  | pulses | taken | acked => exact s.onChip_parked _ hp

/-- In Park a command of a domain that is off has no effect: its meaning is lifted by one of the liftings that Park holds. -/
theorem exec_parked {i : Instr} {s : State} (hp : s.chip.parked = true) (h : inPark i = false) : exec i s = .next s := by
  cases i with
  | loadGo | registerWrite | coldReq | bootReq | bootData | twinBHoldTimer | trainingDone | refclkLoss | refclkRestore
  | mainPllLoss | ppsInEdge | ppsTimeout | trimAdjust | lockoutEnd | powerOn | railLow | resetNPulse | warmNPulse
  | thermalTrip | thermalTripRelease | nwdogExpiry | lockstepMismatch | resetRelease | startTimeout | wakeGpio
  | wakeAlarm | wakePcie | wakeTouch | twinWakePulseEnd | parkFaceUpdate | uartFrame | tapInstruction => cases h
  | eventRaise r => exact execEventRaise_parked hp h
  -- What it writes is not noted for the twin, so it has the Park check of its own (R357).
  | offloadDone => exact if_pos hp
  | commandComplete | epochBoundary | commitLine | dispatchPoint | preemptionPoint | preemptTimeout | binPoolFull
  | spillDone | renderJobComplete | computeJobComplete | gxEccUncorrectable | audioBlockBoundary | skeinData
  | skeinCredit | skeinMarkStart | skeinMarkEnd | skeinTrain | skeinNak | skeinClose | skeinIdle | skeinLinkTimeout
  | skeinStopTimeout | skeinEgressFrame | leash | leashSend | hungTwin | hello | electMsg | mirrorOpen | mirrorWrite
  | mirrorClose | mirrorState | syncDone | sigTiles | sigEnd | offloadPipe | offloadJob | offloadReply | offloadResult
  | offloadCancel | timeProbe | timeProbeSend | timeEcho | detachReq | detachAck | leaveMsg | modeMsg | powerPropose
  | powerReply | powerReplyTimeout | powerCancel | bowlineNak | bowlineTrain | bowlineCredit | phyPllLoss
  | startConfirm | thermalSample | thermRelease | parkEntryStep | autoAttachTimer | bowlineIdle =>
    exact s.onSkein_parked _ hp
  | copyHandle | stopSkein | attach | detach | powerModeSet | protLayerLoad | journalExport | memoryRequest | audioTick
  | cvDataUnitEnd => exact s.onBoth_parked _ hp
  | shaderLoad | pipelineCreate | renderSubmit | computeSubmit | layerSet | layerRemove | flip | flipGroup | toneMapSet
  | backgroundSet | hapticWaveLoad | audioGraphLoad | parkFaceSet | fwSlotWrite | secureRelease | lineConfirm
  | headLine0 | secureUp => exact s.onChipM_parked _ hp
  -- The next two write their change in place, so the name of the meaning stands before the law.
  | evCtlEnable => exact show execEvCtlEnable s = _ from s.onChip_parked _ hp
  | linkTrainDone port ok lanes rate sr => exact show execLinkTrainDone port ok lanes rate sr s = _ from s.onChip_parked _ hp
  -- Every other command changes the blocks alone.
  | _ => exact s.onChip_parked _ hp

/-- Settles O60: POWER 3 is Park, and there each lifting of a command that Park does not leave on answers the state itself. -/
theorem parkHasNoCommandPath : Obligations.ParkHasNoCommandPath := by
  unfold Obligations.ParkHasNoCommandPath
  intro i s hmode hoff
  have hp : s.chip.parked = true := decide_eq_true hmode
  exact exec_parked hp hoff

end Sys2Proof.Machine
end

section
/-!
SUPPORT. One bit of a value, a flag and its raise, and the PEND_RESTART flags with their mirrors (R29, R30); the settling of
PendRestartMirrors.
-/
namespace Sys2Proof.Machine

/-! ### One bit of a value -/

/-- A bit as the library has it. -/
theorem bitAt_eq_testBit (w i : Nat) : bitAt w i = w.testBit i := by
  rw [Nat.testBit_eq_decide_div_mod_eq]; rfl

/-- A value with one bit put: the bits above it, the bit, and those below. -/
theorem putBit_eq (w i : Nat) (b : Bool) : putBit w i b = 2 ^ i * Nat.bit b (w / 2 ^ i / 2) + w % 2 ^ i := by
  have hw : 2 ^ i * (w / 2 ^ i) + w % 2 ^ i = w := Nat.div_add_mod w (2 ^ i)
  have hq : 2 * (w / 2 ^ i / 2) + w / 2 ^ i % 2 = w / 2 ^ i := Nat.div_add_mod _ 2
  have hbit : bitAt w i = decide (w / 2 ^ i % 2 = 1) := rfl
  rw [← hq, Nat.mul_add] at hw
  rw [Nat.bit_val, Nat.mul_add]
  obtain hr | hr := Nat.mod_two_eq_zero_or_one (w / 2 ^ i) <;> rw [hr] at hw hbit
  · cases b <;> simp [putBit, hbit] <;> omega
  · cases b <;> simp [putBit, hbit] <;> omega

/-- Putting a bit sets that bit and no other. -/
theorem bitAt_putBit (w i j : Nat) (b : Bool) : bitAt (putBit w i b) j = if j = i then b else bitAt w j := by
  have hlow : w % 2 ^ i < 2 ^ i := Nat.mod_lt _ (by positivity)
  simp only [bitAt_eq_testBit, putBit_eq, Nat.testBit_two_pow_mul_add _ hlow]
  obtain hj | rfl | ⟨k, rfl⟩ : j < i ∨ j = i ∨ ∃ k, j = i + (k + 1) :=
    (Nat.lt_trichotomy j i).imp_right (.imp_right fun h => ⟨j - i - 1, by omega⟩)
  · rw [if_pos hj, if_neg hj.ne, Nat.testBit_mod_two_pow, decide_eq_true hj, Bool.true_and]
  · rw [if_neg (Nat.lt_irrefl _), if_pos rfl, Nat.sub_self, Nat.testBit_bit_zero]
  · rw [if_neg (by omega), if_neg (by omega), Nat.add_sub_cancel_left, Nat.testBit_bit_succ, ← Nat.testBit_add_one,
      Nat.testBit_div_two_pow, Nat.add_comm i]

/-- Putting a bit below the width keeps the width. -/
theorem putBit_lt {w i k : Nat} (b : Bool) (hw : w < 2 ^ k) (hi : i < k) : putBit w i b < 2 ^ k := by
  refine Nat.lt_pow_two_of_testBit _ fun j hj => ?_
  rw [← bitAt_eq_testBit, bitAt_putBit, if_neg (by omega), bitAt_eq_testBit]
  exact Nat.testBit_lt_two_pow (hw.trans_le (Nat.pow_le_pow_right Nat.two_pos hj))

/-! ### Flags, and a raise that depends -/

/-- A flag reads back as it was set. -/
theorem Chip.flag_on_same (x : Chip) {f : Fld} (hf : 0 < f.width) (b : Bool) (n : Nat) : (x.flag f b n).on f n = b := by
  have hle : b2n b ≤ 1 := by cases b <;> decide
  rw [Chip.on, Chip.flag_eq, Chip.get_set_same, Nat.mod_eq_of_lt (hle.trans_lt (Nat.one_lt_two_pow hf.ne'))]
  cases b <;> rfl

/-- A raise leaves every register field, made or not. -/
@[simp] theorem Chip.onlyIf_raise_get (x : Chip) (c : Bool) (k : Nat) (g : Fld) (m : Nat) :
    (x.onlyIf c (·.raise k)).get g m = x.get g m := by cases c <;> rfl

/-- A raise that depends is listed where its condition holds. -/
@[simp] theorem Chip.onlyIf_raise_raised (x : Chip) (c : Bool) (k : Nat) :
    (x.onlyIf c (·.raise k)).ev.raised = x.ev.raised ++ if c then [.source k] else [] := by
  cases c
  · exact (List.append_nil _).symm
  · rfl

/-! ### PEND_RESTART and its mirrors (R29, R30) -/

/-- The five kinds of stop unit: its PEND_RESTART flag, its mirror, and how many there are (R29). -/
def stopUnits : List (Fld × Fld × Nat) :=
  [(HDn_STAT_PEND_RESTART, GL_PEND0_HEAD, 16), (DXn_STAT_PEND_RESTART, GL_PEND0_PORT, 10),
    (AU_DOMx_STAT_PEND_RESTART, GL_PEND0_AUDIO, 3), (SKn_STAT_PEND_RESTART, GL_PEND0_SKEIN, 2),
    (TPn_STAT_PEND_RESTART, GL_PEND1_TOUCH, 16)]

/-- The mirror of a stop unit's flag is another field, with a bit for each unit. -/
theorem stopUnits_mirror : ∀ u ∈ stopUnits, pendMirror u.1 = some (u.2.1, 0) ∧ u.1.id ≠ u.2.1.id ∧ u.1.width = 1 ∧
    u.2.1.width = u.2.2 ∧ u.2.2 ≤ 16 := by decide

/-- A flag with a mirror takes a value: the flag, the raise, and the mirror's bit. -/
theorem Chip.setPend_eq {f g : Fld} {k : Nat} (hm : pendMirror f = some (g, k)) (x : Chip) (n : Nat) (b : Bool) :
    x.setPend f n b = ((x.flag f b n).onlyIf (b && !x.on f n) (·.raise 9)).setBit g n b := by
  simp only [Chip.setPend, hm]

section
variable {u : Fld × Fld × Nat} (hu : u ∈ stopUnits) {n : Nat}
include hu

/-- The flag takes its value. -/
theorem Chip.setPend_on (hn : n < u.2.2) (x : Chip) (b : Bool) : (x.setPend u.1 n b).on u.1 n = b := by
  obtain ⟨hm, hid, hw, -, h16⟩ := stopUnits_mirror u hu
  rw [Chip.setPend_eq hm, Chip.on, Chip.setBit, Chip.get_set_other _ _ _ _ _ _ (by omega) (by omega) (.inl hid.symm),
    Chip.onlyIf_raise_get]
  exact x.flag_on_same (by omega) b n

/-- The mirror has the flag's bit put in it. -/
theorem Chip.setPend_get_mirror (hn : n < u.2.2) (x : Chip) (b : Bool) (hx : x.get u.2.1 < 2 ^ u.2.1.width) :
    (x.setPend u.1 n b).get u.2.1 = putBit (x.get u.2.1) n b := by
  obtain ⟨hm, hid, -, hw, h16⟩ := stopUnits_mirror u hu
  rw [Chip.setPend_eq hm, Chip.setBit, Chip.get_set_same, Chip.onlyIf_raise_get, Chip.flag_eq,
    Chip.get_set_other _ _ _ _ _ _ (by omega) (by omega) (.inl hid), Nat.mod_eq_of_lt (putBit_lt b hx (hw ▸ hn))]

/-- Source 9 is raised where the flag goes from 0 to 1. -/
theorem Chip.setPend_raised (x : Chip) (b : Bool) :
    (x.setPend u.1 n b).ev.raised = x.ev.raised ++ if b && !x.on u.1 n then [.source 9] else [] := by
  obtain ⟨hm, -⟩ := stopUnits_mirror u hu
  rw [Chip.setPend_eq hm, Chip.setBit, Chip.set_ev, Chip.onlyIf_raise_raised]
  rfl

end

/-- Settles O55: of the mirror only the unit's own bit is put, the flag lies in another field, and a raise touches neither. -/
theorem pendRestartMirrors : Obligations.PendRestartMirrors := by
  unfold Obligations.PendRestartMirrors
  intro x b u n hu hn hx
  refine ⟨x.setPend_on hu hn b, ?own, fun m hm _ => ?others, ?raised⟩
  case own => rw [x.setPend_get_mirror hu hn b hx, bitAt_putBit, if_pos rfl]
  case others => rw [x.setPend_get_mirror hu hn b hx, bitAt_putBit, if_neg hm]
  case raised => simpa using x.setPend_raised hu b

end Sys2Proof.Machine
end

section
/-!
SUPPORT. How a command that the engine has dispatched completes (R70), and completions by the liftings that Laws/Complete leaves
out.
-/
namespace Sys2Proof.Machine

/-- A dispatched command runs the block's own part. -/
theorem Chip.perform_dispatched {x : Chip} {o : Op} {c : Call} (hd : x.dispatchedCall o c = true) (body : Chip → Chip) :
    x.perform o c body = body x := by
  simp only [Chip.perform, Chip.arrive, hd, if_true]

/-- So does one that writes memory. -/
theorem Chip.performM_dispatched {x : Chip} {o : Op} {c : Call} (hd : x.dispatchedCall o c = true)
    (body : Chip → Chip × List (Nat × Byte)) : x.performM o c body = body x := by
  simp only [Chip.performM, Chip.arrive, hd, if_true]

/-- A command that reads memory completes with what it makes of the blocks. -/
theorem runs_onChipM {i : Instr} {s : State} {f : List Host.Cell → Chip → Chip} {y : Chip} (hp : s.chip.parked = false)
    (he : exec i s = s.onChipM f) (e : f s.mem s.chip = y) : Runs i s y := by
  subst e; exact he.trans (s.onChipM_eq f hp)

/-- A command that writes memory completes with what its work leaves. -/
theorem runsTo_onBoth {i : Instr} {s : State} {f : List Host.Cell → Chip → Chip × List (Nat × Byte)} {w : Work}
    (hp : s.chip.parked = false) (he : exec i s = s.onBoth f) (e : f s.mem s.chip = (w.x, w.ws)) : RunsTo i s w := by
  refine (he.trans (s.onBoth_eq f hp)).trans ?_
  simp only [State.onAonBoth, e]

/-- A command of a domain that Park leaves on, which may store, completes with what its work leaves. -/
theorem runsTo_onAonWork {i : Instr} {s : State} {f : Work → Work} {w : Work} (he : exec i s = s.onAonWork f)
    (e : f s.work = w) : RunsTo i s w := by subst e; exact he

end Sys2Proof.Machine
end

section
/-!
SUPPORT. Power modes (R21, R32, R35 to R43, R368, R521 to R524): one rule for each branch that POWER_MODE_SET, the other commands
of class 0xC, the agreement of a pair, heat and the wakes take; the settling of PowerCommandsComplete and PowerEventsComplete.
-/
namespace Sys2Proof.Machine

/-! ### POWER_MODE_SET (R32, R35, R43, R527) -/

/-- With no transition under way or waited for, the command takes effect, and what is due follows. -/
theorem powerModeSet_now {x : Chip} {c : Call} (hd : x.dispatchedCall opPowerModeSet c = true) (ht : x.pw.target = none)
    (hb : x.bl.propose = none) (hw : x.powerWaits (bits (c.w 0) 0 2) = false) (mem : List Host.Cell) :
    powerModeSet c mem x = runWork (fun w => (w.powerSet c).powerCheck) mem x := by
  simp only [powerModeSet, Chip.performM_dispatched hd, ht, hb, hw, Option.isNone_none, Bool.not_false, Bool.and_self, if_true]

/-- So the command completes with its effect and what is due. -/
theorem runsTo_powerModeSet {s : State} {c : Call} (hp : s.chip.parked = false)
    (hd : s.chip.dispatchedCall opPowerModeSet c = true) (ht : s.chip.pw.target = none) (hb : s.chip.bl.propose = none)
    (hw : s.chip.powerWaits (bits (c.w 0) 0 2) = false) : RunsTo (.powerModeSet c) s (s.work.powerSet c).powerCheck :=
  runsTo_onBoth hp rfl (powerModeSet_now hd ht hb hw s.mem)

/-- Hold and Park wait for no attach. -/
theorem Chip.powerWaits_of_le (x : Chip) {m : Nat} (h : 2 ≤ m) : x.powerWaits m = false := by
  simp only [Chip.powerWaits, decide_eq_false (Nat.not_lt.2 h), Bool.and_false]

/-- Dim is left for Run, the heat allowing it. -/
theorem Work.powerSet_run {w : Work} {c : Call} (h0 : c.w 0 = 0) (hd : w.x.powerDenied 0 = false)
    (hp : w.x.get GL_MODE_POWER = 1) (ht : w.x.on GL_MODE_THERM_DIM = false) :
    w.powerSet c = (w.on fun y => { y with pw := { y.pw with dimCmd := false } }).on fun y =>
      (y.setMode GL_MODE_POWER 0).ok opPowerModeSet c [] := by
  have hm : bits 0 0 2 = 0 := rfl
  have hf : bits 0 8 1 = 0 := rfl
  have ht' : (w.on fun y => { y with pw := { y.pw with dimCmd := false } }).x.on GL_MODE_THERM_DIM = false := ht
  simp [Work.powerSet, h0, hm, hf, hd, hp, ht']

/-- A chip that is no Lead begins to enter Hold. -/
theorem Work.powerSet_hold {w : Work} {c : Call} (h2 : c.w 0 = 2) (hd : w.x.powerDenied 2 = false)
    (hp : w.x.get GL_MODE_POWER ≠ 2) (hl : w.x.get GL_MODE_PAIR ≠ 1) : w.powerSet c = w.beginHold (some c) := by
  have hm : bits 2 0 2 = 2 := rfl
  have hf : bits 2 8 1 = 0 := rfl
  simp [Work.powerSet, h2, hm, hf, hd, hp, hl]

/-- Or Park, here without the clock face. -/
theorem Work.powerSet_park {w : Work} {c : Call} (h3 : c.w 0 = 3) (hd : w.x.powerDenied 3 = false)
    (hp : w.x.get GL_MODE_POWER ≠ 3) (hl : w.x.get GL_MODE_PAIR ≠ 1) :
    w.powerSet c = w.on fun y => y.beginPark (some c) false := by
  have hm : bits 3 0 2 = 3 := rfl
  have hf : bits 3 8 1 = 0 := rfl
  have hface : bitAt 3 8 = false := rfl
  simp [Work.powerSet, h3, hm, hf, hface, hd, hp, hl]

/-! ### DEGRADED_CLEAR and PARK_FACE_SET (R39, R40, R522) -/

/-- With no cause standing that keeps it there, a Degraded chip is Whole again, its causes cleared. -/
theorem degradedClear_clears {x : Chip} {c : Call} (hd : x.dispatchedCall opDegradedClear c = true)
    (ht : x.on GL_DEG_CAUSE_TRIM_DEFAULT = false) (hc : x.on GL_DEG_CAUSE_CHAN_RETIRED = false) :
    degradedClear c x = (let y := x.clearCauses.dropModes 3
      if y.get GL_MODE_INTEG = 1 then y.setMode GL_MODE_INTEG 0 else y).ok opDegradedClear c [] := by
  simp only [degradedClear, Chip.perform_dispatched hd, ht, hc, Bool.false_and, Bool.or_self, Bool.false_eq_true, if_false]

/-- No address and no length drop the face record. -/
theorem parkFaceSet_drops {x : Chip} {c : Call} (hd : x.dispatchedCall opParkFaceSet c = true) (ha : c.q 0 = 0)
    (hn : c.w 2 = 0) (mem : List Host.Cell) :
    parkFaceSet c mem x = ({ x with pw := { x.pw with faceRec := [] } } : Chip).ok opParkFaceSet c [] := by
  simp only [parkFaceSet, Chip.perform_dispatched hd, ha, hn, decide_true, Bool.and_self, if_true]

/-- A record of the caller's own, right and of the length its geometry gives, is held. -/
theorem parkFaceSet_holds {x : Chip} {c : Call} {mem : List Host.Cell} (hd : x.dispatchedCall opParkFaceSet c = true)
    (ha : c.q 0 ≠ 0) (hown : (x.ownRange c.fn (c.q 0) 1 [0]).isNone = false) (hlo : 36 ≤ c.w 2) (hhi : c.w 2 ≤ 45092)
    (hall : (x.ownRange c.fn (c.q 0) (c.w 2) [0]).isNone = false)
    (hr : x.faceWrong (readBytes mem x (c.q 0) (c.w 2)) = none)
    (hn : c.w 2 = 36 + 11 * fieldLe (readBytes mem x (c.q 0) (c.w 2)) 0x16 2 *
      fieldLe (readBytes mem x (c.q 0) (c.w 2)) 0x14 1 / 8) :
    parkFaceSet c mem x = ({ x with pw := { x.pw with faceRec := readBytes mem x (c.q 0) (c.w 2) } } : Chip).ok
      opParkFaceSet c [] := by
  have hlen : ¬ (c.w 2 < 36) ∧ ¬ (45092 < c.w 2) := by omega
  have hok : (c.w 2 != 36 + 11 * fieldLe (readBytes mem x (c.q 0) (c.w 2)) 0x16 2 *
      fieldLe (readBytes mem x (c.q 0) (c.w 2)) 0x14 1 / 8) = false := bne_eq_false_iff_eq.2 hn
  simp only [parkFaceSet, Chip.perform_dispatched hd, ha, hown, hlen, hall, hr, hok, decide_false, Bool.false_and, Bool.or_self,
    Bool.false_eq_true, if_false]

/-- Settles O26: a dispatched command runs the block's own part, and each clause is the rule of one of its branches. -/
theorem powerCommandsComplete : Obligations.PowerCommandsComplete := by
  unfold Obligations.PowerCommandsComplete
  refine ⟨?run, ?hold, ?park, ?mode, ?degraded, ?thermal, ?faceDrop, ?faceHeld⟩
  case run =>
    intro s c hd ht hb h0 hden hdim hheat hbusy hp
    have hw : s.chip.powerWaits (bits (c.w 0) 0 2) = false := by simp only [Chip.powerWaits, hbusy, Bool.false_and]
    exact Work.powerSet_run (w := s.work) h0 hden hdim hheat ▸ runsTo_powerModeSet hp hd ht hb hw
  case hold =>
    intro s c hd ht hb h2 hden hmode hlead hp
    have hw : s.chip.powerWaits (bits (c.w 0) 0 2) = false := by rw [h2]; exact s.chip.powerWaits_of_le (by decide)
    exact Work.powerSet_hold (w := s.work) h2 hden hmode hlead ▸ runsTo_powerModeSet hp hd ht hb hw
  case park =>
    intro s c hd ht hb h3 hden hmode hlead hp
    have hw : s.chip.powerWaits (bits (c.w 0) 0 2) = false := by rw [h3]; exact s.chip.powerWaits_of_le (by decide)
    exact Work.powerSet_park (w := s.work) h3 hden hmode hlead ▸ runsTo_powerModeSet hp hd ht hb hw
  case mode => exact fun s c hd hp => runs_onChip hp rfl (Chip.perform_dispatched hd _)
  case degraded => exact fun s c hd ht hc hp => runs_onChip hp rfl (degradedClear_clears hd ht hc)
  case thermal => exact fun s c hd hp => runs_onChip hp rfl (Chip.perform_dispatched hd _)
  case faceDrop => exact fun s c hd ha hn hp => runs_onChipM hp rfl (parkFaceSet_drops hd ha hn s.mem)
  case faceHeld =>
    exact fun s c hd ha hown hlo hhi hall hr hn hp => runs_onChipM hp rfl (parkFaceSet_holds hd ha hown hlo hhi hall hr hn)

/-! ### Agreement of a pair (R36, R368) -/

/-- A chip that is no Follow refuses the mode its twin proposes. -/
theorem powerPropose_refused {h : MsgHdr} {w : Work} (ht : (w.x.blTake h 5 4 false).2 = true)
    (hf : (w.x.blTake h 5 4 false).1.follow = false) (m : Nat) :
    powerPropose h m w = Work.blPump { w with x := (w.x.blTake h 5 4 false).1.blSend 5 8 [0, 0, 0, 0] } := by
  simp only [powerPropose, blMsg_taken ht, hf, Bool.false_and, Bool.not_false, if_true]
  rfl

/-- A Follow in Run or Dim, with no session and no transition under way, agrees to Hold and begins to enter it. -/
theorem powerPropose_hold {h : MsgHdr} {w : Work} (ht : (w.x.blTake h 5 4 false).2 = true)
    (hf : (w.x.blTake h 5 4 false).1.follow = true) (hk : (w.x.blTake h 5 4 false).1.kennel = false)
    (hs : (w.x.blTake h 5 4 false).1.get RJ_SESSION_ROLE = 0) (hn : (w.x.blTake h 5 4 false).1.pw.target = none)
    (hm : (w.x.blTake h 5 4 false).1.get GL_MODE_POWER < 2) :
    powerPropose h 2 w = Work.blPump (
      let y := (w.x.blTake h 5 4 false).1.blSend 5 8 [1, 0, 0, 0]
      (({ w with x := { y with bl := { y.bl with agreed := some 2 } } } : Work).beginHold none).powerCheck) := by
  have hmode : [2, 3].contains 2 = true := rfl
  simp only [powerPropose, blMsg_taken ht, hf, hk, hs, hn, hm, hmode, Option.isNone_none, decide_true, Bool.not_false,
    Bool.and_self, Bool.not_true, Bool.false_eq_true, if_false, if_true]
  rfl

/-- A refusal of the twin's ends the command. -/
theorem powerReply_refused {h : MsgHdr} {w : Work} {c : Call} {m : Nat} (ht : (w.x.blTake h 5 4 false).2 = true)
    (hb : (w.x.blTake h 5 4 false).1.bl.propose = some (c, m)) :
    powerReply h false w = Work.blPump (
      let y := (w.x.blTake h 5 4 false).1
      ({ w with x := Chip.deniedMode { y with bl := { y.bl with propose := none } } opPowerModeSet c } : Work).powerCheck) := by
  simp only [powerReply, blMsg_taken ht, hb, Bool.not_false, if_true]
  rfl

/-- The twin accepts Hold, and the Lead begins to enter it. -/
theorem powerReply_hold {h : MsgHdr} {w : Work} {c : Call} (ht : (w.x.blTake h 5 4 false).2 = true)
    (hb : (w.x.blTake h 5 4 false).1.bl.propose = some (c, 2))
    (hd : ({ (w.x.blTake h 5 4 false).1 with bl := { (w.x.blTake h 5 4 false).1.bl with propose := none } } : Chip).powerDenied
      2 = false) :
    powerReply h true w = Work.blPump (
      let y := (w.x.blTake h 5 4 false).1
      (({ w with x := { y with bl := { y.bl with propose := none } } } : Work).beginHold (some c)).powerCheck) := by
  have hd' : ((w.x.blTake h 5 4 false).1.setBl fun b => { b with propose := none }).powerDenied 2 = false := hd
  simp only [powerReply, blMsg_taken ht, hb, Work.on, hd', Bool.not_true, Bool.false_eq_true, if_false, if_true]
  rfl

/-- With no answer in time the command fails as if refused. -/
theorem powerReplyTimeout_waiting {w : Work} {c : Call} {m : Nat} (hb : w.x.bl.propose = some (c, m)) :
    powerReplyTimeout w = ({ w with
      x := Chip.deniedMode { w.x with bl := { w.x.bl with propose := none } } opPowerModeSet c } : Work).powerCheck := by
  simp only [powerReplyTimeout, hb]
  rfl

/-- A cancel of the twin's undoes the entry of Hold or Park. -/
theorem powerCancel_entering {h : MsgHdr} {w : Work} {m : Nat} (ht : (w.x.blTake h 5 0 false).2 = true)
    (hb : (w.x.blTake h 5 0 false).1.pw.target = some m) (hm : 2 ≤ m) :
    powerCancel h w = Work.blPump (
      let y := (w.x.blTake h 5 0 false).1
      { w with x := { y with pw := { y.pw with cancel := true }, bl := { y.bl with agreed := none } } }) := by
  simp only [powerCancel, blMsg_taken ht, Work.on, hb, Option.any_some, hm, decide_true, if_true]

/-! ### Heat (R524) -/

/-- Out of Park the sensors are read, heads that cooled resume, and what is due follows. -/
theorem thermalSample_awake {w : Work} (hp : w.x.get GL_MODE_POWER ≠ 3) (t : Temps) :
    thermalSample t w = ((w.on fun y => y.thermal (tempList t)).on Chip.headsResume).powerCheck := by
  simp only [thermalSample, hp, if_false]

/-- The thermal hold is released once Tj has stayed below 105 degrees. -/
theorem thermRelease_cool {w : Work} (hp : w.x.get GL_MODE_POWER ≠ 3) (hd : w.x.on GL_MODE_THERM_DIM = true)
    (ht : toS 16 (w.x.get GL_THERM_TJ) < 1050) : thermRelease w = (w.on Chip.thermFree).powerCheck := by
  simp only [thermRelease, hp, hd, Int.not_le.2 ht, decide_false, Bool.not_true, Bool.or_self, Bool.false_eq_true, if_false]

/-! ### Wakes and Park (R21, R521 to R523) -/

/-- A pin whose wake enable is set is a wake. -/
theorem wakeGpio_enabled {w : Work} {p : Nat}
    (he : (if p < 32 then bitAt (w.x.get GL_WAKE_EN0_GPIO) p else bitAt (w.x.get GL_WAKE_EN1_GPIO) (p - 32)) = true) (k : Wake) :
    wakeGpio p k w = w.wake k 0 p := if_pos he

/-- A pulse to the twin ends: the pin is high again. -/
theorem twinWakePulseEnd_low {x : Chip} (h : x.pw.wakeLow = true) :
    twinWakePulseEnd x =
      ({ x with pw := { x.pw with wakeLow := false } } : Chip).emit (.pin 8 [x.get GL_WAKE_EN1_TWIN_OUT, 1]) := if_pos h

/-- Settles O27: each clause is the rule of one branch of its event; a message adds that it is taken. -/
theorem powerEventsComplete : Obligations.PowerEventsComplete := by
  unfold Obligations.PowerEventsComplete
  refine ⟨?refused, ?hold, ?replyNo, ?replyHold, ?replyTimeout, ?cancel, ?sample, ?release, ?gpioHigh, ?gpioLow, ?alarm, ?pcie,
    ?touch, ?pulseEnd, ?face, ?park⟩
  case refused => exact fun s h m ht hf hp => runsTo_onSkein hp rfl (powerPropose_refused ht hf m.toNat)
  case hold => exact fun s h ht hf hk hs hn hm hp => runsTo_onSkein hp rfl (powerPropose_hold ht hf hk hs hn hm)
  case replyNo => exact fun s h c m ht hb hp => runsTo_onSkein hp rfl (powerReply_refused ht hb)
  case replyHold => exact fun s h c ht hb hd hp => runsTo_onSkein hp rfl (powerReply_hold ht hb hd)
  case replyTimeout => exact fun s c m hb hp => runsTo_onSkein hp rfl (powerReplyTimeout_waiting hb)
  case cancel => exact fun s h m ht hb hm hp => runsTo_onSkein hp rfl (powerCancel_entering ht hb hm)
  case sample => exact fun s t hm hp => runsTo_onSkein hp rfl (thermalSample_awake hm t)
  case release => exact fun s hm hd ht hp => runsTo_onSkein hp rfl (thermRelease_cool hm hd ht)
  case gpioHigh =>
    exact fun s p k hlo he => runsTo_onAonWork rfl (wakeGpio_enabled (w := s.work) (by rw [if_neg (by omega)]; exact he) k)
  case gpioLow => exact fun s p k hlt he => runsTo_onAonWork rfl (wakeGpio_enabled (w := s.work) (by rw [if_pos hlt]; exact he) k)
  case alarm => exact fun s k ha => runsTo_onAonWork rfl (if_pos ha)
  case pcie => exact fun s k he => runsTo_onAonWork rfl (if_pos he)
  case touch => exact fun s p k he hr => runsTo_onAonWork rfl (if_pos (Bool.and_eq_true_iff.2 ⟨he, hr⟩))
  case pulseEnd => exact fun s h => runs_onAon rfl (twinWakePulseEnd_low h)
  case face => exact fun s hm hi => runs_onAon rfl (if_neg (by simp [hm, hi]))
  case park => exact fun s ht hp => runsTo_onSkein hp rfl (congrArg Work.powerCheck (if_pos ht))

end Sys2Proof.Machine
end

section
/-!
SUPPORT. Attach (R34, R353, R354, R357): identity, election and the mirror messages; the settling of AttachCompletes.
-/
namespace Sys2Proof.Machine

/-! ### Identity and election (R353, R354) -/

/-- A HELLO taken is noted, and in phase 2 the compatibility is judged. -/
theorem helloIn_taken {h : MsgHdr} {w : Work} (ht : (w.x.blTake h 5 64 true).2 = true) (m : Hello) :
    helloIn h m w = (let y := (w.x.blTake h 5 64 true).1.setBl fun b => { b with hello := some m }
      ({ w with x := if y.get BL_STAT_ATTACH = 2 then y.compat m else y } : Work).blPump) := by
  simp only [helloIn, ht, Bool.true_and, decide_eq_true_eq, if_true]

section
variable {h : MsgHdr} {w : Work} {l : Nat} (ht : (w.x.blTake h 5 4 false).2 = true)
  (ha : (w.x.blTake h 5 4 false).1.get BL_STAT_ATTACH = 4)
include ht ha

/-- The twin confirms the Lead this chip told it, and the sync begins. -/
theorem electIn_confirmed (hl : (w.x.blTake h 5 4 false).1.bl.lead = some true)
    (ho : l = (w.x.blTake h 5 4 false).1.get RB_STRAP_TWIN_ID) (sync : Bool) :
    electIn h l sync w = Work.blPump { w with x := (w.x.blTake h 5 4 false).1.startSync sync } := by
  simp [electIn, blMsg_taken ht, Work.on, ha, hl, ho]

/-- The Follow confirms a Lead that is the twin, and the sync begins. -/
theorem electIn_followed (hl : (w.x.blTake h 5 4 false).1.bl.lead ≠ some true)
    (ho : l ≠ (w.x.blTake h 5 4 false).1.get RB_STRAP_TWIN_ID) (sync : Bool) :
    electIn h l sync w =
      Work.blPump { w with x := ((w.x.blTake h 5 4 false).1.blSend 5 2 [l, b2n sync, 0, 0]).startSync sync } := by
  simp [electIn, blMsg_taken ht, Work.on, ha, hl, ho]

/-- Chips that elect different Leads do not attach. -/
theorem electIn_disagrees
    (hne : ((w.x.blTake h 5 4 false).1.bl.lead = some true) ≠ (l = (w.x.blTake h 5 4 false).1.get RB_STRAP_TWIN_ID))
    (sync : Bool) : electIn h l sync w = Work.blPump { w with x := (w.x.blTake h 5 4 false).1.attachFail 6 } := by
  by_cases hl : (w.x.blTake h 5 4 false).1.bl.lead = some true
  · have ho : l ≠ (w.x.blTake h 5 4 false).1.get RB_STRAP_TWIN_ID := fun e => hne (by simp only [hl, e])
    simp [electIn, blMsg_taken ht, Work.on, ha, hl, ho]
  · have ho : l = (w.x.blTake h 5 4 false).1.get RB_STRAP_TWIN_ID := by
      by_contra e; exact hne (by simp only [hl, e])
    simp [electIn, blMsg_taken ht, Work.on, ha, hl, ho]

end

/-! ### Mirror messages (R357, R401) -/

/-- The state of a head fits one message. -/
theorem mirrorState_fits {data : List Byte} (hlen : data.length ≤ 8184) : ¬ 8184 < (data.map (·.toNat)).length := by
  rw [List.length_map]; omega

/-- So do the bytes of a write, of which there is at least one. -/
theorem mirrorWrite_fits {data : List Byte} (hne : data ≠ []) (hlen : data.length ≤ 4096) :
    ¬ (data.map (·.toNat) = [] || 4096 < (data.map (·.toNat)).length) = true := by
  simp [hne, hlen]

/-! ### The commands -/

/-- Settles O40: each clause is the rule of one branch of its event; a message adds that it is taken, a mirror message that
the ingress tap of its class sees it. -/
theorem attachCompletes : Obligations.AttachCompletes := by
  unfold Obligations.AttachCompletes
  refine ⟨?hello, ?confirmed, ?followed, ?disagrees, ?helloTimeout, ?attachTimeout, ?mirrorOpen, ?mirrorWrite, ?mirrorClose,
    ?background, ?tone, ?protLayer, ?inputs, ?syncDone, ?auto⟩
  case hello => exact fun s h m ht hp => runsTo_onSkein hp rfl (helloIn_taken ht m)
  case confirmed => exact fun s h l sy ht ha hl ho hp => runsTo_onSkein hp rfl (electIn_confirmed ht ha hl ho sy)
  case followed => exact fun s h l sy ht ha hl ho hp => runsTo_onSkein hp rfl (electIn_followed ht ha hl ho sy)
  case disagrees => exact fun s h l sy ht ha hne hp => runsTo_onSkein hp rfl (electIn_disagrees ht ha hne sy)
  case helloTimeout => exact fun s ha hn hp => runs_onChip hp rfl (if_pos (by simp [ha, hn]))
  case attachTimeout => exact fun s hp => runs_onChip hp rfl rfl
  case mirrorOpen =>
    intro s h i t k z ht hp
    refine runsTo_onSkein hp rfl ?_
    unfold mirrorOpen
    exact blTapped_taken (w := s.work) ht
  case mirrorWrite =>
    exact fun s h i t off data hne hlen ht hp =>
      runsTo_onSkein hp rfl ((if_neg (mirrorWrite_fits hne hlen)).trans (blTapped_taken (w := s.work) ht))
  case mirrorClose => exact fun s h i t ht hp => runsTo_onSkein hp rfl (blTapped_taken (w := s.work) ht)
  case background | tone | protLayer | inputs =>
    exact fun s h hd num data hlen ht hp =>
      runsTo_onSkein hp rfl ((if_neg (mirrorState_fits hlen)).trans (blTapped_taken (w := s.work) ht))
  case syncDone => exact fun s h l ht hp => runsTo_onSkein hp rfl (blTapped_taken (w := s.work) ht)
  case auto =>
    exact fun s hw ha hpair hst hp => runsTo_onSkein hp rfl (if_pos (by simp [State.work, hw, ha, hpair, hst]))

end Sys2Proof.Machine
end

section
/-!
SUPPORT. Command packets (R52 to R80, R571, R572): the pointers of a ring and its registers, one rule for each way a doorbell, a
ring enable, a fetch or a timeout is answered and for the class 0x0 opcodes; the settling of DoorbellRule, RingControl,
EngineCommandsComplete, RingCommandsComplete, OutcomesComplete and StepRunsFront.
-/
namespace Sys2Proof.Machine

/-! ### Ring registers and pointers (R53, R56, R57) -/

/-- Blocks that meet a condition end a command that completes with them. -/
theorem Runs.ends {i : Instr} {s : State} {y : Chip} {P : Chip → Prop} (h : Runs i s y) (hP : P y) : Ends i s P :=
  ⟨_, h, rfl, rfl, hP⟩

/-- The register map has five rings a function. -/
theorem ringIx_eq (f k : Nat) : ringIx f k = 5 * f + k := by rw [ringIx, Nat.mul_comm]

/-- Ring registers have numbers that keys tell apart. -/
theorem ringIx_lt (f : Fin 65) (k : Fin 5) : ringIx f k < 2048 := by unfold ringIx; omega

/-- A write leaves every other field of its own number. -/
theorem Chip.get_set_of_id_ne (x : Chip) {f g : Fld} (h : f.id ≠ g.id) (v : Nat) {n : Nat} (hn : n < 2048) :
    (x.set f v n).get g n = x.get g n := x.get_set_other f g v n n hn hn (.inl h)

/-- A flag set leaves every other flag of its own number. -/
theorem Chip.flag_on_of_id_ne (x : Chip) {f g : Fld} (h : f.id ≠ g.id) (b : Bool) {n : Nat} (hn : n < 2048) :
    (x.flag f b n).on g n = x.on g n := congrArg (· != 0) (x.get_set_of_id_ne h (b2n b) hn)

/-- The slot index is the low half of a pointer. -/
theorem ptrIdx_eq (p : Nat) : ptrIdx p = p % 65536 := by rw [ptrIdx, bits, Nat.pow_zero, Nat.div_one]; rfl

/-- pos(x) of R57 in the bits of the pointer. -/
theorem ptrPos_eq (size p : Nat) : ptrPos size p = (p / 65536 % 2 * size + p % 65536) % (2 * size) := by
  rw [ptrPos, ptrIdx_eq]; rfl

/-- An index bit at or above SIZE_LOG2 makes the index too large. -/
theorem ptrTooLarge_iff (size p : Nat) : ptrTooLarge size p = true ↔ size ≤ p % 65536 := by
  rw [ptrTooLarge, decide_eq_true_iff, ptrIdx_eq]

/-! ### Doorbells (R57) -/

/-- A submission ring refuses producer pointer `p`: its index is too large, the occupancy would exceed the ring, or the
pointer would move back (R57). -/
def Chip.refusesTail (x : Chip) (f k p : Nat) : Bool :=
  ptrTooLarge (x.ringSize f k) p ||
    (x.ringSize f k < ptrDist (x.ringSize f k) p (x.get RINGk_HEAD_PTR (ringIx f k)) ||
      ptrDist (x.ringSize f k) p (x.get RINGk_HEAD_PTR (ringIx f k)) <
        ptrDist (x.ringSize f k) (x.get RINGk_TAIL_PTR (ringIx f k)) (x.get RINGk_HEAD_PTR (ringIx f k)))

/-- The reply ring refuses consumer pointer `c`: its index is too large, or it does not lie between the consumer and the
producer pointer (R57). -/
def Chip.refusesHead (x : Chip) (f c : Nat) : Bool :=
  ptrTooLarge (x.ringSize f 4) c ||
    ptrDist (x.ringSize f 4) (x.get RINGk_TAIL_PTR (ringIx f 4)) (x.get RINGk_HEAD_PTR (ringIx f 4)) <
      ptrDist (x.ringSize f 4) (x.get RINGk_TAIL_PTR (ringIx f 4)) c

section
variable {x : Chip} {f k v : Nat} (hf : x.present f = true)
include hf

/-- The producer pointer's present value has no effect. -/
theorem dbRing_same (h : v % 2 ^ 17 = x.get RINGk_TAIL_PTR (ringIx f k)) : dbRing f k v x = x := by
  simp only [dbRing, hf, h, Bool.not_true, Bool.false_eq_true, if_false, if_true]

/-- A refused value sets BAD_DB and raises source 32. -/
theorem dbRing_refused (h : v % 2 ^ 17 ≠ x.get RINGk_TAIL_PTR (ringIx f k)) (hr : x.refusesTail f k (v % 2 ^ 17) = true) :
    dbRing f k v x = (x.flag RINGk_STAT_BAD_DB true (ringIx f k)).raise 32 := by
  unfold Chip.refusesTail at hr
  simp only [dbRing, hf, h, hr, Bool.not_true, Bool.false_eq_true, if_false, if_true]

/-- An accepted value moves the pointer, and ends a wait for the slots of a packet once they are all there (R72). -/
theorem dbRing_accepted (h : v % 2 ^ 17 ≠ x.get RINGk_TAIL_PTR (ringIx f k)) (hr : x.refusesTail f k (v % 2 ^ 17) = false) :
    dbRing f k v x =
      (let y := x.set RINGk_TAIL_PTR (v % 2 ^ 17) (ringIx f k)
       if sparseGet y.ce.need (ringIx f k) 0 ≤ y.ringUsed f k then
         { y.flag RINGk_STAT_PARTIAL false (ringIx f k) with
           ce := { y.ce with need := sparseSet y.ce.need (ringIx f k) 0 0 } }
       else y) := by
  unfold Chip.refusesTail at hr
  simp only [dbRing, hf, h, hr, Bool.not_true, Bool.false_eq_true, if_false]

/-- The consumer pointer's present value has no effect. -/
theorem dbReply_same (h : v % 2 ^ 17 = x.get RINGk_HEAD_PTR (ringIx f 4)) : dbReply f v x = x := by
  simp only [dbReply, hf, h, Bool.not_true, Bool.false_eq_true, if_false, if_true]

/-- A refused value sets BAD_DB. -/
theorem dbReply_refused (h : v % 2 ^ 17 ≠ x.get RINGk_HEAD_PTR (ringIx f 4)) (hr : x.refusesHead f (v % 2 ^ 17) = true) :
    dbReply f v x = x.flag RINGk_STAT_BAD_DB true (ringIx f 4) := by
  unfold Chip.refusesHead at hr
  simp only [dbReply, hf, h, hr, Bool.not_true, Bool.false_eq_true, if_false, if_true]

/-- An accepted value moves the pointer; replies that waited for room are written, and what waited for them may go (R68). -/
theorem dbReply_accepted (h : v % 2 ^ 17 ≠ x.get RINGk_HEAD_PTR (ringIx f 4)) (hr : x.refusesHead f (v % 2 ^ 17) = false) :
    dbReply f v x =
      (((x.set RINGk_HEAD_PTR (v % 2 ^ 17) (ringIx f 4)).setFull f).retire f x.ce.pkts.length).release := by
  unfold Chip.refusesHead at hr
  simp only [dbReply, hf, h, hr, Bool.not_true, Bool.false_eq_true, if_false, Chip.setFull, Chip.flag_eq, Chip.set_ce]

end

/-- An accepted doorbell leaves the pointer at its value, BAD_DB as it was, and raises nothing. -/
theorem dbRing_accepted_frame {x : Chip} {f : Fin 65} {k : Fin 4} {v : Nat} (hf : x.present f = true)
    (h : v % 2 ^ 17 ≠ x.get RINGk_TAIL_PTR (ringIx f k)) (hr : x.refusesTail f k (v % 2 ^ 17) = false) :
    (dbRing f k v x).get RINGk_TAIL_PTR (ringIx f k) = v % 2 ^ 17 ∧
      (dbRing f k v x).get RINGk_STAT_BAD_DB (ringIx f k) = x.get RINGk_STAT_BAD_DB (ringIx f k) ∧
      (dbRing f k v x).ev = x.ev := by
  have hn : ringIx f k < 2048 := ringIx_lt f k.castSucc
  have htail : (x.set RINGk_TAIL_PTR (v % 2 ^ 17) (ringIx f k)).get RINGk_TAIL_PTR (ringIx f k) = v % 2 ^ 17 :=
    (x.get_set_same ..).trans (Nat.mod_mod _ _)
  have hbad : (x.set RINGk_TAIL_PTR (v % 2 ^ 17) (ringIx f k)).get RINGk_STAT_BAD_DB (ringIx f k) =
      x.get RINGk_STAT_BAD_DB (ringIx f k) := x.get_set_of_id_ne (by decide) _ hn
  rw [dbRing_accepted hf h hr]
  dsimp only
  split
  · exact ⟨(Chip.get_set_of_id_ne _ (by decide) _ hn).trans htail, (Chip.get_set_of_id_ne _ (by decide) _ hn).trans hbad, rfl⟩
  · exact ⟨htail, hbad, rfl⟩

/-- Settles O51: the three rules of each doorbell, its refusal read in the bits of the pointers. -/
theorem doorbellRule : Obligations.DoorbellRule := by
  unfold Obligations.DoorbellRule
  refine ⟨fun s f k v hp hf => ?ring, fun s f v hp hf => ?reply⟩
  case ring =>
    intro size c p pos d q bad
    have hbad : bad ↔ s.chip.refusesTail f k q = true := by
      simp only [bad, d, pos, size, c, p, Chip.refusesTail, Chip.ringSize, Bool.or_eq_true, decide_eq_true_iff, ptrTooLarge_iff,
        ptrDist, ptrPos_eq, ringIx_eq]
    rw [hbad, Bool.not_eq_true]
    simp only [p, ← ringIx_eq]
    exact ⟨fun h => runs_onChip hp rfl (dbRing_same hf h), fun h hr => runs_onChip hp rfl (dbRing_refused hf h hr),
      fun h hr => Runs.ends (runs_onChip hp rfl rfl) (dbRing_accepted_frame hf h hr)⟩
  case reply =>
    intro size c p pos d q bad
    have hbad : bad ↔ s.chip.refusesHead f q = true := by
      simp only [bad, d, pos, size, c, p, Chip.refusesHead, Chip.ringSize, Bool.or_eq_true, decide_eq_true_iff, ptrTooLarge_iff,
        ptrDist, ptrPos_eq, ringIx_eq]
    rw [hbad, Bool.not_eq_true]
    simp only [c, ← ringIx_eq]
    exact ⟨fun h => runs_onChip hp rfl (dbReply_same hf h), fun h hr => runs_onChip hp rfl (dbReply_refused hf h hr),
      fun h hr => ⟨_, runs_onChip hp rfl (dbReply_accepted hf h hr), rfl⟩⟩

/-! ### Ring enables (R54) -/

section
variable {x : Chip} {f k size : Nat} {wb : Bool} (hf : x.present f = true)
include hf

/-- A size out of range leaves the ring disabled and sets CFG_ERR. -/
theorem ringEnable_outOfRange (he : (x.flag RINGk_CTL_WB_EN wb (ringIx f k)).on RINGk_CTL_EN (ringIx f k) = false)
    (hs : size < 4 ∨ ringMaxLog k < size) :
    ringEnable f k size wb x = ((x.flag RINGk_CTL_WB_EN wb (ringIx f k)).set RINGk_CTL_SIZE_LOG2 size (ringIx f k)).flag
      RINGk_STAT_CFG_ERR true (ringIx f k) := by
  have hs' : (decide (size < 4) || decide (ringMaxLog k < size)) = true := by simpa using hs
  simp only [ringEnable, hf, he, hs', Bool.not_true, Bool.false_eq_true, if_false, if_true]

/-- A submission ring of a size in range is enabled, its pointers at 0. -/
theorem ringEnable_inRange (he : (x.flag RINGk_CTL_WB_EN wb (ringIx f k)).on RINGk_CTL_EN (ringIx f k) = false)
    (hlo : 4 ≤ size) (hhi : size ≤ ringMaxLog k) (hk : k ≠ 4) :
    ringEnable f k size wb x =
      ((((x.flag RINGk_CTL_WB_EN wb (ringIx f k)).set RINGk_CTL_SIZE_LOG2 size (ringIx f k)).flag RINGk_CTL_EN true
        (ringIx f k)).set RINGk_HEAD_PTR 0 (ringIx f k)).set RINGk_TAIL_PTR 0 (ringIx f k) := by
  simp only [ringEnable, hf, he, Nat.not_lt.2 hlo, Nat.not_lt.2 hhi, hk, Bool.not_true, decide_false, Bool.or_self,
    Bool.false_eq_true, if_false]

/-- A disabled ring waits for no slots, and the engine keeps its packets. -/
theorem ringDisable_eq : ringDisable f k x =
    { (x.flag RINGk_CTL_EN false (ringIx f k)).flag RINGk_STAT_PARTIAL false (ringIx f k) with
      ce := { x.ce with need := sparseSet x.ce.need (ringIx f k) 0 0 } } := by
  simp only [ringDisable, hf, Bool.not_true, Bool.false_eq_true, if_false]

end

/-- Settles O52: the rule of each way an enable is answered, and in the chain of writes each field's own is the last to it. -/
theorem ringControl : Obligations.RingControl := by
  unfold Obligations.RingControl
  simp only [← ringIx_eq]
  refine ⟨fun s f k n wb hp hf he => ?enable, fun s f k hp hf => ?disable⟩
  case enable =>
    have hn := ringIx_lt f k
    have he' : (s.chip.flag RINGk_CTL_WB_EN wb (ringIx f k)).on RINGk_CTL_EN (ringIx f k) = false :=
      (s.chip.flag_on_of_id_ne (by decide) wb hn).trans he
    refine ⟨fun hs => ?outOfRange, fun hlo hhi hk => ?inRange⟩
    case outOfRange =>
      refine Runs.ends (runs_onChip hp rfl (ringEnable_outOfRange hf he' hs)) ⟨?_, Chip.flag_on_same _ (by decide) _ _⟩
      rw [Chip.flag_on_of_id_ne _ (by decide) _ hn, Chip.on, Chip.get_set_of_id_ne _ (by decide) _ hn]
      exact he'
    case inRange =>
      refine Runs.ends (runs_onChip hp rfl (ringEnable_inRange hf he' hlo hhi hk))
        ⟨?en, ?size, ?head, Chip.get_set_same ..⟩
      case en =>
        rw [Chip.on, Chip.get_set_of_id_ne _ (by decide) _ hn, Chip.get_set_of_id_ne _ (by decide) _ hn]
        exact Chip.flag_on_same _ (by decide) _ _
      case size =>
        rw [Chip.get_set_of_id_ne _ (by decide) _ hn, Chip.get_set_of_id_ne _ (by decide) _ hn, Chip.flag_eq,
          Chip.get_set_of_id_ne _ (by decide) _ hn, Chip.get_set_same]
        exact Nat.mod_eq_of_lt n.isLt
      case head => exact (Chip.get_set_of_id_ne _ (by decide) _ hn).trans (Chip.get_set_same ..)
  case disable =>
    refine Runs.ends (runs_onChip hp rfl (ringDisable_eq hf)) ⟨?_, rfl⟩
    exact (Chip.flag_on_of_id_ne _ (by decide) _ (ringIx_lt f k)).trans (Chip.flag_on_same _ (by decide) _ _)

/-! ### Class 0x0 opcodes (R571, R572) -/

section
variable {x : Chip} {c : Call}

/-- FENCE_ALLOC gives the issuer the free fence with the lowest number, at value 0 and without grants. -/
theorem fenceAlloc_free {i : Nat} (hd : x.dispatchedCall opFenceAlloc c = true) (hi : x.freeFence = some i) :
    fenceAlloc c x = ({ x with ce := { x.ce with fences := x.ce.fences ++ [Fence.mk i c.fn.val false false 0 []] } } : Chip).ok
      opFenceAlloc c [i] := by
  simp only [fenceAlloc, Chip.perform_dispatched hd, hi]

/-- FENCE_FREE orphans a fence of the issuer that no Skein binding names. -/
theorem fenceFree_owned {f : Fence} (hd : x.dispatchedCall opFenceFree c = true) (hi : x.fence (c.w 0) = some f)
    (hlt : c.w 0 < 4096) (ho : x.ownsFence c.fn f.id = true) (hs : x.skeinNamesFence f.id = false) :
    fenceFree c x = (x.orphanFence f false).ok opFenceFree c [] := by
  simp only [fenceFree, Chip.perform_dispatched hd, hi, Nat.not_le.2 hlt, ho, hs, decide_false, Bool.not_true, Bool.or_self,
    Bool.false_eq_true, if_false]

/-- FENCE_SIGNAL signals a fence of the issuer, and says whether the value lay below its own. -/
theorem fenceSignal_owned (hd : x.dispatchedCall opFenceSignal c = true) (hlt : c.w 0 < 4096)
    (ho : x.ownsFence c.fn (c.w 0) = true) :
    fenceSignal c x = (x.signalFence (c.w 0) (c.q 1)).ok opFenceSignal c
      [b2n (decide (c.q 1 < x.fenceValue (c.w 0)))] := by
  simp only [fenceSignal, Chip.perform_dispatched hd, Nat.not_le.2 hlt, ho, decide_false, Bool.not_true, Bool.or_self,
    Bool.false_eq_true, if_false]

/-- FENCE_SHARE grants a fence of the issuer to another function that is there and has no grant yet. -/
theorem fenceShare_grants {f : Fence} (hd : x.dispatchedCall opFenceShare c = true) (hlt : c.w 0 < 4096)
    (ho : x.ownsFence c.fn (c.w 0) = true) (hg : c.w 1 ≤ 64) (hst : x.get FNf_STAT_STATE (c.w 1) ≠ 0)
    (hi : x.fence (c.w 0) = some f) (hne : c.w 1 ≠ c.fn.val) (hnew : f.grants.contains (c.w 1) = false) :
    fenceShare c x = (x.setFence { f with grants := f.grants ++ [c.w 1] }).ok opFenceShare c [] := by
  simp only [fenceShare, Chip.perform_dispatched hd, Nat.not_le.2 hlt, Nat.not_lt.2 hg, ho, hst, hi, hne, hnew, decide_false,
    Bool.not_true, Bool.or_self, Bool.false_eq_true, if_false]

end

/-- Settles O1: a dispatched command runs the engine's own part, and each clause is the rule of one of its branches. -/
theorem engineCommandsComplete : Obligations.EngineCommandsComplete := by
  unfold Obligations.EngineCommandsComplete
  refine ⟨?nop, ?version, ?barrier, ?alloc, ?free, ?signal, ?share⟩
  case nop | version | barrier => exact fun s c hd hp => runs_onChip hp rfl (Chip.perform_dispatched hd _)
  case alloc => exact fun s c i hd hi hp => runs_onChip hp rfl (fenceAlloc_free hd hi)
  case free => exact fun s c f hd hi hlt ho hs hp => runs_onChip hp rfl (fenceFree_owned hd hi hlt ho hs)
  case signal => exact fun s c hd hlt ho hp => runs_onChip hp rfl (fenceSignal_owned hd hlt ho)
  case share =>
    exact fun s c f hd hlt ho hg hst hi hne hnew hp =>
      runs_onChip hp rfl (fenceShare_grants hd hlt ho hg hst hi hne hnew)

/-! ### Fetch and timeouts (R62, R69, R72, R78) -/

/-- A packet whose slots are all there, with no CRC or a right one, is taken from the ring chosen and admitted. -/
theorem packetFetch_whole {x : Chip} {p : Packet} {f : Fin 65} {k : Fin 4} (hc : x.chooseRing = some (f.val, k.val))
    (hlen : p.plen.toNat ≤ 1024) (hsize : packetSlots p.plen.toNat ≤ x.ringSize f k)
    (hused : packetSlots p.plen.toNat ≤ x.ringUsed f k)
    (hcrc : bitAt p.flags.toNat 3 = true → crcOf 0 (packetBytes p) = p.crc.toNat) :
    packetFetch p x = (((x.served f k).set RINGk_HEAD_PTR
      (ptrAdd (x.ringSize f k) (x.get RINGk_HEAD_PTR (ringIx f k)) (packetSlots p.plen.toNat)) (ringIx f k)).writeBack f
      k).admitPacket f k p := by
  have hcrc' : (bitAt p.flags.toNat 3 && crcOf 0 (packetBytes p) != p.crc.toNat) = false := by
    simpa only [Bool.and_eq_false_imp, bne_eq_false_iff_eq] using hcrc
  have hsize' : ¬ (x.served f k).ringSize f k < packetSlots p.plen.toNat := Nat.not_lt.2 hsize
  have hused' : ¬ (x.served f k).ringUsed f k < packetSlots p.plen.toNat := Nat.not_lt.2 hused
  simp only [packetFetch, hc, Nat.not_lt.2 hlen, hsize', hused', hcrc', f.isLt, k.isLt, decide_false, Bool.or_self,
    Bool.false_eq_true, if_false, and_self, dite_true]
  rfl

/-- The packet that waits for a fence ends with TIMEOUT, and what it held back may go. -/
theorem fenceWaitTimeout_waiting {x : Chip} {f k i : Nat}
    (hi : (x.ce.pkts.findIdx? fun p => p.call.fn = f && (p.call.ring = k && (p.isWaiting && p.wait.isSome))) = some i) :
    fenceWaitTimeout f k x = ((x.conclude i stTimeout [0]).setFenceWait f k).reapFences.release := by
  simp only [fenceWaitTimeout, hi]

/-- The oldest dispatched packet ends with TIMEOUT, is journaled where its opcode is, and its block abandons it
(log row 117). -/
theorem execTimeout_dispatched {x : Chip} {f k i : Nat} {p : Pkt} {o : Op}
    (hi : (x.ce.pkts.findIdx? fun p => p.call.fn = f && (p.call.ring = k && (p.isDispatched && !execExempt p))) = some i)
    (hp : x.ce.pkts[i]? = some p) (ho : opOf p.opcode = some o) :
    execTimeout f k x =
      ((((x.journalOp o p.call stTimeout).conclude i stTimeout [1]).abandonCall p.call).reapFences).release := by
  simp only [execTimeout, hi, hp, ho]

/-- Settles O2: each clause is the rule of one branch of its command; a doorbell that does not complete a packet leaves the
wait for its slots. -/
theorem ringCommandsComplete : Obligations.RingCommandsComplete := by
  unfold Obligations.RingCommandsComplete
  refine ⟨?ring, ?reply, ?enable, ?disable, ?fetch, ?fenceWait, ?exec⟩
  case ring =>
    intro s fn k v hf hne hix hocc hback hneed hp
    have hr : s.chip.refusesTail fn k (v.toNat % 2 ^ 17) = false := by
      simp only [Chip.refusesTail, hix, Nat.not_lt.2 hocc, Nat.not_lt.2 hback, decide_false, Bool.or_self]
    exact runs_onChip hp rfl ((dbRing_accepted hf hne hr).trans (if_neg (Nat.not_le.2 hneed)))
  case reply =>
    intro s fn v hf hne hix hbetween hp
    have hr : s.chip.refusesHead fn (v.toNat % 2 ^ 17) = false := by
      simp only [Chip.refusesHead, hix, Nat.not_lt.2 hbetween, decide_false, Bool.or_self]
    exact runs_onChip hp rfl (dbReply_accepted hf hne hr)
  case enable =>
    exact fun s fn k size wb hf he hlo hhi hk hp => runs_onChip hp rfl (ringEnable_inRange hf he hlo hhi hk)
  case disable => exact fun s fn k hf hp => runs_onChip hp rfl (ringDisable_eq hf)
  case fetch =>
    exact fun s p f k hc hlen hsize hused hcrc hp => runs_onChip hp rfl (packetFetch_whole hc hlen hsize hused hcrc)
  case fenceWait => exact fun s fn k i hi hp => runs_onChip hp rfl (fenceWaitTimeout_waiting hi)
  case exec => exact fun s fn k i p o hi hpkt ho hp => runs_onChip hp rfl (execTimeout_dispatched hi hpkt ho)

/-! ### Completion, and the step (R75) -/

/-- Settles O28: COMMAND_COMPLETE is one piece of work, what is due (log row 19) and then the report of an outcome (log row
12), lifted like every command that moves data. -/
theorem outcomesComplete : Obligations.OutcomesComplete := by
  unfold Obligations.OutcomesComplete
  exact fun s f k hp => runsTo_onSkein hp rfl rfl

/-- Settles O43: the step goes by cases of the queue (log row 1). -/
theorem stepRunsFront : Obligations.StepRunsFront := by
  unfold Obligations.StepRunsFront
  intro s c rest hq
  simp only [step, hq]

end Sys2Proof.Machine
end

section
/-!
SUPPORT. Functions and shares (R81 to R108): one rule for the branch that each opcode of R108 and each event of a function's
life takes, and the epoch (R105, R388); the settling of FunctionCommandsComplete, FunctionEventsComplete and EpochCompletes.
-/
namespace Sys2Proof.Machine

/-! ### Opcodes (R91, R94, R105, R108) -/

section
variable {x : Chip} {c : Call}

/-- FN_ENABLE of a virtual function that is there lets it run. -/
theorem fnEnable_named (hd : x.dispatchedCall opFnEnable c = true) (hl : c.words.length = 1) (hn : x.fnNamed c 1 = true) :
    fnEnable c x = (x.set FNf_STAT_STATE 2 (c.w 0)).ok opFnEnable c [] := by
  simp only [fnEnable, Chip.perform_dispatched hd, hl, hn, bne_self_eq_false, Bool.not_true, Bool.false_eq_true, if_false]

/-- FN_DISABLE of one that is not disabled withdraws its work, and answers with its new generation and the packets cancelled. -/
theorem fnDisable_enabled (hd : x.dispatchedCall opFnDisable c = true) (hl : c.words.length = 1)
    (hn : x.fnNamed c 1 = true) (hs : x.get FNf_STAT_STATE (c.w 0) ≠ 1) :
    fnDisable c x = (x.withdraw (c.w 0) .disable).1.deferred opFnDisable c
      [(x.withdraw (c.w 0) .disable).1.get FNf_GEN_GEN (c.w 0), (x.withdraw (c.w 0) .disable).2] := by
  simp only [fnDisable, Chip.perform_dispatched hd, hl, hn, hs, bne_self_eq_false, Bool.not_true, Bool.false_eq_true, if_false]

/-- SHARE_SET queues the items its mask names for the epoch that will bind them. -/
theorem shareSet_queued (hd : x.dispatchedCall opShareSet c = true) (hl : c.words.length = 8) (hn : x.fnNamed c 0 = true)
    (hm : c.w 1 < 64) (hw : shareWrong (shareOf fun i => c.w (i + 2)) (c.w 1) = none) :
    shareSet c x = (({ x with fn := { x.fn with pend := x.fn.pend ++
        [({ fn := c.w 0, epoch := x.bindEpoch, mask := c.w 1, items := shareOf fun i => c.w (i + 2) } : PendShare)] } } :
        Chip).flag FNf_STAT_SHARE_PEND true (c.w 0)).deferred opShareSet c [x.bindEpoch, x.get FNf_QUSE_USE (c.w 0)] := by
  simp only [shareSet, Chip.perform_dispatched hd, hl, hn, hw, Nat.not_le.2 hm, bne_self_eq_false, Bool.not_true,
    Bool.false_eq_true, if_false]

/-- SHARE_QUERY answers with the items that wait, the share in force and the share once they are bound. -/
theorem shareQuery_inRange (hd : x.dispatchedCall opShareQuery c = true) (hl : c.words.length = 1) (hf : c.w 0 ≤ 64) :
    shareQuery c x = (let mine := x.fn.pend.filter fun p => p.fn = c.w 0
      x.ok opShareQuery c ([mine.foldl (fun m p => m.lor p.mask) 0] ++ ((x.share (c.w 0)).words ++
        (mine.foldl (fun (s : Share) p => s.merge p.items p.mask) (x.share (c.w 0))).words))) := by
  simp only [shareQuery, Chip.perform_dispatched hd, hl, Nat.not_lt.2 hf, bne_self_eq_false, Bool.false_eq_true, if_false]

/-- FN_QUERY answers with the state, the generation, the packets not abandoned, and the pieces a drain still waits for: at
least one while it drains (log row 23). -/
theorem fnQuery_inRange (hd : x.dispatchedCall opFnQuery c = true) (hl : c.words.length = 1) (hf : c.w 0 ≤ 64) :
    fnQuery c x = x.ok opFnQuery c
      [x.word [FNf_STAT_STATE, FNf_STAT_DRAINING, FNf_STAT_SHARE_PEND, FNf_STAT_HOLDING] (c.w 0), x.get FNf_GEN_GEN (c.w 0),
        (x.ce.pkts.filter fun p => p.call.fn.val = c.w 0 && !p.isAbandoned).length,
        if x.on FNf_STAT_DRAINING (c.w 0) then max 1 (x.pieces (c.w 0)) else 0] := by
  simp only [fnQuery, Chip.perform_dispatched hd, hl, Nat.not_lt.2 hf, bne_self_eq_false, Bool.false_eq_true, if_false]

/-- DEFAULT_SHARE_SET takes a share whose six items are in range. -/
theorem defaultShareSet_inRange (hd : x.dispatchedCall opDefaultShareSet c = true) (hl : c.words.length = 6)
    (hw : shareWrong (shareOf c.w) 63 = none) :
    defaultShareSet c x = ({ x with fn := { x.fn with dflt := shareOf c.w } } : Chip).ok opDefaultShareSet c [] := by
  simp only [defaultShareSet, Chip.perform_dispatched hd, hl, hw, bne_self_eq_false, Bool.false_eq_true, if_false]

/-- HOLD_TIME_SET takes a time of at most 500 ms. -/
theorem holdTimeSet_inRange (hd : x.dispatchedCall opHoldTimeSet c = true) (hl : c.words.length = 1) (ht : c.w 0 ≤ 500) :
    holdTimeSet c x = (x.set FN_HOLD_MS_MS (c.w 0)).ok opHoldTimeSet c [] := by
  simp only [holdTimeSet, Chip.perform_dispatched hd, hl, Nat.not_lt.2 ht, bne_self_eq_false, Bool.false_eq_true, if_false]

/-- MEM_SIZE_SET records one of the four sizes for the next start (R137). -/
theorem memSizeSet_size (hd : x.dispatchedCall opMemSizeSet c = true)
    (hs : c.w 0 = 512 ∨ c.w 0 = 1024 ∨ c.w 0 = 2048 ∨ c.w 0 = 4096) :
    memSizeSet c x = ({ x with hb := { x.hb with memSize := c.w 0 } } : Chip).deferred opMemSizeSet c [] := by
  have hmem : [512, 1024, 2048, 4096].contains (c.w 0) = true := by simpa using hs
  simp only [memSizeSet, Chip.perform_dispatched hd, hmem, if_true]

end

/-- Settles O3: a dispatched command runs the block's own part, and each clause is the rule of one of its branches. -/
theorem functionCommandsComplete : Obligations.FunctionCommandsComplete := by
  unfold Obligations.FunctionCommandsComplete
  refine ⟨?enable, ?disable, ?share, ?shareQuery, ?query, ?default, ?hold, ?memSize⟩
  case enable => exact fun s c hd hl hn hp => runs_onChip hp rfl (fnEnable_named hd hl hn)
  case disable => exact fun s c hd hl hn hs hp => runs_onChip hp rfl (fnDisable_enabled hd hl hn hs)
  case share => exact fun s c hd hl hn hm hw hp => runs_onChip hp rfl (shareSet_queued hd hl hn hm hw)
  case shareQuery => exact fun s c hd hl hf hp => runs_onChip hp rfl (shareQuery_inRange hd hl hf)
  case query => exact fun s c hd hl hf hp => runs_onChip hp rfl (fnQuery_inRange hd hl hf)
  case default => exact fun s c hd hl hw hp => runs_onChip hp rfl (defaultShareSet_inRange hd hl hw)
  case hold => exact fun s c hd hl ht hp => runs_onChip hp rfl (holdTimeSet_inRange hd hl ht)
  case memSize => exact fun s c hd hs hp => runs_onChip hp rfl (memSizeSet_size hd hs)

/-! ### Events of a function's life (R85, R91, R94, R97 to R99) -/

section
variable {x : Chip} {f : Nat}

/-- A function level reset of a function that is there withdraws its work (log row 25). -/
theorem flrVf_present (hs : x.get FNf_STAT_STATE f ≠ 0) : flrVf f x = (x.withdraw f .flr).1 := if_neg hs

/-- With nothing left of the old generation a drain ends: withdrawn handles and fences go back, and F0 is told. -/
theorem drainEnd_drained {d : Drain} (hd : (x.fn.drains.find? fun d => d.fn = f) = some d) (hn : x.pieces f = 0) :
    drainEnd f x = (
      let y := (x.hb.map.filter fun e => e.valid && (e.func = f && e.wdrawn)).foldl (fun (y : Chip) e => y.freeEntry e) x
      let z := { y.flag FNf_STAT_DRAINING false f with
        ce := { y.ce with fences := updAll y.ce.fences (fun g => g.owner = f) fun g => { g with drain := false } }
        fn := { y.fn with drains := y.fn.drains.filter fun d => d.fn != f } }
      ((z.reapFences.reapFrees).notice 0 0x1800 [f, d.incs, d.cancelled, d.discarded]).raise 35) := by
  simp only [drainEnd, hd, hn, bne_self_eq_false, Bool.false_eq_true, if_false]

/-- F0 is told once of a drain that takes long, with the blocks that hold it up. -/
theorem drainSlow_first {d : Drain} (hd : (x.fn.drains.find? fun d => d.fn = f) = some d) (hs : d.slow = false) :
    drainSlow f x = ((({ x with fn := { x.fn with drains := updAll x.fn.drains (fun d => d.fn = f) fun d =>
      { d with slow := true } } } : Chip).notice 0 0x1801 [f, x.holders f]).raise 36) := by
  simp only [drainSlow, hd, hs, Bool.false_eq_true, if_false]

/-- The hold time ends for the oldest generation whose layers the function still holds (log row 27). -/
theorem holdExpiry_held {l : Layer}
    (hl : (x.cp.layers.find? fun l => l.fn = f && (!l.expired && x.on CP_Ln_STAT_HELD l.unit)) = some l) :
    holdExpiry f x = { x with cp := { x.cp with layers := updAll x.cp.layers (fun m =>
      (m.fn = f && (!m.expired && x.on CP_Ln_STAT_HELD m.unit)) && m.gen = l.gen) fun m => { m with expired := true } } } := by
  simp only [holdExpiry, hl]

end

/-- Settles O4: each clause is the rule of one branch of its event; VF Enable and the reset of F0 have one branch only. -/
theorem functionEventsComplete : Obligations.FunctionEventsComplete := by
  unfold Obligations.FunctionEventsComplete
  refine ⟨?vfSet, ?vfClear, ?flrVf, ?flrF0, ?drainEnd, ?drainSlow, ?holdExpiry⟩
  case vfSet => exact fun s n hp => runs_onChip hp rfl rfl
  case vfClear => exact fun s hp => runs_onChip hp rfl rfl
  case flrVf => exact fun s vf hs hp => runs_onChip hp rfl (flrVf_present hs)
  case flrF0 => exact fun s hp => runs_onChip hp rfl rfl
  case drainEnd => exact fun s fn d hd hn hp => runs_onChip hp rfl (drainEnd_drained hd hn)
  case drainSlow => exact fun s fn d hd hs hp => runs_onChip hp rfl (drainSlow_first hd hs)
  case holdExpiry => exact fun s fn l hl hp => runs_onChip hp rfl (holdExpiry_held hl)

/-! ### The epoch (R105, R332, R388) -/

/-- Settles O37: EPOCH_BOUNDARY is one piece of work, the epoch of the functions and then of the channels, after which the
Skein streams move what they can, lifted like every command that moves data. -/
theorem epochCompletes : Obligations.EpochCompletes := by
  unfold Obligations.EpochCompletes
  exact fun s hp => runsTo_onSkein hp rfl rfl

end Sys2Proof.Machine
end

section
/-!
SUPPORT. What a command can do to memory: one that stores nothing leaves it, and its queue, or loses it whole to a reach; one that
stores writes it byte by byte. The settling of OnlyStoringCommandsStore, StepKeepsCanonicalMemory and ResetIsCanonical.
-/
namespace Sys2Proof.Machine

/-! ### Commands that store nothing (R127, R487, R553) -/

/-- A command stores nothing: where it answers a next state, queue and memory are as they were. -/
def StoresNothing (s : State) (o : Host.Outcome State Fault Refusal) : Prop :=
  ∀ t, o = .next t → t.pending = s.pending ∧ t.mem = s.mem

/-- A state with other blocks has the same queue and memory. -/
theorem StoresNothing.chip (s : State) (y : Chip) : StoresNothing s (.next { s with chip := y }) := by
  rintro t ⟨⟩
  exact ⟨rfl, rfl⟩

/-- A command on the blocks alone stores nothing, in Park or out of it. -/
theorem State.onChip_storesNothing (s : State) (f : Chip → Chip) : StoresNothing s (s.onChip f) := by
  cases hp : s.chip.parked
  · rw [s.onChip_eq f hp]; exact .chip s _
  · rw [s.onChip_parked f hp]; exact .chip s s.chip

/-- One that only reads memory stores nothing. -/
theorem State.onChipM_storesNothing (s : State) (f : List Host.Cell → Chip → Chip) : StoresNothing s (s.onChipM f) := by
  cases hp : s.chip.parked
  · rw [s.onChipM_eq f hp]; exact .chip s _
  · rw [s.onChipM_parked f hp]; exact .chip s s.chip

/-- Nor does one of a domain that Park leaves on. -/
theorem State.onAon_storesNothing (s : State) (f : Chip → Chip) : StoresNothing s (s.onAon f) := .chip s _

/-- A raise, of a source or at a crossing, stores nothing. -/
theorem execEventRaise_storesNothing (r : EventRef) (s : State) : StoresNothing s (execEventRaise r s) := by
  cases r with
  | source | reply => exact s.onAon_storesNothing _
  | pulses | taken | acked => exact s.onChip_storesNothing _

/-- Nor does the TAP; a debug access it refuses answers no state at all. -/
theorem tapInstruction_storesNothing (o : TapOp) (s : State) : StoresNothing s (tapInstruction o s) := by
  cases o with
  | debug =>
    intro t h
    simp only [tapInstruction] at h
    split at h <;> cases h
    exact ⟨rfl, rfl⟩
  | reset | bypass | idcode | sample | extest => exact .chip s _

/-- A command that is neither one of those that store nor one that may take a reach stores nothing. -/
theorem exec_storesNothing {i : Instr} {s : State} (hs : storing i = false) (hr : reaching i = false) :
    StoresNothing s (exec i s) := by
  cases i with
  | copyHandle | stopSkein | attach | detach | powerModeSet | protLayerLoad | journalExport | commandComplete
  | epochBoundary | memoryRequest | commitLine | dispatchPoint | preemptionPoint | preemptTimeout | binPoolFull
  | spillDone | renderJobComplete | computeJobComplete | gxEccUncorrectable | audioTick | audioBlockBoundary | skeinData
  | skeinCredit | skeinMarkStart | skeinMarkEnd | skeinTrain | skeinNak | skeinClose | skeinIdle | skeinLinkTimeout
  | skeinStopTimeout | skeinEgressFrame | leash | leashSend | hungTwin | coldReq | hello | electMsg | mirrorOpen
  | mirrorWrite | mirrorClose | mirrorState | syncDone | sigTiles | sigEnd | offloadPipe | offloadJob | offloadReply
  | offloadResult | offloadDone | offloadCancel | timeProbe | timeProbeSend | timeEcho | detachReq | detachAck | leaveMsg
  | modeMsg | powerPropose | powerReply | powerReplyTimeout | powerCancel | bootReq | bootData | bowlineNak
  | bowlineTrain | bowlineCredit | phyPllLoss | cvDataUnitEnd | startConfirm | thermalSample | thermRelease | wakeGpio
  | wakeAlarm | wakePcie | wakeTouch | parkEntryStep | autoAttachTimer | bowlineIdle => cases hs
  | loadGo | registerWrite | trainingDone | refclkLoss | refclkRestore | mainPllLoss | powerOn | railLow | resetNPulse
  | warmNPulse | thermalTrip | thermalTripRelease | nwdogExpiry | lockstepMismatch | resetRelease | startTimeout
  | uartFrame => cases hr
  | eventRaise r => exact execEventRaise_storesNothing r s
  | tapInstruction o => exact tapInstruction_storesNothing o s
  | twinBHoldTimer | ppsInEdge | ppsTimeout | trimAdjust | lockoutEnd | twinWakePulseEnd | parkFaceUpdate =>
    exact s.onAon_storesNothing _
  | shaderLoad | pipelineCreate | renderSubmit | computeSubmit | layerSet | layerRemove | flip | flipGroup | toneMapSet
  | backgroundSet | hapticWaveLoad | audioGraphLoad | parkFaceSet | fwSlotWrite | secureRelease | lineConfirm
  | headLine0 | secureUp => exact s.onChipM_storesNothing _
  -- The next two write their change in place, so the name of the meaning stands before the law.
  | evCtlEnable => exact show StoresNothing s (execEvCtlEnable s) from s.onChip_storesNothing _
  | linkTrainDone port ok lanes rate sr =>
    exact show StoresNothing s (execLinkTrainDone port ok lanes rate sr s) from s.onChip_storesNothing _
  -- Every other command changes the blocks alone.
  | _ => exact s.onChip_storesNothing _

/-! ### Commands that may take a reach (R487, R553) -/

/-- A reach leaves the queue, and memory as it was or, the placement map lost, empty (log rows 3, 104). -/
theorem State.onReach_mem {s t : State} {f : Chip → Chip} (h : s.onReach f = .next t) :
    t.pending = s.pending ∧ (t.mem = s.mem ∨ t.mem = []) := by
  cases h
  refine ⟨rfl, ?_⟩
  dsimp only
  split
  · exact .inr rfl
  · exact .inl rfl

/-- Every command that may take a reach, and stores nothing, is lifted as one. -/
theorem exec_of_reaching {i : Instr} (s : State) (hr : reaching i = true) : ∃ f, exec i s = s.onReach f := by
  cases i with
  | loadGo | registerWrite | trainingDone | refclkLoss | refclkRestore | mainPllLoss | powerOn | railLow | lockstepMismatch
  | resetRelease | startTimeout | uartFrame => exact ⟨_, rfl⟩
  | resetNPulse => exact ⟨fun x => x.take 1 2, rfl⟩
  | warmNPulse => exact ⟨fun x => x.take 9 1, rfl⟩
  | thermalTrip => exact ⟨fun x => x.takeLevel 2 2, rfl⟩
  | thermalTripRelease => exact ⟨fun x => x.dropLevel 2, rfl⟩
  | nwdogExpiry => exact ⟨fun x => x.take 10 1, rfl⟩
  | _ => cases hr

/-- A command that is no storing one leaves the queue, and memory too unless it takes a reach that empties it. -/
theorem exec_mem_of_not_storing {i : Instr} {s t : State} (hs : storing i = false) (h : exec i s = .next t) :
    t.pending = s.pending ∧ (reaching i = false → t.mem = s.mem) ∧ (t.mem = s.mem ∨ t.mem = []) := by
  cases hr : reaching i with
  | false =>
    obtain ⟨hq, hm⟩ := exec_storesNothing hs hr t h
    exact ⟨hq, fun _ => hm, .inl hm⟩
  | true =>
    obtain ⟨f, hf⟩ := exec_of_reaching s hr
    obtain ⟨hq, hm⟩ := State.onReach_mem (hf.symm.trans h)
    exact ⟨hq, Bool.noConfusion, hm⟩

/-- Settles O48: a command that is no storing one either takes no reach, and then stores nothing, or is lifted as a reach. -/
theorem onlyStoringCommandsStore : Obligations.OnlyStoringCommandsStore := by
  unfold Obligations.OnlyStoringCommandsStore
  exact fun i s t hs h => exec_mem_of_not_storing hs h

/-! ### Commands that store (R109, R127, R130) -/

/-- What OFFLOAD_DONE writes is not noted for the twin (R357), but it is written as every command writes. -/
theorem execOffloadDone_keeps (h : MsgHdr) (ref : Word) (aborted : Bool) (spills : BitVec 8) (us results : Word) (s : State) :
    Keeps s (execOffloadDone h ref aborted spills us results s) := by
  unfold execOffloadDone
  dsimp only
  split
  · exact .same s
  · exact ⟨_, rfl, rfl, Memory.wf_writeCells _ _⟩

/-- A storing command writes byte by byte, and so keeps memory canonical, as it does the queue. -/
theorem exec_keeps_of_storing {i : Instr} (s : State) (hs : storing i = true) : Keeps s (exec i s) := by
  cases i with
  | copyHandle | stopSkein | attach | detach | powerModeSet | protLayerLoad | journalExport | memoryRequest | audioTick
  | cvDataUnitEnd => exact s.onBoth_keeps _
  | commandComplete | epochBoundary | commitLine | dispatchPoint | preemptionPoint | preemptTimeout | binPoolFull
  | spillDone | renderJobComplete | computeJobComplete | gxEccUncorrectable | audioBlockBoundary | skeinData
  | skeinCredit | skeinMarkStart | skeinMarkEnd | skeinTrain | skeinNak | skeinClose | skeinIdle | skeinLinkTimeout
  | skeinStopTimeout | skeinEgressFrame | leash | leashSend | hungTwin | hello | electMsg | mirrorOpen | mirrorWrite
  | mirrorClose | mirrorState | syncDone | sigTiles | sigEnd | offloadPipe | offloadJob | offloadReply | offloadResult
  | offloadCancel | timeProbe | timeProbeSend | timeEcho | detachReq | detachAck | leaveMsg | modeMsg | powerPropose
  | powerReply | powerReplyTimeout | powerCancel | bowlineNak | bowlineTrain | bowlineCredit | phyPllLoss | startConfirm
  | thermalSample | thermRelease | parkEntryStep | autoAttachTimer | bowlineIdle => exact s.onSkein_keeps _
  | wakeGpio | wakeAlarm | wakePcie | wakeTouch => exact s.onAonWork_keeps _
  | coldReq | bootReq | bootData => exact s.onReachW_keeps _
  | offloadDone h ref aborted spills us results => exact execOffloadDone_keeps h ref aborted spills us results s
  | _ => cases hs

/-- Whatever the command, it leaves canonical memory canonical. -/
theorem exec_keeps_wf {i : Instr} {s t : State} (hs : Memory.wf s.mem) (h : exec i s = .next t) : Memory.wf t.mem := by
  cases hst : storing i with
  | true =>
    obtain ⟨u, hu, -, hwf⟩ := exec_keeps_of_storing s hst
    cases hu.symm.trans h
    exact hwf hs
  | false =>
    obtain ⟨-, -, hm | hm⟩ := exec_mem_of_not_storing hst h <;> rw [hm]
    · exact hs
    · exact Memory.wf_nil

/-- Settles O47: an idle step leaves memory, and any other is the command at the front of the queue. -/
theorem stepKeepsCanonicalMemory : Obligations.StepKeepsCanonicalMemory := by
  unfold Obligations.StepKeepsCanonicalMemory
  intro s t hs h
  unfold step at h
  split at h
  · obtain ⟨-, hm⟩ := s.onAon_storesNothing _ t h
    rwa [State.Inv, hm]
  next c rest _ => exact exec_keeps_wf (s := { s with pending := rest }) hs h

/-- Settles O46: nothing has been written at reset (log rows 3, 10). -/
theorem resetIsCanonical : Obligations.ResetIsCanonical := by
  unfold Obligations.ResetIsCanonical
  exact ⟨Memory.wf_nil, rfl⟩

end Sys2Proof.Machine
end

section
/-!
SUPPORT. Bytes stored and read back (R109), and what a memory request writes (R111, R113): the walk, the accesses of a request and
the writes of each. The settling of StoredBytesReadBack and RequestStaysInItsAllocation.
-/
namespace Sys2Proof.Machine

/-! ### Bytes stored from an address on (R109) -/

/-- Of writes to different addresses, each reads back. -/
theorem sparseGet_writeCells_of_mem {ws : List (Nat × Byte)} (hn : (ws.map Prod.fst).Nodup) {w : Nat × Byte} (hw : w ∈ ws)
    (m : List Host.Cell) : sparseGet (writeCells m ws) w.1 0 = w.2 := by
  induction ws generalizing m with
  | nil => cases hw
  | cons v t ih =>
    obtain ⟨hv, ht⟩ := List.nodup_cons.1 (List.map_cons ▸ hn)
    show sparseGet (writeCells (sparseSet m v.1 v.2 0) t) w.1 0 = w.2
    obtain rfl | hwt := List.mem_cons.1 hw
    · rw [sparseGet_writeCells_other _ _ _ fun u hu e => hv (List.mem_map.2 ⟨u, hu, e⟩), sparseGet_sparseSet_same]
    · exact ih ht hwt _

/-- The writes of a store: each byte at its offset, combined with what reading will combine it with. -/
theorem mem_storeBytes {x : Chip} {a : Nat} {bs : List Nat} {w : Nat × Byte} :
    w ∈ storeBytes x a bs ↔ ∃ i b, bs[i]? = some b ∧ w = (a + i, BitVec.ofNat 8 b ^^^ x.pad (a + i)) := by
  simp only [storeBytes, List.mem_map, Prod.exists, List.mem_zipIdx_iff_getElem?]
  exact ⟨fun ⟨b, i, hb, hw⟩ => ⟨i, b, hb, hw.symm⟩, fun ⟨i, b, hb, hw⟩ => ⟨b, i, hb, hw.symm⟩⟩

/-- A store writes within its range. -/
theorem storeBytes_range {x : Chip} {a : Nat} {bs : List Nat} {w : Nat × Byte} (hw : w ∈ storeBytes x a bs) :
    a ≤ w.1 ∧ w.1 < a + bs.length := by
  obtain ⟨i, b, hb, rfl⟩ := mem_storeBytes.1 hw
  have hi : i < bs.length := (List.getElem?_eq_some_iff.1 hb).1
  exact ⟨Nat.le_add_right .., Nat.add_lt_add_left hi a⟩

/-- The addresses of a store are those of its range, in order. -/
theorem storeBytes_addrs (x : Chip) (a : Nat) (bs : List Nat) : (storeBytes x a bs).map Prod.fst = List.range' a bs.length := by
  rw [storeBytes, List.map_map, List.range'_eq_map_range, List.range_eq_range', ← List.zipIdx_map_snd 0 bs, List.map_map]
  rfl

/-- A byte stored reads back. -/
theorem readByte_storeBytes {x : Chip} {a i b : Nat} {bs : List Nat} (hb : bs[i]? = some b) (m : List Host.Cell) :
    readByte (writeCells m (storeBytes x a bs)) x (a + i) = BitVec.ofNat 8 b := by
  have hn : ((storeBytes x a bs).map Prod.fst).Nodup := storeBytes_addrs x a bs ▸ List.nodup_range'
  rw [readByte, sparseGet_writeCells_of_mem hn (mem_storeBytes.2 ⟨i, b, hb, rfl⟩), BitVec.xor_assoc, BitVec.xor_self,
    BitVec.xor_zero]

/-- A byte outside the range of a store reads as before. -/
theorem readByte_storeBytes_outside {x : Chip} {a c : Nat} {bs : List Nat} (hc : c < a ∨ a + bs.length ≤ c)
    (m : List Host.Cell) : readByte (writeCells m (storeBytes x a bs)) x c = readByte m x c := by
  rw [readByte, sparseGet_writeCells_other _ _ _ fun w hw e => ?_, readByte]
  have := storeBytes_range hw
  omega

/-- Settles O49: byte by byte, the combination a read makes undoes the one the store made. -/
theorem storedBytesReadBack : Obligations.StoredBytesReadBack := by
  unfold Obligations.StoredBytesReadBack
  refine fun m x a bs hbs => ⟨List.ext_getElem? fun i => ?_, fun c hc => readByte_storeBytes_outside hc m⟩
  rw [readBytes, List.getElem?_map]
  obtain hi | hi := Nat.lt_or_ge i bs.length
  · rw [List.getElem?_range hi, List.getElem?_eq_getElem hi, Option.map_some,
      readByte_storeBytes (List.getElem?_eq_getElem hi), BitVec.toNat_ofNat, Nat.mod_eq_of_lt (hbs _ (List.getElem_mem hi))]
  · rw [List.getElem?_eq_none hi, List.getElem?_eq_none (by simpa using hi)]
    rfl

/-! ### The walk (R111, R113) -/

/-- A ladder of refusals answers none where the first rung does not hold and the rest answers none. -/
theorem ite_some_eq_none_iff {α : Type} {p : Prop} [Decidable p] {a : α} {o : Option α} :
    (if p then some a else o) = none ↔ ¬ p ∧ o = none := by split <;> simp [*]

/-- A request that steps 2 to 7 of the walk let through names a valid entry with its tag, which its function owns or the secure
world or firmware addresses, that no withdrawal has taken and that holds its range. -/
theorem Chip.askFault_eq_none_iff {x : Chip} {r : Ask} : x.askFault r = none ↔ bitAt r.addr 47 = false ∧
    ∃ e, x.entry (hIndex r.addr) = some e ∧ e.valid = true ∧ e.tag = hTag r.addr ∧
      (r.world = true ∨ r.fn = 127 ∨ e.func = r.fn) ∧ (r.world = true ∨ e.world = false) ∧ e.wdrawn = false ∧
      hOffset r.addr + r.len ≤ e.size * 65536 := by
  unfold Chip.askFault
  cases x.entry (hIndex r.addr) with
  | none => simp [ite_some_eq_none_iff]
  | some e =>
    simp only [ite_some_eq_none_iff, Option.some.injEq, exists_eq_left', Bool.not_eq_true, bne_iff_ne, ne_eq,
      Decidable.not_not, Bool.and_eq_true, Bool.not_eq_true', not_and_or, Bool.not_eq_false, not_lt, and_true]

/-- A request's attributes are its block's; its bytes, address and length stay its own (R15, R573). -/
theorem Chip.attributed_keeps {x : Chip} {r q : MemReq} (h : x.attributed r = some q) :
    q.data = r.data ∧ q.addr = r.addr ∧ q.len = r.len := by
  unfold Chip.attributed at h
  split at h
  · cases h
  · dsimp only at h
    split at h
    · obtain ⟨j, -, rfl⟩ := Option.map_eq_some_iff.1 h
      exact ⟨rfl, rfl, rfl⟩
    · split at h <;> cases h <;> exact ⟨rfl, rfl, rfl⟩

/-! ### The accesses of a request, and what they write -/

/-- The offset of a handle address is part of it. -/
theorem hOffset_le (a : Nat) : hOffset a ≤ a := by
  rw [hOffset, bits, Nat.pow_zero, Nat.div_one]
  exact Nat.mod_le _ _

/-- An access takes bytes of the request's range alone. -/
theorem accessRanges_within {off len : Nat} {p : Nat × Nat} (hp : p ∈ accessRanges off len) :
    off ≤ p.1 ∧ p.1 + p.2 ≤ max p.1 (off + len) := by
  unfold accessRanges at hp
  split_ifs at hp
  · cases hp
  · obtain ⟨i, -, rfl⟩ := List.mem_map.1 hp
    dsimp only
    omega

/-- The accesses of a request, each with what it meets. -/
def requestAccesses (r : MemReq) : List ((Nat × Nat) × Access) :=
  (accessRanges (hOffset r.addr.toNat) r.len).zipIdx.map fun p => (p.1, r.access.getD p.2 ⟨false, .clean⟩)

/-- Each takes bytes of the request's range alone. -/
theorem requestAccesses_within {r : MemReq} {q : (Nat × Nat) × Access} (hq : q ∈ requestAccesses r) :
    hOffset r.addr.toNat ≤ q.1.1 ∧ q.1.1 + q.1.2 ≤ max q.1.1 (hOffset r.addr.toNat + r.len) := by
  obtain ⟨p, hp, rfl⟩ := List.mem_map.1 hq
  exact accessRanges_within (List.fst_mem_of_mem_zipIdx hp)

/-- A request that met entry `e` adds to its access weight and, in TC0, to its function's use. -/
def Chip.noteRequest (x : Chip) (r : MemReq) (e : MapEntry) : Chip :=
  { x with hb := { x.hb with
    map := updAll x.hb.map (fun q => q.idx = e.idx) fun q =>
      { q with act := min (q.act + (accessRanges (hOffset r.addr.toNat) r.len).length) 65535 }
    use := if r.tc.val = 0 then sparseSet x.hb.use (2 * r.fn.val) (sparseGet x.hb.use (2 * r.fn.val) 0 + r.len) 0 else x.hb.use } }

/-- The accesses of a request in turn: the blocks after them, the bytes read and the writes. -/
def requestWork (mem : List Host.Cell) (x : Chip) (r : MemReq) (e : MapEntry) : Chip × List Nat × List (Nat × Byte) :=
  (requestAccesses r).foldl (memStep mem r e) (x.noteRequest r e, [], [])

/-- A request let through to an entry does its accesses, and a read is answered (R113, R188). -/
theorem memoryRequest_walked {q r : MemReq} {e : MapEntry} {x : Chip} (hh : x.inHold = false) (ha : x.attributed q = some r)
    (hs : x.staleReq r = false) (hw : x.walkFault r = none) (he : x.entry (hIndex r.addr.toNat) = some e)
    (mem : List Host.Cell) :
    memoryRequest q mem x = (((requestWork mem x r e).1.texRead mem r (requestWork mem x r e).2.1).1.answer r
      ((requestWork mem x r e).1.texRead mem r (requestWork mem x r e).2.1).2, (requestWork mem x r e).2.2) := by
  simp only [memoryRequest, hh, ha, hs, hw, he, Bool.false_eq_true, if_false]
  rfl

/-- A request that nothing can serve, in Hold or with no block behind it, writes nothing (R15, R22). -/
theorem memoryRequest_unserved {q : MemReq} {x : Chip} (h : x.inHold = true ∨ x.attributed q = none) (mem : List Host.Cell) :
    memoryRequest q mem x = (x, []) := by
  cases hh : x.inHold with
  | true => simp only [memoryRequest, hh, if_true]
  | false =>
    have ha : x.attributed q = none := h.resolve_left (by simp [hh])
    simp only [memoryRequest, hh, ha, Bool.false_eq_true, if_false]

/-- A stale request is counted and reads zeros (R113 step 1). -/
theorem memoryRequest_stale {q r : MemReq} {x : Chip} (hh : x.inHold = false) (ha : x.attributed q = some r)
    (hs : x.staleReq r = true) (mem : List Host.Cell) :
    memoryRequest q mem x = (((x.sat HB_STALE_CNT_COUNT).raise 65).answer r (List.replicate r.len 0), []) := by
  simp only [memoryRequest, hh, ha, hs, Bool.false_eq_true, if_false, if_true]

/-- A refused request is recorded and reads zeros (R113 steps 2 to 7). -/
theorem memoryRequest_refused {q r : MemReq} {x : Chip} {c : Nat} (hh : x.inHold = false) (ha : x.attributed q = some r)
    (hs : x.staleReq r = false) (hw : x.walkFault r = some c) (mem : List Host.Cell) :
    memoryRequest q mem x = ((x.walkRefuse r c).answer r (List.replicate r.len 0), []) := by
  simp only [memoryRequest, hh, ha, hs, hw, Bool.false_eq_true, if_false]

/-- A request that writes anything was let through to an entry. -/
theorem memoryRequest_writes {q : MemReq} {mem : List Host.Cell} {x : Chip} {w : Nat × Byte}
    (hw : w ∈ (memoryRequest q mem x).2) : ∃ r e, x.attributed q = some r ∧ x.staleReq r = false ∧ x.walkFault r = none ∧
      w ∈ (requestWork mem x r e).2.2 := by
  cases hh : x.inHold with
  | true => simp [memoryRequest_unserved (.inl hh)] at hw
  | false =>
    cases ha : x.attributed q with
    | none => simp [memoryRequest_unserved (.inr ha)] at hw
    | some r =>
      cases hs : x.staleReq r with
      | true => simp [memoryRequest_stale hh ha hs] at hw
      | false =>
        cases hf : x.walkFault r with
        | some c => simp [memoryRequest_refused hh ha hs hf] at hw
        | none =>
          obtain ⟨-, e, he, -⟩ := Chip.askFault_eq_none_iff.1 hf
          rw [memoryRequest_walked hh ha hs hf he] at hw
          exact ⟨r, e, rfl, hs, hf, hw⟩

/-- An access of a write writes within its bytes; one of a read writes nothing. -/
theorem memStep_writes {mem : List Host.Cell} {r : MemReq} {e : MapEntry} {acc : Chip × List Nat × List (Nat × Byte)}
    {q : (Nat × Nat) × Access} {w : Nat × Byte} (hw : w ∈ (memStep mem r e acc q).2.2) :
    w ∈ acc.2.2 ∨ (r.data.isSome = true ∧ r.addr.toNat - hOffset r.addr.toNat + q.1.1 ≤ w.1 ∧
      w.1 < r.addr.toNat - hOffset r.addr.toNat + q.1.1 + q.1.2) := by
  unfold memStep at hw
  cases hd : r.data with
  | none => exact .inl (by simpa only [hd] using hw)
  | some bs =>
    simp only [hd] at hw
    split_ifs at hw
    · exact .inl hw
    · refine (List.mem_append.1 hw).imp_right fun hw => ?_
      obtain ⟨i, hi, rfl⟩ := List.mem_map.1 hw
      have hi := List.mem_range.1 hi
      exact ⟨rfl, by omega, by omega⟩
    · refine (List.mem_append.1 hw).imp_right fun hw => ?_
      have hlen := List.length_take_le q.1.2 (bs.drop (q.1.1 - hOffset r.addr.toNat))
      obtain ⟨hlo, hhi⟩ := storeBytes_range hw
      rw [List.length_map] at hhi
      exact ⟨rfl, hlo, by omega⟩

/-- Writes a request may make: for a write, within its range. -/
def RequestCovers (r : MemReq) (ws : List (Nat × Byte)) : Prop :=
  ∀ w ∈ ws, r.data.isSome = true ∧ r.addr.toNat ≤ w.1 ∧ w.1 < r.addr.toNat + r.len

/-- The accesses of a request make no others. -/
theorem requestWork_covered (mem : List Host.Cell) (x : Chip) (r : MemReq) (e : MapEntry) :
    RequestCovers r (requestWork mem x r e).2.2 := by
  unfold requestWork
  refine List.foldlRecOn (motive := fun acc : Chip × List Nat × List (Nat × Byte) => RequestCovers r acc.2.2) _ _
    (fun _ hw => nomatch hw) fun acc ih q hq w hw => ?_
  obtain hw | ⟨hd, hlo, hhi⟩ := memStep_writes hw
  · exact ih w hw
  · obtain ⟨hoff, hend⟩ := requestAccesses_within hq
    have ho := hOffset_le r.addr.toNat
    exact ⟨hd, by omega, by omega⟩

/-- Settles O50: a byte that changes is one that an access of the request writes, and the walk let the request through. -/
theorem requestStaysInItsAllocation : Obligations.RequestStaysInItsAllocation := by
  unfold Obligations.RequestStaysInItsAllocation
  intro s t r a h hne
  obtain ⟨w, hw, rfl⟩ : ∃ w ∈ (memoryRequest r s.mem s.chip).2, w.1 = a := by
    by_contra hno
    exact hne (State.onBoth_frame s t (memoryRequest r) h a fun w hw e => hno ⟨w, hw, e⟩)
  obtain ⟨q, e, ha, hs, hf, hwq⟩ := memoryRequest_writes hw
  obtain ⟨hdata, haddr, hlen⟩ := Chip.attributed_keeps ha
  have hrange := requestWork_covered _ _ _ _ w hwq
  obtain ⟨-, hwalk⟩ := Chip.askFault_eq_none_iff.1 hf
  simp only [askOf] at hwalk
  rw [hdata, haddr, hlen] at hrange
  rw [haddr, hlen] at hwalk
  obtain ⟨hd, hlo, hhi⟩ := hrange
  exact ⟨hd, hlo, hhi, q, ha, hdata, haddr, hlen, hs, hwalk⟩

end Sys2Proof.Machine
end

section
/-!
SUPPORT. The class 0x2 opcodes (R110, R113, R115, R116, R119, R126, R137): one rule for the branch each takes, and the tags of
allocations; the settling of HerderCommandsComplete and TagsAreNeverZero.
-/
namespace Sys2Proof.Machine

/-! ### Tags (R110) -/

/-- An entry never allocated since the reset takes tag 1. -/
theorem Chip.nextTag_of_none {x : Chip} {i : Nat} (h : x.entry i = none) : x.nextTag i = 1 := by simp only [Chip.nextTag, h]

/-- A later allocation takes the tag after the entry's, 1 after the last. -/
theorem Chip.nextTag_of_some {x : Chip} {i : Nat} {e : MapEntry} (h : x.entry i = some e) :
    x.nextTag i = if e.tag = 65535 then 1 else e.tag + 1 := by simp only [Chip.nextTag, h]

/-- An entry found by its number is in the map. -/
theorem Chip.entry_mem {x : Chip} {i : Nat} {e : MapEntry} (h : x.entry i = some e) : e ∈ x.hb.map := List.mem_of_find?_eq_some h

/-- The all-zero handle has tag 0. -/
theorem hTag_zero : hTag 0 = 0 := rfl

/-- Settles O58: tags step over 0, so the walk finds no valid entry with the tag of the all-zero handle. -/
theorem tagsAreNeverZero : Obligations.TagsAreNeverZero := by
  unfold Obligations.TagsAreNeverZero
  refine ⟨fun x i => ⟨Chip.nextTag_of_none, fun e he hlt => ?next⟩, fun x r htags hr => ?zero⟩
  case next =>
    rw [Chip.nextTag_of_some he]
    by_cases h : e.tag = 65535
    · simp [h]
    · rw [if_neg h]
      exact ⟨by omega, by omega, fun hlast => absurd hlast h, fun _ => rfl⟩
  case zero =>
    rw [← Option.ne_none_iff_exists']
    intro hnone
    obtain ⟨-, e, he, hv, htag, -⟩ := Chip.askFault_eq_none_iff.1 hnone
    have haddr : (askOf r).addr = 0 := by rw [askOf, hr]; rfl
    rw [haddr, hTag_zero] at htag
    exact htags e (Chip.entry_mem he) hv htag

/-! ### The opcodes (R137) -/

section
variable {x : Chip} {c : Call} {e : MapEntry}

/-- ALLOC of a guest's class but PARKED, within the quota and with room, takes the lowest free entry. -/
theorem allocMeaning_guest {i : Nat} (hd : x.dispatchedCall opAlloc c = true) (hworld : c.world = false) (h0 : 0 < c.q 0)
    (hmax : c.q 0 ≤ 17179869184) (hcls : bits (c.w 2) 0 4 < 7)
    (hres : c.w 2 = bits (c.w 2) 0 4 + (if bitAt (c.w 2) 8 then 256 else 0)) (hhint : hintOk (c.w 3) = true)
    (hquota : x.get FNf_MEM_USE_MIB c.fn + ceilDiv (c.q 0) 1048576 ≤ x.get FNf_MEM_QUOTA_MIB c.fn)
    (hroom : ceilDiv (c.q 0) 65536 ≤ x.roomUnits) (hentry : x.entryRoom c.fn = true) (hi : x.freeIndex = some i) :
    allocMeaning c x = (
      let e := { x.newEntry i c.who (bits (c.w 2) 0 4) (ceilDiv (c.q 0) 65536) (c.w 3) (bitAt (c.w 2) 8) with world := c.world }
      (((x.setEntry e).took).onlyIf (x.bl.mirroring && e.mirror) (·.mirrorTold e)).ok opAlloc c
        [lo32 (handleOf e), hi32 (handleOf e), ceilDiv (c.q 0) 65536]) := by
  have hbytes : (decide (c.q 0 = 0) || decide (17179869184 < c.q 0)) = false := by
    simp only [Bool.or_eq_false_iff, decide_eq_false_iff_not]
    omega
  have hclass : decide (8 ≤ bits (c.w 2) 0 4) = false := decide_eq_false (by omega)
  have hparked : decide (bits (c.w 2) 0 4 = 7) = false := decide_eq_false (by omega)
  have hword : (c.w 2 != bits (c.w 2) 0 4 + (if bitAt (c.w 2) 8 then 256 else 0)) = false := bne_eq_false_iff_eq.2 hres
  simp only [allocMeaning, Chip.perform_dispatched hd, hbytes, hclass, hparked, hword, hworld, hhint, hentry, hi,
    decide_eq_false (Nat.not_lt.2 hquota), decide_eq_false (Nat.not_lt.2 hroom), Bool.false_and, Bool.and_false, Bool.or_self,
    Bool.not_true, Bool.not_false, Bool.false_eq_true, if_false]

/-- FREE of a handle that nothing shows, changes or binds, and that no work waits for, releases it at once; a migration of it
is aborted (R126). -/
theorem freeMeaning_now (hd : x.dispatchedCall opFreeHandle c = true) (hown : x.ownHandle c 0 = some e)
    (hl : x.layerShows e.idx = false) (hc : x.changeNames e.idx = false) (hs : x.skeinBound e.idx = false)
    (he : (x.abortMig e).entry e.idx = some e) (hw : (x.abortMig e).freeWaits e = false) :
    freeMeaning c x = ((x.abortMig e).freeEntry e).ok opFreeHandle c [] := by
  simp only [freeMeaning, Chip.perform_dispatched hd, hown, hl, hc, hs, he, hw, Bool.or_self, Bool.false_eq_true, if_false]

/-- HANDLE_QUERY answers with the class, the mirroring, the pins, the size and the hint of an own handle. -/
theorem handleQuery_own (hd : x.dispatchedCall opHandleQuery c = true) (hown : x.ownHandle c 0 = some e) :
    handleQuery c x = x.ok opHandleQuery c
      [e.cls + 256 * b2n e.mirror + 65536 * e.pin, e.size, e.pattern + 8 * b2n e.latency] := by
  simp only [handleQuery, Chip.perform_dispatched hd, hown]

/-- PLACE_HINT records a hint that leads to no other order, and moves nothing (R119). -/
theorem placeHint_recorded {d : MapEntry} (hd : x.dispatchedCall opPlaceHint c = true) (hown : x.ownHandle c 0 = some e)
    (hok : hintOk (c.w 2) = true) (hdef : d = { e with pattern := bits (c.w 2) 0 3, latency := bitAt (c.w 2) 3 })
    (ho : hintOrder d d.pattern = d.order) : placeHint c x = (x.setEntry d).ok opPlaceHint c [] := by
  subst hdef
  simp only [placeHint, Chip.perform_dispatched hd, hown, hok, ho, bne_self_eq_false, Bool.not_true, Bool.false_and,
    Bool.false_eq_true, if_false]

/-- PLACE_PIN of a handle already pinned, which no balancing moves, counts one pin more. -/
theorem placePin_again (hd : x.dispatchedCall opPlacePin c = true) (hown : x.ownHandle c 0 = some e) (hmax : e.pin < 255)
    (hpin : 0 < e.pin) (hk : e.kind ≠ 0) (he : x.entry e.idx = some e) :
    placePin c x = (x.setEntry { e with pin := e.pin + 1 }).ok opPlacePin c [e.pin + 1] := by
  simp only [placePin, Chip.perform_dispatched hd, hown, hmax.ne, hpin.ne', hk, he, decide_false, Bool.false_and,
    Bool.false_eq_true, if_false]

/-- PLACE_UNPIN of a pinned handle counts one pin less. -/
theorem placeUnpin_pinned (hd : x.dispatchedCall opPlaceUnpin c = true) (hown : x.ownHandle c 0 = some e) (hpin : 0 < e.pin) :
    placeUnpin c x = (x.setEntry { e with pin := e.pin - 1 }).ok opPlaceUnpin c [e.pin - 1] := by
  simp only [placeUnpin, Chip.perform_dispatched hd, hown, hpin.ne', if_false]

/-- COPY_HANDLE between two ranges of the function's own that do not overlap is made at once out of Hold. -/
theorem copyHandle_now {mem : List Host.Cell} (hd : x.dispatchedCall opCopyHandle c = true)
    (hsrc : (x.ownRange c.fn (c.q 0) (c.q 4) guestClasses).isNone = false)
    (hdst : (x.ownRange c.fn (c.q 2) (c.q 4) guestClasses).isNone = false) (hlen : 0 < c.q 4)
    (hapart : c.q 2 + c.q 4 ≤ c.q 0 ∨ c.q 0 + c.q 4 ≤ c.q 2) (hh : x.inHold = false) :
    copyHandle c mem x = ((x.copyNow mem c.fn (c.q 0) (c.q 2) (c.q 4)).1.ok opCopyHandle c [],
      (x.copyNow mem c.fn (c.q 0) (c.q 2) (c.q 4)).2) := by
  have hranges : (decide (c.q 4 = 0) || (decide (c.q 0 < c.q 2 + c.q 4) && decide (c.q 2 < c.q 0 + c.q 4))) = false := by
    simp only [Bool.or_eq_false_iff, Bool.and_eq_false_iff, decide_eq_false_iff_not]
    omega
  simp only [copyHandle, Chip.performM_dispatched hd, hsrc, hdst, hranges, hh, Bool.false_eq_true, if_false]

end

/-- Settles O5: a dispatched command runs the Herder's own part, and each clause is the rule of one of its branches. -/
theorem herderCommandsComplete : Obligations.HerderCommandsComplete := by
  unfold Obligations.HerderCommandsComplete
  refine ⟨?alloc, ?free, ?query, ?hint, ?pin, ?unpin, ?copy⟩
  case alloc =>
    exact fun s c i hd hworld h0 hmax hcls hres hhint hquota hroom hentry hi hp =>
      runs_onChip hp rfl (allocMeaning_guest hd hworld h0 hmax hcls hres hhint hquota hroom hentry hi)
  case free => exact fun s c e hd hown hl hc hs he hw hp => runs_onChip hp rfl (freeMeaning_now hd hown hl hc hs he hw)
  case query => exact fun s c e hd hown hp => runs_onChip hp rfl (handleQuery_own hd hown)
  case hint => exact fun s c e d hd hown hok hdef ho hp => runs_onChip hp rfl (placeHint_recorded hd hown hok hdef ho)
  case pin => exact fun s c e hd hown hmax hpin hk he hp => runs_onChip hp rfl (placePin_again hd hown hmax hpin hk he)
  case unpin => exact fun s c e hd hown hpin hp => runs_onChip hp rfl (placeUnpin_pinned hd hown hpin)
  case copy =>
    exact fun s c hd hsrc hdst hlen hapart hh hp =>
      runsTo_onBoth (w := ⟨_, s.mem, _⟩) hp rfl (copyHandle_now hd hsrc hdst hlen hapart hh)

end Sys2Proof.Machine
end

section
/-!
SUPPORT. Memory events (R113, R122, R123, R382, R384, R388, R392): one rule for the branch each takes; the settling of
MemoryEventsComplete.
-/
namespace Sys2Proof.Machine

section
variable {x : Chip}

/-- The copy of a migration that is not paused ends: the entry is Armed (R123 step 4, R126). -/
theorem migrationCopyDone_copying {i : Nat} {e : MapEntry} (he : x.entry i = some e) (hm : e.mig = 1)
    (hgo : e.kind = 2 ∨ x.migOk = true) : migrationCopyDone i x = x.setEntry { e with mig := 2 } := by
  have hgo' : (decide (e.kind = 2) || x.migOk) = true := by simpa using hgo
  simp only [migrationCopyDone, he, hm, hgo', decide_true, Bool.and_self, if_true]

/-- A Draining entry settles in its target, the source is released, and what waited for that goes on (R123 step 6). -/
theorem migrationSettle_draining {i : Nat} {e : MapEntry} (he : x.entry i = some e) (hm : e.mig = 3) :
    migrationSettle i x = ((((((x.setEntry { e with
      mig := 0, kind := 0, order := e.torder, chanset := e.tchanset, bgrp := e.tbgrp, pbase := e.tpbase, torder := 0,
      tchanset := 0, tbgrp := 0, tpbase := 0, migs := min (e.migs + 1) 255 }).migStat.sat HB_MIG_CNT_COUNT).raise 66).raiseIf
      (e.kind = 1) 69).reapFrees.evacuate).gather) := by
  simp only [migrationSettle, he, hm, bne_self_eq_false, Bool.false_eq_true, if_false]

/-- A channel in self-refresh refreshes itself: a refresh that falls due only notes the heat of its controller (R382, R393). -/
theorem refreshDue_selfRefresh {c : Nat} {tc0 hot : Bool} {spare : Nat} (hc : c % 2 = 0)
    (hs : (x.flag MCn_REFCFG_HOT_A hot (c / 2)).on MCn_CHk_STAT_SR c = true) :
    refreshDue c tc0 hot spare x = x.flag MCn_REFCFG_HOT_A hot (c / 2) := by
  simp only [refreshDue, hc, hs, if_true]

/-- A channel whose retraining succeeds is back in service (R392). -/
theorem retrainDone_success {c : Nat} (hs : x.get MCn_CHk_STAT_STATE c = 2) :
    retrainDone c true x = ((x.raise 457).chanBack c).setCh c fun h => { h with tries := 0 } := by
  simp only [retrainDone, hs, bne_self_eq_false, Bool.false_eq_true, if_false, if_true]

end

/-- Settles O6: each clause is the rule of one branch of its event; the end of a window and a drift check have one branch
only. -/
theorem memoryEventsComplete : Obligations.MemoryEventsComplete := by
  unfold Obligations.MemoryEventsComplete
  refine ⟨?request, ?copyDone, ?settle, ?refresh, ?window, ?drift, ?retrain⟩
  case request =>
    exact fun s q r e hh ha hs hw he hp =>
      runsTo_onBoth (w := ⟨_, s.mem, _⟩) hp rfl (memoryRequest_walked hh ha hs hw he s.mem)
  case copyDone => exact fun s i e he hm hgo hp => runs_onChip hp rfl (migrationCopyDone_copying he hm hgo)
  case settle => exact fun s i e he hm hp => runs_onChip hp rfl (migrationSettle_draining he hm)
  case refresh => exact fun s ch tc0 hot sp hc hs hp => runs_onChip hp rfl (refreshDue_selfRefresh hc hs)
  case window => exact fun s hp => runs_onChip hp rfl rfl
  case drift => exact fun s beyond hp => runs_onChip hp rfl rfl
  case retrain =>
    rintro s ch ok hs rfl hp
    exact runs_onChip hp rfl (retrainDone_success hs)

end Sys2Proof.Machine
end

section
/-!
SUPPORT. Dispatch, preemption and bin memory (R131 to R135, R153 to R156, R166, R167): one rule for the branch each event takes;
the settling of DispatchCompletes.
-/
namespace Sys2Proof.Machine

/-! ### Dispatch points (R131 to R135, R192) -/

/-- The blocks at a dispatch point before cores are assigned: core time accounted, fill cycles charged, and the jobs ready that
can be. -/
def Chip.atDispatch (x : Chip) : Chip :=
  ((((x.gx.jobs.filter fun j => j.cores != []).foldl Chip.accrue x).endFill.readyJobs).yieldWaiting)

/-- Free cores go to render jobs, then to compute jobs, then fill cycles; what can be sent to the twin follows. -/
def Work.assignCores (w : Work) (y : Chip) : Work :=
  ({ w with x := (fillJob w.mem (dispatchJobs w.mem (fun j => j.compute) y.gx.jobs.length
    (dispatchJobs w.mem (fun j => !j.compute) y.gx.jobs.length y)).readyJobs).countJobs } : Work).blPump

/-- With no job to offload the cores are assigned. -/
theorem dispatchPoint_none (w : Work) : dispatchPoint none w = w.assignCores w.x.atDispatch := rfl

section
variable {w : Work} {r : Nat × Nat} {j : Job} (hj : w.x.atDispatch.job r.1 r.2 = some j)
include hj

/-- The job its estimates choose goes to the twin first, where R135 allows. -/
theorem dispatchPoint_offloads (hm : mayOffload w.mem w.x.atDispatch j = true) :
    dispatchPoint (some r) w = w.assignCores (offloadOut w.mem w.x.atDispatch j) := by
  unfold Chip.atDispatch at *
  simp only [dispatchPoint, hj, hm, if_true]
  rfl

/-- Where R135 does not allow it, it stays. -/
theorem dispatchPoint_stays (hm : mayOffload w.mem w.x.atDispatch j = false) :
    dispatchPoint (some r) w = w.assignCores w.x.atDispatch := by
  unfold Chip.atDispatch at *
  simp only [dispatchPoint, hj, hm, Bool.false_eq_true, if_false]
  rfl

end

/-! ### Preemption points and timeouts (R153, R166, R167) -/

section
variable {w : Work} {fn num : Nat} {j : Job} (hj : w.x.job fn num = some j)
include hj

/-- A block of a draw is binned, the draw right or already begun; after the last the job goes on to its tiles. -/
theorem preemptionPoint_binned (hst : j.st = .binning) (hc : j.cores ≠ [])
    (hr : j.pos.2 ≠ 0 ∨ (drawOk w.mem w.x j j.pos.1 = true ∧ badIndex w.mem w.x j j.pos.1 = none)) :
    preemptionPoint fn num .binned w = (let k := binPrims w.mem w.x j (blockLeft w.mem w.x j)
      (({ w with x := if k.drawCount ≤ k.pos.1 then w.x.enterPhase k .tiling else w.x.setJob k } : Work).on fun y =>
        y.atPoint fn num).coresMoved) := by
  have hc' : (j.cores != []) = true := bne_iff_ne.2 hc
  simp only [preemptionPoint, hj, hst, hc', drawBegin_right hr, decide_true, Bool.and_self, Bool.not_true, Bool.false_eq_true,
    if_false, if_true]

/-- A draw whose record is wrong ends its job (R143). -/
theorem preemptionPoint_binned_wrong (hst : j.st = .binning) (hc : j.cores ≠ []) (hp : j.pos.2 = 0)
    (hr : drawOk w.mem w.x j j.pos.1 = false) :
    preemptionPoint fn num .binned w = ({ w with x := w.x.abortJob j 3 j.pos.1 } : Work).coresMoved := by
  have hc' : (j.cores != []) = true := bne_iff_ne.2 hc
  simp only [preemptionPoint, hj, hst, hc', drawBegin_wrong hp hr, decide_true, Bool.and_self, Bool.not_false, if_true]

/-- A tile left to the member that its core serves is done. -/
theorem preemptionPoint_tile (hst : j.st = .tiling ∨ j.st = .spill) {core : Fin 24} {n : Nat}
    (hc : j.cores[j.coreIndex n]? = some core.val)
    (hl : ((List.range j.members).any fun m => (j.left m).contains n) = true) :
    preemptionPoint fn num (.tile core n) w = ((w.tileDone fn num n).on fun y => y.atPoint fn num).coresMoved := by
  have hst' : (decide (j.st = .tiling) || decide (j.st = .spill)) = true := by simpa using hst
  simp only [preemptionPoint, hj, hst', hc, hl, decide_true, Bool.and_self, if_true]

/-- The workgroups that have finished count, as many as there are. -/
theorem preemptionPoint_workgroups (hst : j.st = .running) (done : Nat) :
    preemptionPoint fn num (.workgroups done) w =
      ((w.on fun y => y.setJob { j with finished := max j.finished (min done j.groups) }).on fun y =>
        y.atPoint fn num).coresMoved := by
  simp only [preemptionPoint, hj, hst, if_true]

/-- A job that does not yield in time is aborted, where no heel request keeps its cores for a reset (R167, R504). -/
theorem preemptTimeout_late (hpre : j.preempt = true) (hc : j.cores ≠ []) (hheel : w.x.jobHeel j = false) :
    preemptTimeout fn num w = (w.on fun y => (y.raise 101).abortJob j 1 0).coresMoved := by
  have hc' : (j.cores != []) = true := bne_iff_ne.2 hc
  simp only [preemptTimeout, hj, hpre, hc', hheel, Bool.not_false, Bool.and_self, if_true]

/-! ### Bin memory (R154 to R156) -/

/-- A job of an old generation that runs short is abandoned. -/
theorem binPoolFull_old (hst : j.st = .binning) (hc : j.cores ≠ []) (ho : j.old = true) (u : BinUse) :
    binPoolFull fn num u w = (w.on fun y => y.abandonJob j false).coresMoved := by
  simp only [binPoolFull, hj, hst, hc, ho, bne_self_eq_false, decide_false, Bool.or_self, Bool.false_eq_true, if_false, if_true]

section
variable (hst : j.st = .binning) (hc : j.cores ≠ []) (ho : j.old = false)
  (hr : j.pos.2 ≠ 0 ∨ (drawOk w.mem w.x j j.pos.1 = true ∧ badIndex w.mem w.x j j.pos.1 = none))
  (hb : blockLeft w.mem w.x j ≠ 0)
include hst hc ho hr hb

/-- A job run for the twin has nobody to ask for pages: it spills. -/
theorem binPoolFull_spills (hf : j.fn = 127) (hw : j.world = false) (u : BinUse) :
    binPoolFull fn num u w = (let k := binPrims w.mem w.x j (min u.prims (blockLeft w.mem w.x j - 1))
      ({ w with x := (w.x.setJob k).enterSpill k } : Work)) := by
  simp only [binPoolFull, hj, hst, hc, ho, drawBegin_right hr, hb, hf, hw, bne_self_eq_false, decide_true, decide_false,
    Bool.or_self, Bool.and_self, Bool.not_true, Bool.not_false, Bool.false_eq_true, if_false, if_true]

/-- Any other pauses, and asks its owner for pages. -/
theorem binPoolFull_pauses (hf : (j.fn = 127 && !j.world) = false) (u : BinUse) :
    binPoolFull fn num u w = (let k := binPrims w.mem w.x j (min u.prims (blockLeft w.mem w.x j - 1))
      ({ w with x := w.x.binPause k u (primsRemaining w.mem w.x k) } : Work).coresMoved) := by
  simp only [binPoolFull, hj, hst, hc, ho, drawBegin_right hr, hb, hf, bne_self_eq_false, decide_false, Bool.or_self,
    Bool.not_true, Bool.false_eq_true, if_false]

end

/-- A spill render ends: the tiles left are stored, and binning goes on with an empty pool. -/
theorem spillDone_spilling (hst : j.st = .spill) (hc : j.cores ≠ []) :
    spillDone fn num w = match (w.restDone j).x.job fn num with
      | some k => (w.restDone j).on fun y => y.enterPhase { k with prims := [], binned := 0 } .binning
      | none => w.restDone j := by
  simp only [spillDone, hj]
  exact if_pos (by simp [hst, hc])

end

/-- With no pages in time a job that waits for them spills. -/
theorem binGrowTimeout_waiting {x : Chip} {fn num : Nat} {j : Job} (hj : x.job fn num = some j) (hst : j.st = .binWait)
    (ht : j.timer = true) : binGrowTimeout fn num x = x.enterSpill j := by
  simp only [binGrowTimeout, hj, hst, ht, decide_true, Bool.and_self, if_true]

/-- Settles O33: each clause is the rule of one branch of its event. -/
theorem dispatchCompletes : Obligations.DispatchCompletes := by
  unfold Obligations.DispatchCompletes
  refine ⟨?none, ?offloads, ?stays, ?binned, ?wrong, ?tile, ?workgroups, ?timeout, ?old, ?spills, ?pauses, ?growTimeout,
    ?spillDone⟩
  case none => exact fun s hp => runsTo_onSkein hp rfl (dispatchPoint_none s.work)
  case offloads => exact fun s r j hj hm hp => runsTo_onSkein hp rfl (dispatchPoint_offloads (w := s.work) hj hm)
  case stays => exact fun s r j hj hm hp => runsTo_onSkein hp rfl (dispatchPoint_stays (w := s.work) hj hm)
  case binned => exact fun s r j hj hst hc hr hp => runsTo_onSkein hp rfl (preemptionPoint_binned (w := s.work) hj hst hc hr)
  case wrong =>
    exact fun s r j hj hst hc ⟨hpos, hr⟩ hp =>
      runsTo_onSkein hp rfl (preemptionPoint_binned_wrong (w := s.work) hj hst hc hpos hr)
  case tile =>
    exact fun s r j core n hj hst hc hl hp => runsTo_onSkein hp rfl (preemptionPoint_tile (w := s.work) hj hst hc hl)
  case workgroups =>
    exact fun s r j done hj hst hp => runsTo_onSkein hp rfl (preemptionPoint_workgroups (w := s.work) hj hst done)
  case timeout =>
    exact fun s r j hj hpre hc hheel hp => runsTo_onSkein hp rfl (preemptTimeout_late (w := s.work) hj hpre hc hheel)
  case old => exact fun s r j u hj hst hc ho hp => runsTo_onSkein hp rfl (binPoolFull_old (w := s.work) hj hst hc ho u)
  case spills =>
    exact fun s r j u hj hst hc ho hr hb hf hw hp =>
      runsTo_onSkein hp rfl (binPoolFull_spills (w := s.work) hj hst hc ho hr hb hf hw u)
  case pauses =>
    exact fun s r j u hj hst hc ho hr hb hf hp =>
      runsTo_onSkein hp rfl (binPoolFull_pauses (w := s.work) hj hst hc ho hr hb hf u)
  case growTimeout => exact fun s r j hj hst ht hp => runs_onChip hp rfl (binGrowTimeout_waiting hj hst ht)
  case spillDone => exact fun s r j hj hst hc hp => runsTo_onSkein hp rfl (spillDone_spilling (w := s.work) hj hst hc)

end Sys2Proof.Machine
end

section
/-!
SUPPORT. Render, compute and shader commands, and the ends of jobs (R143, R144, R155, R159, R165, R168, R176 to R179, R182,
R190 to R199): one rule for the branch each takes; the settling of RenderCommandsComplete and JobsComplete.
-/
namespace Sys2Proof.Machine

/-! ### Submission and barriers (R143, R144, R165, R190) -/

section
variable {x : Chip} {c : Call} {mem : List Host.Cell}

/-- RENDER_SUBMIT of a right descriptor, with room for the job, accepts it and answers with its number. -/
theorem renderSubmit_accepted (hd : x.dispatchedCall opRenderSubmit c = true) (ha : c.q 0 % 256 = 0)
    (hown : (x.ownRange c.who (c.q 0) 256 guestClasses).isNone = false)
    (hbad : renderBad mem x c.who (readBytes mem x (c.q 0) 256) = none) (hroom : x.jobRoom c.who false = true) :
    renderSubmit c mem x = (
      let d := readBytes mem x (c.q 0) 256
      let pipes := ((List.range (fieldAt d 0x18 4)).map fun i => drawPipe mem x (fieldAt d 0x10 8 + 64 * i)).eraseDups
      let n := x.nextJob c.who
      let j := { jobOf false c.who (x.get FNf_GEN_GEN c.who) n c.ring d (fun a => a) pipes [] with world := c.world }
      let r := x.protSubmit j (d ++ readBytes mem x (fieldAt d 0x10 8) (64 * fieldAt d 0x18 4))
      (r.1.acceptJob { j with handles := jobHandles mem x j, pfn := r.2 }).ok opRenderSubmit c [n]) := by
  simp only [renderSubmit, Chip.perform_dispatched hd, ha, hown, hbad, hroom, bne_self_eq_false, Bool.or_self, Bool.not_true,
    Bool.false_eq_true, if_false]

/-- COMPUTE_SUBMIT does the same for a compute job, with the workgroup size of its pipeline. -/
theorem computeSubmit_accepted (hd : x.dispatchedCall opComputeSubmit c = true) (ha : c.q 0 % 128 = 0)
    (hown : (x.ownRange c.who (c.q 0) 128 guestClasses).isNone = false)
    (hbad : computeBad x c.who (readBytes mem x (c.q 0) 128) = none) (hroom : x.jobRoom c.who true = true) :
    computeSubmit c mem x = (
      let d := readBytes mem x (c.q 0) 128
      let n := x.nextJob c.who
      let j := { jobOf true c.who (x.get FNf_GEN_GEN c.who) n c.ring d (fun a => a) [fieldAt d 8 2] [] with
        world := c.world, lsize := x.groupSize c.who (fieldAt d 8 2) }
      (x.acceptJob { j with handles := jobHandles mem x j }).ok opComputeSubmit c [n]) := by
  simp only [computeSubmit, Chip.perform_dispatched hd, ha, hown, hbad, hroom, bne_self_eq_false, Bool.or_self, Bool.not_true,
    Bool.false_eq_true, if_false]

/-- The barrier that a RENDER_BARRIER asks for: the live jobs of its function and ring that are of a before-kind, and the kinds
that wait for them. -/
def Chip.barrierOf (x : Chip) (c : Call) : RBarrier :=
  ⟨c.who, c.ring.val, bitAt (c.w 0) 2, bitAt (c.w 0) 3, (x.gx.jobs.filter fun j =>
    j.fn = c.who && (j.ring = c.ring.val && (if j.compute then bitAt (c.w 0) 1 else bitAt (c.w 0) 0))).map (·.num)⟩

/-- RENDER_BARRIER with a kind on each side holds its barrier, where there is work before it, and completes at once. -/
theorem renderBarrier_named (hd : x.dispatchedCall opRenderBarrier c = true) (hlt : c.w 0 < 16) (hbefore : c.w 0 % 4 ≠ 0)
    (hafter : c.w 0 / 4 ≠ 0) :
    renderBarrier c x = ({ x with gx := { x.gx with barriers := if (x.barrierOf c).before = [] then x.gx.barriers
      else x.gx.barriers ++ [x.barrierOf c] } } : Chip).ok opRenderBarrier c [] := by
  have hword : (decide (16 ≤ c.w 0) || (decide (c.w 0 % 4 = 0) || decide (c.w 0 / 4 = 0))) = false := by
    simp only [Bool.or_eq_false_iff, decide_eq_false_iff_not]
    omega
  simp only [renderBarrier, Chip.perform_dispatched hd, hword, Bool.false_eq_true, if_false]
  rfl

end

/-! ### BIN_GROW (R155, R159, R168) -/

/-- A job that has been given pages goes on binning where it waits for them; in a spill render, or waiting for one, they come
late. -/
def Chip.poolGrown (x : Chip) (c : Call) (k : Job) : Chip :=
  if k.st = .binWait then
    ((if k.cores = [] then (x.setJob { k with timer := false, st := .ready, phase := .binning }).settleJobs
      else x.enterPhase { k with timer := false } .binning).countJobs).binGrown c k 0
  else (x.setJob k).binGrown c k (if k.st = .spill || (k.st = .ready && k.phase = .spill) then 1 else 2)

section
variable {x : Chip} {c : Call} {k : Job}

/-- A waiting job that holds cores goes on binning with them. -/
theorem Chip.poolGrown_binWait (hst : k.st = .binWait) (hc : k.cores ≠ []) :
    x.poolGrown c k = ((x.enterPhase { k with timer := false } .binning).countJobs).binGrown c k 0 := by
  simp only [Chip.poolGrown, hst, hc, if_true, if_false]

/-- A waiting job without cores is ready to go on binning. -/
theorem Chip.poolGrown_binWait_coreless (hst : k.st = .binWait) (hc : k.cores = []) :
    x.poolGrown c k = ((x.setJob { k with timer := false, st := .ready, phase := .binning }).settleJobs.countJobs).binGrown c k
      0 := by
  simp only [Chip.poolGrown, hst, hc, if_true]

/-- Pages that come during a spill render are late. -/
theorem Chip.poolGrown_spill (hst : k.st = .spill) : x.poolGrown c k = (x.setJob k).binGrown c k 1 := by
  simp only [Chip.poolGrown, hst, reduceCtorEq, decide_true, Bool.true_or, if_false, if_true]

end

section
variable {x : Chip} {c : Call} {j : Job} (hd : x.dispatchedCall opBinGrow c = true)
  (hj : (x.gx.jobs.find? fun j => j.is c.who (c.w 0) && !j.compute) = some j)
include hd hj

/-- With no pages to give, a job that waits for them spills. -/
theorem binGrow_nothing_waiting (hn : c.w 3 = 0) (hst : j.st = .binWait) :
    binGrow c x = (x.enterSpill j).binGrown c j 0 := by
  simp only [binGrow, Chip.perform_dispatched hd, hj, hn, hst, if_true]

/-- No pages for any other job change nothing. -/
theorem binGrow_nothing_idle (hn : c.w 3 = 0) (hst : j.st ≠ .binWait) : binGrow c x = x.binGrown c j 2 := by
  simp only [binGrow, Chip.perform_dispatched hd, hj, hn, hst, if_true, if_false]

/-- Pages of an allocation of its own that no pool holds join the job's pool, as its 32nd at most. -/
theorem binGrow_pages (hn : c.w 3 ≠ 0) (hoff : hOffset (c.q 1) = 0)
    (hown : (x.ownRange c.who (c.q 1) 0 [4]).isNone = false) (hpool : x.pooled (hIndex (c.q 1)) = false)
    (hfits : (x.ownRange c.who (c.q 1) (c.w 3 * 65536) [4]).isNone = false) (hroom : j.pool.length < 32) :
    binGrow c x = x.poolGrown c { j with pool := j.pool ++ [(c.q 1, c.w 3)] } := by
  simp only [binGrow, Chip.perform_dispatched hd, hj, hn, hoff, hown, hpool, hfits, Nat.not_le.2 hroom, bne_self_eq_false,
    Bool.or_self, Bool.false_eq_true, if_false]
  rfl

end

/-! ### Shader modules and pipelines (R176 to R179, R182) -/

section
variable {x : Chip} {c : Call} {mem : List Host.Cell}

/-- SHADER_LOAD of a right module, with a number free, keeps it and answers with its number and its entry points. -/
theorem shaderLoad_right (hd : x.dispatchedCall opShaderLoad c = true)
    (hown : (x.ownRange c.who (c.q 0) (c.w 2) guestClasses).isNone = false) (hwords : c.w 2 % 4 = 0) (hmin : 20 ≤ c.w 2)
    (hmax : c.w 2 ≤ 4194304) (hbad : moduleBad (bytesWords (readBytes mem x (c.q 0) (c.w 2))) = none)
    (hroom : ((x.gx.modules.filter fun m => m.fn = c.who).map (·.num)).length < 1024) :
    shaderLoad c mem x = (
      let ws := bytesWords (readBytes mem x (c.q 0) (c.w 2))
      let k := x.freeNumber ((x.gx.modules.filter fun m => m.fn = c.who).map (·.num))
      ({ x.took with gx := { x.gx with modules := x.gx.modules ++ [(⟨c.who, k, ws⟩ : Module)] } } : Chip).ok opShaderLoad c
        [k, (modEntries ws).length]) := by
  simp only [shaderLoad, Chip.perform_dispatched hd, hown, hwords, hbad, Nat.not_lt.2 hmin, Nat.not_lt.2 hmax,
    Nat.not_le.2 hroom, bne_self_eq_false, decide_false, Bool.or_self, Bool.false_eq_true, if_false]

/-- PIPELINE_DESTROY of a module that no pipeline names drops it. -/
theorem pipelineDestroy_module (hd : x.dispatchedCall opPipelineDestroy c = true) (hm : bitAt (c.w 0) 31 = true)
    (hown : (x.shaderMod c.who (bits (c.w 0) 0 16)).isNone = false)
    (hfree : (x.gx.pipes.any fun p =>
      p.fn = c.who && (p.mods.1 = bits (c.w 0) 0 16 || p.mods.2 = bits (c.w 0) 0 16)) = false) :
    pipelineDestroy c x = ({ x with gx := { x.gx with
      modules := x.gx.modules.filter fun m => !(m.fn = c.who && m.num = bits (c.w 0) 0 16) } } : Chip).ok opPipelineDestroy c
        [] := by
  simp only [pipelineDestroy, Chip.perform_dispatched hd, hm, hown, hfree, Bool.or_self, Bool.false_eq_true, if_true, if_false]

/-- PIPELINE_DESTROY of a pipeline marks it, and takes effect when no accepted job names it any longer (R200). -/
theorem pipelineDestroy_pipeline (hd : x.dispatchedCall opPipelineDestroy c = true) (hm : bitAt (c.w 0) 31 = false)
    (hown : (x.pipeline c.who (bits (c.w 0) 0 16)).isNone = false) :
    pipelineDestroy c x = ({ x with gx := { x.gx with
      pipes := updAll x.gx.pipes (fun p => p.fn = c.who && p.num = bits (c.w 0) 0 16) fun p => { p with dying := true }
      destroys := x.gx.destroys ++ [(c, bits (c.w 0) 0 16)] } } : Chip).reapPipes := by
  simp only [pipelineDestroy, Chip.perform_dispatched hd, hm, hown, Bool.false_eq_true, if_false]

/-- SHADER_CACHE_FLUSH drops what no live pipeline uses. -/
theorem shaderCacheFlush_dispatched (hd : x.dispatchedCall opShaderCacheFlush c = true) :
    shaderCacheFlush c x = (x.setCache (x.gx.cache.filter x.cacheUsed)).ok opShaderCacheFlush c [] :=
  Chip.perform_dispatched hd _

/-- The bytes of the modules of a function that a pipeline is made of. -/
def Chip.moduleBytes (x : Chip) (fn : Nat) (ns : List Nat) : List Nat :=
  ns.flatMap fun n => match x.shaderMod fn n with
    | some m => m.words.flatMap wordBytes
    | none => []

/-- The hash that keys a pipeline's code (R178): its modules, its record without their numbers, its specialisation data and the
compiler's version. -/
def Chip.codeHash (x : Chip) (mem : List Host.Cell) (words bs : List Nat) : List Nat :=
  let bare := bs.take 8 ++ ([0, 0] ++ ((bs.drop 10).take 2 ++ ([0, 0] ++ bs.drop 14)))
  let spec := if fieldAt bs 0x10 8 = 0 then [] else readBytes mem x (fieldAt bs 0x10 8) (fieldAt bs 0x18 4)
  sha256 (words ++ (bare ++ (spec ++ wordBytes (x.get GX_COMPILER_VERSION))))

/-- What the fragment shader of number `n` does; nothing where there is none. -/
def Chip.fragmentFlags (x : Chip) (fn n : Nat) : Nat :=
  match x.shaderMod fn n with
  | some m => fragFlags m.words
  | none => 0

/-- The compute pipeline that a record makes. -/
def computePipeline (c : Call) (k key : Nat) (bs : List Nat) (flags : Nat) : Pipeline :=
  ⟨c.who, k, true, key, c.world, (fieldAt bs 8 2, 0xFFFF), bs.getD 5 0,
    (List.range 4).map fun t => fieldAt bs (0xC0 + 16 * t) 2, (List.range 4).map fun s => fieldAt bs (0x1C + 2 * s) 2, bs, flags, false⟩

/-- A pipeline joins the live ones, and is shipped to the twin (R369). -/
def Chip.keepPipe (x : Chip) (p : Pipeline) (hash bytes : List Nat) : Chip :=
  let y := { x.took with gx := { x.gx with pipes := x.gx.pipes ++ [p] } }
  (y.set GX_PIPES_LIVE y.gx.pipes.length).shipPipe hash bytes

/-- PIPELINE_CREATE of a right compute record, with a number free, answers with its number and whether its code was in the
cache; with no room for the code, with the MiB missing. -/
theorem pipelineCreate_compute (hd : x.dispatchedCall opPipelineCreate c = true) (ha : c.q 0 % 64 = 0)
    (hown : (x.ownRange c.who (c.q 0) 256 guestClasses).isNone = false)
    {bs : List Nat} (hbs : readBytes mem x (c.q 0) 256 = bs) (hbad : x.recordBad c.who bs = none)
    (hmine : ((x.gx.pipes.filter fun p => p.fn = c.who).map (·.num)).length < 1024) (hroom : x.gx.pipes.length < 16384)
    (hcompute : bs.getD 4 0 = 1) :
    pipelineCreate c mem x = (
      let words := x.moduleBytes c.who [fieldAt bs 8 2, 0xFFFF]
      let hash := x.codeHash mem words bs
      let r := x.codeFor (beWord hash) c.world
      match r.2 with
      | .inl n => r.1.done opPipelineCreate c stNoResource [n]
      | .inr hit =>
        let k := r.1.freeNumber ((x.gx.pipes.filter fun p => p.fn = c.who).map (·.num))
        let flags := x.fragmentFlags c.who 0xFFFF
        (r.1.keepPipe (computePipeline c k (beWord hash) bs flags) hash (words ++ (bs ++ [flags]))).ok opPipelineCreate c
          [k, b2n hit]) := by
  subst hbs
  simp only [pipelineCreate, Chip.perform_dispatched hd, ha, hown, hbad, hcompute, Nat.not_le.2 hmine, Nat.not_le.2 hroom,
    bne_self_eq_false, decide_false, decide_true, Bool.or_self, Bool.false_eq_true, if_true, if_false]
  rfl

end

/-- Settles O32: each clause is the rule of one branch of its command. -/
theorem renderCommandsComplete : Obligations.RenderCommandsComplete := by
  unfold Obligations.RenderCommandsComplete
  refine ⟨?render, ?compute, ?barrier, ?growNothingWaiting, ?growNothingIdle, ?growWaiting, ?growCoreless, ?growSpill, ?load,
    ?create, ?destroyModule, ?destroyPipeline, ?flush⟩
  case render =>
    exact fun s c hd ha hown hbad hroom hp => runs_onChipM hp rfl (renderSubmit_accepted hd ha hown hbad hroom)
  case compute =>
    exact fun s c hd ha hown hbad hroom hp => runs_onChipM hp rfl (computeSubmit_accepted hd ha hown hbad hroom)
  case barrier => exact fun s c hd hlt hb ha hp => runs_onChip hp rfl (renderBarrier_named hd hlt hb ha)
  case growNothingWaiting => exact fun s c j hd hj hn hst hp => runs_onChip hp rfl (binGrow_nothing_waiting hd hj hn hst)
  case growNothingIdle => exact fun s c j hd hj hn hst hp => runs_onChip hp rfl (binGrow_nothing_idle hd hj hn hst)
  case growWaiting =>
    exact fun s c j hd hj hn hoff hown hpool hfits hroom hst hc hp =>
      runs_onChip hp rfl ((binGrow_pages hd hj hn hoff hown hpool hfits hroom).trans (Chip.poolGrown_binWait hst hc))
  case growCoreless =>
    exact fun s c j hd hj hn hoff hown hpool hfits hroom hst hc hp =>
      runs_onChip hp rfl ((binGrow_pages hd hj hn hoff hown hpool hfits hroom).trans (Chip.poolGrown_binWait_coreless hst hc))
  case growSpill =>
    exact fun s c j hd hj hn hoff hown hpool hfits hroom hst hp =>
      runs_onChip hp rfl ((binGrow_pages hd hj hn hoff hown hpool hfits hroom).trans (Chip.poolGrown_spill hst))
  case load =>
    exact fun s c hd hown hw hmin hmax hbad hroom hp =>
      runs_onChipM hp rfl (shaderLoad_right hd hown hw hmin hmax hbad hroom)
  case create =>
    exact fun s c hd ha hown hbad hmine hroom hcompute hp =>
      runs_onChipM hp rfl (pipelineCreate_compute hd ha hown rfl hbad hmine hroom hcompute)
  case destroyModule =>
    exact fun s c hd hm hown hfree hp => runs_onChip hp rfl (pipelineDestroy_module hd hm hown hfree)
  case destroyPipeline => exact fun s c hd hm hown hp => runs_onChip hp rfl (pipelineDestroy_pipeline hd hm hown)
  case flush => exact fun s c hd hp => runs_onChip hp rfl (shaderCacheFlush_dispatched hd)

/-! ### The ends of jobs (R88, R144, R191, R194 to R198, R369) -/

/-- The tiles left are resolved, the signature tables get their headers, and the core time is accounted. -/
def Work.resolveTiles (w : Work) (fn num : Nat) (j : Job) : Work :=
  (j.targets.foldl (fun (v : Work) t => v.signHeader j t) (w.restDone j)).on fun y => y.accrue ((y.job fn num).getD j)

/-- The signatures of a protected render's tiles are sent to the twin and compared with its own (R359 to R361). -/
def Work.compareProt (w : Work) (k : Job) : Work :=
  match k.pfn with
  | some p => w.protDone p.1 p.2 (w.tileSigs k)
  | none => w

/-- A job is over: what it made for the twin goes back, and its fence and its notice follow. -/
def Work.finishJob (w : Work) (k : Job) : Work :=
  (((if k.fn = 127 && !k.world then w.offInDone k else w).on fun y => y.jobDone k (ticksToUs k.used)).coresMoved).blPump

section
variable {w : Work} {fn num : Nat} {j : Job} (hj : w.x.job fn num = some j)
include hj

section
variable (hk : j.compute = false) (hst : j.st = .tiling) (hc : j.cores ≠ [])
include hk hst hc

/-- The completion of a render job of an old generation is discarded and counted. -/
theorem renderJobComplete_old (ho : j.old = true) :
    renderJobComplete fn num w = (w.on fun y => (y.abandonJob j false).countDiscard fn).coresMoved := by
  simp only [renderJobComplete, hj, hk, hst, hc, ho, bne_self_eq_false, decide_false, Bool.or_self, Bool.false_eq_true, if_true,
    if_false]

/-- Any other render job ends once its tiles are resolved and signed. -/
theorem renderJobComplete_tiling (ho : j.old = false) :
    renderJobComplete fn num w = (let v := w.resolveTiles fn num j
      let k := (v.x.job fn num).getD j
      (v.compareProt k).finishJob k) := by
  simp only [renderJobComplete, hj, hk, hst, hc, ho, bne_self_eq_false, decide_false, Bool.or_self, Bool.false_eq_true, if_false]
  rfl

end

section
variable (hk : j.compute = true) (hst : j.st = .running)
include hk hst

/-- The completion of a compute job of an old generation is discarded and counted. -/
theorem computeJobComplete_old (ho : j.old = true) :
    computeJobComplete fn num w = (w.on fun y => (y.abandonJob j false).countDiscard fn).coresMoved := by
  simp only [computeJobComplete, hj, hk, hst, ho, bne_self_eq_false, Bool.not_true, Bool.or_self, Bool.false_eq_true, if_true,
    if_false]

/-- Any other compute job ends once its core time, and what it took of a fill cycle, are accounted. -/
theorem computeJobComplete_running (ho : j.old = false) :
    computeJobComplete fn num w = (let v := w.on fun y => (y.accrue j).chargeFill j
      v.finishJob ((v.x.job fn num).getD j)) := by
  simp only [computeJobComplete, hj, hk, hst, ho, bne_self_eq_false, Bool.not_true, Bool.or_self, Bool.false_eq_true, if_false]
  rfl

end

end

/-- Settles O34: the completions are the rules of their branches; each kind of core error has one branch only. -/
theorem jobsComplete : Obligations.JobsComplete := by
  unfold Obligations.JobsComplete
  refine ⟨?renderOld, ?render, ?computeOld, ?compute, ?corrected, ?texture, ?reset⟩
  case renderOld =>
    exact fun s r j hj hk hst hc ho hp => runsTo_onSkein hp rfl (renderJobComplete_old (w := s.work) hj hk hst hc ho)
  case render =>
    exact fun s r j hj hk hst hc ho hp => runsTo_onSkein hp rfl (renderJobComplete_tiling (w := s.work) hj hk hst hc ho)
  case computeOld =>
    exact fun s r j hj hk hst ho hp => runsTo_onSkein hp rfl (computeJobComplete_old (w := s.work) hj hk hst ho)
  case compute =>
    exact fun s r j hj hk hst ho hp => runsTo_onSkein hp rfl (computeJobComplete_running (w := s.work) hj hk hst ho)
  case corrected => exact fun s core hp => runsTo_onSkein hp rfl rfl
  case texture => exact fun s core hp => runsTo_onSkein hp rfl rfl
  case reset => exact fun s core hp => runsTo_onSkein hp rfl rfl

end Sys2Proof.Machine
end

section
/-!
SUPPORT. Fences (R198, R571, R572): the value each fence holds after a signal; the settling of FencesNeverFall.
-/
namespace Sys2Proof.Machine

/-! ### Finding in a list whose first match was replaced -/

/-- The replacement is what the same search then finds, where it found anything. -/
theorem find?_updFirst_same {α : Type} {p : α → Bool} {a : α} (ha : p a = true) (l : List α) :
    (updFirst l p fun _ => a).find? p = (l.find? p).map fun _ => a := by
  induction l with
  | nil => rfl
  | cons b l ih => cases hb : p b <;> simp [updFirst, hb, ha, ih]

/-- A search that meets neither the replacement nor what it replaces finds what it found. -/
theorem find?_updFirst_other {α : Type} {p q : α → Bool} {a : α} (ha : q a = false) (hpq : ∀ b, p b = true → q b = false)
    (l : List α) : (updFirst l p fun _ => a).find? q = l.find? q := by
  induction l with
  | nil => rfl
  | cons b l ih =>
    cases hb : p b
    case true => simp [updFirst, hb, ha, hpq b hb]
    case false => simp [updFirst, hb, List.find?_cons, ih]

/-- A part of the state that every step of a fold keeps is kept by the fold. -/
theorem foldl_keeps {α β γ : Type} (g : β → γ) {f : β → α → β} (h : ∀ b a, g (f b a) = g b) (l : List α) (b : β) :
    g (l.foldl f b) = g b :=
  List.foldlRecOn (motive := fun c => g c = g b) l f rfl fun c hc a _ => (h c a).trans hc

/-! ### What leaves the fences alone -/

/-- A core's performance counters are registers. -/
@[simp] theorem Chip.perfCore_ce (x : Chip) (compute : Bool) (n : Nat) : (x.perfCore compute n).ce = x.ce := by
  unfold Chip.perfCore
  exact foldl_keeps Chip.ce (fun y f => by rw [Chip.took_ce, Chip.set_ce]) _ x

/-- A core that goes idle changes registers alone. -/
@[simp] theorem Chip.idleCore_ce (x : Chip) (n : Nat) : (x.idleCore n).ce = x.ce := by
  simp only [Chip.idleCore, apply_ite Chip.ce, Chip.set_ce, ite_self]

/-- A job that gives up its cores leaves the command engine. -/
@[simp] theorem Chip.dropCores_ce (x : Chip) (j : Job) : (x.dropCores j).ce = x.ce := by
  have hcores (y : Chip) : (j.cores.foldl (fun (y : Chip) n => (y.perfCore j.compute n).idleCore n) y).ce = y.ce :=
    foldl_keeps Chip.ce (fun y n => by rw [Chip.idleCore_ce, Chip.perfCore_ce]) j.cores y
  simp only [Chip.dropCores]
  split <;> exact hcores (x.accrue j)

/-- Settling the jobs leaves the command engine. -/
@[simp] theorem Chip.settleJobs_ce (x : Chip) : x.settleJobs.ce = x.ce := by
  unfold Chip.settleJobs Chip.yieldWaiting
  split
  · exact foldl_keeps Chip.ce Chip.dropCores_ce _ x.readyJobs
  · rfl

/-- Packets that are dispatched leave every fence. -/
@[simp] theorem Chip.release_fences (x : Chip) : x.release.ce.fences = x.ce.fences := by
  unfold Chip.release
  refine foldl_keeps (fun y : Chip => y.ce.fences) (fun y i => ?_) _ x
  split
  · split <;> rfl
  · rfl

/-- A fence is read from the list of fences alone. -/
theorem Chip.fence_congr {x y : Chip} (h : y.ce.fences = x.ce.fences) (i : Nat) : y.fence i = x.fence i := by
  simp only [Chip.fence, h]

/-- The value of a fence is read from its record alone. -/
theorem Chip.fenceValue_congr {x y : Chip} (h : y.fence i = x.fence i) : y.fenceValue i = x.fenceValue i := by
  simp only [Chip.fenceValue, h]

/-- A fence that is not free holds the value of its record. -/
theorem Chip.fenceValue_of_some {x : Chip} {i : Nat} {f : Fence} (h : x.fence i = some f) : x.fenceValue i = f.value := by
  simp only [Chip.fenceValue, h]

/-! ### A fence's new record -/

/-- The record found under a number has that number. -/
theorem Chip.fence_id {x : Chip} {i : Nat} {f : Fence} (h : x.fence i = some f) : f.id = i := by
  simpa using List.find?_some h

/-- A fence that is not free takes its new record. -/
theorem Chip.setFence_fence_same {x : Chip} {f g : Fence} (h : x.fence f.id = some g) : (x.setFence f).fence f.id = some f := by
  have hfind := find?_updFirst_same (p := fun g : Fence => decide (g.id = f.id)) (decide_eq_true rfl) x.ce.fences
  exact hfind.trans (congrArg (Option.map fun _ => f) h)

/-- Every other fence keeps its record. -/
theorem Chip.setFence_fence_other (x : Chip) {f : Fence} {j : Nat} (h : j ≠ f.id) : (x.setFence f).fence j = x.fence j :=
  find?_updFirst_other (q := fun g : Fence => decide (g.id = j)) (decide_eq_false h.symm)
    (fun _ hg => decide_eq_false fun hgj => h (hgj.symm.trans (of_decide_eq_true hg))) x.ce.fences

/-! ### Signals (R198, R572) -/

section
variable {x : Chip} {i v : Nat}

/-- A signal to a free fence is discarded. -/
theorem Chip.signalFence_free (hi : x.fence i = none) : x.signalFence i v = x := by
  simp only [Chip.signalFence, hi]

variable {f : Fence} (hi : x.fence i = some f)
include hi

/-- A signal to an orphaned fence is discarded. -/
theorem Chip.signalFence_orphan (ho : f.orphan = true) : x.signalFence i v = x := by
  simp only [Chip.signalFence, hi, ho, if_true]

/-- A backward signal leaves every fence: it is only counted and raised. -/
theorem Chip.signalFence_backward (ho : f.orphan = false) (hv : v < f.value) : (x.signalFence i v).ce.fences = x.ce.fences := by
  simp only [Chip.signalFence, hi, ho, hv, Bool.false_eq_true, if_true, if_false]
  rfl

/-- Any other signal gives the fence a record with the value signalled; what it lets go changes no fence. -/
theorem Chip.signalFence_forward (ho : f.orphan = false) (hv : f.value ≤ v) :
    (x.signalFence i v).ce.fences = (x.setFence { f with value := v }).ce.fences := by
  simp only [Chip.signalFence, hi, ho, hv.not_gt, Bool.false_eq_true, if_false, Chip.settleJobs_ce, Chip.release_fences]

/-- The fence signalled holds the larger value. -/
theorem Chip.signalFence_value (ho : f.orphan = false) : (x.signalFence i v).fenceValue i = max f.value v := by
  obtain rfl := Chip.fence_id hi
  rcases lt_or_ge v f.value with hv | hv
  · rw [max_eq_left hv.le, ← Chip.fenceValue_of_some hi]
    exact Chip.fenceValue_congr (Chip.fence_congr (Chip.signalFence_backward hi ho hv) f.id)
  · have hnew : (x.setFence { f with value := v }).fence f.id = some { f with value := v } := Chip.setFence_fence_same hi
    rw [max_eq_right hv]
    exact Chip.fenceValue_of_some ((Chip.fence_congr (Chip.signalFence_forward hi ho hv) f.id).trans hnew)

end

/-- Every fence but the one signalled keeps its record. -/
theorem Chip.signalFence_fence_other (x : Chip) {i j : Nat} (v : Nat) (hj : j ≠ i) :
    (x.signalFence i v).fence j = x.fence j := by
  cases hi : x.fence i with
  | none => rw [Chip.signalFence_free hi]
  | some f =>
    cases ho : f.orphan with
    | true => rw [Chip.signalFence_orphan hi ho]
    | false =>
      rcases lt_or_ge v f.value with hv | hv
      · exact Chip.fence_congr (Chip.signalFence_backward hi ho hv) j
      · have hid : j ≠ f.id := Chip.fence_id hi ▸ hj
        exact (Chip.fence_congr (Chip.signalFence_forward hi ho hv) j).trans (x.setFence_fence_other hid)

/-- The fence signalled does not fall. -/
theorem Chip.fenceValue_le_signalFence (x : Chip) (i v : Nat) : x.fenceValue i ≤ (x.signalFence i v).fenceValue i := by
  cases hi : x.fence i with
  | none => rw [Chip.signalFence_free hi]
  | some f =>
    cases ho : f.orphan with
    | true => rw [Chip.signalFence_orphan hi ho]
    | false =>
      rw [Chip.signalFence_value hi ho, Chip.fenceValue_of_some hi]
      exact le_max_left f.value v

/-- Settles O57: the fence signalled takes the larger value, and every other fence keeps its record. -/
theorem fencesNeverFall : Obligations.FencesNeverFall := by
  unfold Obligations.FencesNeverFall
  intro x i v j
  have hother (hj : j ≠ i) : (x.signalFence i v).fenceValue j = x.fenceValue j :=
    Chip.fenceValue_congr (x.signalFence_fence_other v hj)
  refine ⟨?noFall, hother, fun f hi ho => Chip.signalFence_value hi ho, fun f hi ho => Chip.signalFence_orphan hi ho⟩
  case noFall =>
    by_cases hj : j = i
    · exact hj ▸ x.fenceValue_le_signalFence i v
    · exact (hother hj).ge

end Sys2Proof.Machine
end

section
/-!
SUPPORT. Composition (R207 to R218, R230, R231, R242 to R246): one rule for the branch that each class 0x4 opcode takes, and
the arms and the commit line of a head; the settling of ComposerCommandsComplete and CommitEventsComplete.
-/
namespace Sys2Proof.Machine

/-! ### Class 0x4 opcodes (R207, R208, R216, R217, R230, R231) -/

/-- The words of the layer a LAYER_SET names, after the unit's. -/
def layerWords (c : Call) : List Nat := (List.range 11).map fun i => c.w (i + 1)

/-- Where the records of a FLIP_GROUP begin. -/
def groupRecords (c : Call) : List Nat := (List.range (c.w 0)).map fun j => 1 + 6 * j

/-- The units of a FLIP_GROUP are no group: one is named twice, two are bound to different heads, or one is held. -/
def Chip.groupClash (x : Chip) (c : Call) : Bool :=
  let us := (groupRecords c).map c.w
  let hs := (us.filter fun u => x.on CP_Ln_OWNER_BOUND u && decide (u < 96)).map fun u => x.get CP_Ln_OWNER_HEAD u
  !us.Nodup || (hs.any (fun h => h != hs.headD 0) || us.any fun u => x.ownsUnit c.fn u && x.on CP_Ln_STAT_HELD u)

section
variable {x : Chip} {c : Call} {mem : List Host.Cell}

/-- LAYER_SET of a right layer within quota and budget ends the unit's hold and queues the layer. -/
theorem layerSet_admitted (hd : x.dispatchedCall opLayerSet c = true) (ho : x.ownsUnit c.fn (c.w 0) = true)
    (hw : x.layerWrong c.fn (layerWords c) = none) (hl : (x.unitQueue (c.w 0)).length < 4)
    (hq : x.fnFetch32 c.fn (c.w 0) + x.unitRate32 (x.get CP_Ln_OWNER_HEAD (c.w 0)) (lyBytes2 (layerWords c)) ≤
      x.get FNf_FETCH_QUOTA_MBPS c.fn * 1000000 * 2 ^ 32)
    (hm : x.missing (x.get CP_Ln_OWNER_HEAD (c.w 0)) (c.w 0) (lyBytes2 (layerWords c)) = 0) :
    layerSet c mem x = (
      let y := (x.endHold (c.w 0)).queueUnit mem (c.w 0) c.fn (.layerSet (layerWords c))
      y.deferred opLayerSet c [y.get CP_CHANGE_NUM]) := by
  simp only [layerWords] at hw hq hm ⊢
  simp only [layerSet, Chip.perform_dispatched hd, ho, hw, hm, Nat.not_le.2 hl, Nat.not_lt.2 hq, lt_irrefl, Bool.not_true,
    Bool.false_eq_true, if_false]

/-- LAYER_REMOVE ends the unit's hold and queues the removal. -/
theorem layerRemove_queued (hd : x.dispatchedCall opLayerRemove c = true) (ho : x.ownsUnit c.fn (c.w 0) = true)
    (hl : (x.unitQueue (c.w 0)).length < 4) :
    layerRemove c mem x = (
      let y := (x.endHold (c.w 0)).queueUnit mem (c.w 0) c.fn .layerRemove
      y.deferred opLayerRemove c [y.get CP_CHANGE_NUM]) := by
  simp only [layerRemove, Chip.perform_dispatched hd, ho, Nat.not_le.2 hl, Bool.not_true, Bool.false_eq_true, if_false]

/-- FLIP of a right record with room in its unit's queue is queued. -/
theorem flip_queued (hd : x.dispatchedCall opFlip c = true) (hw : x.flipWrong c 0 = none)
    (hr : x.flipRoom (c.w 0) (c.w 3) = true) :
    flip c mem x = (let y := x.queueFlips mem c [0] false; y.deferred opFlip c [y.get CP_CHANGE_NUM]) := by
  simp only [flip, Chip.perform_dispatched hd, hw, hr, Bool.not_true, Bool.false_eq_true, if_false]

/-- FLIP_GROUP of two to eight right records of one head, each with room, is queued under one number. -/
theorem flipGroup_queued (hd : x.dispatchedCall opFlipGroup c = true) (hlo : 2 ≤ c.w 0) (hhi : c.w 0 ≤ 8)
    (hlen : (c.words.length != 1 + 6 * c.w 0) = false) (hc : x.groupClash c = false)
    (hw : ((groupRecords c).findSome? fun i => x.flipWrong c i) = none)
    (hr : ((groupRecords c).any fun i => !x.flipRoom (c.w i) (c.w (i + 3))) = false) :
    flipGroup c mem x = (
      let y := x.queueFlips mem c (groupRecords c) true
      y.deferred opFlipGroup c [y.get CP_CHANGE_NUM]) := by
  simp only [groupRecords] at hw hr ⊢
  simp only [flipGroup, Chip.perform_dispatched hd, Nat.not_lt.2 hlo, Nat.not_lt.2 hhi, hlen, hw, hr, decide_false,
    Bool.or_self, Bool.false_eq_true, if_false]
  exact if_neg (ne_true_of_eq_false hc)

/-- FLIP_QUERY of a unit of the caller's gives its queue, its tag and when it was taken, and its marks. -/
theorem flipQuery_owned (hd : x.dispatchedCall opFlipQuery c = true) (ho : x.ownsUnit c.fn (c.w 0) = true) :
    flipQuery c x = x.ok opFlipQuery c [(x.unitQueue (c.w 0)).length, x.get CP_Ln_TAG_NUM (c.w 0),
      sparseGet x.cp.seqs (c.w 0) 0, x.get CP_Ln_STAT_HELD (c.w 0) + 2 * x.get CP_Ln_STAT_CLIPPED (c.w 0)] := by
  simp only [flipQuery, Chip.perform_dispatched hd, ho, Bool.not_true, Bool.false_eq_true, if_false]

/-- TONE_MAP_SET of a head there is, with any curve it names the caller's own, is a change of the head (R214). -/
theorem toneMapSet_right (hd : x.dispatchedCall opToneMapSet c = true) (hw : x.toneWrong c = none) :
    toneMapSet c mem x = x.headChange mem opToneMapSet c (c.w 0) (.tone (c.w 1)
      ((List.range 9).map fun i => c.w (4 + i) % 65536) (if bitAt (c.w 1) 2 then readBytes mem x (c.q 2) 6144 else [])) := by
  simp only [toneMapSet, Chip.perform_dispatched hd, hw]

/-- BACKGROUND_SET of a head there is is a change of the head (R214). -/
theorem backgroundSet_inRange (hd : x.dispatchedCall opBackgroundSet c = true) (hh : c.w 0 < 16) :
    backgroundSet c mem x = x.headChange mem opBackgroundSet c (c.w 0) (.background (c.w 1) (c.w 2 % 65536)) := by
  simp only [backgroundSet, Chip.perform_dispatched hd, Nat.not_le.2 hh, if_false]

/-- LAYER_ASSIGN gives a free unit of a running head that is not the secure world's to a function there is, or to none. -/
theorem layerAssign_free {u : Nat} (hd : x.dispatchedCall opLayerAssign c = true)
    (hu : (x.headUnits (bits (c.w 0) 0 4))[bits (c.w 0) 4 3]? = some u) (hr : x.on HDn_STAT_RUN (bits (c.w 0) 0 4) = true)
    (hw : x.on CP_Ln_OWNER_WORLD u = false) (hn : (x.layer u).isSome = false)
    (hf : (c.w 1 != 127 && (64 < c.w 1 || x.get FNf_STAT_STATE (c.w 1) = 0)) = false) :
    layerAssign c x = (x.assignUnit u (if c.w 1 = 127 then none else some (c.w 1))).ok opLayerAssign c [u] := by
  simp only [layerAssign, Chip.perform_dispatched hd, hu, hr, hw, hn, hf, Bool.not_true, Bool.or_self, Bool.false_eq_true,
    if_false]

end

/-- Settles O9: a dispatched command runs the composer's own part, and each clause is the rule of one of its branches. -/
theorem composerCommandsComplete : Obligations.ComposerCommandsComplete := by
  unfold Obligations.ComposerCommandsComplete
  refine ⟨?layerSet, ?layerRemove, ?flip, ?flipGroup, ?flipQuery, ?tone, ?background, ?assign⟩
  case layerSet =>
    exact fun s c hd ho hw hl hq hm hp => runs_onChipM hp rfl (layerSet_admitted hd ho hw hl hq hm)
  case layerRemove => exact fun s c hd ho hl hp => runs_onChipM hp rfl (layerRemove_queued hd ho hl)
  case flip => exact fun s c hd hw hr hp => runs_onChipM hp rfl (flip_queued hd hw hr)
  case flipGroup =>
    exact fun s c hd hlo hhi hlen hc hw hr hp => runs_onChipM hp rfl (flipGroup_queued hd hlo hhi hlen hc hw hr)
  case flipQuery => exact fun s c hd ho hp => runs_onChip hp rfl (flipQuery_owned hd ho)
  case tone => exact fun s c hd hw hp => runs_onChipM hp rfl (toneMapSet_right hd hw)
  case background => exact fun s c hd hh hp => runs_onChipM hp rfl (backgroundSet_inRange hd hh)
  case assign =>
    exact fun s c u hd hu _ hr hw hn hf hp => runs_onChip hp rfl (layerAssign_free hd hu hr hw hn hf)

/-! ### Arms and the commit line (R214, R218, R242 to R246) -/

/-- An event of a head that counts lines (log row 52) passes the guard against one that does not. -/
theorem Chip.ite_scanning {α : Type} {x : Chip} {h : Nat} (hs : x.scanning h = true) (a b : α) :
    (if !x.scanning h then a else b) = b := by
  simp only [hs, Bool.not_true, Bool.false_eq_true, if_false]

/-- The normal arm, where it is not raised yet, takes the shadow values as they stand. -/
theorem hdArm_lowered {x : Chip} {h : Nat} (ha : x.on HDn_ARM_ARM h = false) :
    hdArm h x = (x.flag HDn_ARM_ARM true h).setHead h fun s => { s with armed := x.shadowOf h } := by
  simp only [hdArm, ha, Bool.false_eq_true, if_false]

/-- The secure arm takes the window shadows in the same way. -/
theorem hdSarm_lowered {x : Chip} {h : Nat} (ha : x.on HDn_SARM_ARM h = false) :
    hdSarm h x = (x.flag HDn_SARM_ARM true h).setHead h fun s => { s with sarmed := x.winShadow h } := by
  simp only [hdSarm, ha, Bool.false_eq_true, if_false]

/-- What follows a commit line: a mirroring Lead sends what changed on a critical head (R357). -/
def Work.mirrorCommit (w : Work) (h : Nat) (y : Chip) : Work :=
  if y.get GL_MODE_PAIR = 1 && (y.bl.mirroring && y.critical h) then ({ w with x := y.sendHead h (some w.x) } : Work).blPump
  else { w with x := y }

/-- COMMIT_LINE is the commit line of the head, and then what follows it. -/
theorem commitLineAll_eq (h : Nat) (late : LateArms) (w : Work) :
    commitLineAll h late w = w.mirrorCommit h (commitLine h late w.mem w.x) := rfl

/-- Settles O10: an arm not raised yet is the rule of its branch, FLIP_TIMEOUT has one branch only (log row 55), and a
head that scans passes the guard of its commit line (log rows 49, 52). -/
theorem commitEventsComplete : Obligations.CommitEventsComplete := by
  unfold Obligations.CommitEventsComplete
  refine ⟨?arm, ?sarm, ?timeout, ?commit⟩
  case arm => exact fun s h ha hp => runs_onChip hp rfl (hdArm_lowered ha)
  case sarm => exact fun s h ha hp => runs_onChip hp rfl (hdSarm_lowered ha)
  case timeout => exact fun s h hp => runs_onChip hp rfl rfl
  case commit =>
    intro s h late hs hp
    refine runsTo_onSkein hp rfl ((commitLineAll_eq h late s.work).trans ?_)
    exact congrArg (s.work.mirrorCommit h) (Chip.ite_scanning hs _ _)

end Sys2Proof.Machine
end

section
/-!
SUPPORT. Scanout heads (R205, R225, R226, R239, R241, R246 to R252, R258): one rule for the branch that each head opcode takes
and for each event of a head that scans; the settling of HeadCommandsComplete and HeadEventsComplete.
-/
namespace Sys2Proof.Machine

/-! ### Opcodes (R205, R239, R246, R249, R258) -/

section
variable {x : Chip} {c : Call}

/-- START_HEAD of a head that nothing refuses lets it start, and answers with its units and its fetch budget. -/
theorem startHead_accepted (hd : x.dispatchedCall opStartHead c = true) (hh : c.w 0 < 16)
    (hr : x.startHeadRefusal (c.w 0) = none) :
    startHead c x = (x.enterStart (c.w 0)).ok opStartHead c
      [x.get CP_HEADn_CFG_UNITS (c.w 0), mbps32 (x.budget32 (c.w 0))] := by
  simp only [startHead, Chip.perform_dispatched hd, Nat.not_le.2 hh, hr, if_false]

/-- STOP_HEAD of a head that scans waits for its safe point (log row 50). -/
theorem stopHead_scanning (hd : x.dispatchedCall opStopHead c = true) (hh : c.w 0 < 16)
    (h0 : x.get HDn_STAT_STATE (c.w 0) ≠ 0) (h4 : x.get HDn_STAT_STATE (c.w 0) ≠ 4) :
    stopHead c x = (x.setHead (c.w 0) fun q => { q with stops := q.stops ++ [c] }).set HDn_STAT_STATE 3 (c.w 0) := by
  simp only [stopHead, Chip.perform_dispatched hd, Nat.not_le.2 hh, h0, h4, if_false]

/-- A suspended head stops at once (log row 50). -/
theorem stopHead_suspended (hd : x.dispatchedCall opStopHead c = true) (hh : c.w 0 < 16)
    (h4 : x.get HDn_STAT_STATE (c.w 0) = 4) :
    stopHead c x = (x.setHead (c.w 0) fun q => { q with stops := q.stops ++ [c] }).headStopped (c.w 0) := by
  simp only [stopHead, Chip.perform_dispatched hd, Nat.not_le.2 hh, h4, OfNat.ofNat_ne_zero, if_false, if_true]

/-- HEAD_QUERY of a mapped head gives its state, its counts, its pixel clock in kHz and its port. -/
theorem headQuery_mapped {q : Nat × Nat} (hd : x.dispatchedCall opHeadQuery c = true) (hh : c.w 0 < 16)
    (hq : x.portOf (c.w 0) = some q) :
    headQuery c x = x.ok opHeadQuery c
      [x.word [HDn_STAT_RUN, HDn_STAT_PEND_RESTART, HDn_STAT_STATE, HDn_STAT_SR] (c.w 0), x.get HDn_FRAME_FRAME (c.w 0),
        x.get HDn_COMMIT_SEQ_SEQ (c.w 0), x.get HDn_COMMIT_FRAME_FRAME (c.w 0), x.get HDn_VFP_ACT (c.w 0),
        x.pixel32 (c.w 0) / (2 ^ 32 * 1000), q.1 + 256 * q.2] := by
  simp only [headQuery, Chip.perform_dispatched hd, Nat.not_le.2 hh, hq, if_false]

/-- VRR_PORCH_SET within the porch's limits has its turn at once while no arm is pending. -/
theorem vrrPorchSet_unarmed (hd : x.dispatchedCall opVrrPorchSet c = true) (hh : c.w 0 < 16)
    (hr : x.on HDn_STAT_RUN (c.w 0) = true) (hlo : x.get HDn_VRR_VFP_MIN (c.w 0) ≤ c.w 1)
    (hhi : c.w 1 ≤ x.get HDn_VRR_VFP_MAX (c.w 0)) (ha : x.on HDn_ARM_ARM (c.w 0) = false) :
    vrrPorchSet c x = x.porchGo (c.w 0) (c.w 1) c := by
  simp only [vrrPorchSet, Chip.perform_dispatched hd, Nat.not_le.2 hh, Nat.not_lt.2 hlo, Nat.not_lt.2 hhi, hr, ha,
    decide_false, Bool.not_true, Bool.or_self, Bool.false_eq_true, if_false]

/-- SELF_REFRESH_SET of 1 lets a live head enter self-refresh where nothing bars it and the link supports it (log row 54). -/
theorem selfRefreshSet_enters {q : Nat × Nat} (hd : x.dispatchedCall opSelfRefreshSet c = true) (hh : c.w 0 < 16)
    (hr : x.on HDn_STAT_RUN (c.w 0) = true) (hq : x.portOf (c.w 0) = some q) (hport : x.on DXn_STAT_RUN q.1 = true)
    (h1 : c.w 1 = 1) (hbar : x.srBarred (c.w 0) = false) (hsup : x.srSupport q.1 = true)
    (hsr : x.get HDn_STAT_SR (c.w 0) = 0) :
    selfRefreshSet c x = ((x.set HDn_STAT_SR 1 (c.w 0)).setHead (c.w 0) fun q => { q with wantSr := true }).deferred
      opSelfRefreshSet c [] := by
  simp [selfRefreshSet, Chip.perform_dispatched hd, hh, hr, hq, hport, h1, hbar, hsup, hsr]

end

/-- Settles O11: a dispatched command runs the head's own part, and each clause is the rule of one of its branches. -/
theorem headCommandsComplete : Obligations.HeadCommandsComplete := by
  unfold Obligations.HeadCommandsComplete
  refine ⟨?start, ?stop, ?stopSuspended, ?query, ?porch, ?selfRefresh⟩
  case start => exact fun s c hd hh hr hp => runs_onChip hp rfl (startHead_accepted hd hh hr)
  case stop => exact fun s c hd hh h0 h4 hp => runs_onChip hp rfl (stopHead_scanning hd hh h0 h4)
  case stopSuspended => exact fun s c hd hh h4 hp => runs_onChip hp rfl (stopHead_suspended hd hh h4)
  case query => exact fun s c q hd hh hq hp => runs_onChip hp rfl (headQuery_mapped hd hh hq)
  case porch => exact fun s c hd hh hr hlo hhi ha hp => runs_onChip hp rfl (vrrPorchSet_unarmed hd hh hr hlo hhi ha)
  case selfRefresh =>
    exact fun s c q hd hh hr hq hport h1 hbar hsup hsr hp =>
      runs_onChip hp rfl (selfRefreshSet_enters hd hh hr hq hport h1 hbar hsup hsr)

/-! ### Safe point (R205, R241, R250) -/

/-- A head that has suspended enters self-refresh where its running port's link supports it (R250). -/
def Chip.enterSuspendSr (x : Chip) (h : Nat) : Chip :=
  if x.get HDn_STAT_STATE h = 4 then
    match x.portOf h with
    | some q => if x.on DXn_STAT_RUN q.1 && x.srSupport q.1 then x.set HDn_STAT_SR 2 h else x
    | none => x
  else x

section
variable {x : Chip} {h : Nat}

/-- At the safe point of a head that was not suspended, what R250 adds follows on the head's own part. -/
theorem headSafePointAll_eq (h4 : x.get HDn_STAT_STATE h ≠ 4) :
    headSafePointAll h x = (headSafePoint h x).enterSuspendSr h :=
  if_congr (by simp [h4]) rfl rfl

/-- A head that is to stop stops there. -/
theorem headSafePoint_stopping (h3 : x.get HDn_STAT_STATE h = 3) : headSafePoint h x = x.headStopped h := by
  simp only [headSafePoint, h3, if_true]

/-- A running head that is to suspend is suspended there. -/
theorem headSafePoint_suspends (h2 : x.get HDn_STAT_STATE h = 2) (hs : (x.head h).suspend = true) :
    headSafePoint h x = (x.set HDn_STAT_STATE 4 h).setHead h fun q => { q with suspend := false } := by
  simp [headSafePoint, h2, hs]

end

/-! ### Lines (R225, R226, R247) -/

section
variable {x : Chip} {h n : Nat} {mem : List Host.Cell} (hs : x.scanning h = true) (hn : n < x.get HDn_VTIME0_VACTIVE h)
include hs hn

section
variable (hsend : x.sends h n (x.ahead h n) = true)
include hsend

/-- A line whose current slot holds what is expected goes out of it as a forward line. -/
theorem lineConfirm_forward {k : LineSlot} (t : Bool) (hf : x.forwards h = true) (hc : (x.slots h n).cur = some k)
    (hk : k.1 = x.keyOf h n ((x.head h).frame (x.ahead h n)).scene) :
    lineConfirm h n t mem x = (x.sendForward h n (x.ahead h n) k).forwardCompose mem h := by
  simp [lineConfirm, hs, Nat.not_le.2 hn, hsend, hf, hc, hk, Option.filter]

/-- Without forward composition a line in time goes out as a direct line, composed from the frame's layers. -/
theorem lineConfirm_direct (hf : x.forwards h = false) :
    lineConfirm h n true mem x = (let v := ((x.head h).frame (x.ahead h n)).scene
      (x.sendDirect h n (x.ahead h n) (x.keyOf h n v, composeLine mem x h n v) v).forwardCompose mem h) := by
  simp [lineConfirm, hs, Nat.not_le.2 hn, hsend, hf]

/-- Without it a late line goes out as a held line, of what its current slot has. -/
theorem lineConfirm_held (hf : x.forwards h = false) :
    lineConfirm h n false mem x = (x.sendHeld h n (x.ahead h n) (x.slots h n).cur
      ((x.head h).frame (x.ahead h n)).scene).forwardCompose mem h := by
  simp [lineConfirm, hs, Nat.not_le.2 hn, hsend, hf]

end

/-- An underrun in an active line sends the background for the rest of it. -/
theorem lineUnderrun_active (px : Nat) :
    lineUnderrun h n px x = ((x.sat HDn_UNDERRUN_COUNT h).raiseIf (!(x.head h).underNow) (192 + 4 * h + 2)).setHead h
      fun q => { q.addRow false n ((x.rowOut h n).take px ++
        (x.outLine h n (x.head h).now (x.groundLine h (x.head h).now.scene)).drop px) with underNow := true } := by
  simp only [lineUnderrun, hs, Nat.not_le.2 hn, decide_false, Bool.not_true, Bool.or_self, Bool.false_eq_true, if_false]

end

/-! ### Check windows (R251, R252) -/

/-- A compared window's value is stored and compared; before the frame's last one no stale mark clears. -/
theorem checkWindowEnd_compared {x : Chip} {h k : Nat} {errs : List PathErr} (hs : x.scanning h = true)
    (hw : x.windowLive h k = true) (hq : (x.head h).noCompareNow = false)
    (hc : bitAt ((x.head h).windows.getD 13 0) k = true) (hl : (x.head h).cmpLeft ≠ 1) :
    checkWindowEnd h k errs x = (
      let ok := decide (x.windowCrc h k errs = (x.head h).windows.getD (3 * k + 2) 0)
      ((x.set HDn_CHKk_VAL_VAL (x.windowCrc h k errs) (h * 4 + k)).compareWindow h k ok).setHead h fun q =>
        { q with cmpLeft := q.cmpLeft - 1, allMatch := q.allMatch && ok }) := by
  simp only [checkWindowEnd, hs, hw, hq, hc, hl, decide_false, Bool.not_true, Bool.or_self, Bool.false_and,
    Bool.false_eq_true, if_false]

/-- Settles O12: each clause is the rule of one branch of its event (log rows 49, 52, 53); line 0 has one branch past
its guard, and a safe point adds what R250 says of a head that suspends. -/
theorem headEventsComplete : Obligations.HeadEventsComplete := by
  unfold Obligations.HeadEventsComplete
  refine ⟨?line0, ?stops, ?suspends, ?forward, ?held, ?direct, ?underrun, ?window⟩
  case line0 => exact fun s h hs hp => runs_onChipM hp rfl (Chip.ite_scanning hs _ _)
  case stops =>
    intro s h h3 hp
    refine runs_onChip hp rfl ((headSafePointAll_eq (by omega)).trans ?_)
    exact congrArg (Chip.enterSuspendSr · h) (headSafePoint_stopping h3)
  case suspends =>
    intro s h h2 hsus hp
    refine runs_onChip hp rfl ((headSafePointAll_eq (by omega)).trans ?_)
    exact congrArg (Chip.enterSuspendSr · h) (headSafePoint_suspends h2 hsus)
  case forward =>
    exact fun s h n t c hs hn hsend hf hc hk hp => runs_onChipM hp rfl (lineConfirm_forward hs hn hsend t hf hc hk)
  case held => exact fun s h n hs hn hsend hf hp => runs_onChipM hp rfl (lineConfirm_held hs hn hsend hf)
  case direct => exact fun s h n hs hn hsend hf hp => runs_onChipM hp rfl (lineConfirm_direct hs hn hsend hf)
  case underrun => exact fun s h n px hs hn hp => runs_onChip hp rfl (lineUnderrun_active hs hn px)
  case window => exact fun s h k errs hs hw hq hc hl hp => runs_onChip hp rfl (checkWindowEnd_compared hs hw hq hc hl)

end Sys2Proof.Machine
end

section
/-!
SUPPORT. Output ports (R253, R254, R256, R258, R259): one rule for the branch that each port opcode takes and for each event of
a link; the settling of PortCommandsComplete.
-/
namespace Sys2Proof.Machine

/-! ### Opcodes (R253, R254, R258) -/

section
variable {x : Chip} {c : Call}

/-- START_PORT of a stopped port that nothing holds or refuses lets it run and start its link. -/
theorem startPort_accepted (hd : x.dispatchedCall opStartPort c = true) (hi : c.w 0 < 10)
    (hr : x.on DXn_STAT_RUN (c.w 0) = false) (hh : x.heldBlock 4 (c.w 0) = false) (hn : x.portRefusal (c.w 0) = none) :
    startPort c x = (x.enterPort (c.w 0)).ok opStartPort c [] := by
  simp only [startPort, Chip.perform_dispatched hd, Nat.not_le.2 hi, hr, hh, hn, Bool.false_eq_true, if_false]

/-- STOP_PORT of a running port takes its link down at once (R45). -/
theorem stopPort_running (hd : x.dispatchedCall opStopPort c = true) (hi : c.w 0 < 10)
    (hr : x.on DXn_STAT_RUN (c.w 0) = true) :
    stopPort c x = (((x.linkDown (c.w 0)).flag DXn_STAT_RUN false (c.w 0)).setPort (c.w 0)
      fun q => { q with off := false }).ok opStopPort c [] := by
  simp only [stopPort, Chip.perform_dispatched hd, Nat.not_le.2 hi, hr, Bool.not_true, Bool.false_eq_true, if_false]

/-- PORT_QUERY of a port of another type than LVDS takes no free value: the payload is that of the link as it stands. -/
theorem portQuery_payload (hd : x.dispatchedCall opPortQuery c = true) (hi : c.w 0 < 10)
    (ht : x.get DXn_CTL_TYPE (c.w 0) ≠ 4) :
    portQuery c x = x.ok opPortQuery c [x.dxStat (c.w 0), x.dxMap (c.w 0),
      x.payload (c.w 0) (x.get DXn_STAT_LANES_ACT (c.w 0)) (x.get DXn_STAT_RATE_ACT (c.w 0)) / 462000,
      (((x.mapped (c.w 0)).filter fun h => x.on HDn_STAT_RUN h).map x.need32).sum / (1000000 * 2 ^ 32)] := by
  simp only [portQuery, Chip.perform_dispatched hd, Nat.not_le.2 hi, ht, Chip.onlyIf, decide_false, Bool.false_and,
    Bool.false_eq_true, if_false]

end

/-! ### Link and hot-plug (R256, R259) -/

section
variable {x : Chip} {p : Nat}

/-- The loss of a link that is up counts one link error and takes the link down. -/
theorem linkLoss_up (hr : x.on DXn_STAT_RUN p = true) (hu : x.on DXn_STAT_LINK_UP p = true) :
    linkLoss p x = (x.sat DXn_LINKERR_COUNT p).linkDown p :=
  if_pos (Bool.and_eq_true_iff.2 ⟨hr, hu⟩)

/-- A running DP or eDP port whose link is down with hot-plug high, neither training nor off, trains again. -/
theorem linkRetryTimer_trains (hr : x.on DXn_STAT_RUN p = true) (hdp : x.isDp p = true)
    (hh : x.on DXn_STAT_HPD p = true) (hu : x.on DXn_STAT_LINK_UP p = false) (ht : (x.port p).training = false)
    (ho : (x.port p).off = false) : linkRetryTimer p x = x.trainPort p :=
  if_pos (by simp only [hr, hdp, hh, hu, ht, ho, Bool.not_false, Bool.and_self])

/-- Hot-plug going low raises its event and ends a training; no port trains on a fall. -/
theorem hpdChange_low (hdp : x.isDp p = true) :
    hpdChange p false x = ((x.flag DXn_STAT_HPD false p).raise (258 + 3 * p)).setPort p
      fun q => { q with training := false } := by
  simp only [hpdChange, hdp, Bool.not_true, Bool.false_and, Bool.false_eq_true, if_false]

/-- A training that ends with lanes and a rate that carry the mapped heads brings the link up (log row 56). -/
theorem linkTrainDone_carries {lanes rate : Nat} (sr : Bool) (hr : x.on DXn_STAT_RUN p = true)
    (ht : (x.port p).training = true) (hc : x.carries p lanes rate (x.mapped p) = true) :
    linkTrainDone p true lanes rate sr x = x.linkUp p lanes rate sr := by
  simp only [linkTrainDone, hr, ht, hc, Bool.not_true, Bool.or_self, Bool.and_self, Bool.false_eq_true, if_false, if_true]

end

/-- Settles O13: each clause is the rule of one branch of its command or event; the suspended heads that wait for the link
go on after a training (R241). -/
theorem portCommandsComplete : Obligations.PortCommandsComplete := by
  unfold Obligations.PortCommandsComplete
  refine ⟨?start, ?stop, ?query, ?loss, ?retry, ?hpdLow, ?trained⟩
  case start => exact fun s c hd hi hr hh hn hp => runs_onChip hp rfl (startPort_accepted hd hi hr hh hn)
  case stop => exact fun s c hd hi hr hp => runs_onChip hp rfl (stopPort_running hd hi hr)
  case query => exact fun s c hd hi ht hp => runs_onChip hp rfl (portQuery_payload hd hi ht)
  case loss => exact fun s p hr hu hp => runs_onChip hp rfl (linkLoss_up hr hu)
  case retry =>
    exact fun s p hr hdp hh hu ht ho hp => runs_onChip hp rfl (linkRetryTimer_trains hr hdp hh hu ht ho)
  case hpdLow => exact fun s p hdp _ hp => runs_onChip hp rfl (hpdChange_low hdp)
  case trained =>
    intro s p lanes rate sr hr ht hc hp
    refine runs_onChip (f := fun x => (linkTrainDone p true lanes rate sr x).headsResume) hp rfl ?_
    exact congrArg Chip.headsResume (linkTrainDone_carries sr hr ht hc)

end Sys2Proof.Machine
end

section
/-!
SUPPORT. The touch hub (R45, R262 to R270): one rule for the branch that each touch opcode takes and for each event of a touch
port; the settling of TouchCommandsComplete.
-/
namespace Sys2Proof.Machine

/-- What belongs to one state of a unit passes the guard against every other state. -/
theorem ite_bne_of_eq {α : Type} {a b : Nat} (h : a = b) (p q : α) : (if a != b then p else q) = q :=
  if_neg (by rw [h, bne_self_eq_false]; exact Bool.false_ne_true)

/-! ### START_TOUCH and STOP_TOUCH (R45, R263, R267) -/

section
variable {x : Chip} {c : Call}

/-- A port on a bus other than I3C (log row 60) starts without asking the bus. -/
theorem Chip.enterTouch_noI3c {n : Nat} (hb : x.get TPn_CFG_BUS n ≠ 1) :
    x.enterTouch n = some (((x.setPend TPn_STAT_PEND_RESTART n false).setTp n fun _ => {}).tpEnter n tpWaiting) := by
  simp only [Chip.enterTouch, Chip.onlyIf, hb, decide_false, Bool.false_and, Bool.false_eq_true, if_false]

/-- START_TOUCH of a stopped port that nothing holds, its registers right, lets it wait for a trigger. -/
theorem startTouch_accepted (hd : x.dispatchedCall opStartTouch c = true) (hi : c.w 0 < 16)
    (hr : x.on TPn_STAT_RUN (c.w 0) = false) (hh : x.heldBlock 5 (c.w 0) = false) (hw : x.touchWrong (c.w 0) = none)
    (hb : x.get TPn_CFG_BUS (c.w 0) ≠ 1) :
    startTouch c x = (((x.setPend TPn_STAT_PEND_RESTART (c.w 0) false).setTp (c.w 0) fun _ => {}).tpEnter (c.w 0)
      tpWaiting).ok opStartTouch c [] := by
  simp only [startTouch, Chip.perform_dispatched hd, Nat.not_le.2 hi, hr, hh, hw, Chip.enterTouch_noI3c hb,
    Bool.false_eq_true, if_false]

/-- STOP_TOUCH of a port that reads waits for the end of the report. -/
theorem stopTouch_reading (hd : x.dispatchedCall opStopTouch c = true) (hi : c.w 0 < 16)
    (hs : x.tpState (c.w 0) = tpReading) :
    stopTouch c x = x.setTp (c.w 0) fun q => { q with stops := q.stops ++ [c] } := by
  have hne : tpReading ≠ tpStopped := by decide
  simp only [stopTouch, Chip.perform_dispatched hd, Nat.not_le.2 hi, hs, hne, if_false, if_true]

/-- STOP_TOUCH of a port in any other running state stops it at once. -/
theorem stopTouch_atOnce (hd : x.dispatchedCall opStopTouch c = true) (hi : c.w 0 < 16)
    (hs : x.tpState (c.w 0) ≠ tpReading) (h0 : x.tpState (c.w 0) ≠ tpStopped) :
    stopTouch c x = (x.setTp (c.w 0) fun q => { q with stops := q.stops ++ [c] }).tpStop (c.w 0) := by
  simp only [stopTouch, Chip.perform_dispatched hd, Nat.not_le.2 hi, hs, h0, if_false]

end

/-! ### Triggers, failed reads and retries (R262, R266) -/

section
variable {x : Chip} {n : Nat}

/-- A port that waits and may work starts a read. -/
theorem touchTrigger_waiting (hs : x.tpState n = tpWaiting) (hw : x.noWork 5 n = false) :
    touchTrigger n x = (x.tpEnter n tpReading).emit
      (.pin 3 [n, x.get TPn_TPL0_REG n, x.get TPn_TPL0_REG_LEN n, x.get TPn_TPL1_READ_LEN n + 1]) :=
  if_pos (by simp only [hs, hw, decide_true, Bool.not_false, Bool.and_self])

/-- The port has counted one more failed attempt of the report it reads. -/
def Chip.readFailed (x : Chip) (n : Nat) : Chip :=
  (x.sat TPn_ERR_BUS n).setTp n fun q => { q with fails := (x.tp n).fails + 1 }

/-- A first or second failed attempt, of either cause, leads to a retry, or to the stop that waited for the report. -/
theorem touchFail_retries (cause : Nat) (hs : x.tpState n = tpReading) (hf : (x.tp n).fails < 2) :
    touchFail n cause x = if ((x.readFailed n).tp n).stops = [] then (x.readFailed n).tpEnter n tpRetrying
      else (x.readFailed n).tpStop n :=
  (ite_bne_of_eq hs _ _).trans (if_pos (Nat.succ_lt_succ hf))

/-- The third loses the report: contacts are cancelled and F0 learns the cause. -/
theorem touchFail_losesReport (cause : Nat) (hs : x.tpState n = tpReading) (hf : 2 ≤ (x.tp n).fails) :
    touchFail n cause x = (let r := (x.readFailed n).cancelAll n
      ((r.1.notice 0 0x6803 [n, cause, r.2]).raise (288 + 2 * n)).tpRest n) :=
  (ite_bne_of_eq hs _ _).trans (if_neg (Nat.not_lt.2 (Nat.succ_le_succ hf)))

/-- The retry timer starts the read again. -/
theorem touchRetryTimer_retrying (hs : x.tpState n = tpRetrying) : touchRetryTimer n x = x.tpEnter n tpReading := if_pos hs

end

/-! ### Hit regions (R269, R270) -/

/-- The records of a HIT_REGION_WRITE. -/
def hitRecords (c : Call) : List (List Nat) := (List.range (bits (c.w 0) 8 8)).map (hitWords c)

/-- How many new entries the caller may still put into the hit table, those queued for it counted (R269). -/
def Chip.hitRoom (x : Chip) (c : Call) : Nat :=
  let own := (x.th.hits.filter fun e => e.func = c.who).length + (x.pendingHits.filter fun k => k.1 = c.who).length
  if c.world then 256 - own
  else min (1024 - own) (3840 - ((x.th.hits.filter fun e => !e.world).length + x.pendingHits.length))

section
variable {x : Chip} {c : Call}

/-- HIT_REGION_WRITE of right records, all of which find room, for a head that does not run, puts them in at once. -/
theorem hitRegionWrite_atOnce (hd : x.dispatchedCall opHitRegionWrite c = true)
    (hl : ((c.words.length - 1) / 4 != bits (c.w 0) 8 8) = false) (hw : x.hitWrong c = none)
    (hr : x.on HDn_STAT_RUN (bits (c.w 0) 0 4) = false) (hk : bits (c.w 0) 8 8 ≠ 0)
    (hn : (x.newRecs c.who (bits (c.w 0) 0 4) (hitRecords c))[x.hitRoom c]? = none) :
    hitRegionWrite c x = (x.regionDo c.who (bits (c.w 0) 0 4)
      (.hitWrite ((hitRecords c).take (bits (c.w 0) 8 8)))).ok opHitRegionWrite c [bits (c.w 0) 8 8] := by
  simp only [hitRecords, Chip.hitRoom] at hn ⊢
  simp only [hitRegionWrite, Chip.perform_dispatched hd, hl, hw, hr, hn, hk, lt_irrefl, Bool.false_and, Bool.and_false,
    Bool.false_eq_true, if_false]

/-- HIT_REGION_CLEAR of one region of a head that does not run clears it at once. -/
theorem hitRegionClear_atOnce (hd : x.dispatchedCall opHitRegionClear c = true) (hh : c.w 0 < 16) (hg : c.w 1 < 65535)
    (hr : x.on HDn_STAT_RUN (c.w 0) = false) :
    hitRegionClear c x = (x.regionDo c.who (c.w 0) (.hitClear (some (c.w 1)))).ok opHitRegionClear c
      [(x.th.hits.filter fun e => e.func = c.who && (e.head = c.w 0 && e.region = c.w 1)).length] := by
  have hone : c.w 0 ≠ 0xFF := by omega
  have hreg : c.w 1 ≠ 0xFFFFFFFF := by omega
  have hmem : ∀ h, [c.w 0].contains h = decide (h = c.w 0) := fun h => by
    simp only [List.contains_cons, List.contains_nil, Bool.or_false]; rfl
  simp only [hitRegionClear, Chip.perform_dispatched hd, hone, hreg, hmem, Nat.not_le.2 hh, Nat.not_le.2 hg, hr, List.any_cons,
    List.any_nil, List.foldl_cons, List.foldl_nil, decide_false, Bool.false_and, Bool.and_false, Bool.or_self,
    Bool.false_eq_true, if_false]

end

/-- Settles O14: each clause is the rule of one branch of its command or event; a report has one branch once the port reads,
its parse and the latency the model's choice (log rows 57, 59), and both causes of a failed read share their rules. -/
theorem touchCommandsComplete : Obligations.TouchCommandsComplete := by
  unfold Obligations.TouchCommandsComplete
  refine ⟨?start, ?stopReading, ?stopAtOnce, ?trigger, ?report, ?failRetry, ?failLost, ?stretchRetry, ?stretchLost, ?retry,
    ?hitWrite, ?hitClear⟩
  case start => exact fun s c hd hi hr hh hw hb hp => runs_onChip hp rfl (startTouch_accepted hd hi hr hh hw hb)
  case stopReading => exact fun s c hd hi hs hp => runs_onChip hp rfl (stopTouch_reading hd hi hs)
  case stopAtOnce => exact fun s c hd hi hs h0 hp => runs_onChip hp rfl (stopTouch_atOnce hd hi hs h0)
  case trigger => exact fun s n hs hw hp => runs_onChip hp rfl (touchTrigger_waiting hs hw)
  case report => exact fun s n data hs hp => runs_onChip hp rfl (ite_bne_of_eq hs _ _)
  case failRetry => exact fun s n hs hf hp => runs_onChip hp rfl (touchFail_retries 1 hs hf)
  case failLost => exact fun s n hs hf hp => runs_onChip hp rfl (touchFail_losesReport 1 hs hf)
  case stretchRetry => exact fun s n hs hf hp => runs_onChip hp rfl (touchFail_retries 2 hs hf)
  case stretchLost => exact fun s n hs hf hp => runs_onChip hp rfl (touchFail_losesReport 2 hs hf)
  case retry => exact fun s n hs hp => runs_onChip hp rfl (touchRetryTimer_retrying hs)
  case hitWrite =>
    exact fun s c hd hl hw hr hk hn hp => runs_onChip hp rfl (hitRegionWrite_atOnce hd hl hw hr hk hn)
  case hitClear => exact fun s c hd hh hg hr hp => runs_onChip hp rfl (hitRegionClear_atOnce hd hh hg hr)

end Sys2Proof.Machine
end

section
/-!
SUPPORT. Haptics (R276 to R287): what a trigger does to a channel at rest, then one rule for the branch that each haptic opcode
and each event of a channel takes; the settling of HapticCommandsComplete and HapticEventsComplete.
-/
namespace Sys2Proof.Machine

/-! ### Opcodes and triggers (R277, R280, R283, R285, R286) -/

section
variable {x : Chip} {c : Call} {n : Nat}

/-- A trigger of a playable waveform arms an Idle channel that may work: the effect waits for the next PWM period. -/
theorem Chip.hpTrigger_idle {t : Trig} (hw : x.noWork 6 n = false) (hk : x.parking = false)
    (hpl : x.playable n t.wave = true) (hs : x.hpPhase n = hpIdle) :
    x.hpTrigger n t = ((x.setHp n fun q => { q with cur := some t, armed := true }).set HPn_STAT_PHASE hpAttack n, 0) := by
  have hcal : hpIdle ≠ hpCalib := by decide
  have hflt : hpIdle ≠ hpFault := by decide
  simp only [Chip.hpTrigger, hw, hk, hpl, hs, hcal, hflt, Bool.not_true, Bool.or_self, Bool.false_eq_true, if_false, if_true]

/-- HAPTIC_PLAY of a playable waveform by the owner, or F0, is a trigger, answered with what it did; here it started. -/
theorem hapticPlay_starts (hd : x.dispatchedCall opHapticPlay c = true) (hwd : c.world = false)
    (ho : (c.fn != 0 && x.get HPn_OWNER_FUNC (bits (c.w 0) 0 4) != c.fn) = false)
    (hpl : x.playable (bits (c.w 0) 0 4) (bits (c.w 0) 8 8) = true) (hsc : c.w 1 ≤ 255)
    (hw : x.noWork 6 (bits (c.w 0) 0 4) = false) (hk : x.parking = false) (hs : x.hpPhase (bits (c.w 0) 0 4) = hpIdle) :
    hapticPlay c x = ((x.setHp (bits (c.w 0) 0 4) fun q => { q with
        cur := some ⟨bits (c.w 0) 8 8, c.w 1, c.fn, x.get FNf_GEN_GEN c.fn, bitAt (c.w 0) 16⟩, armed := true }).set
      HPn_STAT_PHASE hpAttack (bits (c.w 0) 0 4)).ok opHapticPlay c [0] := by
  have htrig := fun who gen => Chip.hpTrigger_idle (t := ⟨bits (c.w 0) 8 8, c.w 1, who, gen, bitAt (c.w 0) 16⟩) hw hk hpl hs
  have h4 : (0 : Nat) ≠ 4 := by decide
  have h5 : (0 : Nat) ≠ 5 := by decide
  simp only [hapticPlay, Chip.perform_dispatched hd, hwd, ho, hpl, Nat.not_lt.2 hsc, htrig, h4, h5, Bool.not_true,
    Bool.and_false, Bool.or_self, Bool.false_eq_true, if_false]

/-- HAPTIC_WAVE_LOAD of right SAMPLED content that nothing plays, in the caller's own memory and with room in the store,
stores the samples; where they lie is the firmware's choice (log row 64). -/
theorem hapticWaveLoad_stores {mem : List Host.Cell} (hd : x.dispatchedCall opHapticWaveLoad c = true)
    (hpl : x.wavePlays (bits (c.w 0) 0 8) = false) (hm : bits (c.w 0) 8 2 = 2) (hr : bits (c.w 0) 10 3 ≤ 2)
    (hb : bits (c.w 0) 20 4 ≤ 8) (ho : (x.ownRange c.fn (c.q 1) (2 * c.w 3) guestClasses).isNone = false) (hn : 0 < c.w 3)
    (hroom : ((x.hp.waves.filter fun p => p.1 != bits (c.w 0) 0 8).map fun p => p.2.length).sum + c.w 3 ≤ 131072) :
    hapticWaveLoad c mem x = (
      let w := bits (c.w 0) 0 8
      let y := x.setWaves ((x.hp.waves.filter fun p => p.1 != w) ++ [(w, halves (readBytes mem x (c.q 1) (2 * c.w 3)))])
      let y := ((y.set HP_WAVEw_OFFSET (x.free 17) w).took.set HP_WAVEw_LEN (c.w 3) w).set HP_WAVEw_MODE 2 w
      (((y.set HP_WAVEw_RATE (bits (c.w 0) 10 3) w).set HP_WAVEw_ATTACK (bits (c.w 0) 16 4) w).set HP_WAVEw_BRAKE
        (bits (c.w 0) 20 4) w).ok opHapticWaveLoad c []) := by
  have h0 : c.w 3 ≠ 0 := hn.ne'
  have hlen : ¬ 131072 < c.w 3 := by omega
  have hfit : ¬ 131072 - ((x.hp.waves.filter fun p => p.1 != bits (c.w 0) 0 8).map fun p => p.2.length).sum < c.w 3 := by
    omega
  have h23 : (2 : Nat) ≠ 3 := by decide
  have h20 : (2 : Nat) ≠ 0 := by decide
  simp only [hapticWaveLoad, Chip.perform_dispatched hd, hpl, hm, Nat.not_lt.2 hr, Nat.not_lt.2 hb, ho, h0, hlen, hfit, h23, h20,
    decide_false, Bool.and_false, Bool.or_self, Bool.false_eq_true, if_false]

/-- HAPTIC_CALIBRATE of one channel in Idle or Fault that may work notes the command and starts the calibration. -/
theorem hapticCalibrate_one (hd : x.dispatchedCall opHapticCalibrate c = true) (hi : c.w 0 < 65536)
    (hc : ((List.range 16).filter fun n => bitAt (c.w 0) n) = [n])
    (hs : (x.hpPhase n = hpIdle || x.hpPhase n = hpFault) = true) (hw : x.noWork 6 n = false) :
    hapticCalibrate c x =
      ({ x with hp := { x.hp with cals := x.hp.cals ++ [⟨c, [n], [], 0, 0⟩] } } : Chip).hpCalibrate n := by
  simp only [hapticCalibrate, Chip.perform_dispatched hd, Nat.not_le.2 hi, hc, List.cons_ne_nil, List.foldl_cons,
    List.foldl_nil, if_false]
  exact if_pos (Bool.and_eq_true_iff.2 ⟨hs, congrArg not hw⟩)

/-- HAPTIC_LIMIT_SET of a right band and carrier reaches each channel named, at once where it is Idle. -/
theorem hapticLimitSet_right (hd : x.dispatchedCall opHapticLimitSet c = true) (hi : c.w 0 < 65536)
    (hlo : 60 ≤ bits (c.w 2) 0 9) (hhi : bits (c.w 2) 16 9 ≤ 400) (hlt : bits (c.w 2) 0 9 < bits (c.w 2) 16 9)
    (hplo : 24 ≤ bits (c.w 3) 0 7) (hphi : bits (c.w 3) 0 7 ≤ 96) :
    hapticLimitSet c x = (((List.range 16).filter fun n => bitAt (c.w 0) n).foldl (fun (y : Chip) n =>
      if y.hpPhase n = hpIdle then y.hpLimits n (c.w 1) (c.w 2) (c.w 3)
      else y.setHp n fun q => { q with limits := [c.w 1, c.w 2, c.w 3] }) x).ok opHapticLimitSet c [] := by
  simp only [hapticLimitSet, Chip.perform_dispatched hd, Nat.not_le.2 hi, Nat.not_lt.2 hlo, Nat.not_lt.2 hhi, Nat.not_le.2 hlt,
    Nat.not_lt.2 hplo, Nat.not_lt.2 hphi, decide_false, Bool.or_self, Bool.false_eq_true, if_false]

/-- A write of HPn_TRIG_GO with GO set is a trigger as F0. -/
theorem hpTrigGo_go {v : Nat} (hg : bitAt v 16 = true) :
    hpTrigGo n v x = (x.hpTrigger n ⟨bits v 0 8, bits v 8 8, 0, x.get FNf_GEN_GEN 0, false⟩).1 := if_pos hg

end

/-- Settles O15: a dispatched command runs the engine's own part, and each clause is the rule of one of its branches; the
place of a waveform's samples is the model's choice (log row 64). -/
theorem hapticCommandsComplete : Obligations.HapticCommandsComplete := by
  unfold Obligations.HapticCommandsComplete
  refine ⟨?play, ?waveLoad, ?calibrate, ?limitSet, ?go⟩
  case play =>
    exact fun s c hd hwd ho hpl hsc hw hk hs hp => runs_onChip hp rfl (hapticPlay_starts hd hwd ho hpl hsc hw hk hs)
  case waveLoad =>
    exact fun s c hd hpl hm hr hb ho hn hroom hp => runs_onChipM hp rfl (hapticWaveLoad_stores hd hpl hm hr hb ho hn hroom)
  case calibrate => exact fun s c n hd hi hc hs hw hp => runs_onChip hp rfl (hapticCalibrate_one hd hi hc hs hw)
  case limitSet =>
    exact fun s c hd hi hlo hhi hlt hplo hphi hp =>
      runs_onChip hp rfl (hapticLimitSet_right hd hi hlo hhi hlt hplo hphi)
  case go => exact fun s n v hg hp => runs_onChip hp rfl (hpTrigGo_go hg)

/-! ### Phases of an effect (R278, R279, R282, R283) -/

section
variable {x : Chip} {n : Nat}

/-- An armed effect begins its drive. -/
theorem pwmPeriodStart_armed (ha : (x.hpCh n).armed = true) : pwmPeriodStart n x = x.hpDrive n := if_pos ha

/-- An effect under way that a trigger ended in its attack brakes. -/
theorem driveHalfCycle_brakes {e : Nat} (hb : (x.hpCh n).toBrake = some e) (hs : x.hpPhase n = hpAttack)
    (ha : (x.hpCh n).armed = false) : driveHalfCycle n x = x.hpToBrake n e := by
  simp only [driveHalfCycle, hb, hs, ha, decide_true, Bool.true_or, Bool.not_false, Bool.and_self, if_true]

/-- The attack of an effect under way leads to Sustain. -/
theorem attackEnd_attacking (hs : x.hpPhase n = hpAttack) (ha : (x.hpCh n).armed = false) :
    attackEnd n x = x.hpEnter n hpSustain :=
  if_pos (by simp only [hs, ha, decide_true, Bool.not_false, Bool.and_self])

/-- Sustain leads to Brake, and the effect ends as one that ran out. -/
theorem sustainEnd_sustaining (hs : x.hpPhase n = hpSustain) : sustainEnd n x = x.hpToBrake n 0 := if_pos hs

/-- Brake ends the effect. -/
theorem brakeEnd_braking (hs : x.hpPhase n = hpBrake) : brakeEnd n x = x.hpNext n (x.hpCh n).ending := if_pos hs

/-! ### Measurements (R278, R282) -/

/-- A peak below the threshold at the end of the open-load window is an open load. -/
theorem openLoadWindowEnd_open {peak : Nat} (hw : (x.hpCh n).window = true)
    (hlt : peak < x.get HPn_LIMIT_OPEN_THR n * 4) : openLoadWindowEnd n peak x = x.hpMissing n :=
  (if_pos hw).trans (if_pos hlt)

/-- Any other peak only closes the window. -/
theorem openLoadWindowEnd_loaded {peak : Nat} (hw : (x.hpCh n).window = true)
    (hle : x.get HPn_LIMIT_OPEN_THR n * 4 ≤ peak) :
    openLoadWindowEnd n peak x = x.setHp n fun q => { q with window := false } :=
  (if_pos hw).trans (if_neg (Nat.not_lt.2 hle))

/-- The first gap of an LRA's sustain with too little back-EMF for its drive is a stall: it is told, and the effect is over. -/
theorem bemfGap_stalled {g : Gap} {t : Trig} (hc : (x.hpCh n).cur = some t) (hs : x.hpPhase n = hpSustain)
    (hl : x.on HPn_CFG_TYPE n = false) (hf : (x.hpCh n).first = true)
    (hlt : g.emf.toNat * 10 * x.get HPn_LIMIT_AMP_MAX n < x.get HPn_F0_BEMF_REF n * g.drive.toNat) :
    bemfGap n g x = (x.hpTell n 2).hpNext n 2 := by
  have hne : hpSustain ≠ hpBrake := by decide
  simp only [bemfGap, hc, hs, hl, hf, hlt, hne, bne_self_eq_false, decide_true, Bool.or_self, Bool.and_self,
    Bool.false_eq_true, if_false, if_true]

/-- A back-EMF below 5 % of the reference ends a resonant brake. -/
theorem bemfGap_braked {g : Gap} {t : Trig} (hc : (x.hpCh n).cur = some t) (hs : x.hpPhase n = hpBrake)
    (hr : x.waveMode t.wave = 1) (hlt : g.emf.toNat * 20 < x.get HPn_F0_BEMF_REF n) :
    bemfGap n g x = x.hpNext n (x.hpCh n).ending := by
  simp only [bemfGap, hc, hs, hr, hlt, decide_true, Bool.and_self, if_true]

/-! ### The end of a calibration (R280, R282) -/

/-- A ring-down that stays below the threshold is an open load: result 2, told, and the channel rests in Fault. -/
theorem calibrationDone_open {m : RingDown} (hs : x.hpPhase n = hpCalib)
    (hlt : m.peak.toNat < x.get HPn_LIMIT_OPEN_THR n * 4) :
    calibrationDone n m x =
      ((((x.set HPn_CAL_RESULT 2 n).raise (321 + 2 * n)).hpTell n 1).hpCalReply n false).hpRest n hpFault := by
  refine (ite_bne_of_eq hs _ _).trans ?_
  have h21 : (2 : Nat) ≠ 1 := by decide
  simp only [hlt, h21, Chip.onlyIf, decide_true, if_false, if_true]

/-- A ring-down of an LRA with crossings enough and its frequency in the band gives f0 and its reference: result 1, and the
channel rests in Idle. -/
theorem calibrationDone_found {m : RingDown} (hs : x.hpPhase n = hpCalib)
    (hle : x.get HPn_LIMIT_OPEN_THR n * 4 ≤ m.peak.toNat) (hl : x.on HPn_CFG_TYPE n = false) (hz : 4 ≤ m.crossings)
    (hlo : x.get HPn_FBAND_FMIN n * 10 ≤ m.freq) (hhi : m.freq ≤ x.get HPn_FBAND_FMAX n * 10) :
    calibrationDone n m x = (
      let y := ((((x.set HPn_CAL_RESULT 1 n).raise (321 + 2 * n)).set HPn_F0_F0 m.freq n).set HPn_F0_BEMF_REF m.ref.toNat
        n).flag HPn_STAT_F0_VALID true n
      ((((y.flag HPn_STAT_TRACK false n).flag HPn_STAT_DRIFT false n).flag HPn_STAT_MISSING false n).hpCalReply n true).hpRest
        n hpIdle) := by
  refine (ite_bne_of_eq hs _ _).trans ?_
  simp only [Nat.not_lt.2 hle, hl, hz, hlo, hhi, decide_true, Bool.and_self, Bool.not_true, Bool.not_false, Bool.and_false,
    Bool.false_eq_true, if_false, if_true]

end

/-- Settles O16: each clause is the rule of one branch of its event. -/
theorem hapticEventsComplete : Obligations.HapticEventsComplete := by
  unfold Obligations.HapticEventsComplete
  refine ⟨?period, ?halfCycle, ?attack, ?sustain, ?brake, ?loadOpen, ?loaded, ?stalled, ?braked, ?calOpen, ?calFound⟩
  case period => exact fun s n ha hp => runs_onChip hp rfl (pwmPeriodStart_armed ha)
  case halfCycle => exact fun s n e hb hs ha hp => runs_onChip hp rfl (driveHalfCycle_brakes hb hs ha)
  case attack => exact fun s n hs ha hp => runs_onChip hp rfl (attackEnd_attacking hs ha)
  case sustain => exact fun s n hs hp => runs_onChip hp rfl (sustainEnd_sustaining hs)
  case brake => exact fun s n hs hp => runs_onChip hp rfl (brakeEnd_braking hs)
  case loadOpen => exact fun s n peak hw hlt hp => runs_onChip hp rfl (openLoadWindowEnd_open hw hlt)
  case loaded => exact fun s n peak hw hle hp => runs_onChip hp rfl (openLoadWindowEnd_loaded hw hle)
  case stalled => exact fun s n g t hc hs hl hf hlt hp => runs_onChip hp rfl (bemfGap_stalled hc hs hl hf hlt)
  case braked => exact fun s n g t hc hs hr hlt hp => runs_onChip hp rfl (bemfGap_braked hc hs hr hlt)
  case calOpen => exact fun s n m hs hlt hp => runs_onChip hp rfl (calibrationDone_open hs hlt)
  case calFound =>
    exact fun s n m hs hle hl hz hlo hhi hp => runs_onChip hp rfl (calibrationDone_found hs hle hl hz hlo hhi)

end Sys2Proof.Machine
end

section
/-!
SUPPORT. Pulse crossings (R423, R424): what each step of the handshake keeps of a sound crossing; the settling of
CrossingsCarryPulses.
-/
namespace Sys2Proof.Machine

/-- The pulses a crossing has accepted since its reset: delivered, presented and accumulated. -/
def Cross.total (k : Cross) : Nat := k.taken + (if k.toggle = k.ack then 0 else k.count) + k.acc

/-- A crossing between resets: its accumulator is in range, nothing stale is on its way, and an idle sender's transfer has been
taken. -/
def Cross.Sound (k : Cross) : Prop := k.acc ≤ 7 ∧ k.stale = false ∧ (k.busy = false → k.toggle = k.ack)

/-- The sending edge of a crossing. -/
def Cross.edge (n : Nat) (k : Cross) : Cross := { k with acc := min 7 (k.acc + n) }.launch

/-- The receiver's step. -/
def Cross.take (k : Cross) : Cross :=
  if k.toggle = k.ack then k
  else { k with ack := k.toggle, taken := if k.stale then k.taken else k.taken + k.count, stale := false }

/-- The sender's sight of the acknowledge. -/
def Cross.acknowledge (k : Cross) : Cross := if k.ack = k.toggle then { k with busy := false } else k

section
variable {k : Cross} (hk : k.Sound)
include hk

/-- A launch presents what the accumulator held. -/
theorem Cross.launch_sound : k.launch.Sound ∧ k.launch.total = k.total := by
  obtain ⟨hacc, hstale, hidle⟩ := hk
  by_cases hl : (k.busy || k.acc = 0) = true
  · rw [show k.launch = k from if_pos hl]
    exact ⟨⟨hacc, hstale, hidle⟩, rfl⟩
  · have hb : k.busy = false := by simp_all
    simp [Cross.launch, hl, Cross.Sound, Cross.total, hidle hb, hstale]

/-- An edge accepts what the accumulator has room for. -/
theorem Cross.edge_sound (n : Nat) : (k.edge n).Sound ∧ (k.edge n).total = k.total + min n (7 - k.acc) := by
  obtain ⟨hacc, hstale, hidle⟩ := hk
  have hfull : Cross.Sound { k with acc := min 7 (k.acc + n) } := ⟨Nat.min_le_left _ _, hstale, hidle⟩
  refine ⟨(Cross.launch_sound hfull).1, (Cross.launch_sound hfull).2.trans ?_⟩
  simp only [Cross.total]
  omega

/-- The receiver delivers what is presented. -/
theorem Cross.take_sound : k.take.Sound ∧ k.take.total = k.total ∧ k.take.toggle = k.take.ack := by
  obtain ⟨hacc, hstale, hidle⟩ := hk
  by_cases h : k.toggle = k.ack
  · rw [show k.take = k from if_pos h]
    exact ⟨⟨hacc, hstale, hidle⟩, rfl, h⟩
  · simp [Cross.take, Cross.Sound, Cross.total, h, hacc, hstale]

/-- A sender whose transfer was taken is idle. -/
theorem Cross.acknowledge_sound :
    k.acknowledge.Sound ∧ k.acknowledge.total = k.total ∧ (k.toggle = k.ack → k.acknowledge.busy = false) := by
  obtain ⟨hacc, hstale, hidle⟩ := hk
  by_cases h : k.ack = k.toggle
  · simp [Cross.acknowledge, Cross.Sound, Cross.total, h, hacc, hstale]
  · rw [show k.acknowledge = k from if_neg h]
    exact ⟨⟨hacc, hstale, hidle⟩, rfl, fun e => absurd e.symm h⟩

end

/-- An element changed is the change of the element. -/
theorem getD_updAt_same {α : Type} (f : α → α) (d : α) {l : List α} {i : Nat} (hi : i < l.length) :
    (updAt l i f).getD i d = f (l.getD i d) := by
  induction l generalizing i with
  | nil => simp at hi
  | cons a l ih =>
    cases i with
    | zero => rfl
    | succ i => simpa only [updAt, List.getD_cons_succ] using ih (Nat.lt_of_succ_lt_succ hi)

/-- Every other element is kept. -/
theorem getD_updAt_other {α : Type} (f : α → α) (d : α) {l : List α} {i j : Nat} (hj : j ≠ i) :
    (updAt l i f).getD j d = l.getD j d := by
  induction l generalizing i j with
  | nil => rfl
  | cons a l ih =>
    cases i <;> cases j
    · exact absurd rfl hj
    · rfl
    · rfl
    · simpa only [updAt, List.getD_cons_succ] using ih fun e => hj (congrArg _ e)

section
variable {x : Chip} {c : Nat}

/-- A crossing changed is the change of the crossing. -/
theorem Chip.setCross_crossAt_same (hc : c < x.cross.length) (f : Cross → Cross) :
    (x.setCross c f).crossAt c = f (x.crossAt c) := getD_updAt_same f {} hc

/-- Every other crossing is kept. -/
theorem Chip.setCross_crossAt_other {d : Nat} (hd : d ≠ c) (f : Cross → Cross) : (x.setCross c f).crossAt d = x.crossAt d :=
  getD_updAt_other f {} hd

/-- An edge changes the crossing alone of all crossings, lost pulses or not. -/
theorem crossEdge_crossAt (c n d : Nat) (x : Chip) :
    (crossEdge c n x).crossAt d = (x.setCross c (Cross.edge n)).crossAt d := by
  by_cases hl : 7 < (x.crossAt c).acc + n <;> simp only [crossEdge, hl, if_true, if_false] <;> rfl

/-- An edge that fits loses nothing. -/
theorem crossEdge_flags_fits {n : Nat} (h : (x.crossAt c).acc + n ≤ 7) :
    (crossEdge c n x).get CK_LOST_FLAGS = x.get CK_LOST_FLAGS := by
  have hl : ¬ 7 < (x.crossAt c).acc + n := Nat.not_lt.2 h
  simp only [crossEdge, hl, if_false]
  rfl

/-- An edge that brings more than fits sets the crossing's LOST bit. -/
theorem crossEdge_flags_lost {n : Nat} (hc : c < 32) (h : 7 < (x.crossAt c).acc + n) :
    bitAt ((crossEdge c n x).get CK_LOST_FLAGS) c = true := by
  have hid : CK_LOST_CNT_COUNT.id ≠ CK_LOST_FLAGS.id := by decide
  have hw : c < CK_LOST_FLAGS.width := hc
  simp only [crossEdge, h, if_true, Chip.raise_get, Chip.sat, Chip.setBit]
  rw [Chip.get_set_of_id_ne _ hid _ (by decide), Chip.get_set_same, bitAt_eq_testBit, Nat.testBit_mod_two_pow, ← bitAt_eq_testBit,
    bitAt_putBit]
  simp [hw]

end

/-- Out of Park a step of a crossing ends in what it makes of the blocks. -/
theorem ends_of_onChip {i : Instr} {s : State} {f : Chip → Chip} {P : Chip → Prop} (hp : s.chip.parked = false)
    (he : exec i s = s.onChip f) (hP : P (f s.chip)) : Ends i s P := (runs_onChip hp he rfl).ends hP

/-- Settles O56: each step of the handshake keeps a sound crossing and its pulses, and touches no other crossing. -/
theorem crossingsCarryPulses : Obligations.CrossingsCarryPulses := by
  unfold Obligations.CrossingsCarryPulses
  intro s c n hp hc k total sound hk
  refine ⟨ends_of_onChip hp rfl ?edge, ends_of_onChip hp rfl ?taken, ends_of_onChip hp rfl ?acked⟩
  case edge =>
    have hsame : (crossEdge c.val n.val s.chip).crossAt c.val = k.edge n :=
      (crossEdge_crossAt ..).trans (Chip.setCross_crossAt_same hc _)
    rw [hsame]
    exact ⟨(Cross.edge_sound hk n).1, (Cross.edge_sound hk n).2, crossEdge_flags_fits, crossEdge_flags_lost (by omega),
      fun d hd => (crossEdge_crossAt ..).trans (Chip.setCross_crossAt_other hd _)⟩
  case taken =>
    have hsame : (crossTaken c.val s.chip).crossAt c.val = k.take := Chip.setCross_crossAt_same hc Cross.take
    rw [hsame]
    exact Cross.take_sound hk
  case acked =>
    have hsame : (crossAcked c.val s.chip).crossAt c.val = k.acknowledge := Chip.setCross_crossAt_same hc Cross.acknowledge
    rw [hsame]
    exact Cross.acknowledge_sound hk

end Sys2Proof.Machine
end

section
/-!
SUPPORT. What a PEND_RESTART flag leaves of the register file (R29), and TDM ports and bridges (R306); the settling of TdmRule.
-/
namespace Sys2Proof.Machine

/-! ### Parts of the register file -/

/-- Raising a unit's PEND_RESTART leaves every register field but the flag and its mirror. -/
theorem Chip.setPend_get_other {u : Fld × Fld × Nat} (hu : u ∈ stopUnits) {n m : Nat} (hn : n < 2048) (hm : m < 2048) {g : Fld}
    (hflag : u.1.id ≠ g.id ∨ n ≠ m) (hmirror : u.2.1.id ≠ g.id) (x : Chip) (b : Bool) :
    (x.setPend u.1 n b).get g m = x.get g m := by
  rw [Chip.setPend_eq (stopUnits_mirror u hu).1, Chip.setBit, Chip.get_set_other _ _ _ _ _ _ (by decide) hm (.inl hmirror),
    Chip.onlyIf_raise_get, Chip.flag_eq, Chip.get_set_other _ _ _ _ _ _ hn hm hflag]

/-- Activity of a session's holder leaves every field but the idle time. -/
theorem Chip.roleAct_get (x : Chip) {g : Fld} {m : Nat} (hm : m < 2048) (hg : RJ_SESSION_IDLE_LEFT.id ≠ g.id) :
    x.roleAct.get g m = x.get g m := by
  unfold Chip.roleAct
  split
  · rfl
  · exact x.get_set_other _ _ _ _ _ (by decide) hm (.inl hg)

/-- Writes of several fields: each listed field takes its value, and every other keeps its own. -/
theorem Chip.foldl_set_get {n : Nat} (hn : n < 2048) (new : Fld → Nat) {g : Fld} {l : List Fld}
    (hl : ∀ f ∈ l, f.id = g.id → f = g) (x : Chip) :
    (l.foldl (fun (y : Chip) f => y.set f (new f) n) x).get g n = if g ∈ l then new g % 2 ^ g.width else x.get g n := by
  induction l generalizing x with
  | nil => simp
  | cons f l ih =>
    rw [List.foldl_cons, ih fun f' hf' => hl f' (List.mem_cons_of_mem _ hf')]
    by_cases hfg : f = g
    · subst hfg; simp
    · have hid : f.id ≠ g.id := fun e => hfg (hl f List.mem_cons_self e)
      rw [Chip.get_set_of_id_ne x hid _ hn]
      simp [Ne.symm hfg]

/-! ### TDM ports and bridges (R306) -/

/-- The fields of a TDM port's CFG, or of a bridge's. -/
def tdmFields (bridge : Bool) : List Fld :=
  if bridge then [AU_BRk_CFG_FROM, AU_BRk_CFG_TO, AU_BRk_CFG_CH]
  else [AU_TDMn_CFG_DOM, AU_TDMn_CFG_LEADER, AU_TDMn_CFG_SLOTS, AU_TDMn_CFG_WIDTH, AU_TDMn_CFG_FMT, AU_TDMn_CFG_BCLK_POL,
    AU_TDMn_CFG_FS_POL]

/-- Those of them that name a domain. -/
def tdmNamed (bridge : Bool) : List Fld := if bridge then [AU_BRk_CFG_FROM, AU_BRk_CFG_TO] else [AU_TDMn_CFG_DOM]

/-- The fields that a write changes. -/
def Chip.tdmDiff (x : Chip) (bridge : Bool) (n v : Nat) : List Fld :=
  (tdmFields bridge).filter fun f => x.get f n != bits v f.lsb f.width

/-- The running domains that the port or bridge names before or after a write. -/
def Chip.tdmRunning (x : Chip) (bridge : Bool) (n v : Nat) : List Nat :=
  (List.range 3).filter fun d =>
    x.on AU_DOMx_STAT_RUN d && ((tdmNamed bridge).any fun f => x.get f n = d || bits v f.lsb f.width = d)

/-- A domain is listed where it runs and a field names it. -/
theorem Chip.mem_tdmRunning {x : Chip} {bridge : Bool} {n v d : Nat} : d ∈ x.tdmRunning bridge n v ↔
    d < 3 ∧ x.on AU_DOMx_STAT_RUN d = true ∧ ∃ f ∈ tdmNamed bridge, x.get f n = d ∨ bits v f.lsb f.width = d := by
  simp [Chip.tdmRunning, List.mem_filter]

/-- The unit of an audio domain. -/
theorem audio_mem_stopUnits : (AU_DOMx_STAT_PEND_RESTART, GL_PEND0_AUDIO, 3) ∈ stopUnits := by decide

/-- The fields have numbers of their own: no two of them share one, and none is a flag, a mirror or the idle time. -/
theorem tdmFields_ids (bridge : Bool) : ∀ g ∈ tdmFields bridge, (∀ f ∈ tdmFields bridge, f.id = g.id → f = g) ∧
    AU_DOMx_STAT_PEND_RESTART.id ≠ g.id ∧ GL_PEND0_AUDIO.id ≠ g.id ∧ RJ_SESSION_IDLE_LEFT.id ≠ g.id := by
  cases bridge <;> decide

section
variable {x : Chip} {bridge : Bool} {n v : Nat}

/-- While a named domain runs, a write that would change a field sets the PEND_RESTART of each. -/
theorem tdmWrite_running (hd : x.tdmDiff bridge n v ≠ []) (hr : x.tdmRunning bridge n v ≠ []) :
    tdmWrite bridge n v x =
      (x.tdmRunning bridge n v).foldl (fun (y : Chip) d => y.setPend AU_DOMx_STAT_PEND_RESTART d true) x :=
  (if_neg hd).trans (if_pos (bne_iff_ne.2 hr))

/-- While none runs and the lock is clear, a write applies. -/
theorem tdmWrite_stopped (hr : x.tdmRunning bridge n v = []) (hl : x.on RJ_SESSION_LOCK = false) :
    tdmWrite bridge n v x =
      (x.tdmDiff bridge n v).foldl (fun (y : Chip) f => y.set f (bits v f.lsb f.width) n) x := by
  by_cases hd : x.tdmDiff bridge n v = []
  · rw [hd]; exact if_pos hd
  · exact (if_neg hd).trans ((if_neg (bne_eq_false_iff_eq.2 hr ▸ Bool.false_ne_true)).trans (if_neg (by simp [hl])))

/-- The flags of several domains raised: each listed one is set, and every other keeps its value. -/
theorem Chip.foldl_setPend_on {ds : List Nat} (hds : ∀ d ∈ ds, d < 3) {d : Nat} (hd : d < 3) (x : Chip) :
    (ds.foldl (fun (y : Chip) d => y.setPend AU_DOMx_STAT_PEND_RESTART d true) x).on AU_DOMx_STAT_PEND_RESTART d = true ↔
      x.on AU_DOMx_STAT_PEND_RESTART d = true ∨ d ∈ ds := by
  induction ds generalizing x with
  | nil => simp
  | cons e ds ih =>
    have he : e < 3 := hds e List.mem_cons_self
    rw [List.foldl_cons, ih fun d' hd' => hds d' (List.mem_cons_of_mem _ hd')]
    by_cases hed : e = d
    · subst hed
      simp [Chip.setPend_on audio_mem_stopUnits he x true]
    · have hkeep : (x.setPend AU_DOMx_STAT_PEND_RESTART e true).on AU_DOMx_STAT_PEND_RESTART d =
          x.on AU_DOMx_STAT_PEND_RESTART d :=
        congrArg (· != 0) (Chip.setPend_get_other audio_mem_stopUnits (by omega) (by omega) (.inr hed) (by decide) x true)
      simp [hkeep, Ne.symm hed]

/-- They leave the fields of the port or bridge. -/
theorem Chip.foldl_setPend_get {ds : List Nat} (hds : ∀ d ∈ ds, d < 3) (hn : n < 2048) {g : Fld} (hg : g ∈ tdmFields bridge)
    (x : Chip) : (ds.foldl (fun (y : Chip) d => y.setPend AU_DOMx_STAT_PEND_RESTART d true) x).get g n = x.get g n := by
  obtain ⟨-, hflag, hmirror, -⟩ := tdmFields_ids bridge g hg
  induction ds generalizing x with
  | nil => rfl
  | cons e ds ih =>
    have he : e < 3 := hds e List.mem_cons_self
    rw [List.foldl_cons, ih fun d' hd' => hds d' (List.mem_cons_of_mem _ hd')]
    exact Chip.setPend_get_other audio_mem_stopUnits (by omega) hn (.inl hflag) hmirror x true

end

/-- What REGISTER_WRITE adds to a write of these pages leaves every field but the idle time. -/
theorem Chip.ite_roleAct_get (x : Chip) (b : Bool) {g : Fld} {m : Nat} (hm : m < 2048) (hg : RJ_SESSION_IDLE_LEFT.id ≠ g.id) :
    (if b then x.roleAct else x).get g m = x.get g m := by
  cases b
  · rfl
  · exact x.roleAct_get hm hg

/-- Settles O53: a write that changes a field either meets a running domain, and then only raises flags, or is taken; the idle
time that it restarts is another field. -/
theorem tdmRule : Obligations.TdmRule := by
  unfold Obligations.TdmRule
  intro s bridge n v hp h0 hk hport fs named new runs
  have hpark : s.chip.parked = false := decide_eq_false hp
  have hn : n.val < if bridge then 16 else 8 := by
    cases bridge
    · exact hport rfl
    · exact n.isLt
  have hlt : n.val < 2048 := by omega
  have hruns : ∀ d, d ∈ s.chip.tdmRunning bridge n.val v.toNat ↔ runs d := fun d => Chip.mem_tdmRunning
  have hthree : ∀ d ∈ s.chip.tdmRunning bridge n.val v.toNat, d < 3 := fun d hd => (Chip.mem_tdmRunning.1 hd).1
  refine (runs_tdmCfgWrite v hn hp h0 hk hpark).ends ⟨?running, ?stopped⟩
  case running =>
    intro hchange hrun
    have hdiff : s.chip.tdmDiff bridge n.val v.toNat ≠ [] := by
      obtain ⟨f, hf, hne⟩ := hchange
      exact List.ne_nil_of_mem (List.mem_filter.2 ⟨hf, bne_iff_ne.2 hne⟩)
    have hsome : s.chip.tdmRunning bridge n.val v.toNat ≠ [] := by
      obtain ⟨d, hd⟩ := hrun
      exact List.ne_nil_of_mem ((hruns d).2 hd)
    rw [tdmWrite_running hdiff hsome]
    refine ⟨fun f hf => ?_, fun d hd => ?_⟩
    · rw [Chip.ite_roleAct_get _ _ hlt (tdmFields_ids bridge f hf).2.2.2]
      exact Chip.foldl_setPend_get hthree hlt hf s.chip
    · rw [← hruns d, ← Chip.foldl_setPend_on hthree hd s.chip]
      exact iff_of_eq (congrArg (fun k => (k != 0) = true) (Chip.ite_roleAct_get _ _ (by omega) (by decide)))
  case stopped =>
    intro hnone hlock f hf
    have hempty : s.chip.tdmRunning bridge n.val v.toNat = [] :=
      List.eq_nil_iff_forall_not_mem.2 fun d hd => hnone d ((hruns d).1 hd)
    obtain ⟨hids, -, -, hidle⟩ := tdmFields_ids bridge f hf
    have hdiff : ∀ f' ∈ s.chip.tdmDiff bridge n.val v.toNat, f'.id = f.id → f' = f :=
      fun f' hf' => hids f' (List.mem_filter.1 hf').1
    rw [tdmWrite_stopped hempty hlock, Chip.ite_roleAct_get _ _ hlt hidle, Chip.foldl_set_get hlt _ hdiff]
    by_cases hmem : f ∈ s.chip.tdmDiff bridge n.val v.toNat
    · rw [if_pos hmem]; exact Nat.mod_mod _ _
    · rw [if_neg hmem]
      by_contra hne
      exact hmem (List.mem_filter.2 ⟨hf, bne_iff_ne.2 hne⟩)

end Sys2Proof.Machine
end

section
/-!
SUPPORT. The fields that the Commission lock or a running stop unit holds (R476, R570); the settling of LockedFieldsStay.
-/
namespace Sys2Proof.Machine

/-- A field of the lock is written as any other; it has a number of its own, which is not the violation count's, a stop unit's
flag's or mirror's, or an entry's, and at most 2,048 instances. -/
theorem lockedFields_shape : ∀ f ∈ allFields, f.rwl = true → (f.acc = .rw ∨ f.acc = .rwh) ∧ f.count * f.icount ≤ 2048 ∧
    RJ_LOCK_VIOL_COUNT.id ≠ f.id ∧ (∀ u ∈ stopUnits, u.1.id ≠ f.id ∧ u.2.1.id ≠ f.id) ∧
    f.id ≠ SW_ENTRYe_LO_VALID.id ∧ f.id ≠ SW_ENTRYe_LO_ADDR.id ∧ f.id ≠ SW_ENTRYe_HI_ADDR.id := by decide +kernel

/-- The pages of the fields that a stop unit holds, TDM ports and bridges aside, and their units: heads (two pages), ports, touch
ports and audio domains. -/
theorem heldFields_page : ∀ f ∈ allFields, f.rwl = true → f.acc = .rwh → f.base ≠ 0x1C2000 → f.base ≠ 0x1C3000 →
    (f.base, f.count) ∈ [(0x140000, 16), (0x101000, 16), (0x180000, 10), (0x1A1000, 16), (0x1C1000, 3)] := by decide +kernel

/-- No stop unit's flag or mirror is the violation count. -/
theorem stopUnits_not_violations : ∀ u ∈ stopUnits, u.1.id ≠ RJ_LOCK_VIOL_COUNT.id ∧ u.2.1.id ≠ RJ_LOCK_VIOL_COUNT.id := by
  decide

/-- The PEND_RESTART of such a page is a stop unit's, with a flag for each of the page's instances. -/
theorem Chip.ownerOf_stopUnit (x : Chip) (p : Nat) {f : Fld}
    (hb : (f.base, f.count) ∈ [(0x140000, 16), (0x101000, 16), (0x180000, 10), (0x1A1000, 16), (0x1C1000, 3)]) :
    ∃ u ∈ stopUnits, (x.ownerOf f p).2 = u.1 ∧ f.count = u.2.2 := by
  simp only [List.mem_cons, Prod.mk.injEq, List.not_mem_nil, or_false] at hb
  rcases hb with ⟨hb, hc⟩ | ⟨hb, hc⟩ | ⟨hb, hc⟩ | ⟨hb, hc⟩ | ⟨hb, hc⟩ <;> simp [Chip.ownerOf, hb, hc, stopUnits]

/-- A place of a field has a number below the number of its places. -/
theorem Hit.n_lt {h : Hit} (hp : h.p < h.f.count) (hq : h.q < h.f.icount) : h.n < h.f.count * h.f.icount :=
  calc h.n < h.p * h.f.icount + h.f.icount := Nat.add_lt_add_left hq _
    _ = (h.p + 1) * h.f.icount := (Nat.succ_mul ..).symm
    _ ≤ h.f.count * h.f.icount := Nat.mul_le_mul_right _ hp

/-- A violation counted leaves every other field. -/
theorem Chip.lockViol_get (x : Chip) {g : Fld} {m : Nat} (hm : m < 2048) (hg : RJ_LOCK_VIOL_COUNT.id ≠ g.id) :
    x.lockViol.get g m = x.get g m := x.get_set_other _ _ _ _ _ (by decide) hm (.inl hg)

/-- The count goes up by one and stays at its end. -/
theorem Chip.lockViol_count (x : Chip) : x.lockViol.get RJ_LOCK_VIOL_COUNT =
    min (x.get RJ_LOCK_VIOL_COUNT + 1) (2 ^ RJ_LOCK_VIOL_COUNT.width - 1) := by
  refine (x.get_set_same _ _ _).trans (Nat.mod_eq_of_lt ?_)
  exact (Nat.min_le_right _ _).trans_lt (by decide)

section
variable {x : Chip} {w : Writer} {h : Hit} (hs : h.f.sec = true → w.secure = true)
include hs

/-- A field of the secure world is met by that world alone. -/
theorem Hit.not_barred : (h.f.sec && !w.secure) = false := by
  cases hsec : h.f.sec
  · rfl
  · rw [hs hsec]; rfl

/-- A write of the held value changes nothing. -/
theorem Chip.writeField_same (hacc : h.f.acc = .rw ∨ h.f.acc = .rwh) (hv : x.get h.f h.n = h.v) : x.writeField w h = x := by
  obtain hacc | hacc := hacc <;> simp [Chip.writeField, Hit.not_barred hs, hacc, hv]

/-- One of another value, while the unit runs, sets the unit's PEND_RESTART. -/
theorem Chip.writeField_running (hv : x.get h.f h.n ≠ h.v) (hacc : h.f.acc = .rwh) (hrun : (x.ownerOf h.f h.p).1 = true) :
    x.writeField w h = x.setPend (x.ownerOf h.f h.p).2 h.p true := by
  simp [Chip.writeField, Hit.not_barred hs, hacc, hv, hrun]

/-- One of another value, while no unit runs and the lock is set, is counted. -/
theorem Chip.writeField_locked (hf : h.f ∈ allFields) (hl : h.f.rwl = true) (hv : x.get h.f h.n ≠ h.v)
    (hrun : h.f.acc = .rwh → (x.ownerOf h.f h.p).1 = false) (hlock : x.on RJ_SESSION_LOCK = true) :
    x.writeField w h = x.lockViol := by
  obtain ⟨hacc, -, -, -, hvalid, hlo, hhi⟩ := lockedFields_shape h.f hf hl
  have hentry : x.entryLocked h.f = false := by simp [Chip.entryLocked, hvalid, hlo, hhi]
  obtain hacc | hacc := hacc
  · simp [Chip.writeField, Hit.not_barred hs, hacc, hv, hentry, hl, hlock]
  · simp [Chip.writeField, Hit.not_barred hs, hacc, hv, hrun hacc, hl, hlock]

end

/-- Settles O54: the write is one of the three kinds, and neither a flag with its mirror nor the violation count is the field. -/
theorem lockedFieldsStay : Obligations.LockedFieldsStay := by
  unfold Obligations.LockedFieldsStay
  intro x w h hf hp hq hl htdm hbridge hs
  obtain ⟨hacc, hcount, hviol, hunits, -⟩ := lockedFields_shape h.f hf hl
  have hn : h.n < 2048 := (Hit.n_lt hp hq).trans_le hcount
  refine ⟨hacc, Chip.writeField_same hs hacc, fun hv hrwh hrun => ?running, fun hv hrun hlock => ?locked⟩
  case running =>
    obtain ⟨u, hu, howner, hpage⟩ := x.ownerOf_stopUnit h.p (heldFields_page h.f hf hl hrwh htdm hbridge)
    obtain ⟨hflag, hmirror⟩ := hunits u hu
    obtain ⟨hflag', hmirror'⟩ := stopUnits_not_violations u hu
    have hp' : h.p < u.2.2 := hpage ▸ hp
    have hlt : h.p < 2048 := by have := (stopUnits_mirror u hu).2.2.2.2; omega
    rw [Chip.writeField_running hs hv hrwh hrun, howner]
    exact ⟨Chip.setPend_get_other hu hlt hn (.inl hflag) hmirror x true, x.setPend_on hu hp' true,
      Chip.setPend_get_other hu hlt (by decide) (.inl hflag') hmirror' x true⟩
  case locked =>
    rw [Chip.writeField_locked hs hf hl hv hrun hlock]
    exact ⟨x.lockViol_get hn hviol, x.lockViol_count⟩

end Sys2Proof.Machine
end

section
/-!
SUPPORT. An idle cycle of the time base (R429), and that every command answers a next state (R540); the settling of
IdleStepCountsOneCycle and EveryCommandAnswersNext.
-/
namespace Sys2Proof.Machine

/-! ### A cycle of the time base (R429)

What shows time left follows the counter in four steps; none of them moves the counter. -/

/-- The minutes to the idle close (R484). -/
def Chip.passIdle (x : Chip) : Chip :=
  if x.get RJ_SESSION_ROLE = 0 then x
  else x.set RJ_SESSION_IDLE_LEFT (max 1 (x.get RJ_IDLE_MIN) - (x.up - x.rj.idleAt) / (60 * tps))

/-- The milliseconds of the secure watchdog (R467). -/
def Chip.passWdog (x : Chip) : Chip :=
  match x.sw.wdog with
  | some t => x.set SW_WDOG_REMAIN (50 - (x.up - t) / tpms)
  | none => x

/-- The age of the leash (R351). -/
def Chip.passLeash (x : Chip) : Chip := x.onlyIf x.bl.supervised fun z => z.leashAge (z.bl.age + z.cycle)

/-- The end of a phase correction (R434). -/
def Chip.passSlew (x : Chip) : Chip :=
  match x.tb.slewEnd with
  | some t => x.onlyIf (decide (t ≤ x.up)) Chip.slewFreq
  | none => x

/-- Time that passes is counted, and then shown by the four in turn. -/
theorem Chip.pass_eq (x : Chip) :
    x.pass = ({ x with tb := { x.tb with up := x.tb.up + x.cycle } } : Chip).passIdle.passWdog.passLeash.passSlew := rfl

/-- The fields that show time. -/
def timeFields : List Fld := [RJ_SESSION_IDLE_LEFT, SW_WDOG_REMAIN, BL_LEASH_AGE, TB_TRIM_TPS]

section
variable {g : Fld} (hg : ∀ f ∈ timeFields, f.id ≠ g.id) (x : Chip)
include hg

/-- The idle time is a register alone. -/
theorem Chip.passIdle_keeps : x.passIdle.get g = x.get g ∧ x.passIdle.tb.up = x.tb.up := by
  unfold Chip.passIdle
  split
  · exact ⟨rfl, rfl⟩
  · exact ⟨x.get_set_of_id_ne (hg _ (by decide)) _ (by decide), rfl⟩

/-- So is the watchdog's. -/
theorem Chip.passWdog_keeps : x.passWdog.get g = x.get g ∧ x.passWdog.tb.up = x.tb.up := by
  unfold Chip.passWdog
  split
  · exact ⟨x.get_set_of_id_ne (hg _ (by decide)) _ (by decide), rfl⟩
  · exact ⟨rfl, rfl⟩

/-- The age of the leash is shown by its own field. -/
theorem Chip.passLeash_keeps : x.passLeash.get g = x.get g ∧ x.passLeash.tb.up = x.tb.up := by
  unfold Chip.passLeash Chip.onlyIf
  split
  · exact ⟨x.get_set_of_id_ne (hg BL_LEASH_AGE (by decide)) _ (by decide), rfl⟩
  · exact ⟨rfl, rfl⟩

/-- The end of a correction sets a new trim. -/
theorem Chip.slewFreq_keeps : x.slewFreq.get g = x.get g ∧ x.slewFreq.tb.up = x.tb.up :=
  ⟨x.get_set_of_id_ne (hg TB_TRIM_TPS (by decide)) _ (by decide), rfl⟩

/-- So a correction under way keeps the rest. -/
theorem Chip.passSlew_keeps : x.passSlew.get g = x.get g ∧ x.passSlew.tb.up = x.tb.up := by
  unfold Chip.passSlew Chip.onlyIf
  split
  · split
    · exact x.slewFreq_keeps hg
    · exact ⟨rfl, rfl⟩
  · exact ⟨rfl, rfl⟩

/-- Time that passes is counted, and leaves every field that shows none. -/
theorem Chip.pass_keeps : x.pass.get g = x.get g ∧ x.pass.tb.up = x.tb.up + x.cycle := by
  rw [Chip.pass_eq]
  generalize hy : ({ x with tb := { x.tb with up := x.tb.up + x.cycle } } : Chip) = y
  have hup : y.tb.up = x.tb.up + x.cycle := by subst hy; rfl
  have hget : y.get g = x.get g := by subst hy; rfl
  rw [(Chip.passSlew_keeps hg _).1, (Chip.passSlew_keeps hg _).2, (Chip.passLeash_keeps hg _).1, (Chip.passLeash_keeps hg _).2,
    (Chip.passWdog_keeps hg _).1, (Chip.passWdog_keeps hg _).2, (Chip.passIdle_keeps hg _).1, (Chip.passIdle_keeps hg _).2]
  exact ⟨hget, hup⟩

end

/-- A cycle's length in the statement's words. -/
theorem Chip.cycle_eq (x : Chip) :
    x.cycle = if x.get GL_MODE_POWER = 3 || !(x.on CK_STAT_PLL_LOCK || x.rs.bypass) then 32 else 1 := rfl

/-- The counter set leaves every other field. -/
theorem Chip.setNow_get_other (x : Chip) (t : Nat) {g : Fld} (hs : TB_SEC_SEC.id ≠ g.id) (ht : TB_TICK_TICK.id ≠ g.id) :
    (x.setNow t).get g = x.get g :=
  (Chip.get_set_of_id_ne _ ht _ (by decide)).trans (Chip.get_set_of_id_ne _ hs _ (by decide))

/-- So a cycle is as long after it. -/
theorem Chip.setNow_cycle (x : Chip) (t : Nat) : (x.setNow t).cycle = x.cycle := by
  have hmode : (x.setNow t).get GL_MODE_POWER = x.get GL_MODE_POWER := x.setNow_get_other t (by decide) (by decide)
  have hlock : (x.setNow t).get CK_STAT_PLL_LOCK = x.get CK_STAT_PLL_LOCK := x.setNow_get_other t (by decide) (by decide)
  rw [Chip.cycle_eq, Chip.on, hmode, hlock]
  rfl

/-- The ticks of the counter. -/
theorem Chip.setNow_tick (x : Chip) (t : Nat) : (x.setNow t).get TB_TICK_TICK = t % tps := by
  refine (Chip.get_set_same ..).trans (Nat.mod_eq_of_lt ((Nat.mod_lt t (by decide)).trans (by decide)))

/-- Its seconds. -/
theorem Chip.setNow_sec (x : Chip) (t : Nat) : (x.setNow t).get TB_SEC_SEC = t / tps % 2 ^ 32 :=
  (Chip.get_set_of_id_ne _ (by decide) _ (by decide)).trans (Chip.get_set_same ..)

/-- Settles O44: a cycle sets the counter and lets what shows time follow it (log row 9). -/
theorem idleStepCountsOneCycle : Obligations.IdleStepCountsOneCycle := by
  unfold Obligations.IdleStepCountsOneCycle
  intro s hq
  have hstep : step s = s.onAon Chip.tick := by simp only [step, hq]
  refine ⟨fun hstop => ?stopped, fun hrun => ?counts⟩
  case stopped => rw [hstep, State.onAon, Chip.tick, if_pos hstop]
  case counts =>
    have htick : s.chip.tick = (s.chip.setNow (s.chip.now + s.chip.cycle)).pass := if_neg (by simp [hrun])
    obtain ⟨hticks, hup⟩ := Chip.pass_keeps (g := TB_TICK_TICK) (by decide) (s.chip.setNow (s.chip.now + s.chip.cycle))
    obtain ⟨hsecs, -⟩ := Chip.pass_keeps (g := TB_SEC_SEC) (by decide) (s.chip.setNow (s.chip.now + s.chip.cycle))
    refine ⟨{ s with chip := s.chip.tick }, hstep, hq, rfl, ?_⟩
    rw [← Chip.cycle_eq, htick, hup, hticks, hsecs, Chip.setNow_cycle, Chip.setNow_tick, Chip.setNow_sec]
    exact ⟨rfl, rfl, rfl⟩

/-! ### Every command answers (R540) -/

/-- The TAP answers every instruction but a debug access. -/
theorem tapInstruction_keeps {o : TapOp} (ho : ∀ code, o ≠ .debug code) (s : State) : Keeps s (tapInstruction o s) := by
  cases o with
  | debug code => exact absurd rfl (ho code)
  | reset | bypass | idcode | sample | extest => exact ⟨_, rfl, rfl, id⟩

/-- A raise, of a source or at a crossing, answers. -/
theorem execEventRaise_keeps (r : EventRef) (s : State) : Keeps s (execEventRaise r s) := by
  cases r with
  | source | reply => exact s.onAon_keeps _
  | pulses | taken | acked => exact s.onChip_keeps _

/-- So does every command that neither stores nor takes a reach, by its lifting. -/
theorem exec_keeps_of_not_storing {i : Instr} {s : State} (hi : ∀ code, i ≠ .tapInstruction (.debug code))
    (hs : storing i = false) (hr : reaching i = false) : Keeps s (exec i s) := by
  cases i with
  | copyHandle | stopSkein | attach | detach | powerModeSet | protLayerLoad | journalExport | commandComplete
  | epochBoundary | memoryRequest | commitLine | dispatchPoint | preemptionPoint | preemptTimeout | binPoolFull
  | spillDone | renderJobComplete | computeJobComplete | gxEccUncorrectable | audioTick | audioBlockBoundary | skeinData
  | skeinCredit | skeinMarkStart | skeinMarkEnd | skeinTrain | skeinNak | skeinClose | skeinIdle | skeinLinkTimeout
  | skeinStopTimeout | skeinEgressFrame | leash | leashSend | hungTwin | coldReq | hello | electMsg | mirrorOpen
  | mirrorWrite | mirrorClose | mirrorState | syncDone | sigTiles | sigEnd | offloadPipe | offloadJob | offloadReply
  | offloadResult | offloadDone | offloadCancel | timeProbe | timeProbeSend | timeEcho | detachReq | detachAck | leaveMsg
  | modeMsg | powerPropose | powerReply | powerReplyTimeout | powerCancel | bootReq | bootData | bowlineNak
  | bowlineTrain | bowlineCredit | phyPllLoss | cvDataUnitEnd | startConfirm | thermalSample | thermRelease | wakeGpio
  | wakeAlarm | wakePcie | wakeTouch | parkEntryStep | autoAttachTimer | bowlineIdle => cases hs
  | loadGo | registerWrite | trainingDone | refclkLoss | refclkRestore | mainPllLoss | powerOn | railLow | resetNPulse
  | warmNPulse | thermalTrip | thermalTripRelease | nwdogExpiry | lockstepMismatch | resetRelease | startTimeout
  | uartFrame => cases hr
  | eventRaise r => exact execEventRaise_keeps r s
  | tapInstruction o => exact tapInstruction_keeps (fun code e => hi code (congrArg _ e)) s
  | twinBHoldTimer | ppsInEdge | ppsTimeout | trimAdjust | lockoutEnd | twinWakePulseEnd | parkFaceUpdate =>
    exact s.onAon_keeps _
  | shaderLoad | pipelineCreate | renderSubmit | computeSubmit | layerSet | layerRemove | flip | flipGroup | toneMapSet
  | backgroundSet | hapticWaveLoad | audioGraphLoad | parkFaceSet | fwSlotWrite | secureRelease | lineConfirm
  | headLine0 | secureUp => exact s.onChipM_keeps _
  -- The next two write their change in place, so the name of the meaning stands before the law.
  | evCtlEnable => exact show Keeps s (execEvCtlEnable s) from s.onChip_keeps _
  | linkTrainDone port ok lanes rate sr => exact show Keeps s (execLinkTrainDone port ok lanes rate sr s) from s.onChip_keeps _
  -- Every other command changes the blocks alone.
  | _ => exact s.onChip_keeps _

/-- Whatever the command, but for a debug access, it answers a next state with the queue as it found it. -/
theorem exec_keeps {i : Instr} (hi : ∀ code, i ≠ .tapInstruction (.debug code)) (s : State) : Keeps s (exec i s) := by
  cases hs : storing i with
  | true => exact exec_keeps_of_storing s hs
  | false =>
    cases hr : reaching i with
    | false => exact exec_keeps_of_not_storing hi hs hr
    | true =>
      obtain ⟨f, hf⟩ := exec_of_reaching s hr
      rw [hf]
      exact s.onReach_keeps f

/-- Settles O45: each lifting answers a next state; a debug access goes by the debug lock (log row 109). -/
theorem everyCommandAnswersNext : Obligations.EveryCommandAnswersNext := by
  unfold Obligations.EveryCommandAnswersNext
  refine ⟨fun i s hi => ?answers, fun s code hl => if_pos hl, fun s code hl => if_neg (by simp [hl])⟩
  obtain ⟨t, ht, hq, -⟩ := exec_keeps hi s
  exact ⟨t, ht, hq⟩

end Sys2Proof.Machine
end

section
/-!
SUPPORT. The audio graph (R290 to R311, R337): one rule for the branch that each class 0x7 opcode takes and for each event of a
domain, a stream, a bridge and a generator; the settling of AudioCommandsComplete and AudioEventsComplete.
-/
namespace Sys2Proof.Machine

/-- A command that writes memory completes with the blocks and the writes of its work. -/
theorem runsW_onBoth {i : Instr} {s : State} {f : List Host.Cell → Chip → Chip × List (Nat × Byte)} {y : Chip}
    {ws : List (Nat × Byte)} (hp : s.chip.parked = false) (he : exec i s = s.onBoth f) (e : f s.mem s.chip = (y, ws)) :
    RunsW i s y ws := runsTo_onBoth (w := ⟨y, s.mem, ws⟩) hp he e

/-! ### Opcodes (R296, R297, R299, R303, R308, R313) -/

section
variable {x : Chip} {c : Call}

/-- START_AUDIO of a stopped domain that may run, the engine out of reset and the clocks out of bypass, runs it. -/
theorem startAudio_accepted (hd : x.dispatchedCall opStartAudio c = true) (hi : c.w 0 < 3)
    (hr : x.on AU_DOMx_STAT_RUN (c.w 0) = false) (hh : x.heldSub 2 = false) (hb : x.rs.bypass = false)
    (hw : x.domRefusal (c.w 0) = none) : startAudio c x = (x.enterDom (c.w 0)).ok opStartAudio c [] := by
  simp only [startAudio, Chip.perform_dispatched hd, Nat.not_le.2 hi, hr, hh, hb, hw, Bool.false_eq_true, if_false]

/-- STOP_AUDIO of a running domain begins the fade of its outputs, at whose end it answers. -/
theorem stopAudio_running (hd : x.dispatchedCall opStopAudio c = true) (hi : c.w 0 < 3)
    (hr : x.on AU_DOMx_STAT_RUN (c.w 0) = true) :
    stopAudio c x = (x.routeCut (c.w 0)).setAdom (c.w 0) fun q =>
      { q.fadeOut (x.rampTicks (c.w 0)) with stops := q.stops ++ [c] } := by
  simp only [stopAudio, Chip.perform_dispatched hd, Nat.not_le.2 hi, hr, Bool.not_true, Bool.false_eq_true, if_false]

/-- AUDIO_GRAPH_LOAD of a right program that fits the store, into a stopped domain, takes the graph. -/
theorem audioGraphLoad_stopped {mem : List Host.Cell} {g : AGraph} (hd : x.dispatchedCall opAudioGraphLoad c = true)
    (hi : c.w 0 < 3) (ho : (x.ownRange c.fn (c.q 1) (c.w 3) (List.range 16)).isNone = false) (h16 : 16 ≤ c.w 3)
    (hn : (c.w 3 != 16 + 8 * (leNat (((readBytes mem x (c.q 1) (c.w 3)).drop 4).take 2) +
      leNat (((readBytes mem x (c.q 1) (c.w 3)).drop 6).take 2))) = false)
    (hroute : (x.adom (c.w 0)).route = 0) (hg : (x.readGraph (c.w 0) (readBytes mem x (c.q 1) (c.w 3))).toOption = some g)
    (hr : x.on AU_DOMx_STAT_RUN (c.w 0) = false) (hs : g.slots ≤ x.get AU_STORE_FREE + x.progSlots (c.w 0)) :
    audioGraphLoad c mem x = ((x.setAdom (c.w 0) fun q => { q with graph := some g }).updStore).ok opAudioGraphLoad c
      [g.slots, g.nodes.length, g.edges.length] := by
  have hok : x.readGraph (c.w 0) (readBytes mem x (c.q 1) (c.w 3)) = .ok g := by
    cases h : x.readGraph (c.w 0) (readBytes mem x (c.q 1) (c.w 3)) with
    | error o => rw [h] at hg; cases hg
    | ok k => rw [h] at hg; cases hg; rfl
  have hidle : ((x.adom (c.w 0)).route != 0) = false := bne_eq_false_iff_eq.2 hroute
  simp only [audioGraphLoad, Chip.perform_dispatched hd, Nat.not_le.2 hi, ho, Nat.not_lt.2 h16, hn, hidle, hok, hr,
    Nat.not_lt.2 hs, decide_false, Bool.or_self, Bool.false_eq_true, if_false]

/-- AUDIO_GAIN_SET of the caller's own open stream ramps it to the new gain over the ramp of its domain. -/
theorem audioGainSet_stream {e : AStream} {p : Nat × Nat} (hd : x.dispatchedCall opAudioGainSet c = true)
    (hz : (bits (c.w 0) 1 7 != 0 || (bits (c.w 0) 10 6 != 0 || bits (c.w 0) 22 10 != 0)) = false)
    (hk : bitAt (c.w 0) 0 = false) (he : x.stream (bits (c.w 0) 16 6) = some e)
    (ho : (x.get AU_EPe_OWNER_FUNC (bits (c.w 0) 16 6) != c.fn || (e.fn != c.fn || e.gen != x.genOf c.fn)) = false)
    (hlt : c.w 2 < 65536) (hg : gainOk (c.w 2) = true) (hn : x.epNamed (bits (c.w 0) 16 6) = some p) :
    audioGainSet c x = ((x.set AU_EPe_GAIN_GAIN (c.w 2) (bits (c.w 0) 16 6)).setStream
      { e with ramp := e.ramp.to (gainAmp (c.w 2)) (x.rampTicks p.1) }).ok opAudioGainSet c [] := by
  simp only [audioGainSet, Chip.perform_dispatched hd, hz, hk, he, ho, Nat.not_le.2 hlt, hg, hn, decide_false, Bool.not_true,
    Bool.or_self, Bool.false_eq_true, if_false]

/-- AUDIO_STREAM_OPEN of an endpoint of the caller's own that no node names, with a right buffer and no period notice, opens the
stream at its gain and answers the bytes of a block. -/
theorem audioStreamOpen_unnamed (hd : x.dispatchedCall opAudioStreamOpen c = true) (h6 : bits (c.w 0) 6 2 = 0)
    (h14 : bitAt (c.w 0) 14 = false) (h15 : bits (c.w 0) 15 1 = 0) (h24 : bits (c.w 0) 24 8 = 0)
    (hfmt : bits (c.w 0) 12 2 ≠ 3) (hown : x.get AU_EPe_OWNER_FUNC (bits (c.w 0) 0 6) = c.fn)
    (hfree : (x.stream (bits (c.w 0) 0 6)).isSome = false) (hn : x.epNamed (bits (c.w 0) 0 6) = none)
    (hr : (x.ownRange c.fn (c.q 1) (streamBytes (clampN (c.w 3) 2 10) (bits (c.w 0) 9 3) (bits (c.w 0) 12 2)) [6]).isNone = false)
    (hoff : hOffset (c.q 1) = 0) (hlo : 2 ≤ c.w 3) (hhi : c.w 3 ≤ 10) (hlt : c.w 4 < 65536) (hg : gainOk (c.w 4) = true)
    (hq : x.get FNf_AUDIO_USE c.fn < x.get FNf_AUDIO_QUOTA c.fn) :
    audioStreamOpen c x = (x.openStream ⟨bits (c.w 0) 0 6, c.fn, x.genOf c.fn, c.q 1, c.w 3, 0, 0, 0, 0, false, [],
        Ramp.up (gainAmp (c.w 4)) 0, [], false⟩ (bits (c.w 0) 8 1) (bits (c.w 0) 9 3) (bits (c.w 0) 12 2) (c.w 4) false).ok
      opAudioStreamOpen c [16 * ((bits (c.w 0) 9 3 + 1) * sampleBytes (bits (c.w 0) 12 2))] := by
  simp only [audioStreamOpen, Chip.perform_dispatched hd, h6, h14, h15, h24, hfmt, hown, hfree, hn, hr, hoff, Nat.not_lt.2 hlo,
    Nat.not_lt.2 hhi, Nat.not_le.2 hlt, hg, Nat.not_le.2 hq, bne_self_eq_false, decide_false, Bool.false_and, Bool.not_true,
    Bool.or_self, Bool.false_eq_true, if_false]

/-- AUDIO_STREAM_CLOSE of the caller's own stream begins the close, and answers that it does. -/
theorem audioStreamClose_open {e : AStream} (hd : x.dispatchedCall opAudioStreamClose c = true) (hi : c.w 0 < 64)
    (he : x.stream (c.w 0) = some e)
    (ho : (e.fn != c.fn || (e.gen != x.genOf c.fn || x.on AU_EPe_STAT_SKEIN e.ep)) = false)
    (hc : x.on AU_EPe_STAT_CLOSING e.ep = false) :
    audioStreamClose c x = (x.beginClose e.ep).deferred opAudioStreamClose c [] := by
  simp only [audioStreamClose, Chip.perform_dispatched hd, hi, he, ho, hc, Bool.false_eq_true, if_false, if_true]

/-- TONE_PLAY of a right pattern on an idle generator starts it. -/
theorem tonePlay_idle {d : Nat} (hd : x.dispatchedCall opTonePlay c = true) (hg : x.genDom 7 (bits (c.w 0) 0 4) = some d)
    (ho : (x.get AU_TONEg_OWNER_FUNC (bits (c.w 0) 0 4) != c.fn && c.fn != 0) = false) (hs : bitAt (c.w 5) 31 = false)
    (hw : toneWrong c (x.get AU_DOMx_RATE_HZ d) = none) (hp : x.get AU_TONEg_STAT_PHASE (bits (c.w 0) 0 4) = 0) :
    tonePlay c x = ((x.toneStart (bits (c.w 0) 0 4) ⟨(List.range 6).map c.w, c.fn, x.genOf c.fn⟩).signalDone false
      (bits (c.w 0) 0 4) 1 (x.au.tones.getD (bits (c.w 0) 0 4) {}).cur).ok opTonePlay c [0] := by
  simp only [tonePlay, Chip.perform_dispatched hd, hg, ho, hs, hw, hp, decide_true, Bool.true_or, Bool.false_eq_true, if_false,
    if_true]

/-- BEEP_PLAY of a right pattern on an idle generator starts it. -/
theorem beepPlay_idle {d : Nat} (hd : x.dispatchedCall opBeepPlay c = true) (hg : x.genDom 8 (bits (c.w 0) 0 3) = some d)
    (ho : (x.get AU_BEEPb_OWNER_FUNC (bits (c.w 0) 0 3) != c.fn && c.fn != 0) = false) (hf : 100 ≤ c.w 1)
    (hn : 20 * c.w 1 ≤ 9 * x.get AU_DOMx_RATE_HZ d) (hlo : 5 ≤ bits (c.w 2) 0 16) (hhi : bits (c.w 2) 0 16 ≤ 2000)
    (hr : bits (c.w 2) 16 8 ≠ 0) (hcur : (x.au.beeps.getD (bits (c.w 0) 0 3) {}).cur = none) :
    beepPlay c x = ((x.beepStart (bits (c.w 0) 0 3) ⟨(List.range 3).map c.w, c.fn, x.genOf c.fn⟩).signalDone true
      (bits (c.w 0) 0 3) 1 none).ok opBeepPlay c [0] := by
  simp only [beepPlay, Chip.perform_dispatched hd, hg, ho, Nat.not_lt.2 hf, Nat.not_lt.2 hn, Nat.not_lt.2 hlo, Nat.not_lt.2 hhi,
    hr, hcur, decide_false, Option.isSome_none, Bool.false_and, Bool.or_self, Bool.false_eq_true, if_false]

end

/-- Settles O17: a dispatched command runs the engine's own part, and each clause is the rule of one of its branches. -/
theorem audioCommandsComplete : Obligations.AudioCommandsComplete := by
  unfold Obligations.AudioCommandsComplete
  refine ⟨?start, ?stop, ?load, ?gain, ?open_, ?close, ?tone, ?beep⟩
  case start => exact fun s c hd hi hr hh hb hw hp => runs_onChip hp rfl (startAudio_accepted hd hi hr hh hb hw)
  case stop => exact fun s c hd hi hr hp => runs_onChip hp rfl (stopAudio_running hd hi hr)
  case load =>
    exact fun s c g hd hi ho h16 hn hroute hg hr hs hp =>
      runs_onChipM hp rfl (audioGraphLoad_stopped hd hi ho h16 hn hroute hg hr hs)
  case gain =>
    exact fun s c e p hd hz hk he ho hlt hg hn hp => runs_onChip hp rfl (audioGainSet_stream hd hz hk he ho hlt hg hn)
  case open_ =>
    exact fun s c hd h6 h14 h15 h24 hfmt hown hfree hn hr hoff hlo hhi hlt hg hq hp =>
      runs_onChip hp rfl (audioStreamOpen_unnamed hd h6 h14 h15 h24 hfmt hown hfree hn hr hoff hlo hhi hlt hg hq)
  case close => exact fun s c e hd hi he ho hc hp => runs_onChip hp rfl (audioStreamClose_open hd hi he ho hc)
  case tone => exact fun s c d hd hg ho hs hw hph hp => runs_onChip hp rfl (tonePlay_idle hd hg ho hs hw hph)
  case beep =>
    exact fun s c d hd hg ho hf hn hlo hhi hr hcur hp =>
      runs_onChip hp rfl (beepPlay_idle hd hg ho hf hn hlo hhi hr hcur)

end Sys2Proof.Machine
end

section
/-!
SUPPORT. The events of the audio graph (R290 to R311, R337): one rule for the branch that each takes; the settling of
AudioEventsComplete.
-/
namespace Sys2Proof.Machine

/-! ### Ticks and blocks (R290 to R292, R337) -/

/-- The frames that TDM ports bring set fields of the ports and raise, and so leave a domain live. -/
theorem Chip.tdmFrames_domLive (x : Chip) {d : Nat} (hd : d < 2048) (tdm : List TdmIn) :
    (x.tdmFrames d tdm).domLive d = x.domLive d := by
  refine foldl_keeps (fun y : Chip => y.domLive d) (fun y t => ?_) _ x
  have hport : t.port.val < 2048 := by omega
  have hflag : (y.flag AU_TDMn_STAT_FS_SEEN t.sync t.port.val).on AU_DOMx_STAT_RUN d = y.on AU_DOMx_STAT_RUN d :=
    congrArg (· != 0) (y.get_set_other _ _ _ _ _ hport hd (.inl (by decide)))
  cases t.slip with
  | none => exact congrArg (· && !(y.adom d).halted) hflag
  | some b =>
    have hslip : ((y.flag AU_TDMn_STAT_FS_SEEN t.sync t.port.val).sat AU_TDMn_SLIP_COUNT t.port.val).on AU_DOMx_STAT_RUN d =
        y.on AU_DOMx_STAT_RUN d :=
      (congrArg (· != 0) (Chip.get_set_other _ _ _ _ _ _ hport hd (.inl (by decide)))).trans hflag
    exact congrArg (· && !(y.adom d).halted) hslip

section
variable {x : Chip} {d : Nat}

/-- The graph of a live domain runs once: its frames in, its nodes, its frames out, and the ramps one tick on. -/
theorem audioTick_live (hd : d < 2048) (hl : x.domLive d = true) (tdm : List TdmIn) :
    audioTick d tdm x = (
      let k := (x.tdmFrames d tdm).setAdom d fun q =>
        { q with tdm := (tdm.map fun t => takenFrame t (q.tdm.getD 0 [])) :: q.tdm.take 3 }
      let outs := k.runGraph d
      let y := (outs.filter fun o => o.node.kind = 2).foldl (fun (y : Chip) o => y.tdmOut o.node ((k.adom d).open_ * o.value)) k
      let ss := y.au.streams.map fun q => if k.epLive q.ep = some d then
          let q := k.takeCapture outs q
          { q with ramp := q.ramp.tick }
        else q
      let r := y.tdmTaps d outs
      (({ r.1 with au.streams := ss }.soundTick d outs).setAdom d fun q =>
        { q.onEdges fun e => { e with ramp := e.ramp.tick } with tick := (q.tick + 1) % 16, mute := q.mute.map (· - 1) }, r.2)) := by
  have hlive : ((!(x.tdmFrames d tdm).domLive d) = true) = False := by rw [x.tdmFrames_domLive hd tdm, hl]; simp
  simp only [audioTick, hlive, if_false]

/-- A block boundary of a running domain that is not halted counts, moves every live stream's block, and ends what the block
ended. -/
theorem audioBlock_running {mem : List Host.Cell} (hr : x.on AU_DOMx_STAT_RUN d = true) (hh : (x.adom d).halted = false) :
    audioBlock d mem x = (
      let y := (x.inc AU_DOMx_BLOCKS_COUNT d).setAdom d fun q => { q with tick := 0 }
      let y := (y.takeBq (y.usesBq d)).glideStep d
      let r := (y.au.streams.filter fun e => y.epLive e.ep = some d).foldl (fun (a : Chip × List (Nat × Byte)) e =>
        ((a.1.moveBlock mem d e).1, a.2 ++ (a.1.moveBlock mem d e).2)) (y, [])
      let z := if d = 2 && x.on AU_DOMx_CTL_SRC 2 then r.1.trimC else r.1
      let z := if (z.adom d).route = 2 then z.routeSwap d else z
      let a := z.adom d
      let z := if a.mute = some 0 && a.stops != [] then z.domStopped d
        else if a.mute = some 0 && a.suspend then (z.setAdom d fun q => { q with halted := true, suspend := false }).fadeFrom d
        else z
      (z, r.2)) := by
  simp only [audioBlock, hr, hh, Bool.not_true, Bool.false_eq_true, if_false]

/-! ### Ramps and routes (R297, R299) -/

/-- The ramp of an open stream ends at its gain. -/
theorem gainRampEnd_open {e : Fin 64} {q : AStream} (hq : x.stream e.val = some q) (hc : x.on AU_EPe_STAT_CLOSING e.val = false) :
    gainRampEnd (.stream e) x = x.setStream { q with ramp := q.ramp.finish } := by
  simp only [gainRampEnd, hq, hc, Bool.false_eq_true, if_false]

/-- That of a stream that closes closes it. -/
theorem gainRampEnd_closing {e : Fin 64} {q : AStream} (hq : x.stream e.val = some q)
    (hc : x.on AU_EPe_STAT_CLOSING e.val = true) : gainRampEnd (.stream e) x = x.closeStream e.val := by
  simp only [gainRampEnd, hq, hc, if_true]

/-- The routes taken away have faded: the next block swaps the graph. -/
theorem routeRampEnd_faded (hh : (x.adom d).halted = false) (hr : (x.adom d).route = 1) :
    routeRampEnd d x = x.setAdom d fun q => { q with route := 2 } := by
  simp only [routeRampEnd, hh, hr, Bool.false_eq_true, if_false, if_true]

/-- The new routes have faded in: the change is over. -/
theorem routeRampEnd_swapped (hh : (x.adom d).halted = false) (hr : (x.adom d).route = 3) :
    routeRampEnd d x = (x.setAdom d fun q => q.onEdges fun e => { e with ramp := e.ramp.finish }).routeEnd d true := by
  have h31 : (3 : Nat) ≠ 1 := by decide
  simp only [routeRampEnd, hh, hr, h31, Bool.false_eq_true, if_false, if_true]

/-! ### The clock of domain C, and bridges (R291, R292, R307) -/

/-- Loss of the external clock of a running domain C halts it. -/
theorem audioClockLost_external (hr : x.on AU_DOMx_STAT_RUN 2 = true) (hs : x.on AU_DOMx_CTL_SRC 2 = false)
    (hk : x.on AU_DOMx_STAT_CLK_OK 2 = true) :
    audioClockLost x = (
      let y := (x.flag AU_DOMx_STAT_CLK_OK false 2).sat AU_DOMx_CLKLOSS_COUNT 2
      let y := (y.fadeFrom 2).setAdom 2 fun q => { q with halted := true, resume := false }
      (((y.sendZero 2).flag AU_TDMn_STAT_FS_SEEN false (y.get AU_DOMx_CTL_SRC_PORT 2)).raise 358).notice 0 0x7804 [2, 0]) :=
  if_neg (by simp [hr, hs, hk])

/-- Its return lets the domain resume at the next block. -/
theorem audioClockRegained_external (hr : x.on AU_DOMx_STAT_RUN 2 = true) (hs : x.on AU_DOMx_CTL_SRC 2 = false)
    (hk : x.on AU_DOMx_STAT_CLK_OK 2 = false) :
    audioClockRegained x = ((((x.flag AU_DOMx_STAT_CLK_OK true 2).flag AU_TDMn_STAT_FS_SEEN true
      (x.get AU_DOMx_CTL_SRC_PORT 2)).setAdom 2 fun q => { q with resume := true }).raise 359).notice 0 0x7804 [2, 1] :=
  if_neg (by simp [hr, hs, hk])

/-- A bridge that is fed opens over the ramp of the domain it feeds. -/
theorem bridgeLock_fed {b : Nat} (hf : x.bridgeFed b = true) :
    bridgeLock b x = x.bridgeOpen b (x.rampTicks (x.get AU_BRk_CFG_TO b)) := if_pos hf

end

/-! ### Generators and coefficients (R301, R308 to R310) -/

section
variable {x : Chip} {g : Nat} {p : Pattern}

/-- A tone's attack ends in its hold. -/
theorem tonePhaseEnd_attack (hc : (x.au.tones.getD g {}).cur = some p) (hs : x.get AU_TONEg_STAT_PHASE g = 1) :
    tonePhaseEnd g x = (x.setTone_ g fun q => { q with pos := 0, level := 1 }).set AU_TONEg_STAT_PHASE 2 g := by
  simp only [tonePhaseEnd, hc, hs]

/-- A hold that the pattern gives a length ends in the release. -/
theorem tonePhaseEnd_sustain (hc : (x.au.tones.getD g {}).cur = some p) (hs : x.get AU_TONEg_STAT_PHASE g = 2)
    (hr : bits (p.words.getD 4 0) 0 16 ≠ 0) :
    tonePhaseEnd g x = (x.setTone_ g fun q => { q with pos := 0, level := 1 }).set AU_TONEg_STAT_PHASE 3 g := by
  simp only [tonePhaseEnd, hc, hs, hr, if_false]

/-- The silence after the last repeat ends the pattern. -/
theorem tonePhaseEnd_last (hc : (x.au.tones.getD g {}).cur = some p) (hs : x.get AU_TONEg_STAT_PHASE g = 4)
    (hl : (x.au.tones.getD g {}).reps = some 1) : tonePhaseEnd g x = x.toneOver g 0 := by
  simp only [tonePhaseEnd, hc, hs, hl, if_true]

/-- A burst that is not the last leaves one fewer, and its gap where it has one. -/
theorem beepBurstEnd_more (hc : (x.au.beeps.getD g {}).cur = some p) (hgap : (x.au.beeps.getD g {}).gap = false)
    (hn : (x.au.beeps.getD g {}).next = none) (hs : (x.au.beeps.getD g {}).stop = false)
    (hl : 2 ≤ (x.au.beeps.getD g {}).left) :
    beepBurstEnd g x = x.setBeep g fun q =>
      { q with left := q.left - 1, gap := bits (p.words.getD 2 0) 24 8 != 0, clock := 0 } := by
  have hmore : ¬ (x.au.beeps.getD g {}).left ≤ 1 := by omega
  simp only [beepBurstEnd, hc, hgap, hn, hs, hmore, decide_false, Bool.or_self, Bool.false_eq_true, if_false]

/-- The pattern that waits takes over at the end of a burst. -/
theorem beepBurstEnd_next {q : Pattern} (hc : (x.au.beeps.getD g {}).cur = some p) (hgap : (x.au.beeps.getD g {}).gap = false)
    (hn : (x.au.beeps.getD g {}).next = some q) :
    beepBurstEnd g x = (x.beepStart g q).signalDone true g 1 (some p) := by
  simp only [beepBurstEnd, hc, hgap, hn, Bool.false_eq_true, if_false]

/-- A gap ends in the next burst. -/
theorem beepGapEnd_gap (hgap : (x.au.beeps.getD g {}).gap = true) :
    beepGapEnd g x = x.setBeep g fun q => { q with gap := false, clock := 0 } := if_pos hgap

/-- A commit with GO set takes the coefficients written: at once where no running domain uses the filter, else at the block. -/
theorem bqCommitGo_go {v : Nat} (hv : bitAt v 0 = true) :
    bqCommitGo v x = (
      let new := x.au.bqDirty.map fun i => (i, (List.range 5).map fun k => x.get AU_BQs_COEF (i * 5 + k))
      (({ x with au := { x.au with bqDirty := [], bqWait := (x.au.bqWait.filter fun p => !new.any fun q => q.1 = p.1) ++ new } } :
        Chip).takeBq fun i => !x.bqUsed i)) := if_neg (by simp [hv])

end

/-- Settles O18: each clause is the rule of one branch of its event; the ends of an edge's ramp and of the outputs' have one
branch only. -/
theorem audioEventsComplete : Obligations.AudioEventsComplete := by
  unfold Obligations.AudioEventsComplete
  refine ⟨?tick, ?block, ?rampOpen, ?rampClosing, ?rampEdge, ?rampOutputs, ?routeFaded, ?routeSwapped, ?clockLost,
    ?clockRegained, ?bridge, ?toneAttack, ?toneSustain, ?toneLast, ?beepMore, ?beepNext, ?beepGap, ?commit⟩
  case tick => exact fun s d tdm hl hp => runsW_onBoth hp rfl (audioTick_live (by omega) hl tdm)
  case block =>
    exact fun s d hr hh hp => runsTo_onSkein hp rfl (congrArg (fun r => (s.work.put r).pump) (audioBlock_running hr hh))
  case rampOpen => exact fun s e q hq hc hp => runs_onChip hp rfl (gainRampEnd_open hq hc)
  case rampClosing => exact fun s e q hq hc hp => runs_onChip hp rfl (gainRampEnd_closing hq hc)
  case rampEdge => exact fun s d a b hp => runs_onChip hp rfl rfl
  case rampOutputs => exact fun s d hp => runs_onChip hp rfl rfl
  case routeFaded => exact fun s d hh hr hp => runs_onChip hp rfl (routeRampEnd_faded hh hr)
  case routeSwapped => exact fun s d hh hr hp => runs_onChip hp rfl (routeRampEnd_swapped hh hr)
  case clockLost => exact fun s hr hs hk hp => runs_onChip hp rfl (audioClockLost_external hr hs hk)
  case clockRegained => exact fun s hr hs hk hp => runs_onChip hp rfl (audioClockRegained_external hr hs hk)
  case bridge => exact fun s b hf hp => runs_onChip hp rfl (bridgeLock_fed hf)
  case toneAttack => exact fun s g p hc hs hp => runs_onChip hp rfl (tonePhaseEnd_attack hc hs)
  case toneSustain => exact fun s g p hc hs hr hp => runs_onChip hp rfl (tonePhaseEnd_sustain hc hs hr)
  case toneLast => exact fun s g p hc hs hl hp => runs_onChip hp rfl (tonePhaseEnd_last hc hs hl)
  case beepMore => exact fun s g p hc hgap hn hs hl hp => runs_onChip hp rfl (beepBurstEnd_more hc hgap hn hs hl)
  case beepNext => exact fun s g p q hc hgap hn hp => runs_onChip hp rfl (beepBurstEnd_next hc hgap hn)
  case beepGap => exact fun s g hgap hp => runs_onChip hp rfl (beepGapEnd_gap hgap)
  case commit => exact fun s v hv hp => runs_onChip hp rfl (bqCommitGo_go hv)

end Sys2Proof.Machine
end

section
/-!
SUPPORT. Skein ports and their streams (R325 to R343): one rule for the branch that each class 0x8 opcode takes, and for each event
of a link; the settling of SkeinCommandsComplete and SkeinEventsComplete.
-/
namespace Sys2Proof.Machine

/-! ### Opcodes (R339, R341 to R343) -/

section
variable {x : Chip} {c : Call}

/-- START_SKEIN of a stopped port that may run, out of reset, runs it. -/
theorem startSkein_accepted (hd : x.dispatchedCall opStartSkein c = true) (hl : c.words.length = 1) (hi : c.w 0 < 2)
    (hr : x.on SKn_STAT_RUN (c.w 0) = false) (hb : bits (c.w 0) 0 1 = c.w 0) (hh : x.heldSub (4 + c.w 0) = false)
    (hw : x.skRefusal (c.w 0) = none) : startSkein c x = (x.enterSkein (c.w 0)).ok opStartSkein c [] := by
  simp only [startSkein, Chip.perform_dispatched hd, hl, hb, Nat.not_le.2 hi, hr, hh, hw, bne_self_eq_false, Bool.false_eq_true,
    if_false]

/-- SKEIN_STREAM_UNBIND of a bound stream of a stopped port frees it, and what only waited for it. -/
theorem skeinStreamUnbind_bound (hd : x.dispatchedCall opSkeinStreamUnbind c = true) (hl : c.words.length = 1)
    (hr : x.on SKn_STAT_RUN (skArgs c).1 = false) (hs : skStray c 0 = false)
    (hk : x.skKind (skArgs c).1 (skArgs c).2 ≠ 0) :
    skeinStreamUnbind c x =
      (((x.skUnbind (skArgs c).1 (skArgs c).2).reapFences).reapFrees).ok opSkeinStreamUnbind c [] := by
  simp only [skeinStreamUnbind, Chip.perform_dispatched hd, hl, hr, hs, hk, bne_self_eq_false, decide_false, Bool.or_self,
    Bool.false_eq_true, if_false]

/-- SKEIN_QUERY of a stream that the caller may see answers its port's words and its own. -/
theorem skeinQuery_stream (hd : x.dispatchedCall opSkeinQuery c = true) (hl : c.words.length = 1)
    (hs : skStray c (2 ^ 31) = false) (ho : bitAt (c.w 0) 31 = false)
    (hv : (c.fn != 0 && (x.skKind (skArgs c).1 (skArgs c).2 = 0 || x.skFn (skArgs c).1 (skArgs c).2 != c.fn)) = false) :
    skeinQuery c x = x.ok opSkeinQuery c [x.skStat (skArgs c).1, x.get SKn_RXBUF_UNITS (skArgs c).1,
      x.word [SKn_STs_CFG_KIND, SKn_STs_CFG_DROP, SKn_STs_CFG_FENCE_EN, SKn_STs_CFG_CREDIT_MAX]
        (stIx (skArgs c).1 (skArgs c).2),
      x.get SKn_STs_CREDIT_UNITS (stIx (skArgs c).1 (skArgs c).2), x.get SKn_STs_FRAMES_COUNT (stIx (skArgs c).1 (skArgs c).2),
      x.word [SKn_STs_DROP_DROP, SKn_STs_DROP_TRUNC] (stIx (skArgs c).1 (skArgs c).2)] := by
  simp only [skeinQuery, Chip.perform_dispatched hd, hl, hs, ho, hv, bne_self_eq_false, Bool.not_false, Bool.true_and,
    Bool.or_self, Bool.false_eq_true, if_false]
  rfl

/-- The registers of a stream newly bound to a ring of slots, in the order its binding writes them. -/
def Chip.bindRing (x : Chip) (c : Call) : Chip :=
  let p := (skArgs c).1; let e := (skArgs c).2; let n := stIx p e; let f := c.w 1
  let y := ((x.set SKn_STs_CFG_KIND 1 n).flag SKn_STs_CFG_DROP (bitAt (c.w 0) 19) n).flag SKn_STs_CFG_FENCE_EN (bitAt (c.w 0) 20) n
  let y := ((y.set SKn_STs_CFG_CREDIT_MAX (bits (c.w 5) 0 12) n).set SKn_STs_BIND_FUNC f n).set SKn_STs_BIND_ENDPOINT 0 n
  let y := ((y.set SKn_STs_BIND_GEN (x.genOf f) n).flag SKn_STs_BIND_ORPHAN false n).set SKn_STs_HANDLE_LO_HANDLE (c.w 2) n
  let y := ((y.set SKn_STs_HANDLE_HI_HANDLE (c.w 3) n).set SKn_STs_RING_NSLOT (bits (c.w 4) 0 6) n).set SKn_STs_RING_SLOT
    (bits (c.w 4) 16 14) n
  let y := (y.set SKn_STs_RING_FENCE (bits (c.w 5) 16 12) n).resetFields
    [SKn_STs_CREDIT_UNITS, SKn_STs_FRAMES_COUNT, SKn_STs_DROP_DROP, SKn_STs_DROP_TRUNC] n
  (y.setSp p fun q => { q with streams := q.streams ++ [{ st := e }] }).updRxbuf p

/-- SKEIN_STREAM_BIND of a free stream of a stopped port to a ring in a function's own memory binds it. -/
theorem skeinStreamBind_ring (hd : x.dispatchedCall opSkeinStreamBind c = true) (hl : c.words.length = 6)
    (hr : x.on SKn_STAT_RUN (skArgs c).1 = false) (hs : skStray c 0x1F0000 = false)
    (hk : x.skKind (skArgs c).1 (skArgs c).2 = 0) (hkind : bits (c.w 0) 16 3 = 1) (hf : c.w 1 ≤ 64)
    (hst : x.get FNf_STAT_STATE (c.w 1) ≠ 0) (hoff : hOffset (c.q 2) = 0)
    (ho : (x.ownRange (c.w 1) (c.q 2) (4096 + (bits (c.w 4) 0 6 + 1) * bits (c.w 4) 16 14 * 4096) [1, 3, 5]).isNone = false)
    (hslot : bits (c.w 4) 16 14 ≠ 0) (hfence : (bitAt (c.w 0) 20 && !x.ownsFence (c.w 1) (bits (c.w 5) 16 12)) = false) :
    skeinStreamBind c x = (x.bindRing c).ok opSkeinStreamBind c [] := by
  have h10 : (1 : Nat) ≠ 0 := by decide
  have h41 : ¬ 4 < 1 := by decide
  simp only [skeinStreamBind, Chip.bindRing, Chip.perform_dispatched hd, hl, hr, hs, hk, hkind, Nat.not_lt.2 hf, hst, hoff, ho,
    hslot, hfence, h10, h41, Nat.add_sub_cancel, bne_self_eq_false, decide_false, decide_true, Bool.true_or, Bool.true_and,
    Bool.not_true, Bool.false_and, Bool.or_self, Bool.false_eq_true, if_false, if_true]

/-- STOP_SKEIN of a running port notes the command and begins to close the link. -/
theorem stopSkein_running {mem : List Host.Cell} (hd : x.dispatchedCall opStopSkein c = true) (hl : c.words.length = 1)
    (hi : c.w 0 < 2) (hr : x.on SKn_STAT_RUN (bits (c.w 0) 0 1) = true) :
    stopSkein c mem x = runWork (fun w => (w.on fun y => y.setLk (bits (c.w 0) 0 1) fun q =>
      { q with stops := q.stops ++ [c] }).beginStop (bits (c.w 0) 0 1)) mem x := by
  simp only [stopSkein, Chip.performM_dispatched hd, hl, Nat.not_le.2 hi, hr, bne_self_eq_false, Bool.not_true,
    Bool.false_eq_true, if_false]

end

/-- Settles O19: a dispatched command runs the port's own part, and each clause is the rule of one of its branches. -/
theorem skeinCommandsComplete : Obligations.SkeinCommandsComplete := by
  unfold Obligations.SkeinCommandsComplete
  refine ⟨?start, ?unbind, ?query, ?bind, ?stop⟩
  case start => exact fun s c hd hl hi hr hb hh hw hp => runs_onChip hp rfl (startSkein_accepted hd hl hi hr hb hh hw)
  case unbind => exact fun s c hd hl hr hs hk hp => runs_onChip hp rfl (skeinStreamUnbind_bound hd hl hr hs hk)
  case query => exact fun s c hd hl hs ho hv hp => runs_onChip hp rfl (skeinQuery_stream hd hl hs ho hv)
  case bind =>
    exact fun s c hd hl hr hs hk hkind hf hst hoff ho hslot hfence hp =>
      runs_onChip hp rfl (skeinStreamBind_ring hd hl hr hs hk hkind hf hst hoff ho hslot hfence)
  case stop => exact fun s c hd hl hi hr hp => runsTo_onBoth hp rfl (stopSkein_running hd hl hi hr)

end Sys2Proof.Machine
end

section
/-!
SUPPORT. The events of a Skein link (R325 to R339): one rule for the branch that each takes; the settling of SkeinEventsComplete.
-/
namespace Sys2Proof.Machine

/-! ### Flits (R325, R327, R331, R335) -/

/-- The link of a port once it has taken the flit it expected (R327). -/
def Chip.lkNext (x : Chip) (p : Nat) : Chip :=
  x.setLk p fun q => { q with rxSeq := (q.rxSeq + 1) % 1024, ackV := true, nakAt := none }

/-- Its streams are bound as before. -/
theorem Chip.lkNext_skKind (x : Chip) (p s : Nat) : (x.lkNext p).skKind p s = x.skKind p s := x.setLk_get ..

/-- They have the credit they had. -/
theorem Chip.lkNext_skCredit (x : Chip) (p s : Nat) : (x.lkNext p).skCredit p s = x.skCredit p s := x.setLk_skCredit ..

/-- The far side has closed if it had. -/
theorem Chip.lkNext_farClose (x : Chip) (p : Nat) : ((x.lkNext p).lk p).farClose = (x.lk p).farClose :=
  x.setLk_close p p _ fun _ => rfl

/-- The next flit in turn, which brings no acknowledgement, is taken. -/
theorem Work.header_take {w : Work} {p : Nat} {h : FlitHdr} (ha : h.ackV = false) (hs : h.seq.val = (w.x.lk p).rxSeq) :
    (w.header p h).x.lkTake p h.seq.val = (w.x.lkNext p, true) := by
  rw [w.header_noAck p h ha, hs, Chip.lkTake_next]
  rfl

section
variable {w : Work} {p : Nat} {h : FlitHdr} (hh : w.x.skHears p = true)
include hh

/-- A flit of an ingress stream that is taken and has credit spends it, and its item waits in the stream's buffer, unless the
stream's function is gone. -/
theorem flitIn_credited (ht : ((w.header p h).x.lkTake p h.seq.val).2 = true)
    (hk : skIn (((w.header p h).x.lkTake p h.seq.val).1.skKind p h.stream) = true)
    (hc : ((w.header p h).x.lkTake p h.seq.val).1.skCredit p h.stream ≠ 0) (item : Chip → SkItem) :
    flitIn p h item w = (
      let y := ((w.header p h).x.lkTake p h.seq.val).1
      let y := y.setCredit p h.stream (y.skCredit p h.stream - 1)
      let z := if y.on SKn_STs_BIND_ORPHAN (stIx p h.stream) then y
        else y.setStrm p h.stream fun t => { t with fifo := t.fifo ++ [item y] }
      ({ w.header p h with x := z } : Work).after p) := by
  simp only [flitIn, hh, ht, hk, hc, Bool.not_true, Bool.false_eq_true, if_false]

/-- So it is with the next flit in turn, of a stream bound for ingress with credit in hand. -/
theorem flitIn_next (ha : h.ackV = false) (hs : h.seq.val = (w.x.lk p).rxSeq) (hk : skIn (w.x.skKind p h.stream) = true)
    (hc : w.x.skCredit p h.stream ≠ 0) (item : Chip → SkItem) :
    flitIn p h item w = (
      let y := (w.x.lkNext p).setCredit p h.stream (w.x.skCredit p h.stream - 1)
      let z := if y.on SKn_STs_BIND_ORPHAN (stIx p h.stream) then y
        else y.setStrm p h.stream fun t => { t with fifo := t.fifo ++ [item y] }
      ({ w with x := z } : Work).after p) := by
  have htake := Work.header_take ha hs
  rw [flitIn_credited hh (by rw [htake]) (by rw [htake, Chip.lkNext_skKind]; exact hk)
    (by rw [htake, Chip.lkNext_skCredit]; exact hc), htake, w.header_noAck p h ha]
  dsimp only
  rw [Chip.lkNext_skCredit]

/-- Credits that the far side grants, once taken, are added to the egress streams they name. -/
theorem creditIn_granted (ht : ((w.header p h).x.lkTake p h.seq.val).2 = true)
    (hc : (((w.header p h).x.lkTake p h.seq.val).1.lk p).farClose = false) (gs : List Grant) :
    creditIn p h gs w = (
      let y := (gs.take 14).foldl (fun (y : Chip) g =>
        if y.skKind p g.stream.val = 3 || y.skKind p g.stream.val = 4 then
          y.setCredit p g.stream.val (y.skCredit p g.stream.val + 4 * g.units.toNat)
        else y) ((w.header p h).x.lkTake p h.seq.val).1
      ({ w.header p h with x := y } : Work).after p) := by
  simp only [creditIn, hh, ht, hc, Bool.not_true, Bool.or_self, Bool.false_eq_true, if_false]

/-- So are those of the next flit in turn, which brings no acknowledgement. -/
theorem creditIn_next (ha : h.ackV = false) (hs : h.seq.val = (w.x.lk p).rxSeq) (hc : (w.x.lk p).farClose = false)
    (gs : List Grant) :
    creditIn p h gs w = (
      let y := (gs.take 14).foldl (fun (y : Chip) g =>
        if y.skKind p g.stream.val = 3 || y.skKind p g.stream.val = 4 then
          y.setCredit p g.stream.val (y.skCredit p g.stream.val + 4 * g.units.toNat)
        else y) (w.x.lkNext p)
      ({ w with x := y } : Work).after p) := by
  have htake := Work.header_take ha hs
  rw [creditIn_granted hh (by rw [htake]) (by rw [htake, Chip.lkNext_farClose]; exact hc), htake, w.header_noAck p h ha]

/-- A request to send again is heard with its header. -/
theorem nakIn_heard (seq : Nat) : nakIn p h seq w = ((w.header p h).on (lkNakIn p seq)).after p := by
  simp only [nakIn, hh, Bool.not_true, Bool.false_eq_true, if_false]

/-- An idle flit brings its header alone. -/
theorem idleIn_heard : idleIn p h w = (w.header p h).after p := by
  simp only [idleIn, hh, Bool.not_true, Bool.false_eq_true, if_false]

/-- A close of the far side ends the credit of the egress streams; the first one of a link that is up is reported. -/
theorem closeIn_heard : closeIn p h w = (
    let w := w.header p h
    let first := !(w.x.lk p).farClose
    let y := w.x.setLk p fun q => { q with farClose := true }
    let y := (y.sp p).streams.foldl (fun (y : Chip) t => if skIn (y.skKind p t.st) then y else y.setCredit p t.st 0) y
    let y := if first && y.lkState p = lkUp then y.lkErr p 4 0 else y
    (({ w with x := y } : Work).after p)) := by
  simp only [closeIn, hh, Bool.not_true, Bool.false_eq_true, if_false]

end

/-! ### The link (R326, R328, R329, R336) -/

/-- A training set in its second phase, from a far side as wide and with every lane locked, brings the link up. -/
theorem trainIn_up {w : Work} {p : Nat} {t : Train} (hs : w.x.lkState p = lkTrain) (hk : w.x.lkLocked p = true)
    (hn : t.lanes.toNat = w.x.lkLanes p) (hp : t.phase = true) (h : FlitHdr) :
    trainIn p h t w =
      ({ w with x := (w.x.lkTrainIn p t).1 } : Work).linkUp p ((w.x.lk p).resume && t.resume) t.expected := by
  have hne : lkTrain ≠ lkRetrain := by decide
  have ht : w.x.lkTraining p = true := by simp only [Chip.lkTraining, hs, decide_true, Bool.true_or]
  have hup : (w.x.lkTrainIn p t).2 = some ((w.x.lk p).resume && t.resume) := by
    simp only [Chip.lkTrainIn, ht, hk, hn, hp, bne_self_eq_false, Bool.not_true, Bool.or_self, Bool.false_eq_true, if_false,
      if_true]
  simp only [trainIn, hs, hne, if_false, hup]

section
variable {x : Chip} {p : Nat}

/-- A flit with a wrong CRC is counted and asked for again. -/
theorem lkBad_crc (hs : x.lkState p = lkUp) :
    lkBad p .crc x = ((x.sat (lkFld p SKn_CRC_ERR_COUNT BL_CRC_ERR_COUNT) (lkIx p)).lkRaise p 4).lkNak p := by
  simp only [lkBad, hs, bne_self_eq_false, Bool.false_and, Bool.false_eq_true, if_false]

/-- One of a reserved kind is a violation. -/
theorem lkBad_reserved (hs : x.lkState p = lkUp) :
    lkBad p .reserved x = x.sat (lkFld p SKn_VIOL_COUNT BL_VIOL_COUNT) (lkIx p) := by
  simp only [lkBad, hs, bne_self_eq_false, Bool.false_and, Bool.false_eq_true, if_false]

/-- Flits that are not acknowledged in time are sent again from the first. -/
theorem lkTimeout_waiting {e : Nat × Nat × Nat × List Nat} {r : List (Nat × Nat × Nat × List Nat)} (hs : x.lkState p = lkUp)
    (hr : (x.lk p).replay = e :: r) : lkTimeout p x = x.lkReplay p e.1 := by
  simp only [lkTimeout, hs, hr, bne_self_eq_false, Bool.false_and, Bool.false_eq_true, if_false]

/-- A lane of the link that loses its lock sends the link to retrain. -/
theorem lkLockLoss_lane {l : Nat} (hl : l < x.lkLanes p) :
    lkLockLoss p l x = (x.setLk p fun q => { q with lock := putBit q.lock l false, phase := 0 }).lkToRetrain p := if_pos hl

/-- A lane of a link in training locks; with the last one training sets are sent. -/
theorem lkLock_lane {l : Nat} (ht : x.lkTraining p = true) (hl : l < x.lkLanes p) :
    lkLock p l x = (let y := x.setLk p fun q => { q with lock := putBit q.lock l true }
      if y.lkLocked p && !x.lkLocked p then y.sendTrain p else y) := by
  simp only [lkLock, ht, Nat.not_le.2 hl, decide_false, Bool.not_true, Bool.or_self, Bool.false_eq_true, if_false]

/-- A running port whose link is down, and that is not suspended, trains again. -/
theorem downRetry_down (hs : x.lkState p = lkDown) (hr : x.on SKn_STAT_RUN p = true) (hn : (x.lk p).suspend = false) :
    downRetry p x = x.lkBegin p lkTrain false := if_pos (by simp [hs, hr, hn])

end

/-- The frame at the head of an egress ring, where there is one, is taken up: its record is read, and it waits to be sent. -/
theorem egressFrame_begins {w : Work} {p t : Nat} (hk : w.x.skKind p t = 3) (hs : w.x.lkState p = lkUp)
    (hc : (w.x.lk p).farClose = false) (he : (w.x.strm p t).eg.isSome = false)
    (ho : w.x.on SKn_STs_BIND_ORPHAN (stIx p t) = false)
    (hd : leNat ((w.ringRead p t (w.x.skHandle p t) 8).2.take 4) ≠ leNat ((w.ringRead p t (w.x.skHandle p t) 8).2.drop 4)) :
    egressFrame p t w = (
      let r := w.ringRead p t (w.x.skHandle p t) 8
      let q := r.1.ringRead p t (w.x.skRecAt p t (leNat (r.2.drop 4) % w.x.skSlots p t)) 12
      let len := leNat (q.2.take 4)
      (q.1.on fun y => y.setStrm p t fun k => { k with
        eg := some ⟨min len (w.x.skSlot p t), leNat (q.2.drop 8), decide (w.x.skSlot p t < len), none, 0, none, none⟩ }).pump) := by
  simp only [egressFrame, hk, hs, hc, he, ho, hd, bne_self_eq_false, Bool.or_self, Bool.false_eq_true, if_false]

/-- Settles O20: each clause is the rule of one branch of its event; a mark is a flit whose item is its own. -/
theorem skeinEventsComplete : Obligations.SkeinEventsComplete := by
  unfold Obligations.SkeinEventsComplete
  refine ⟨?dataNext, ?data, ?startNext, ?start, ?endNext, ?end_, ?creditNext, ?credit, ?nak, ?idle, ?close, ?train, ?bad,
    ?replay, ?lockLoss, ?lock, ?linkTimeout, ?retry, ?stopTimeout, ?egress⟩
  case dataNext => exact fun s p h data ha hh hs hk hc hp => runsTo_onSkein hp rfl (flitIn_next hh ha hs hk hc _)
  case data => exact fun s p h data hh ht hk hc hp => runsTo_onSkein hp rfl (flitIn_credited hh ht hk hc _)
  case startNext => exact fun s p h tag ha hh hs hk hc hp => runsTo_onSkein hp rfl (flitIn_next hh ha hs hk hc _)
  case start => exact fun s p h tag hh ht hk hc hp => runsTo_onSkein hp rfl (flitIn_credited hh ht hk hc _)
  case endNext => exact fun s p h n ha hh hs hk hc hp => runsTo_onSkein hp rfl (flitIn_next hh ha hs hk hc _)
  case end_ => exact fun s p h n hh ht hk hc hp => runsTo_onSkein hp rfl (flitIn_credited hh ht hk hc _)
  case creditNext => exact fun s p h gs ha hh hs hc hp => runsTo_onSkein hp rfl (creditIn_next hh ha hs hc gs)
  case credit => exact fun s p h gs hh ht hc hp => runsTo_onSkein hp rfl (creditIn_granted hh ht hc gs)
  case nak => exact fun s p h q hh hp => runsTo_onSkein hp rfl (nakIn_heard hh q.val)
  case idle => exact fun s p h hh hp => runsTo_onSkein hp rfl (idleIn_heard hh)
  case close => exact fun s p h hh hp => runsTo_onSkein hp rfl (closeIn_heard hh)
  case train => exact fun s p h t hs hk hn ht hp => runsTo_onSkein hp rfl (trainIn_up hs hk hn ht h)
  case bad => exact fun s p hs hp => ⟨runs_onChip hp rfl (lkBad_crc hs), runs_onChip hp rfl (lkBad_reserved hs)⟩
  case replay => exact fun s p e r hs hr hp => runs_onChip hp rfl (lkTimeout_waiting hs hr)
  case lockLoss => exact fun s p l hl hp => runs_onChip hp rfl (lkLockLoss_lane hl)
  case lock => exact fun s p l ht hl hp => runs_onChip hp rfl (lkLock_lane ht hl)
  case linkTimeout => exact fun s p ht hp => runsTo_onSkein hp rfl (if_pos ht)
  case retry => exact fun s p hs hr hn hp => runs_onChip hp rfl (downRetry_down hs hr hn)
  case stopTimeout => exact fun s p hs hp => runsTo_onSkein hp rfl (if_pos hs)
  case egress => exact fun s p t hk hs hc he ho hd hp => runsTo_onSkein hp rfl (egressFrame_begins hk hs hc he ho hd)

end Sys2Proof.Machine
end

section
/-!
SUPPORT. Bowline's link (R325 to R329, R348, R363): link 2 is Bowline's, so the rules of a Skein link hold of it; here the rules
of its own; the settling of BowlineCompletes.
-/
namespace Sys2Proof.Machine

/-- Bowline has eight lanes (R325). -/
theorem Chip.lkLanes_bowline (x : Chip) : x.lkLanes 2 = 8 := rfl

/-- So each lane its link can name is one of them. -/
theorem Chip.lane_lt_bowline (x : Chip) (l : Fin 8) : l.val < x.lkLanes 2 := l.isLt

/-- A flit out of its order is passed over or asked for again. -/
theorem lkBad_order {x : Chip} {p : Nat} {q : Fin 1024} (hs : x.lkState p = lkUp) :
    lkBad p (.order q) x = if q.val = (x.lk p).rxSeq then x else (x.lkTake p q.val).1 := by
  simp only [lkBad, hs, bne_self_eq_false, Bool.false_and, Bool.false_eq_true, if_false]

section
variable {w : Work} {h : FlitHdr} (hs : w.x.lkState 2 = lkUp)
include hs

/-- A request of the far side sends again what it names, after its header has acknowledged what came. -/
theorem blNak_up (q : Nat) : blNak h q w = ((w.blHeader h).on (lkNakIn 2 q)).blPump := if_neg (by simp [hs])

/-- An idle flit brings its header alone. -/
theorem blIdle_up : blIdle h w = (w.blHeader h).blPump := if_pos hs

/-- Credits, once taken, are added to the groups they name that have them. -/
theorem blCredit_up (gs : List Grant) :
    blCredit h gs w = (
      let w := w.blHeader h
      let t := w.x.lkTake 2 h.seq.val
      Work.blPump { w with x := if t.2 then t.1.setBl fun b => { b with
        txCredit := (gs.take 14).foldl (fun (m : List (Nat × Nat)) g => if blCredited (g.stream.val % 8) then
          sparseSet m (g.stream.val % 8) (sparseGet m (g.stream.val % 8) 0 + 4 * g.units.toNat) 0 else m) b.txCredit } else t.1 }) :=
  if_neg (by simp [hs])

end

/-- Training that takes too long brings the link down. -/
theorem blLinkTimeout_training {x : Chip} (ht : x.lkTraining 2 = true) : blLinkTimeout x = x.blDown := if_pos ht

/-- A link that is down and wanted trains again. -/
theorem blRetry_down {x : Chip} (hs : x.lkState 2 = lkDown) (hw : x.blWanted = true) :
    blRetry x = x.lkBegin 2 lkTrain false := if_pos (by simp [hs, hw])

/-- Chip B that has seen no twin in its time holds its groups (R363). -/
theorem twinBHold_alone {x : Chip} (he : x.on BL_CFG_TWIN_EN = true) (hb : x.get RB_STRAP_TWIN_ID = 1)
    (hs : x.on BL_STAT_TWIN_SEEN = false) (hk : x.kennel = false) : twinBHold x = x.setHold 15 := if_pos (by simp [he, hb, hs, hk])

/-- Settles O42: each event of Bowline's link takes the branch of its situation, as that of a Skein link does. -/
theorem bowlineCompletes : Obligations.BowlineCompletes := by
  unfold Obligations.BowlineCompletes
  refine ⟨?crc, ?order, ?reserved, ?nak, ?idle, ?credit, ?train, ?replay, ?timeout, ?retry, ?lock, ?lockLoss, ?hold⟩
  case crc => exact fun s hs hp => runs_onChip hp rfl (lkBad_crc hs)
  case order => exact fun s q hs hp => runs_onChip hp rfl (lkBad_order hs)
  case reserved => exact fun s hs hp => runs_onChip hp rfl (lkBad_reserved hs)
  case nak => exact fun s h q hs hp => runsTo_onSkein hp rfl (blNak_up hs q.val)
  case idle => exact fun s h hs hp => runsTo_onSkein hp rfl (blIdle_up hs)
  case credit => exact fun s h gs hs hp => runsTo_onSkein hp rfl (blCredit_up hs gs)
  case train => exact fun s h t hp => runsTo_onSkein (f := blTrain h t) hp rfl rfl
  case replay => exact fun s e l hs hr hp => runs_onChip hp rfl (lkTimeout_waiting hs hr)
  case timeout => exact fun s ht hp => runs_onChip hp rfl (blLinkTimeout_training ht)
  case retry => exact fun s hs hw hp => runs_onChip hp rfl (blRetry_down hs hw)
  case lock => exact fun s l ht hp => runs_onChip hp rfl (lkLock_lane ht (s.chip.lane_lt_bowline l))
  case lockLoss => exact fun s l hp => runs_onChip hp rfl (lkLockLoss_lane (s.chip.lane_lt_bowline l))
  case hold => exact fun s he hb hs hk => runs_onAon rfl (twinBHold_alone he hb hs hk)

end Sys2Proof.Machine
end

section
/-!
SUPPORT. The messages of offload (R350, R369, R370): the guards that a message within its bounds passes, one rule for each way a
reply or an end can go; the settling of OffloadCompletes.
-/
namespace Sys2Proof.Machine

/-! ### The bounds of the messages (R350) -/

/-- A segment of a pipeline of at most 8144 bytes, under a key of 32, is within its bounds. -/
theorem offloadPipe_fits {key data : List Byte} (hk : key.length = 32) (hd : data.length ≤ 8144) :
    ¬ (8144 < (data.map (·.toNat)).length || (key.map (·.toNat)).length != 32) = true := by
  simp [hk, hd]

/-- So is a job whose descriptor has its kind's length and that brings at most 255 pipelines. -/
theorem offloadJob_fits {m : OffJob} (hd : m.desc.length = (if m.compute then 128 else 256)) (hp : m.pipes.length ≤ 255) :
    ¬ (m.desc.length != (if m.compute then 128 else 256) || 255 < m.pipes.length) = true := by
  simp [hd, hp]

/-- So is a block of results of 1 to 4096 bytes. -/
theorem offloadResult_fits {data : List Byte} (hne : data ≠ []) (hd : data.length ≤ 4096) :
    ¬ (data.map (·.toNat) = [] || 4096 < (data.map (·.toNat)).length) = true := by
  simp [hne, hd]

/-! ### Replies and ends (R369, R370) -/

/-- What a message of class 3 finds to act on: it is noted as received and seen by the ingress tap of Conveyor. -/
def Work.offTaken (w : Work) (h : MsgHdr) (body : List Nat) : Work :=
  ({ w with x := (w.x.blTake h 3 body.length false).1 } : Work).cvTap 51 body

/-- A message of class 3 that is to be acted on has its effect there, and what can be sent follows. -/
theorem blTapped_offTaken {h : MsgHdr} {body : List Nat} {f : Work → Work} {w : Work}
    (ht : (w.x.blTake h 3 body.length false).2 = true) : blTapped h 3 body f w = (f (w.offTaken h body)).blPump :=
  blTapped_taken ht

/-- A job that the twin accepts is noted as taken. -/
theorem offloadReply_accepted {h : MsgHdr} {ref : Nat} {w : Work}
    (ht : (w.x.blTake h 3 (wordBytes ref ++ [0, 0, 0, 0]).length false).2 = true) :
    offloadReply h ref 0 w = ((w.offTaken h (wordBytes ref ++ [0, 0, 0, 0])).on fun y => y.setBl fun b =>
      { b with offOut := updAll b.offOut (fun o => o.ref = ref) fun o => { o with taken := true } }).blPump :=
  blTapped_offTaken ht

/-- One that it refuses comes back. -/
theorem offloadReply_refused {h : MsgHdr} {ref r : Nat} {w : Work} (hr : r ≠ 0)
    (ht : (w.x.blTake h 3 (wordBytes ref ++ [r, 0, 0, 0]).length false).2 = true) :
    offloadReply h ref r w = ((w.offTaken h (wordBytes ref ++ [r, 0, 0, 0])).on fun y => y.offBack ref).blPump := by
  refine (blTapped_offTaken ht).trans ?_
  simp only [hr, if_false]

/-- The body of an OFFLOAD_DONE (R350). -/
def doneBody (ref : Nat) (aborted : Bool) (spills us results : Nat) : List Nat :=
  wordBytes ref ++ ([b2n aborted, spills, 0, 0] ++ (wordBytes us ++ wordBytes results))

section
variable {h : MsgHdr} {ref spills us results : Nat} {aborted : Bool} {w : Work} {o : OffOut}

/-- The end of a job that is out has the effect of its kind. -/
theorem offloadDone_out (ht : (w.x.blTake h 3 (doneBody ref aborted spills us results).length false).2 = true)
    (hf : ((w.offTaken h (doneBody ref aborted spills us results)).x.bl.offOut.find? fun o => o.ref = ref) = some o) :
    offloadDone h ref aborted spills us results w = Work.blPump (
      let w := w.offTaken h (doneBody ref aborted spills us results)
      if aborted then w.on fun y => y.offBack ref
      else
        let w := (w.x.bl.stage.filter fun q => q.ref = ref).foldl Work.unstage w
        let w := w.on fun y => (y.setBl fun b => { b with
          offOut := b.offOut.filter fun p => p.ref != ref, stage := b.stage.filter fun q => q.ref != ref }).sat BL_OFFLOAD_SENT
        w.on fun y => match y.job o.fn o.num with
          | some j => y.jobDone { j with spills := spills } us
          | none => y) := by
  refine (blTapped_offTaken ht).trans (congrArg Work.blPump ?_)
  unfold doneBody at hf ⊢
  exact hf ▸ rfl

/-- Its record is that of the work it leaves. -/
theorem exec_offloadDone {s : State} {r u v : Word} {sp : BitVec 8} {w : Work} (hp : s.chip.parked = false)
    (e : offloadDone h r.toNat aborted sp.toNat u.toNat v.toNat s.work = w) :
    exec (.offloadDone h r aborted sp u v) s = .next { s with chip := w.x, mem := writeCells s.mem w.ws } := by
  subst e
  exact if_neg (by simp [hp])

end

/-- Settles O35: a message that is to be acted on passes its bounds, is seen by its tap and has the effect of its rule. -/
theorem offloadCompletes : Obligations.OffloadCompletes := by
  unfold Obligations.OffloadCompletes
  refine ⟨?pipe, ?job, ?accepted, ?refused, ?result, ?aborted, ?done, ?cancel⟩
  case pipe => exact fun s h key t o data hk hd ht hp =>
    runsTo_onSkein hp rfl ((if_neg (offloadPipe_fits hk hd)).trans (blTapped_offTaken (w := s.work) ht))
  case job => exact fun s h m hd hn ht hp =>
    runsTo_onSkein hp rfl ((if_neg (offloadJob_fits hd hn)).trans (blTapped_offTaken (w := s.work) ht))
  case accepted => exact fun s h ref ht hp => runsTo_onSkein hp rfl (offloadReply_accepted (w := s.work) ht)
  case refused => exact fun s h ref r hr ht hp => runsTo_onSkein hp rfl (offloadReply_refused (w := s.work) hr ht)
  case result => exact fun s h ref idx tag off data hne hd ht hp =>
    runsTo_onSkein hp rfl ((if_neg (offloadResult_fits hne hd)).trans (blTapped_offTaken (w := s.work) ht))
  case aborted => exact fun s h ref sp us rs o ht hf hp => exec_offloadDone hp (offloadDone_out (w := s.work) ht hf)
  case done => exact fun s h ref sp us rs o ht hf hp => exec_offloadDone hp (offloadDone_out (w := s.work) ht hf)
  case cancel => exact fun s h ref ht hp => runsTo_onSkein hp rfl (blTapped_offTaken (w := s.work) ht)

end Sys2Proof.Machine
end

section
/-!
SUPPORT. The pairing's opcodes, its supervision and its signatures and time (R351 to R374, R439): one rule for the branch that each
takes; the settling of TwinCommandsComplete, LeashCompletes and TwinWorkCompletes.
-/
namespace Sys2Proof.Machine

/-! ### ATTACH and DETACH (R353, R367, R373) -/

section
variable {c : Call} {mem : List Host.Cell} {x : Chip} (hl : c.words.length = 0)
include hl

/-- ATTACH of an unpaired chip that may pair begins an attach; its reply comes later. -/
theorem attachCmd_begins (hd : x.dispatchedCall opAttach c = true) (ht : x.on BL_CFG_TWIN_EN = true) (hp : x.paired = false)
    (ha : x.get BL_STAT_ATTACH = 0) (hf : x.on GL_DEG_CAUSE_PROOF_FAIL = false) :
    attachCmd c mem x = runWork (fun w => (w.on fun y => (y.deferred opAttach c []).beginAttach).blPump) mem x := by
  refine (Chip.performM_dispatched hd _).trans ?_
  simp only [hl, ht, hp, ha, hf, bne_self_eq_false, Bool.not_true, Bool.or_self, Bool.false_eq_true, if_false]

variable (hd : x.dispatchedCall opDetach c = true)
include hd

/-- DETACH while an attach is under way ends it as failed. -/
theorem detachCmd_attaching (hp : x.paired = false) (ha : x.get BL_STAT_ATTACH ≠ 0) :
    detachCmd c mem x = runWork (fun w => (w.on fun y =>
      ((y.attachFail 11).onlyIf (y.lkState 2 = lkUp) (·.blSend 5 3 [])).ok opDetach c []).blPump) mem x := by
  refine (Chip.performM_dispatched hd _).trans ?_
  simp only [hl, hp, ha, bne_self_eq_false, Bool.not_false, Bool.false_eq_true, if_false, if_true]

/-- DETACH of a pair that no longer supervises leaves it. -/
theorem detachCmd_unsupervised (hp : x.paired = true) (hs : x.bl.supervised = false) :
    detachCmd c mem x = (((x.setMode GL_MODE_PAIR 0).twinChange 3).ok opDetach c [], []) := by
  refine (Chip.performM_dispatched hd _).trans ?_
  simp only [hl, hp, hs, bne_self_eq_false, Bool.not_true, Bool.not_false, Bool.false_eq_true, if_false, if_true]

/-- DETACH of a supervised pair is noted, and the twin is asked or, where it asked first, answered. -/
theorem detachCmd_supervised (hp : x.paired = true) (hs : x.bl.supervised = true) :
    detachCmd c mem x = runWork (fun w => (w.on fun y =>
      if y.bl.detachIn then (y.blSend 5 4 []).setBl fun b => { b with detachGo := true } else y.blSend 5 3 []).blPump) mem
      (x.setBl fun b => { b with detach := some c }) := by
  refine (Chip.performM_dispatched hd _).trans ?_
  simp only [hl, hp, hs, bne_self_eq_false, Bool.not_true, Bool.false_eq_true, if_false]

/-- The twin asked first: it is answered, and the pairing may end. -/
theorem detachCmd_answers (hp : x.paired = true) (hs : x.bl.supervised = true) (hi : x.bl.detachIn = true) :
    detachCmd c mem x = runWork (fun w => (w.on fun y =>
      (y.blSend 5 4 []).setBl fun b => { b with detachGo := true }).blPump) mem (x.setBl fun b => { b with detach := some c }) := by
  have hi' : (x.setBl fun b => { b with detach := some c }).bl.detachIn = true := hi
  rw [detachCmd_supervised hl hd hp hs]
  simp only [runWork, Work.on, hi', if_true]

/-- It did not: it is asked. -/
theorem detachCmd_asks (hp : x.paired = true) (hs : x.bl.supervised = true) (hi : x.bl.detachIn = false) :
    detachCmd c mem x = runWork (fun w => (w.on fun y => y.blSend 5 3 []).blPump) mem
      (x.setBl fun b => { b with detach := some c }) := by
  have hi' : (x.setBl fun b => { b with detach := some c }).bl.detachIn = false := hi
  rw [detachCmd_supervised hl hd hp hs]
  simp only [runWork, Work.on, hi', Bool.false_eq_true, if_false]

end

/-- TWIN_QUERY answers the link, the twin's mode, the result of the last attach, the leash and the offset. -/
theorem twinQuery_answers {c : Call} {x : Chip} (hd : x.dispatchedCall opTwinQuery c = true) (hl : c.words.length = 0) :
    twinQuery c x = x.ok opTwinQuery c [x.regWord BL_STAT_LINK 0, x.get BL_TWIN_MODE_MODE, x.get BL_ATTACH_RES_CODE,
      x.get BL_LEASH_AGE + 65536 * x.get BL_LEASH_MISSED, x.get BL_TIME_OFS_TICKS] :=
  (Chip.perform_dispatched hd _).trans (if_neg (by simp [hl]))

/-- Settles O38: each opcode takes the branch of its situation. -/
theorem twinCommandsComplete : Obligations.TwinCommandsComplete := by
  unfold Obligations.TwinCommandsComplete
  refine ⟨?attach, ?attaching, ?unsupervised, ?answers, ?asks, ?query⟩
  case attach => exact fun s c hd hl ht hpair ha hf hp => runsTo_onBoth hp rfl (attachCmd_begins hl hd ht hpair ha hf)
  case attaching => exact fun s c hd hl hpair ha hp => runsTo_onBoth hp rfl (detachCmd_attaching hl hd hpair ha)
  case unsupervised => exact fun s c hd hl hpair hs hp => runsW_onBoth hp rfl (detachCmd_unsupervised hl hd hpair hs)
  case answers => exact fun s c hd hl hpair hs hi hp => runsTo_onBoth hp rfl (detachCmd_answers hl hd hpair hs hi)
  case asks => exact fun s c hd hl hpair hs hi hp => runsTo_onBoth hp rfl (detachCmd_asks hl hd hpair hs hi)
  case query => exact fun s c hd hl hp => runs_onChip hp rfl (twinQuery_answers hd hl)

/-! ### The leash (R351, R352, R365) -/

/-- Outside supervision a leash time only lets what waits be sent. -/
theorem leashSend_unsupervised {w : Work} (hs : w.x.bl.supervised = false) : leashSend w = w.blPump :=
  if_pos (by simp [hs])

/-- The body of the leash that a chip sends (R351). -/
def Chip.leashBody (x : Chip) : List Nat :=
  wordBytes x.bl.count ++ (wordBytes x.modeWord ++ (wordBytes (x.get TB_SEC_SEC) ++ (wordBytes (x.get TB_TICK_TICK) ++
    ([x.leashState] ++ List.replicate 7 0))))

/-- Under supervision a leash is counted and sent, and with it a detach or an attach that is due takes place. -/
theorem leashSend_supervised {w : Work} (hs : w.x.bl.supervised = true) :
    leashSend w = (
      let y := w.x.setBl fun b => { b with count := (b.count + 1) % 2 ^ 32 }
      (({ w with x := y.blSend 0 1 y.leashBody } : Work).blPump).on fun z =>
        if z.bl.detachGo then z.detachNow
        else if z.get BL_STAT_ATTACH = 5 && (z.bl.syncSent && z.bl.syncGot) then z.pairUp else z) :=
  if_neg (by simp [hs])

/-- A leash that fails to come is counted, and ages the leash. -/
theorem leashMissed_supervised {x : Chip} (hs : x.bl.supervised = true) :
    leashMissed x = ((x.leashAge (max x.bl.age ((x.get BL_LEASH_MISSED + 1) * 250 * tps / 1000000))).set BL_LEASH_MISSED
      (min (x.get BL_LEASH_MISSED + 1) 3)).raise 420 :=
  if_neg (by simp [hs])

/-- The third loses the twin. -/
theorem twinLost_supervised {x : Chip} (hs : x.bl.supervised = true) :
    twinLost x = ((x.leashAge (max x.bl.age (750 * tps / 1000000))).set BL_LEASH_MISSED 3).loseTwin :=
  if_neg (by simp [hs])

/-- A twin that is down while the link stands is sent its release. -/
theorem hungTwin_released {w : Work} (hh : w.x.bl.hung = true) (hu : w.x.lkState 2 = lkUp) :
    hungTwin w = ({ w with x := (w.x.blSend 5 10 []).setBl fun b => { b with hung := false } } : Work).blPump :=
  if_pos (by simp [hh, hu])

/-! ### Leaves and detaches that the twin asks for (R365, R367, R371) -/

section
variable {h : MsgHdr} {w : Work}

/-- A leave ends the pairing at once. -/
theorem leaveIn_paired (ht : (w.x.blTake h 5 4 false).2 = true) (hp : (w.x.blTake h 5 4 false).1.paired = true) :
    leaveIn h w = Work.blPump (
      let y := ((w.x.blTake h 5 4 false).1.set BL_STAT_ATTACH 0).unsupervise
      let y := ((y.setMode GL_MODE_PAIR 0).flag GL_MODE_TWIN_SERVICE false).flag GL_MODE_TWIN_KENNEL false
      { w with x := (y.updShadow.endOffload).twinChange 6 }) := by
  simp only [leaveIn, blMsg_taken ht, Work.on, hp, Bool.not_true, Bool.false_eq_true, if_false]

variable (ht : (w.x.blTake h 5 0 false).2 = true)
include ht

/-- The twin's request to detach is noted until this chip's own DETACH. -/
theorem detachReq_noted (hp : (w.x.blTake h 5 0 false).1.paired = true)
    (hw : ((w.x.blTake h 5 0 false).1.setBl fun b => { b with detachIn := true }).detachWaits = false) :
    detachReq h w = Work.blPump { w with x := (w.x.blTake h 5 0 false).1.setBl fun b => { b with detachIn := true } } := by
  simp only [detachReq, blMsg_taken ht, Work.on, hp, hw, Bool.not_true, Bool.false_eq_true, if_false]

/-- Where that DETACH already waits, the request is answered and the pairing may end. -/
theorem detachReq_answered (hp : (w.x.blTake h 5 0 false).1.paired = true)
    (hw : ((w.x.blTake h 5 0 false).1.setBl fun b => { b with detachIn := true }).detachWaits = true) :
    detachReq h w = Work.blPump { w with x := (((w.x.blTake h 5 0 false).1.setBl fun b =>
      { b with detachIn := true }).blSend 5 4 []).setBl fun b => { b with detachGo := true } } := by
  simp only [detachReq, blMsg_taken ht, Work.on, hp, hw, Bool.not_true, Bool.false_eq_true, if_false, if_true]

/-- Before the pair is up the request ends the attach as failed. -/
theorem detachReq_attaching (hp : (w.x.blTake h 5 0 false).1.paired = false) :
    detachReq h w = Work.blPump { w with x := (w.x.blTake h 5 0 false).1.attachFail 11 } := by
  simp only [detachReq, blMsg_taken ht, Work.on, hp, Bool.not_false, if_true]

/-- The twin's answer lets the pairing end, where a DETACH waits for it. -/
theorem detachAck_waiting (hp : (w.x.blTake h 5 0 false).1.paired = true) (hw : (w.x.blTake h 5 0 false).1.detachWaits = true) :
    detachAck h w = Work.blPump { w with x := (w.x.blTake h 5 0 false).1.setBl fun b => { b with detachGo := true } } := by
  simp only [detachAck, blMsg_taken ht, Work.on, hp, hw, Bool.and_self, if_true]

end

/-- Settles O39: each event of supervision takes the branch of its situation. -/
theorem leashCompletes : Obligations.LeashCompletes := by
  unfold Obligations.LeashCompletes
  refine ⟨?leash, ?unsupervised, ?send, ?missed, ?lost, ?hung, ?mode, ?leave, ?noted, ?attaching, ?answered, ?ack⟩
  case leash => exact fun s h n m t v ht hp => runsTo_onSkein hp rfl (blMsg_taken (w := s.work) ht)
  case unsupervised => exact fun s hs hp => runsTo_onSkein hp rfl (leashSend_unsupervised hs)
  case send => exact fun s hs hp => runsTo_onSkein hp rfl (leashSend_supervised hs)
  case missed => exact fun s hs hp => runs_onChip hp rfl (leashMissed_supervised hs)
  case lost => exact fun s hs hp => runs_onChip hp rfl (twinLost_supervised hs)
  case hung => exact fun s hh hu hp => runsTo_onSkein hp rfl (hungTwin_released hh hu)
  case mode => exact fun s h m ht hp => runsTo_onSkein hp rfl (blMsg_taken (w := s.work) ht)
  case leave => exact fun s h v ht hpair hp => runsTo_onSkein hp rfl (leaveIn_paired (w := s.work) ht hpair)
  case noted => exact fun s h ht hpair hw hp => runsTo_onSkein hp rfl (detachReq_noted (w := s.work) ht hpair hw)
  case attaching => exact fun s h ht hpair hp => runsTo_onSkein hp rfl (detachReq_attaching (w := s.work) ht hpair)
  case answered => exact fun s h ht hpair hw hp => runsTo_onSkein hp rfl (detachReq_answered (w := s.work) ht hpair hw)
  case ack => exact fun s h ht hpair hw hp => runsTo_onSkein hp rfl (detachAck_waiting (w := s.work) ht hpair hw)

/-! ### Signatures and time (R358, R359, R439) -/

/-- One to 2045 signatures are within a message's bounds. -/
theorem sigTiles_fits {sigs : List Word} (hne : sigs ≠ []) (hl : sigs.length ≤ 2045) :
    ¬ (sigs.map (·.toNat) = [] || 2045 < (sigs.map (·.toNat)).length) = true := by
  simp [hne, hl]

/-- Signatures of the twin's tiles take their places among those it has sent of the frame. -/
theorem sigTiles_kept {h : MsgHdr} {head first pfn : Nat} {sigs : List Word} {w : Work} (hne : sigs ≠ [])
    (hl : sigs.length ≤ 2045) (ht : (w.x.blTake h 2 (12 + 4 * sigs.length) false).2 = true) :
    sigTiles h head first pfn (sigs.map (·.toNat)) w = (
      let y := (w.x.blTake h 2 (12 + 4 * sigs.length) false).1
      let old := match y.bl.theirs.find? fun q => q.head = head && q.pfn = pfn with
        | some q => q.sigs
        | none => []
      let all := (old.take first) ++ (List.replicate (first - old.length) 0 ++
        (sigs.map (·.toNat) ++ old.drop (first + sigs.length)))
      Work.blPump { w with x := y.setBl fun b => { b with
        theirs := (b.theirs.filter fun q => !(q.head = head && q.pfn = pfn)) ++ [(⟨head, pfn, all, false, none⟩ : SigSet)] } }) := by
  refine (if_neg (sigTiles_fits hne hl)).trans ?_
  rw [List.length_map]
  exact blMsg_taken ht

/-- Signatures of a frame that come too late count, and the head's comparison starts afresh. -/
theorem sigLate_counts {head pfn : Nat} {x : Chip} (hm : (x.bl.mine.any fun m => m.head = head && m.pfn = pfn) = true)
    (hn : ((x.sigHead head).prev.any fun p => p.1 = pfn) = false) :
    sigLate head pfn x = (
      let z := x.sigHead head
      let y := ((x.sat BL_SIG_LATE_COUNT).raise 429).setBl fun b =>
        { b with theirs := b.theirs.filter fun t => !(t.head = head && t.pfn = pfn) }
      (y.setSigHead { z with prev := none, clean := 0, missed := z.missed + 1 }).updShadow) :=
  if_neg (by simp [hm, hn])

/-- A supervised chip sends its time probe. -/
theorem timeProbeSend_supervised {w : Work} (hs : w.x.bl.supervised = true) :
    timeProbeSend w = ({ w with x := w.x.blSend 4 1 w.x.stamp } : Work).blPump := if_pos hs

/-- An echo under supervision aligns the counters by the offset its times give. -/
theorem timeEcho_aligns {h : MsgHdr} {t u v : Stamp} {w : Work} (ht : (w.x.blTake h 4 24 false).2 = true)
    (hs : (w.x.blTake h 4 24 false).1.bl.supervised = true) :
    timeEcho h t u v w = Work.blPump (
      let d := (stampTicks t - stampTicks u) + (((w.x.blTake h 4 24 false).1.now : Int) - stampTicks v)
      { w with x := (w.x.blTake h 4 24 false).1.theta (if (w.x.blTake h 4 24 false).1.follow then d / 2 else -d / 2) }) := by
  simp only [timeEcho, blMsg_taken ht, Work.on, hs, Bool.not_true, Bool.false_eq_true, if_false]

/-- Settles O41: each message of signatures or time takes the branch of its situation. -/
theorem twinWorkCompletes : Obligations.TwinWorkCompletes := by
  unfold Obligations.TwinWorkCompletes
  refine ⟨?tiles, ?ended, ?late, ?probe, ?send, ?echo⟩
  case tiles => exact fun s h hd fst pfn sigs hne hl ht hp => runsTo_onSkein hp rfl (sigTiles_kept (w := s.work) hne hl ht)
  case ended => exact fun s h hd n pfn b g ht hp => runsTo_onSkein hp rfl (blMsg_taken (w := s.work) ht)
  case late => exact fun s hd pfn hm hn hp => runs_onChip hp rfl (sigLate_counts hm hn)
  case probe => exact fun s h t ht hp => runsTo_onSkein hp rfl (blMsg_taken (w := s.work) ht)
  case send => exact fun s hs hp => runsTo_onSkein hp rfl (timeProbeSend_supervised hs)
  case echo => exact fun s h t u v ht hs hp => runsTo_onSkein hp rfl (timeEcho_aligns (w := s.work) ht hs)

end Sys2Proof.Machine
end

section
/-!
SUPPORT. Check-value units (R400, R403, R407, R411): what each operand of CV_BIND has to meet at a tap that is no Skein stream, and
one rule for each opcode; the settling of CheckValueCommandsComplete.
-/
namespace Sys2Proof.Machine

/-! ### CV_BIND (R400, R403) -/

section
variable {c : Call} {x : Chip}

/-- The tap, polynomial and mode are in range, and the tap allows this mode and function. -/
theorem cvBind_tapRight {tap mode : Nat} (h0 : c.w 0 < 4096) (ht : tapMode tap mode = true) (ha : tapAllowed c.who tap mode = true) :
    ¬ (4096 ≤ c.w 0 || (!tapMode tap mode || !tapAllowed c.who tap mode)) = true := by
  simp [ht, ha, h0]

/-- The function is one that the caller may name and that exists. -/
theorem cvBind_fnRight (h1 : c.w 1 ≤ 64) (hf : c.fn = 0 ∨ c.w 1 = c.fn) (hs : x.get FNf_STAT_STATE (c.w 1) ≠ 0) :
    ¬ (64 < c.w 1 || (c.who != 127 && (c.fn != 0 && c.w 1 != c.fn) || x.get FNf_STAT_STATE (c.w 1) = 0)) = true := by
  rcases hf with hf | hf
  · simp [h1, hf, hs]
  · rw [← hf]
    simp [h1, hs]

/-- The window lies within the head's picture; a tap without a picture has none. -/
theorem cvBind_windowRight {tap x0 y0 x1 y1 q : Nat}
    (hw : if tap < 16 then x0 < x1 ∧ y0 < y1 ∧ x1 ≤ x.get HDn_HTIME0_HACTIVE tap ∧ y1 ≤ x.get HDn_VTIME0_VACTIVE tap else q = 0) :
    ¬ (if tap < 16 then
        decide (x1 ≤ x0) || (decide (y1 ≤ y0) || (decide (x.get HDn_HTIME0_HACTIVE tap < x1) ||
          decide (x.get HDn_VTIME0_VACTIVE tap < y1)))
      else q != 0) = true := by
  by_cases ht : tap < 16
  · rw [if_pos ht] at hw ⊢
    simpa using hw
  · rw [if_neg ht] at hw ⊢
    simp [hw]

/-- The free unit found, the tap has room for another check value in mode 0. -/
theorem cvBind_room {tap : Nat} (hn : (x.tapUnits tap).length < 2) :
    ¬ (2 ≤ (x.tapUnits tap).length || (0 != 0 && (x.tapUnits tap).any fun v => x.get CVn_CFG_MODE v != 0)) = true := by
  simp [hn]

/-- A unit bound in mode 0, with no result handle, to a tap that is no stream. -/
def Chip.cvBound (x : Chip) (c : Call) (u : Nat) : Chip :=
  (((((((((((((((((x.set CVn_CFG_TAP (bits (c.w 0) 0 6) u).set CVn_CFG_POLY (bits (c.w 0) 6 2) u).set CVn_CFG_MODE 0 u).flag
    CVn_CFG_CHAIN (bitAt (c.w 0) 10) u).flag CVn_CFG_NOTICE (bitAt (c.w 0) 11) u).flag CVn_CFG_BOUND true u).set
    CVn_CFG_FUNC (c.w 1) u).set CVn_SEL_STREAM 0 u).set CVn_SEL_COPYFN (if 60 ≤ bits (c.w 0) 0 6 then c.w 1 else 0) u).set
    CVn_SEL_K 0 u).set CVn_WIN0_XY (c.w 3) u).set CVn_WIN1_XY (c.w 4) u).set CVn_RES_LO_HANDLE (c.w 5) u).set
    CVn_RES_HI_HANDLE (c.w 6) u).flag CVn_CFG_WORLD false u).set CVn_RUN_VALUE (polyOf (bits (c.w 0) 6 2)).init u).setCv u
    fun t => { t with binder := c.who, running := false, spoiled := false })

/-- CV_BIND by the normal world with right operands binds the first free unit and answers its number. -/
theorem cvBind_binds {u : Nat} (hd : x.dispatchedCall opCvBind c = true) (hw : c.world = false) (h0 : c.w 0 < 4096)
    (hm : bits (c.w 0) 8 2 = 0) (ht : tapMode (bits (c.w 0) 0 6) 0 = true) (ha : tapAllowed c.who (bits (c.w 0) 0 6) 0 = true)
    (h1 : c.w 1 ≤ 64) (hf : c.fn = 0 ∨ c.w 1 = c.fn) (hst : x.get FNf_STAT_STATE (c.w 1) ≠ 0)
    (hs : tapIsStream (bits (c.w 0) 0 6) = false) (h2 : c.w 2 = 0)
    (hwin : if bits (c.w 0) 0 6 < 16 then bits (c.w 3) 0 16 < bits (c.w 4) 0 16 ∧ bits (c.w 3) 16 16 < bits (c.w 4) 16 16 ∧
        bits (c.w 4) 0 16 ≤ x.get HDn_HTIME0_HACTIVE (bits (c.w 0) 0 6) ∧
        bits (c.w 4) 16 16 ≤ x.get HDn_VTIME0_VACTIVE (bits (c.w 0) 0 6) else c.q 3 = 0)
    (h5 : c.q 5 = 0) (h7 : c.w 7 = 0) (hfree : (List.range 24).find? (fun u => !x.on CVn_CFG_BOUND u) = some u)
    (hn : (x.tapUnits (bits (c.w 0) 0 6)).length < 2) :
    cvBind c x = (x.cvBound c u).ok opCvBind c [u] := by
  refine (Chip.perform_dispatched hd _).trans ?_
  dsimp only
  rw [hm, if_neg (cvBind_tapRight h0 ht ha), if_neg (cvBind_fnRight h1 hf hst), hs, if_neg (by simp [h2]),
    if_neg (cvBind_windowRight hwin), h5, h7, if_neg (by simp), if_neg (by simp), if_neg (by simp), hfree]
  dsimp only
  rw [if_neg (cvBind_room hn), hw]
  rfl

end

/-! ### The other opcodes (R407) -/

section
variable {c : Call} {x : Chip}

/-- CV_READ answers a unit's final value, its count and the time of its last data unit. -/
theorem cvRead_final {u : Nat} (hd : x.dispatchedCall opCvRead c = true) (hu : u < 24) (h0 : c.w 0 = u)
    (hn : x.cvNamed c.who u = true) :
    cvRead c x = x.ok opCvRead c [x.get CVn_FINAL_VALUE u, x.get CVn_COUNT_COUNT u, (x.cvUnit u).sec, (x.cvUnit u).tick] := by
  have hb : bits u 0 5 = u := by unfold bits; omega
  have h8 : bitAt u 8 = false := decide_eq_false (by unfold bits; omega)
  refine (Chip.perform_dispatched hd _).trans ?_
  simp only [h0, hb, h8, hn, bne_self_eq_false, Bool.false_and, Bool.not_true, Bool.or_self, Bool.false_eq_true, if_false]

/-- With bit 8 it answers the running value instead. -/
theorem cvRead_running {u : Nat} (hd : x.dispatchedCall opCvRead c = true) (hu : u < 24) (h0 : c.w 0 = u + 256)
    (hn : x.cvNamed c.who u = true) :
    cvRead c x = x.ok opCvRead c [x.get CVn_RUN_VALUE u, x.get CVn_COUNT_COUNT u, (x.cvUnit u).sec, (x.cvUnit u).tick] := by
  have hb : bits (u + 256) 0 5 = u := by unfold bits; omega
  have h8 : bitAt (u + 256) 8 = true := decide_eq_true (by unfold bits; omega)
  refine (Chip.perform_dispatched hd _).trans ?_
  simp only [h0, hb, h8, hn, bne_self_eq_false, Bool.and_false, Bool.not_true, Bool.or_self, Bool.false_eq_true, if_false, if_true]

/-- CV_WRITE sets a unit's running value. -/
theorem cvWrite_sets (hd : x.dispatchedCall opCvWrite c = true) (hn : x.cvNamed c.who (c.w 0) = true)
    (hm : x.get CVn_CFG_MODE (c.w 0) = 0) (h1 : c.w 1 < 2 ^ (x.cvPoly (c.w 0)).width) :
    cvWrite c x = ((x.set CVn_RUN_VALUE (c.w 1) (c.w 0)).setCv (c.w 0) fun t =>
      { t with running := t.running || x.cvOpen (c.w 0) }).ok opCvWrite c [] := by
  refine (Chip.perform_dispatched hd _).trans ?_
  simp only [hn, hm, Nat.not_le.2 h1, bne_self_eq_false, Bool.not_true, Bool.or_self, Bool.false_eq_true, if_false]

/-- CV_RELEASE frees a unit of mode 0. -/
theorem cvRelease_frees (hd : x.dispatchedCall opCvRelease c = true) (hn : x.cvNamed c.who (c.w 0) = true)
    (hm : x.get CVn_CFG_MODE (c.w 0) = 0) : cvRelease c x = (x.cvReleaseUnit (c.w 0)).ok opCvRelease c [] := by
  refine (Chip.perform_dispatched hd _).trans ?_
  simp only [hn, hm, bne_self_eq_false, Bool.not_true, Bool.false_and, Bool.false_eq_true, if_false]

end

/-! ### The end of a data unit (R411) -/

/-- At the end of a picture the window of a bound unit is fed to it, and its value becomes final. -/
theorem cvDataUnitEnd_final {u : Nat} {errs : List PathErr} {x : Chip} (ht : x.get CVn_CFG_TAP u < 16)
    (hs : x.scanning (x.get CVn_CFG_TAP u) = true) (hb : x.on CVn_CFG_BOUND u = true) (hr : (x.cvUnit u).inReset = false)
    (hp : (x.cvUnit u).spoiled = false) :
    cvDataUnitEnd u errs x =
      (x.cvFeed u (arrived errs (x.windowBytes (x.get CVn_CFG_TAP u) (x.get CVn_WIN0_XY u) (x.get CVn_WIN1_XY u)))).cvFinal u := by
  simp only [cvDataUnitEnd, cvUnitEnd, hs, hb, hr, hp, Nat.not_le.2 ht, decide_false, Bool.not_true, Bool.or_self,
    Bool.false_eq_true, if_false]

/-- Settles O7: each opcode takes the branch of right operands, and a data unit's end that of a bound unit. That the whole window
arrives at the end of the picture, with its path errors, is the model's choice (log rows 115 and 144). -/
theorem checkValueCommandsComplete : Obligations.CheckValueCommandsComplete := by
  unfold Obligations.CheckValueCommandsComplete
  refine ⟨?bind, ?final, ?running, ?write, ?release, ?unitEnd⟩
  case bind => exact fun s c u hd hw h0 hm ht ha h1 hf hst hs h2 hwin h5 h7 hfree hn hp =>
    runs_onChip hp rfl (cvBind_binds hd hw h0 hm ht ha h1 hf hst hs h2 hwin h5 h7 hfree hn)
  case final => exact fun s c u hd hu h0 hn hp => runs_onChip hp rfl (cvRead_final hd hu h0 hn)
  case running => exact fun s c u hd hu h0 hn hp => runs_onChip hp rfl (cvRead_running hd hu h0 hn)
  case write => exact fun s c hd hn hm h1 hp => runs_onChip hp rfl (cvWrite_sets hd hn hm h1)
  case release => exact fun s c hd hn hm hp => runs_onChip hp rfl (cvRelease_frees hd hn hm)
  case unitEnd => exact fun s u errs ht hs hb hr hsp hp => runsW_onBoth hp rfl (cvDataUnitEnd_final ht hs hb hr hsp)

end Sys2Proof.Machine
end

section
/-!
SUPPORT. The time base (R430 to R442): one rule for each opcode, for reads of its page, for PPS and the trim; the settling of
TimeBaseCommandsComplete.
-/
namespace Sys2Proof.Machine

/-! ### TIME_QUERY, PPS_MODE_SET and TIME_SET (R430, R433, R435) -/

section
variable {c : Call} {x : Chip}

/-- PPS_MODE_SET of one of its 8 settings puts the time base into that mode afresh. -/
theorem ppsModeSet_sets (hd : x.dispatchedCall opPpsModeSet c = true) (h0 : c.w 0 < 8) :
    ppsModeSet c x = (
      let y := ((({ x with tb := { x.tb with f := 0, armed := none, streak := 0, lastEdge := none, parkErr := none, notice := bitAt (c.w 0) 2 } } : Chip).set
        TB_PPS_CFG_MODE (c.w 0)).flag TB_STAT_ARMED false)
      ((if y.follow then y else y.slewFreq).tbSource).ok opPpsModeSet c []) :=
  (Chip.perform_dispatched hd _).trans (if_neg (by omega))

/-- TIME_SET for the next PPS edge arms that edge with its second; its reply comes with the edge. -/
theorem timeSet_arms (hd : x.dispatchedCall opTimeSet c = true) (hf : x.follow = false) (hpps : bitAt (c.w 2) 0 = true)
    (h2 : c.w 2 < 4) :
    timeSet c x = (({ x with tb := { x.tb with armed := some (c.w 0) } } : Chip).flag TB_STAT_ARMED true).deferred opTimeSet c [] := by
  refine (Chip.perform_dispatched hd _).trans ?_
  simp only [hf, hpps, Nat.not_le.2 h2, Bool.not_true, Bool.false_and, Bool.false_eq_true, if_false, if_true]

end

/-! ### Reads of the page (R431) -/

/-- TB_TICK alone is met at its offset. -/
theorem hitsAt_tbTick : hitsAt 0x240000 0 = [⟨TB_TICK_TICK, 0, 0, 0⟩] := by decide +kernel

/-- Either world may read it. -/
theorem Writer.violates_tbTick (core world : Bool) : (⟨core, world, 0, 0x240000, 0⟩ : Writer).violates = false := by
  simp [Writer.violates, hitsAt_tbTick, TB_TICK_TICK]

/-- Its page is on outside Kennel. -/
theorem Chip.pageOff_tbTick {x : Chip} (hk : x.kennel = false) : x.pageOff 0x240000 = false := by
  simp [Chip.pageOff, hk]

/-- Its word is the tick. -/
theorem Chip.pageRead_tbTick (x : Chip) (secure : Bool) : x.pageRead secure 0x240000 = x.get TB_TICK_TICK := by
  have hword : x.wordAt secure 0x240000 = x.get TB_TICK_TICK := by
    have hread : x.fieldRead secure ⟨TB_TICK_TICK, 0, 0, 0⟩ = x.get TB_TICK_TICK := by simp [Chip.fieldRead, TB_TICK_TICK, Hit.n]
    simp [Chip.wordAt, hitsAt_tbTick, hread]
  simpa [Chip.pageRead] using hword

section
variable {r : RegRead} {x : Chip} (hp : x.present 0 = true) (hfn : (if r.core then 0 else r.fn.val) = 0) (hs : r.space = .bar0)
  (hz : r.size = 4)
include hp hfn hs hz

/-- An aligned word of function 0's window is read as its pages give it. -/
theorem tbTickRead_window (ha : r.addr.toNat % 4 = 0) :
    tbTickRead r x = (
      let y := x.windowRead ⟨r.core, r.world, 0, r.addr.toNat, 0⟩
      y.1.emit (.regRead r.addr.toNat y.2)) := by
  have hsize : r.size.val = 4 := congrArg Fin.val hz
  have e : x.readReg r = x.windowRead ⟨r.core, r.world, 0, r.addr.toNat, 0⟩ := by
    simp [Chip.readReg, hfn, hs, hsize, ha]
  simp only [tbTickRead, hfn, hp, e, Bool.not_true, Bool.false_eq_true, if_false]

/-- A read of another register latches nothing. -/
theorem tbTickRead_other (ha : r.addr.toNat % 4 = 0) (hne : r.addr.toNat ≠ 0x240000) (ho : x.pageOff r.addr.toNat = false)
    (hv : (⟨r.core, r.world, 0, r.addr.toNat, 0⟩ : Writer).violates = false) :
    tbTickRead r x = x.emit (.regRead r.addr.toNat (x.pageRead (r.core && r.world) r.addr.toNat)) := by
  have hne' : r.addr.toNat ≠ TB_TICK_TICK.base + TB_TICK_TICK.off := hne
  rw [tbTickRead_window hp hfn hs hz ha]
  simp only [Chip.windowRead, ho, hv, hne', Bool.false_eq_true, if_false]
  rfl

/-- A read of TB_TICK latches the second. -/
theorem tbTickRead_tick (ha : r.addr = 0x240000) (hk : x.kennel = false) :
    tbTickRead r x = (x.set TB_SEC_LAT_SEC (x.get TB_SEC_SEC)).emit (.regRead 0x240000 (x.get TB_TICK_TICK)) := by
  have haddr : r.addr.toNat = 0x240000 := by rw [ha]; rfl
  have hlat : (0x240000 : Nat) = TB_TICK_TICK.base + TB_TICK_TICK.off := rfl
  rw [tbTickRead_window hp hfn hs hz (by rw [haddr]), haddr]
  simp only [Chip.windowRead, Chip.pageOff_tbTick hk, Writer.violates_tbTick, Bool.false_eq_true, if_false, if_pos hlat,
    Chip.pageRead_tbTick]

end

/-! ### PPS edges and the trim (R434, R437, R442) -/

/-- A PPS edge within half a second of the last is a glitch. -/
theorem ppsInEdge_glitch {rising : Bool} {l : Nat} {x : Chip} (hm : x.get TB_PPS_CFG_MODE ≠ 0) (he : rising ≠ x.on TB_PPS_CFG_EDGE)
    (hl : x.tb.lastEdge = some l) (hh : ((x.up - l : Nat) : Int) < halfSec) :
    ppsInEdge rising x = (x.sat TB_PPS_GLITCH_COUNT).raise 481 := by
  simp only [ppsInEdge, he, hm, hl, hh, decide_false, decide_true, Bool.or_self, Bool.false_eq_true, if_false, if_true]

/-- In Follow a missing PPS is noted and raised, and nothing else of the time base changes but its source. -/
theorem ppsTimeout_follow {x : Chip} (ho : x.on TB_STAT_PPS_OK = true)
    (hf : ((x.flag TB_STAT_PPS_OK false).raise 482).follow = true) :
    ppsTimeout x = ((x.flag TB_STAT_PPS_OK false).raise 482).tbSource := by
  simp only [ppsTimeout, ho, hf, Bool.not_true, Bool.false_and, Bool.false_eq_true, if_false, if_true]

/-- A positive trim adds a tick to a cycle. -/
theorem trimAdjust_adds {x : Chip} (hs : x.tb.stopped = false) (ht : 0 < toS 32 (x.get TB_TRIM_TPS)) :
    trimAdjust x = (
      let y := x.setNow (x.now + (x.cycle + 1))
      { y with tb := { y.tb with adj := y.tb.adj + 1 } }.pass) := by
  simp only [trimAdjust, hs, ht, ht.ne', decide_false, Bool.or_self, Bool.false_eq_true, if_false, if_true]

/-- Settles O8: each command takes the branch of its situation. What a read of another register of the page answers is the model's
choice (log row 14). -/
theorem timeBaseCommandsComplete : Obligations.TimeBaseCommandsComplete := by
  unfold Obligations.TimeBaseCommandsComplete
  refine ⟨?query, ?mode, ?set, ?other, ?tick, ?edge, ?timeout, ?trim⟩
  case query => exact fun s c hd hp => runs_onChip hp rfl (Chip.perform_dispatched hd _)
  case mode => exact fun s c hd h0 hp => runs_onChip hp rfl (ppsModeSet_sets hd h0)
  case set => exact fun s c hd hf hpps h2 hp => runs_onChip hp rfl (timeSet_arms hd hf hpps h2)
  case other => exact fun s r hpr hfn hs hz ha hne ho hv hp => runs_onChip hp rfl (tbTickRead_other hpr hfn hs hz ha hne ho hv)
  case tick => exact fun s r hpr hfn hs hz ha hk hp => runs_onChip hp rfl (tbTickRead_tick hpr hfn hs hz ha hk)
  case edge => exact fun s rising l hm he hl hh => runs_onAon rfl (ppsInEdge_glitch hm he hl hh)
  case timeout => exact fun s ho hf => runs_onAon rfl (ppsTimeout_follow ho hf)
  case trim => exact fun s hs ht => runs_onAon rfl (trimAdjust_adds hs ht)

end Sys2Proof.Machine
end

section
/-!
SUPPORT. Roles, the journal and the keys (R469 to R485): one rule for the branch that each opcode takes; the settling of
RoleCommandsComplete.
-/
namespace Sys2Proof.Machine

/-! ### CLAIM_ROLE (R469, R470) -/

section
variable {c : Call} {x : Chip} (hd : x.dispatchedCall opClaimRole c = true) (hm : x.claimMode (bits (c.w 0) 0 2) = false)
  (h0 : bits (c.w 0) 0 2 ≠ 0) (h3 : bits (c.w 0) 0 2 ≠ 3) (hl : x.on RJ_SESSION_LOCKOUT = false)
include hd hm h0 h3 hl

/-- The first step of a claim answers a challenge, which holds until the second. -/
theorem claimRole_challenges (h8 : bitAt (c.w 0) 8 = false) (hn : c.words.length = 1)
    (hk : (x.roleKey (bits (c.w 0) 0 2)).isNone = false) :
    claimRole c x = (
      let chal := (List.range 4).flatMap fun i => beBytesN 8 (Config.freeValue (x.freeCtr + i)).toNat
      ({ x with freeCtr := x.freeCtr + 4, rj := { x.rj with challenge := some (chal, x.up) } } : Chip).ok opClaimRole c
        (bytesWords chal)) := by
  refine (Chip.perform_dispatched hd _).trans ?_
  simp only [hm, h0, h3, hl, h8, hn, hk, bne_self_eq_false, decide_false, Bool.or_self, Bool.not_false, Bool.false_eq_true,
    if_false, if_true]

variable {k : List Nat} {ch : List Nat × Nat}

/-- The second step spends the challenge: the right response in time opens the session, any other fails the claim. -/
theorem claimRole_responds (h8 : bitAt (c.w 0) 8 = true) (hn : c.words.length = 9) (hk : x.roleKey (bits (c.w 0) 0 2) = some k)
    (hc : x.rj.challenge = some ch) (ha : x.accessWaits = false) :
    claimRole c x = (
      let y := { x with rj := { x.rj with challenge := none } }
      if callBytes c 1 8 = claimResponse k ch.1 (bits (c.w 0) 0 2) ∧ x.up ≤ ch.2 + 30 * tps then
        (y.openSession (bits (c.w 0) 0 2)).ok opClaimRole c []
      else y.claimFails.done opClaimRole c stDeniedRole [bits (c.w 0) 0 2]) := by
  have ha' : ({ x with rj := { x.rj with challenge := none } } : Chip).accessWaits = false := ha
  have hm' : ({ x with rj := { x.rj with challenge := none } } : Chip).claimMode (bits (c.w 0) 0 2) = false := hm
  refine (Chip.perform_dispatched hd _).trans ?_
  simp only [hm, h0, h3, hl, h8, hn, hk, hc, ha', hm', Chip.claimOpen, bne_self_eq_false, decide_false, Bool.or_self,
    Bool.not_true, Bool.false_eq_true, if_false, if_true, Bool.and_eq_true, decide_eq_true_eq]

end

/-! ### RELEASE_ROLE (R473) -/

section
variable {c : Call} {x : Chip} (hd : x.dispatchedCall opReleaseRole c = true) (hr : x.get RJ_SESSION_ROLE ≠ 0)
  (ha : x.accessWaits = false)
include hd hr ha

/-- A release with the save bit saves the configuration and ends the session. -/
theorem releaseRole_saves (h0 : bitAt (c.w 0) 0 = true) :
    releaseRole c x = (x.saveCfg.endSession 1).ok opReleaseRole c [] := by
  refine (Chip.perform_dispatched hd _).trans ?_
  simp only [ha, Chip.releaseNow, hr, h0, Bool.and_false, Bool.false_eq_true, if_false, if_true]

/-- One without it ends the session alone. -/
theorem releaseRole_drops (h0 : bitAt (c.w 0) 0 = false) : releaseRole c x = (x.endSession 2).ok opReleaseRole c [] := by
  refine (Chip.perform_dispatched hd _).trans ?_
  simp only [ha, Chip.releaseNow, hr, h0, Bool.and_false, Bool.false_eq_true, if_false]

end

/-! ### The journal (R478, R483) -/

/-- The records of the journal from one number on, up to another, once it is flushed. -/
def Chip.exported (y : Chip) (first last : Nat) : List (List Nat) :=
  (y.rj.ring.filter fun q => first ≤ recSeq q.2 && recSeq q.2 < last).map (·.2)

/-- JOURNAL_EXPORT without verification stores the records it names and answers how many they are and which is the first. -/
theorem journalExport_stores {c : Call} {x : Chip} (hd : x.dispatchedCall opJournalExport c = true) (h1 : 0 < c.w 1)
    (h1' : c.w 1 ≤ 4096) (ho : (x.ownRange c.fn (c.q 2) (64 * c.w 1) [0]).isNone = false) (h4 : bitAt (c.w 4) 0 = false) :
    journalExport c x = (
      let y := journalFlush x
      let first := max (c.w 0) (y.get RJ_JOLDEST_SEQ)
      let recs := y.exported first (c.w 0 + c.w 1)
      (y.ok opJournalExport c [recs.length, first, 0xFFFFFFFF], storeBytes y (c.q 2) recs.flatten)) := by
  refine (Chip.performM_dispatched hd _).trans ?_
  simp only [h1.ne', Nat.not_lt.2 h1', ho, h4, decide_false, Bool.or_self, Bool.false_eq_true, if_false]
  rfl

/-- A flush with nothing lost writes out what is buffered. -/
theorem journalFlush_drains {x : Chip} (hf : x.canFlush = true) (hg : x.drainJournal.rj.gap = 0) :
    journalFlush x = x.drainJournal := by
  simp only [journalFlush, hf, hg, Bool.not_true, Bool.false_eq_true, if_false, if_true]

/-! ### The keys (R470, R483) -/

/-- INSTALLER_KEY_SET clears the installer's key. -/
theorem installerKeySet_clears {c : Call} {x : Chip} (hd : x.dispatchedCall opInstallerKeySet c = true) (h0 : bitAt (c.w 0) 0 = true) :
    installerKeySet c x = (x.commitKeys fun n => { n with installer := none }).ok opInstallerKeySet c [] :=
  (Chip.perform_dispatched hd _).trans (if_pos h0)

/-- Or it sets the key that the maker's key unwraps. -/
theorem installerKeySet_sets {c : Call} {x : Chip} {k : List Nat} (hd : x.dispatchedCall opInstallerKeySet c = true)
    (h0 : bitAt (c.w 0) 0 = false) (hk : keyUnwrap x.makerKey (callBytes c 1 10) = some k) :
    installerKeySet c x = (x.commitKeys fun n => { n with installer := some k }).ok opInstallerKeySet c [] := by
  refine (Chip.perform_dispatched hd _).trans ?_
  simp only [h0, hk, Bool.false_eq_true, if_false]

/-- ROLE_KEY_SET sets the maker's key that the present one unwraps, once the journal is flushed under the present one. -/
theorem roleKeySet_sets {c : Call} {x : Chip} {k : List Nat} (hd : x.dispatchedCall opRoleKeySet c = true)
    (hk : keyUnwrap x.makerKey (callBytes c 0 10) = some k) :
    roleKeySet c x = (journalFlush (x.ok opRoleKeySet c [])).commitKeys fun n => { n with maker := some k } := by
  refine (Chip.perform_dispatched hd _).trans ?_
  simp only [hk]

/-- Settles O29: each opcode takes the branch of its situation. -/
theorem roleCommandsComplete : Obligations.RoleCommandsComplete := by
  unfold Obligations.RoleCommandsComplete
  refine ⟨?challenge, ?respond, ?save, ?drop, ?query, ?exportRecords, ?clearKey, ?setKey, ?makerKey, ?twinHash, ?safety, ?idle,
    ?lockout, ?flush⟩
  case challenge => exact fun s c hd hm h0 h3 h8 hn hl hk hp => runs_onChip hp rfl (claimRole_challenges hd hm h0 h3 hl h8 hn hk)
  case respond =>
    intro s c k ch hd hm h0 h3 h8 hn hl hk hc ha hp
    exact runs_onChip hp rfl (claimRole_responds hd hm h0 h3 hl h8 hn hk hc ha)
  case save => exact fun s c hd hr h0 ha hp => runs_onChip hp rfl (releaseRole_saves hd hr ha h0)
  case drop => exact fun s c hd hr h0 ha hp => runs_onChip hp rfl (releaseRole_drops hd hr ha h0)
  case query => exact fun s c hd hp => runs_onChip hp rfl (Chip.perform_dispatched hd _)
  case exportRecords => exact fun s c hd h1 h1' ho h4 hp => runsW_onBoth hp rfl (journalExport_stores hd h1 h1' ho h4)
  case clearKey => exact fun s c hd h0 hp => runs_onChip hp rfl (installerKeySet_clears hd h0)
  case setKey => exact fun s c k hd h0 hk hp => runs_onChip hp rfl (installerKeySet_sets hd h0 hk)
  case makerKey => exact fun s c k hd hk hp => runs_onChip hp rfl (roleKeySet_sets hd hk)
  case twinHash => exact fun s c hd hp => runs_onChip hp rfl (Chip.perform_dispatched hd _)
  case safety => exact fun s c hd hp => runs_onChip hp rfl (Chip.perform_dispatched hd _)
  case idle => exact fun s hp => runs_onChip (f := sessionIdleTimeout) hp rfl rfl
  case lockout => exact fun s => runs_onAon (f := lockoutEnd) rfl rfl
  case flush => exact fun s hf hg hp => runs_onChip hp rfl (journalFlush_drains hf hg)

end Sys2Proof.Machine
end

section
/-!
SUPPORT. The secure world (R444 to R463): one rule for the branch that each opcode and event takes; the settling of
SecureCommandsComplete and SecureEventsComplete.
-/
namespace Sys2Proof.Machine

/-! ### SECURE_RELEASE (R452) -/

/-- A check-value unit is no head's, so its release puts none out of use. -/
theorem Chip.releaseHeads_cv (x : Chip) (inst : Nat) : x.releaseHeads 7 inst = [] := rfl

/-- SECURE_RELEASE of a check-value unit in use frees it, and is answered once it is out of use. -/
theorem secureRelease_cv {c : Call} {mem : List Host.Cell} {x : Chip} (hd : x.dispatchedCall opSecureRelease c = true)
    (hk : bits (c.w 0) 0 4 = 7) (hn : bits (c.w 0) 8 8 < kindCount 7) (hw : (c.w 0 != 7 + 256 * bits (c.w 0) 8 8) = false)
    (hu : x.inUse 7 (bits (c.w 0) 8 8) = true) :
    secureRelease c mem x = (
      let y := x.cvReleaseUnit (bits (c.w 0) 8 8)
      Chip.releaseCheck { y with sw := { y.sw with rel := y.sw.rel ++ [(c, 7, bits (c.w 0) 8 8)] } }) := by
  refine (Chip.perform_dispatched hd _).trans ?_
  simp only [hk, Nat.not_le.2 hn, hw, hu, Chip.releaseHeads_cv, List.any_nil, decide_false, Bool.or_self, Bool.not_true,
    Bool.false_eq_true, if_false]

/-! ### PROT_LAYER_LOAD (R454, R455) -/

/-- What PROT_LAYER_LOAD leaves: the record's pages are allocated, its sequence number kept, its layer queued and its windows set. -/
def Chip.protLoaded (x : Chip) (mem : List Host.Cell) (c : Call) (u i : Nat) : Chip :=
  let bs := readBytes mem x (c.q 1) (c.w 3)
  let e := x.protEntry i (c.w 3)
  let y := { (x.setEntry e).took with sw := { x.sw with alloc := x.sw.alloc ++ [(c.w 0, i)] } }
  let y := (y.set SW_PSEQn_SEQ (fieldLe bs 8 4) (c.w 0)).queueUnit (writeCells mem (storeBytes y (handleOf e) bs)) u 128
    (.prot (recordLayer bs (handleOf e + 0x80)))
  (y.recordWindows (c.w 0) bs).deferred opProtLayerLoad c [y.get CP_CHANGE_NUM]

section
variable {c : Call} {mem : List Host.Cell} {x : Chip} {u i : Nat} {k : Nat × List Nat} {bs : List Nat}
  (hd : x.dispatchedCall opProtLayerLoad c = true) (h0 : c.w 0 < 16) (hr : x.on HDn_STAT_RUN (c.w 0) = true)
  (hg : x.on CP_HEADn_CFG_PROT (c.w 0) = true) (hu : x.protUnit (c.w 0) = some u) (hbs : readBytes mem x (c.q 1) (c.w 3) = bs)
include hd h0 hr hg hu hbs

/-- PROT_LAYER_LOAD of a record that is the caller's, whole, signed, newer and fitting, with room for it, loads it. -/
theorem protLayerLoad_loads (ho1 : (x.ownRange c.fn (c.q 1) 1 [0, 3]).isNone = false) (h3 : 192 ≤ c.w 3)
    (ho : (x.ownRange c.fn (c.q 1) (c.w 3) [0, 3]).isNone = false) (hok : recordOk bs = true)
    (hk : (x.nv.prot.find? fun q => q.1 = fieldLe bs 4 1) = some k)
    (hsig : ecdsaOk k.2 (bs.drop (c.w 3 - 64)) (bs.take (c.w 3 - 64)) = true)
    (hseq : x.get SW_PSEQn_SEQ (c.w 0) < fieldLe bs 8 4) (hfit : x.recordFits (c.w 0) (recordLayer bs 0) = true)
    (hmiss : (x.missing (c.w 0) u (lyBytes2 (recordLayer bs 0)) != 0) = false) (hi : x.freeIndex = some i)
    (hmib : ceilDiv (c.w 3) 1048576 ≤ x.get HB_FREE_MIB_MIB) (hq : (x.unitQueue u).length < 4) :
    protLayerLoad c mem x = (
      let y := x.protLoaded mem c u i
      (y, storeBytes y (handleOf (x.protEntry i (c.w 3))) bs)) := by
  have hlen : ¬ c.w 3 < 0x80 + 64 := by omega
  have hsel : (if c.w 0 < 16 && (x.on HDn_STAT_RUN (c.w 0) && x.on CP_HEADn_CFG_PROT (c.w 0)) then x.protUnit (c.w 0) else none) =
      some u := by simp [h0, hr, hg, hu]
  refine (Chip.performM_dispatched hd _).trans ?_
  subst hbs
  simp only [hsel, ho1, ho, hlen, hok, hk, hsig, Nat.not_le.2 hseq, hfit, hmiss, hi, Nat.not_lt.2 hmib, Nat.not_le.2 hq,
    Bool.not_true, decide_false, Bool.or_self, Bool.false_eq_true, if_false]
  rfl

end

/-! ### The other opcodes (R456, R459) -/

section
variable {c : Call} {x : Chip}

/-- PROT_KEY_SET with bit 8 takes a slot's key away. -/
theorem protKeySet_clears (hd : x.dispatchedCall opProtKeySet c = true)
    (hw : (c.w 0 != bits (c.w 0) 0 2 + 256 * bits (c.w 0) 8 1) = false) (h8 : bitAt (c.w 0) 8 = true) :
    protKeySet c x = (x.commitKeys fun n => { n with prot := n.prot.filter fun k => k.1 != bits (c.w 0) 0 2 }).ok opProtKeySet c [] := by
  refine (Chip.perform_dispatched hd _).trans ?_
  simp only [hw, h8, Bool.false_eq_true, if_false, if_true]

/-- Without it, a key on the curve takes the slot. -/
theorem protKeySet_sets (hd : x.dispatchedCall opProtKeySet c = true)
    (hw : (c.w 0 != bits (c.w 0) 0 2 + 256 * bits (c.w 0) 8 1) = false) (h8 : bitAt (c.w 0) 8 = false)
    (hc : onCurve (beWord ((callBytes c 1 16).take 32)) (beWord ((callBytes c 1 16).drop 32)) = true) :
    protKeySet c x = (x.commitKeys fun n => { n with
      prot := (n.prot.filter fun k => k.1 != bits (c.w 0) 0 2) ++ [(bits (c.w 0) 0 2, callBytes c 1 16)] }).ok opProtKeySet c [] := by
  refine (Chip.perform_dispatched hd _).trans ?_
  simp only [hw, h8, hc, Bool.not_true, Bool.false_eq_true, if_false]

/-- STALE_LIMIT_SET takes limits in range for the next change. -/
theorem staleLimitSet_takes (hd : x.dispatchedCall opStaleLimitSet c = true) (h0 : c.w 0 ≤ 500) (h1 : c.w 1 ≤ 2) (h3 : c.w 3 ≤ 65535) :
    staleLimitSet c x = ({ x with sw := { x.sw with next := [c.w 0, c.w 1, c.w 2, c.w 3] } } : Chip).ok opStaleLimitSet c [] := by
  refine (Chip.perform_dispatched hd _).trans ?_
  simp only [Nat.not_lt.2 h0, Nat.not_lt.2 h1, Nat.not_lt.2 h3, if_false]

end

/-- Settles O30: each opcode takes the branch of right operands. -/
theorem secureCommandsComplete : Obligations.SecureCommandsComplete := by
  unfold Obligations.SecureCommandsComplete
  refine ⟨?release, ?load, ?clearKey, ?setKey, ?limits, ?restart⟩
  case release => exact fun s c hd hk hn hw hu hp => runs_onChipM hp rfl (secureRelease_cv hd hk hn hw hu)
  case load =>
    intro s c u i k hd h0 hr hg hu ho1 h3 ho hok hk hsig hseq hfit hmiss hi hmib hq hp
    exact runsW_onBoth hp rfl (protLayerLoad_loads hd h0 hr hg hu rfl ho1 h3 ho hok hk hsig hseq hfit hmiss hi hmib hq)
  case clearKey => exact fun s c hd hw h8 hp => runs_onChip hp rfl (protKeySet_clears hd hw h8)
  case setKey => exact fun s c hd hw h8 hc hp => runs_onChip hp rfl (protKeySet_sets hd hw h8 hc)
  case limits => exact fun s c hd h0 h1 h3 hp => runs_onChip hp rfl (staleLimitSet_takes hd h0 h1 h3)
  case restart => exact fun s c hd hp => runs_onChip hp rfl (Chip.perform_dispatched hd _)

/-! ### Gates (R444 to R447) -/

section
variable {x : Chip} {core : Nat}

/-- A gate through a valid entry of the locked table takes the pair into the secure world. -/
theorem gate_enters {index marker : Nat} (ret : Nat) (hs : x.pairSecure (pairOf core) = false) (hu : x.on GL_SEC_UP = true)
    (hi : index ≤ 31) (hl : x.on SW_CTL_ENTRY_LOCK = true) (hv : x.on SW_ENTRYe_LO_VALID index = true) (hm : marker = 0xA5C30E7B) :
    gate core index marker ret x = x.enterSecure (pairOf core) index ret := by
  simp only [gate, hs, hu, Nat.not_lt.2 hi, hl, hv, hm, bne_self_eq_false, decide_false, Bool.not_true, Bool.or_self,
    Bool.false_eq_true, if_false]

/-- While the secure world is down a gate answers so. -/
theorem gate_down (index marker ret : Nat) (hs : x.pairSecure (pairOf core) = false) (hu : x.on GL_SEC_UP = false) :
    gate core index marker ret x =
      { x with sw := { x.sw with result := sparseSet x.sw.result (pairOf core) stSecureDown 0 } } := by
  simp only [gate, hs, hu, Bool.not_false, Bool.false_eq_true, if_false, if_true]

/-- A return takes the pair to where it came from, with its registers cleared. -/
theorem gateRet_leaves (hs : x.pairSecure (pairOf core) = true) (hc : x.sw.cleared.contains (pairOf core) = false) :
    gateRet core x = { x with sw := { x.sw with
      pairs := updAt x.sw.pairs (pairOf core) (fun q => (false, q.2)), cleared := x.sw.cleared ++ [pairOf core]
      goes := sparseSet x.sw.goes (pairOf core) (x.sw.pairs.getD (pairOf core) (false, 0)).2 0 } } := by
  simp only [gateRet, hs, hc, Bool.not_true, Bool.false_eq_true, if_false]

end

/-! ### The watchdog, a halt and a restart (R457, R462) -/

/-- A secure world whose watchdog runs out goes down. -/
theorem secureWdogExpiry_up {x : Chip} (hu : x.on GL_SEC_UP = true) (hw : x.sw.wdog.isSome = true) :
    secureWdogExpiry x = x.secureDown 14 none := if_pos (by simp [hu, hw])

/-- What a start of the secure world makes of the chip, but for the answer to a SECURE_RESTART. -/
def Chip.secureStarted (x : Chip) (mem : List Host.Cell) : Chip :=
  let y := (((x.flag GL_SEC_UP true).flag GL_SEC_RESTARTING false).flag GL_SAFE_START false).raise 505
  let y := { y with sw := { y.sw with wdog := some x.up, restart := none, removed := [] } }
  let y := (y.updSafe.requeueProt mem).onlyIf (y.get RB_STAT_PHASE < 5) fun z => z.set RB_STAT_PHASE 5
  y.onlyIf y.secureWaits Chip.secureEnter

section
variable {mem : List Host.Cell} {x : Chip} (hu : x.on GL_SEC_UP = false) (hh : x.on GL_SEC_HALTED = false) (hk : x.kennel = false)
include hu hh hk

/-- A start that no restart asked for is answered to no one. -/
theorem secureComesUp_unasked (hr : x.sw.restart = none) : secureComesUp mem x = x.secureStarted mem := by
  simp only [secureComesUp, hu, hh, hk, hr, Bool.or_self, Bool.false_eq_true, if_false]
  rfl

/-- One that a SECURE_RESTART asked for answers it with the time it took. -/
theorem secureComesUp_asked {c : Call} {t : Nat} (hr : x.sw.restart = some (some c, t)) :
    secureComesUp mem x = (x.secureStarted mem).ok opSecureRestart c [(x.up - t) / tpms] := by
  simp only [secureComesUp, hu, hh, hk, hr, Bool.or_self, Bool.false_eq_true, if_false]
  rfl

end

/-- Settles O31: each event takes the branch of its situation. -/
theorem secureEventsComplete : Obligations.SecureEventsComplete := by
  unfold Obligations.SecureEventsComplete
  refine ⟨?gate, ?down, ?ret, ?lock, ?kick, ?expiry, ?halt, ?timeout, ?unasked, ?asked⟩
  case gate => exact fun s n i m r hs hu hi hl hv hm hp => runs_onChip hp rfl (gate_enters r.toNat hs hu hi hl hv hm)
  case down => exact fun s n i m r hs hu hp => runs_onChip hp rfl (gate_down i.toNat m.toNat r.toNat hs hu)
  case ret => exact fun s n hs hc hp => runs_onChip hp rfl (gateRet_leaves hs hc)
  case lock => exact fun s hp => runs_onChip (f := entryLockSet) hp rfl rfl
  case kick => exact fun s hw hp => runs_onChip (f := swWdogKick) hp rfl (if_pos hw)
  case expiry => exact fun s hu hw hp => runs_onChip hp rfl (secureWdogExpiry_up hu hw)
  case halt => exact fun s hu hp => runs_onChip (f := secureHalt) hp rfl (if_pos hu)
  case timeout => exact fun s hr hp => runs_onChip (f := secureRestartTimeout) hp rfl (if_pos hr)
  case unasked => exact fun s hu hh hk hr hp => runs_onChipM hp rfl (secureComesUp_unasked hu hh hk hr)
  case asked => exact fun s c t hu hh hk hr hp => runs_onChipM hp rfl (secureComesUp_asked hu hh hk hr)

end Sys2Proof.Machine
end

section
/-!
SUPPORT. The event controller (R557 to R567): one rule for the branch that each command takes; the settling of
EventCommandsComplete.
-/
namespace Sys2Proof.Machine

/-- Outside Kennel and Park a raise is delivered. -/
theorem eventRaise_delivers {r : Raise} {x : Chip} (hk : x.kennel = false) (hm : x.get GL_MODE_POWER ≠ 3) :
    eventRaise r x = ({ x with ev := { x.ev with raised := dropFirst x.ev.raised fun q => q = r } } : Chip).deliver r :=
  if_neg (by simp [hk, hm])

/-- The end of a coalescing time fires a vector that has counted, while the controller is enabled. -/
theorem coalesceTimeout_fires {fn vec : Nat} {x : Chip} (hc : (x.ev.counts.any fun c => c.fn = fn && c.vec = vec) = true)
    (ht : (x.coalesce fn vec).2 ≠ 0) (he : x.on EV_CTL_EN = true) : coalesceTimeout fn vec x = x.fire fn vec := by
  simp only [coalesceTimeout, hc, bne_iff_ne.2 ht, he, Bool.and_self, if_true]

/-- Enabling the controller fires every vector that may fire. -/
theorem Chip.setEvEn_true (x : Chip) :
    x.setEvEn true = (
      let y := x.flag EV_CTL_EN true
      ((y.ev.counts.filter y.mayFire).foldl (fun (z : Chip) c => z.fire c.fn c.vec) y).updPins) := rfl

/-- Settles O21: each command takes the branch of its situation. What is raised is kept until its delivery by the model's choice
(log row 12). -/
theorem eventCommandsComplete : Obligations.EventCommandsComplete := by
  unfold Obligations.EventCommandsComplete
  refine ⟨?source, ?reply, ?coalesce, ?clear, ?enable, ?unmask, ?unmaskAll⟩
  case source => exact fun s i hk hm => runs_onAon rfl (eventRaise_delivers hk hm)
  case reply => exact fun s f hk hm => runs_onAon rfl (eventRaise_delivers hk hm)
  case coalesce => exact fun s f v hc ht he hp => runs_onChip hp rfl (coalesceTimeout_fires hc ht he)
  case clear => exact fun s k a b w hp => runs_onChip (f := evPendClear k a.toNat b.toNat w) hp rfl rfl
  case enable => exact fun s hp => runs_onChip (f := fun x => x.setEvEn true) hp rfl s.chip.setEvEn_true
  case unmask => exact fun s f v hp => runs_onChip (f := msixUnmask f (some v)) hp rfl rfl
  case unmaskAll => exact fun s f hp => runs_onChip (f := msixUnmask f none) hp rfl rfl

end Sys2Proof.Machine
end

section
/-!
SUPPORT. Firmware, recovery and fuses (R498, R502, R506 to R512): one rule for the branch that each command takes; the settling of
FirmwareCommandsComplete.
-/
namespace Sys2Proof.Machine

/-- A message that may take a reach and may store completes with what its work leaves. -/
theorem runsReachW_onReachW {i : Instr} {s : State} {f : Work → Work} {w : Work} (he : exec i s = s.onReachW f)
    (e : f s.work = w) : RunsReachW i s w := by subst e; exact he

/-! ### Slots (R507, R508) -/

/-- FW_SLOT_WRITE of an image of the caller's own writes it into the slot that is not active. -/
theorem fwSlotWrite_writes {c : Call} {mem : List Host.Cell} {x : Chip} {e : MapEntry} (hd : x.dispatchedCall opFwSlotWrite c = true)
    (hk : x.kennel = false) (hb : x.on RB_FW_BUSY = false) (he : x.ownEntry c.fn (c.q 0) = some e) (hc : e.cls = 0)
    (h2 : 256 ≤ c.w 2) (h2' : c.w 2 ≤ 33554432) (ho : (x.ownRange c.fn (c.q 0) (c.w 2) [0]).isNone = false) :
    fwSlotWrite c mem x =
      (x.setSlot (1 - x.nv.active) (readBytes mem x (c.q 0) (c.w 2))).ok opFwSlotWrite c [1 - x.nv.active] := by
  refine (Chip.perform_dispatched hd _).trans ?_
  simp only [hk, hb, he, hc, Nat.not_lt.2 h2, Nat.not_lt.2 h2', ho, decide_true, decide_false, Bool.not_true, Bool.or_self,
    Bool.false_eq_true, if_false]

/-- FW_SLOT_COMMIT of an image with nothing wrong makes that slot the active one. -/
theorem fwSlotCommit_commits {c : Call} {x : Chip} (hd : x.dispatchedCall opFwSlotCommit c = true) (hk : x.kennel = false)
    (hb : x.on RB_FW_BUSY = false) (hi : x.imgWrong (x.fwSlot (1 - x.nv.active)) = 0) :
    fwSlotCommit c x =
      x.fwCommit.ok opFwSlotCommit c [1 - x.nv.active, imgVersion (x.fwSlot (1 - x.nv.active))] := by
  refine (Chip.perform_dispatched hd _).trans ?_
  simp only [hk, hb, hi, Bool.false_eq_true, if_false]

/-! ### Recovery (R502, R512) -/

section
variable {c : Call} {x : Chip} (image : List Nat) (hd : x.dispatchedCall opRecoveryLoad c = true)
  (ho : x.on RB_STAT_OPT_FAULT = false) (hb : x.on RB_FW_BUSY = false)
include hd ho hb

/-- RECOVERY_LOAD in form 3 keeps the slots as they are. -/
theorem recoveryLoad_keeps (h0 : c.w 0 = 3) :
    recoveryLoad c image x = ((x.flag RB_STAT_KREQ false).set RB_STAT_FAILS 0).ok opRecoveryLoad c [] := by
  refine (Chip.perform_dispatched hd _).trans ?_
  simp only [ho, hb, h0, Bool.false_eq_true, if_false]
  rfl

/-- In form 0 it takes the image of the load window. -/
theorem recoveryLoad_window (h0 : c.w 0 = 0) : recoveryLoad c image x = x.recoverWith c (image.take (c.w 3)) := by
  refine (Chip.perform_dispatched hd _).trans ?_
  simp only [ho, hb, h0, Bool.false_eq_true, if_false]

/-- In form 1 it waits for an image from elsewhere. -/
theorem recoveryLoad_waits (h0 : c.w 0 = 1) :
    recoveryLoad c image x = { x.flag RB_FW_BUSY true with ld := { x.ld with bytes := [], waits := some (c, c.w 3) } } := by
  refine (Chip.perform_dispatched hd _).trans ?_
  simp only [ho, hb, h0, Bool.false_eq_true, if_false]

end

/-! ### Fuses and key hashes (R512) -/

/-- FUSE_PROGRAM of the debug lock sets it where the value programmed is not 0; that it may fail, and what it then reads, is the
model's choice (log row 106). -/
theorem fuseProgram_debugLock {c : Call} {x : Chip} (hd : x.dispatchedCall opFuseProgram c = true) (h0 : c.w 0 = 1) :
    fuseProgram c x = (
      let fails := x.free 1 = 1
      let v := if fails then x.took.free 32 else c.w 1
      let y := x.took.onlyIf fails (·.took)
      let z := { y with nv := { y.nv with debugLock := y.nv.debugLock || v != 0 } }
      if fails then (z.took).done opFuseProgram c stHwFault [z.free 9] else z.ok opFuseProgram c []) := by
  refine (Chip.perform_dispatched hd _).trans ?_
  dsimp only
  rw [h0, if_neg (by decide), if_neg (by decide), if_pos rfl]

/-- FW_KEY_HASH_SET of a number beyond those that are set keeps the hash under it. -/
theorem fwKeyHashSet_sets {c : Call} {x : Chip} (hd : x.dispatchedCall opFwKeyHashSet c = true) (h0 : c.w 0 ≤ 3)
    (hn : (x.nv.hashes.any fun h => c.w 0 ≤ h.1) = false) :
    fwKeyHashSet c x =
      ({ x with nv := { x.nv with hashes := x.nv.hashes ++ [(c.w 0, callBytes c 1 8)] } } : Chip).ok opFwKeyHashSet c [] :=
  (Chip.perform_dispatched hd _).trans (if_neg (by simp only [hn, Nat.not_lt.2 h0, decide_false, Bool.or_self, Bool.false_eq_true,
    not_false_eq_true]))

/-! ### The images of a start (R509) -/

/-- A go for a start from the load window starts the image there. -/
theorem loadGo_starts {v : Nat} {image : List Nat} {x : Chip} (hv : bitAt v 31 = true) (hb : x.ld.boot = true)
    (hs : x.get RB_STRAP_BOOT_SRC = 2) :
    loadGo v image x = (x.set RB_LOAD_LEN_BYTES (bits v 0 26)).bootImage (image.take (bits v 0 26)) := by
  simp only [loadGo, hv, hb, hs, decide_true, Bool.and_self, if_true]

/-- A confirmed chip outside supervision sends its active image to a twin that asks for one. -/
theorem bootReq_sends {h : MsgHdr} {w : Work} (ht : (w.x.blTake h 5 0 false).2 = true)
    (hc : (w.x.blTake h 5 0 false).1.on RB_STAT_CONFIRMED = true) (hs : (w.x.blTake h 5 0 false).1.bl.supervised = false) :
    bootReq h w = (
      let y := (w.x.blTake h 5 0 false).1
      let b := y.fwSlot y.nv.active
      Work.blPump { w with x := Chip.sendImage (b.length / 8184 + 1) 0 b y }) := by
  simp only [bootReq, blMsg_taken ht, Work.on, hc, hs, Bool.not_false, Bool.and_self, if_true]

/-- The next part of an image that a start from the twin waits for is added to it. -/
theorem bootData_next {h : MsgHdr} {off : Nat} {b : List Nat} {w : Work} (ht : (w.x.blTake h 5 (8 + b.length) false).2 = true)
    (hb : (w.x.blTake h 5 (8 + b.length) false).1.ld.boot = true)
    (hr : (w.x.blTake h 5 (8 + b.length) false).1.get RB_STRAP_BOOT_SRC = 3)
    (hs : (w.x.blTake h 5 (8 + b.length) false).1.bl.supervised = false)
    (ho : off = (w.x.blTake h 5 (8 + b.length) false).1.ld.bytes.length) :
    bootData h off b w = Work.blPump { w with x := (w.x.blTake h 5 (8 + b.length) false).1.moreImage b } := by
  simp only [bootData, blMsg_taken ht, Work.on, hb, hr, hs, ho, decide_true, Bool.not_false, Bool.and_self, if_true]

/-- The bytes of a message are as many as it carries. -/
theorem natBytes_length (b : List Byte) : (natBytes b).length = b.length := List.length_map ..

/-- Settles O22: each command takes the branch of its situation. -/
theorem firmwareCommandsComplete : Obligations.FirmwareCommandsComplete := by
  unfold Obligations.FirmwareCommandsComplete
  refine ⟨?write, ?commit, ?query, ?keeps, ?window, ?waits, ?fuse, ?hash, ?go, ?request, ?data⟩
  case write => exact fun s c e hd hk hb he hc h2 h2' ho hp => runs_onChipM hp rfl (fwSlotWrite_writes hd hk hb he hc h2 h2' ho)
  case commit => exact fun s c hd hk hb hi hp => runs_onChip hp rfl (fwSlotCommit_commits hd hk hb hi)
  case query => exact fun s c hd hp => runs_onChip hp rfl (Chip.perform_dispatched hd _)
  case keeps => exact fun s c b hd ho hb h0 hp => runs_onChip hp rfl (recoveryLoad_keeps (natBytes b) hd ho hb h0)
  case window => exact fun s c b hd ho hb h0 hp => runs_onChip hp rfl (recoveryLoad_window (natBytes b) hd ho hb h0)
  case waits => exact fun s c b hd ho hb h0 hp => runs_onChip hp rfl (recoveryLoad_waits (natBytes b) hd ho hb h0)
  case fuse => exact fun s c hd h0 hp => runs_onChip hp rfl (fuseProgram_debugLock hd h0)
  case hash => exact fun s c hd h0 hn hp => runs_onChip hp rfl (fwKeyHashSet_sets hd h0 hn)
  case go => exact fun s v b hv hb hs => runsReach_onReach rfl (loadGo_starts hv hb hs)
  case request => exact fun s h ht hc hs => runsReachW_onReachW rfl (bootReq_sends (w := s.work) ht hc hs)
  case data =>
    intro s h o b ht hb hr hs ho
    rw [← natBytes_length b] at *
    exact runsReachW_onReachW rfl (bootData_next (w := s.work) ht hb hr hs ho)

end Sys2Proof.Machine
end

section
/-!
SUPPORT. Block resets and gating (R503 to R505, R512, R520): one rule for the branch that each command takes; the settling of
BlockResetCommandsComplete.
-/
namespace Sys2Proof.Machine

/-! ### RESET_BLOCK and RESET_SUBSYSTEM (R503, R512) -/

section
variable {c : Call} {x : Chip}

/-- RESET_BLOCK of a block that the secure world does not hold while it is up raises the block's heel request. -/
theorem resetBlock_raises (hd : x.dispatchedCall opResetBlock c = true) (hk : x.kennel = false)
    (hkind : [1, 3, 5, 6, 7].contains (bits (c.w 0) 0 4) = true) (hi : bits (c.w 0) 8 5 < kindCount (bits (c.w 0) 0 4))
    (hr : bitAt (c.w 0) 17 = false)
    (hw : (c.w 0 != bits (c.w 0) 0 4 + 256 * bits (c.w 0) 8 5 + 65536 * bits (c.w 0) 16 2) = false)
    (hu : (x.secUp && x.inUse (bits (c.w 0) 0 4) (bits (c.w 0) 8 5)) = false) :
    resetBlock c x = x.heelRaise ⟨false, bits (c.w 0) 0 4, bits (c.w 0) 8 5, c, bitAt (c.w 0) 16, false,
      x.inUse (bits (c.w 0) 0 4) (bits (c.w 0) 8 5)⟩ := by
  refine (Chip.perform_dispatched hd _).trans ?_
  simp only [hk, hkind, Nat.not_le.2 hi, hr, hw, hu, decide_false, Bool.not_true, Bool.and_false, Bool.or_self,
    Bool.false_eq_true, if_false]

/-- RESET_SUBSYSTEM raises the heel requests of a subsystem. -/
theorem resetSubsystem_raises (hd : x.dispatchedCall opResetSubsystem c = true) (hk : x.kennel = false) (h7 : bits (c.w 0) 0 3 ≠ 7)
    (hr : bitAt (c.w 0) 17 = false) (hw : (c.w 0 != bits (c.w 0) 0 3 + 65536 * bits (c.w 0) 16 2) = false) :
    resetSubsystem c x = x.heelRaise ⟨true, bits (c.w 0) 0 3, 0, c, bitAt (c.w 0) 16, false, false⟩ := by
  refine (Chip.perform_dispatched hd _).trans ?_
  simp only [hk, h7, hr, hw, decide_false, Bool.and_false, Bool.or_self, Bool.false_eq_true, if_false]

end

/-! ### Heel requests (R503, R504, R505) -/

section
variable {sub : Bool} {kind inst : Nat} {g : Heel} {x : Chip}

/-- A block that answers its request is put into reset. -/
theorem heelAnswer_asserts (hf : (x.rs.heels.find? fun (h : Heel) => h.is sub kind inst && !h.asserted) = some g)
    (hr : x.heelReady g = true) : heelAnswer sub kind inst x = x.heelAssert g false := by
  simp only [heelAnswer, hf, hr, if_true]

/-- So is one that does not answer in time, as not answered. -/
theorem heelTimeout_asserts (hf : (x.rs.heels.find? fun (h : Heel) => h.is sub kind inst && !h.asserted) = some g) :
    heelTimeout sub kind inst x = x.heelAssert g true := by
  simp only [heelTimeout, hf]

/-- A block whose reset ends comes out of it, and its command is answered. -/
theorem blockResetRelease_answers (hf : (x.rs.heels.find? fun (h : Heel) => h.is sub kind inst && h.asserted) = some g) :
    blockResetRelease sub kind inst x =
      (({ x with rs := { x.rs with heels := x.rs.heels.filter fun q => q != g } } : Chip).blockOut sub kind inst).ok g.op g.call [] := by
  simp only [blockResetRelease, hf]

end

/-! ### GATE_BLOCK and UNGATE_BLOCK (R520) -/

section
variable {c : Call} {x : Chip}

/-- GATE_BLOCK of a stopped display port's domain gates it at once. -/
theorem gateBlock_port (hd : x.dispatchedCall opGateBlock c = true) (h6 : 6 ≤ c.w 0) (h16 : c.w 0 < 16)
    (hr : x.on DXn_STAT_RUN (c.w 0 - 6) = false) (hu : (x.inUse 4 (c.w 0 - 6) && x.secUp) = false) :
    gateBlock c x = ((x.gateDom (c.w 0)).domLock (c.w 0) false).ok opGateBlock c [] := by
  have h17 : ¬ 17 < c.w 0 := by omega
  refine (Chip.perform_dispatched hd _).trans ?_
  simp only [h17, Nat.not_lt.2 h6, h16, hr, hu, decide_true, Bool.true_and, Bool.false_eq_true, if_false, if_true]

/-- GATE_BLOCK of a render group that the secure world does not use waits for its cores to be free. -/
theorem gateBlock_group (hd : x.dispatchedCall opGateBlock c = true) (h6 : c.w 0 < 6)
    (hu : ((groupCores (c.w 0)).find? fun n => x.inUse 1 n) = none) :
    gateBlock c x = (
      let y := (x.gateDom (c.w 0)).gateCores (c.w 0)
      Chip.gateCheck { y with pw := { y.pw with gates := y.pw.gates ++ [(c, c.w 0)] } }) := by
  have h17 : ¬ 17 < c.w 0 := by omega
  refine (Chip.perform_dispatched hd _).trans ?_
  simp only [h17, h6, hu, if_false, if_true]

/-- UNGATE_BLOCK of a gated domain other than a render group's takes its clock back. -/
theorem ungateBlock_port (hd : x.dispatchedCall opUngateBlock c = true) (h17 : c.w 0 ≤ 17) (h6 : 6 ≤ c.w 0)
    (hg : bitAt (x.get GL_GATE_DOM) (c.w 0) = true) :
    ungateBlock c x = (((x.setBit GL_GATE_DOM (c.w 0) false).raise 21).domLock (c.w 0) true).ok opUngateBlock c [] := by
  refine (Chip.perform_dispatched hd _).trans ?_
  simp only [Nat.not_lt.2 h17, Nat.not_lt.2 h6, hg, decide_false, Bool.false_and, Bool.not_true, Bool.false_eq_true, if_false]

end

/-- Settles O23: each command takes the branch of its situation. -/
theorem blockResetCommandsComplete : Obligations.BlockResetCommandsComplete := by
  unfold Obligations.BlockResetCommandsComplete
  refine ⟨?block, ?subsystem, ?answer, ?timeout, ?release, ?port, ?group, ?ungate⟩
  case block => exact fun s c hd hk hkind hi hr hw hu hp => runs_onChip hp rfl (resetBlock_raises hd hk hkind hi hr hw hu)
  case subsystem => exact fun s c hd hk h7 hr hw hp => runs_onChip hp rfl (resetSubsystem_raises hd hk h7 hr hw)
  case answer => exact fun s h g hf hr hp => runs_onChip hp rfl (heelAnswer_asserts hf hr)
  case timeout => exact fun s h g hf hp => runs_onChip hp rfl (heelTimeout_asserts hf)
  case release => exact fun s h g hf hp => runs_onChip hp rfl (blockResetRelease_answers hf)
  case port => exact fun s c hd h6 h16 hr hu hp => runs_onChip hp rfl (gateBlock_port hd h6 h16 hr hu)
  case group => exact fun s c hd h6 hu hp => runs_onChip hp rfl (gateBlock_group hd h6 hu)
  case ungate => exact fun s c hd h17 h6 hg hp => runs_onChip hp rfl (ungateBlock_port hd h17 h6 hg)

end Sys2Proof.Machine
end

section
/-!
SUPPORT. The sources of a reset (R486 to R490, R497, R512) and the start sequence (R489 to R502, R510, R540): one rule for the
branch that each takes; the settling of ResetSourcesComplete and StartCommandsComplete.
-/
namespace Sys2Proof.Machine

/-! ### REFCLK and the PLLs (R486) -/

/-- The loss of REFCLK is counted, takes its reach for as long as it lasts, and stops the time base. -/
theorem refclkLoss_new {x : Chip} (hl : x.rs.levels.contains 5 = false) :
    refclkLoss x = (
      let y := (x.sat CK_REF_LOSS_COUNT).takeLevel 5 2
      { y.flag TB_STAT_VALID false with tb := { y.tb with stopped := true } }) := if_neg (by rw [hl]; decide)

/-- Its return lets that reach end and the time base go on. -/
theorem refclkRestore_lost {x : Chip} (hl : x.rs.levels.contains 5 = true) :
    refclkRestore x = (
      let y := ((x.dropLevel 5).flag TB_STAT_REF_LOST true).raise 486
      { y with tb := { y.tb with stopped := false } }) := if_neg (by rw [hl]; decide)

/-- Outside bypass the loss of the main PLL's lock takes its reach. -/
theorem mainPllLoss_used {x : Chip} (hb : x.rs.bypass = false) :
    mainPllLoss x = ((x.sat CK_PLL_LOSS_MAIN).flag CK_STAT_PLL_LOCK false).take 6 2 := if_neg (by simp [hb])

/-- A memory PLL that does not lock again in time retires both its channels. -/
theorem memPllRelockTimeout_unlocked {x : Chip} {n : Nat} (hb : x.bit CK_PHY_LOCK_MEM n = false) :
    memPllRelockTimeout n x = (x.retireChan (2 * n) 2).retireChan (2 * n + 1) 2 := if_neg (by simp [hb])

/-- A twin's request of a Cold reach is taken where the configuration accepts it. -/
theorem coldReq_accepted {h : MsgHdr} {w : Work} (ht : (w.x.blTake h 5 0 false).2 = true)
    (ha : (w.x.blTake h 5 0 false).1.blCfg BL_CFG_COLD_ACCEPT ≠ 0) :
    coldReq h w = Work.blPump { w with x := (w.x.blTake h 5 0 false).1.take 3 2 } := by
  simp only [coldReq, blMsg_taken ht, Work.on, bne_iff_ne.2 ha, if_true]

/-- Settles O24: each source takes its reach, each request is answered and waits (log row 11). -/
theorem resetSourcesComplete : Obligations.ResetSourcesComplete := by
  unfold Obligations.ResetSourcesComplete
  refine ⟨?warm, ?cold, ?kennel, ?rail, ?powerOn, ?resetN, ?warmN, ?trip, ?tripEnd, ?nwdog, ?lockstep, ?refLoss, ?refBack, ?pllLoss,
    ?kick, ?coldReq, ?memPll, ?dxPll, ?blPll, ?relock, ?memTimeout⟩
  case warm => exact fun s c hd hp => runs_onChip hp rfl (Chip.perform_dispatched hd _)
  case cold => exact fun s c hd hp => runs_onChip hp rfl (Chip.perform_dispatched hd _)
  case kennel => exact fun s c hd hp => runs_onChip hp rfl (Chip.perform_dispatched hd _)
  case rail => exact fun s => runsReach_onReach (f := railLow) rfl rfl
  case powerOn => exact fun s => runsReach_onReach (f := powerOn) rfl rfl
  case resetN => exact fun s => runsReach_onReach (f := fun x => x.take 1 2) rfl rfl
  case warmN => exact fun s => runsReach_onReach (f := fun x => x.take 9 1) rfl rfl
  case trip => exact fun s => runsReach_onReach (f := fun x => x.takeLevel 2 2) rfl rfl
  case tripEnd => exact fun s => runsReach_onReach (f := fun x => x.dropLevel 2) rfl rfl
  case nwdog => exact fun s => runsReach_onReach (f := fun x => x.take 10 1) rfl rfl
  case lockstep => exact fun s b => runsReach_onReach (f := lockstepMismatch b) rfl rfl
  case refLoss => exact fun s hl => runsReach_onReach rfl (refclkLoss_new hl)
  case refBack => exact fun s hl => runsReach_onReach rfl (refclkRestore_lost hl)
  case pllLoss => exact fun s hb => runsReach_onReach rfl (mainPllLoss_used hb)
  case kick => exact fun s hp => runs_onChip (f := nwdogKick) hp rfl rfl
  case coldReq => exact fun s h ht ha => runsReachW_onReachW rfl (coldReq_accepted (w := s.work) ht ha)
  case memPll => exact fun s n hp => runsTo_onSkein (f := phyPllLoss (.mem n)) hp rfl rfl
  case dxPll => exact fun s n hp => runsTo_onSkein (f := phyPllLoss (.dx n)) hp rfl rfl
  case blPll => exact fun s hp => runsTo_onSkein (f := phyPllLoss .bl) hp rfl rfl
  case relock => exact fun s p hp => runs_onChip (f := phyPllRelock p) hp rfl rfl
  case memTimeout => exact fun s n hb hp => runs_onChip hp rfl (memPllRelockTimeout_unlocked hb)

/-! ### Releases and training (R489, R491, R494) -/

section
variable {r : Release} {x : Chip}

/-- A release with a reach in effect and no source that holds it starts the part. -/
theorem resetRelease_releases (hr : x.dueReaches.rs.reach ≠ 0) (hl : x.dueReaches.rs.levels = []) :
    resetRelease r x = x.dueReaches.released r := if_neg (by simp [hr, hl])

/-- A source that still stands holds it. -/
theorem resetRelease_held (hl : x.dueReaches.rs.levels ≠ []) : resetRelease r x = x.dueReaches := if_pos (by simp [hl])

end

/-- Training, once, brings up memory and takes the start on, or fails it with too few channels. -/
theorem trainingDone_first {t : Training} {x : Chip} (ht : x.rs.trained = false) (hk : x.kennel = false) :
    trainingDone t x = (
      let y := ({ x with rs := { x.rs with trained := true } } : Chip).memTrained t
      if y.chansIn < 8 then y.failStart
      else
        let y := (y.loadCfg.set RB_STAT_PHASE 8).startHold
        (y.raiseIf (y.rs.holds != []) 503).hpAuto.startMarked) := if_neg (by simp [ht, hk])

/-! ### Start-confirm (R497) -/

/-- What start-confirm leaves, before an attach that follows it. -/
def Chip.confirmed (x : Chip) (image : Nat) : Chip :=
  let y := ((x.flag RB_STAT_CONFIRMED true).set RB_STAT_PHASE 9).set RB_START_MS_IMAGE (min 65535 image)
  let y := ((y.set RB_START_MS_CONFIRM y.sinceRelease).raise 497).raiseIf x.rs.failed 498
  let y := y.raiseIf ([5, 6].contains (x.get RB_LAST_SRC)) 491
  let y := { y with rs := { y.rs with failed := false } }
  if x.on RB_STAT_TRIM_DEF then y else y.set RB_STAT_FAILS 0

/-- A chip that may confirm does, and begins the attach that its configuration asks for. -/
theorem startConfirm_confirms {w : Work} (hm : w.x.mayConfirm = true) (image : Nat) :
    startConfirm image w = (
      let y := w.x.confirmed image
      if y.blWanted && (y.on BL_CFG_AUTO && (!y.paired && y.get BL_STAT_ATTACH = 0)) then
        (({ w with x := y } : Work).on Chip.beginAttach).blPump
      else { w with x := y }) := if_neg (by simp [hm])

/-! ### The status image and the UART (R501, R510) -/

/-- In Kennel the status image is drawn again with what it shows. -/
theorem statusImageRedraw_kennel {x : Chip} (hk : x.kennel = true) :
    statusImageRedraw x =
      x.emit (.pin 12 ([Config.serial, x.get GL_ID_STEP, x.fwWord, imgVersion (x.fwSlot 0), imgVersion (x.fwSlot 1)] ++
        [x.get RB_CAUSE_SRC, x.get RB_STAT_FAILS, b2n (x.on RB_STAT_KREQ), b2n (x.on RB_STAT_OPT_FAULT)] ++
        [x.word [RB_STRAP_BOOT_SRC, RB_STRAP_CLK_MODE, RB_STRAP_TWIN_ID, RB_STRAP_KENNEL_PORT]] ++
        [x.get TB_SEC_SEC, x.get TB_TICK_TICK, x.ld.bytes.length])) := if_neg (by simp [hk])

/-- A frame is whole: its mark, its length and its check word agree (R510). -/
def uartWhole (b : List Nat) : Bool :=
  b.head? = some 0x55 && (b.length = 8 + leNat ((b.drop 2).take 2) &&
    leNat (b.drop (4 + leNat ((b.drop 2).take 2))) = crcOf 0 ((b.drop 1).take (3 + leNat ((b.drop 2).take 2))))

section
variable {b : List Nat} {x : Chip} (hw : uartWhole b = true)
include hw

/-- A whole packet frame has its body served, where the UART serves. -/
theorem uartFrameIn_packet (ht : b.getD 1 0 = 0xA1) (hs : x.uartServes = true) :
    uartFrameIn b x = x.uartPacket ((b.drop 4).take (leNat ((b.drop 2).take 2))) := by
  unfold uartWhole at hw
  simp only [uartFrameIn, hw, ht, hs, Bool.not_true, Bool.false_eq_true, if_false, if_true]

/-- A whole request to repeat has the last frame sent again. -/
theorem uartFrameIn_repeat (ht : b.getD 1 0 = 0xA4) (hl : x.ld.lastOut ≠ []) :
    uartFrameIn b x = x.emit (.pin 10 x.ld.lastOut) := by
  unfold uartWhole at hw
  simp only [uartFrameIn, hw, ht, hl, Bool.not_true, Bool.false_eq_true, if_false]

end

/-- Settles O25: each event takes the branch of its situation. The free bits of IDCODE and the pin class that shows EXTEST are the
model's choice (log row 109). -/
theorem startCommandsComplete : Obligations.StartCommandsComplete := by
  unfold Obligations.StartCommandsComplete
  refine ⟨?release, ?held, ?training, ?timeout, ?confirm, ?image, ?packet, ?again, ?reset, ?bypass, ?idcode, ?sample, ?extest⟩
  case release => exact fun s r hr hl => runsReach_onReach rfl (resetRelease_releases hr hl)
  case held => exact fun s r l hl hne => runsReach_onReach rfl (resetRelease_held (hl ▸ hne))
  case training => exact fun s t ht hk => runsReach_onReach rfl (trainingDone_first ht hk)
  case timeout => exact fun s hs => runsReach_onReach (f := startTimeout) rfl (if_pos hs)
  case confirm => exact fun s m hm hp => runsTo_onSkein hp rfl (startConfirm_confirms hm m.toNat)
  case image => exact fun s hk hp => runs_onChip hp rfl (statusImageRedraw_kennel hk)
  case packet => exact fun s b hw ht hs => runsReach_onReach rfl (uartFrameIn_packet hw ht hs)
  case again => exact fun s b hw ht hl => runsReach_onReach rfl (uartFrameIn_repeat hw ht hl)
  case reset => exact fun s => rfl
  case bypass => exact fun s => rfl
  case idcode => exact fun s => rfl
  case sample => exact fun s b => rfl
  case extest => exact fun s b => rfl

end Sys2Proof.Machine
end
